-- ==== Sys2Proof/Word.lean ====
section
/-! DEFINITION. The word types of the part (R4: 32-bit registers, little-endian bytes) and their plainest arithmetic. -/
namespace Sys2Proof

/-- A byte. -/
abbrev Byte := BitVec 8
/-- A register or bus word (R362). -/
abbrev W32 := BitVec 32
/-- A general register of a Weaver thread or Reeve (R253). -/
abbrev W64 := BitVec 64
/-- The 512-bit window of a Weaver thread (R264). -/
abbrev W512 := BitVec 512

/-- The bits `[lo + w - 1 : lo]` of a natural number. -/
def bitField (v lo w : Nat) : Nat := v / 2 ^ lo % 2 ^ w

/-- `v` with the bits `[lo + w - 1 : lo]` replaced by the low `w` bits of `x`. -/
def setBitField (v lo w x : Nat) : Nat :=
  v / 2 ^ (lo + w) * 2 ^ (lo + w) + (x % 2 ^ w) * 2 ^ lo + v % 2 ^ lo

/-- A truth value as the number a one-bit field holds. -/
def bit (b : Bool) : Nat := if b then 1 else 0

/-- The two's-complement reading of the low `w` bits of `v`. -/
def signedOf (w v : Nat) : Int :=
  if v % 2 ^ w < 2 ^ (w - 1) then (v % 2 ^ w : Nat) else (v % 2 ^ w : Nat) - (2 ^ w : Nat)

/-- The `w`-bit two's-complement pattern of an integer. -/
def patternOf (w : Nat) (i : Int) : Nat := (i % (2 ^ w : Nat)).toNat

end Sys2Proof
end

