-- ==== Sys2Proof/Machine/Basic.lean ====
section
/-! DEFINITION. The small enumerations and records of the part's state. -/
namespace Sys2Proof.Machine

/-- The major modes, in the order of Table 1.8 (R25). -/
inductive Mode where
  | muster | harvest | errand | sundial | hearth | smithy
  deriving DecidableEq, Repr, Inhabited

/-- The number of a major mode (Table 1.8). -/
def Mode.num : Mode → Nat
  | .muster => 0 | .harvest => 1 | .errand => 2 | .sundial => 3 | .hearth => 4 | .smithy => 5

/-- The major mode of a number, when there is one. -/
def Mode.ofNum : Nat → Option Mode
  | 0 => some .muster | 1 => some .harvest | 2 => some .errand
  | 3 => some .sundial | 4 => some .hearth | 5 => some .smithy | _ => none

/-- Completion codes (Table 13.6, Table 15.6). -/
inductive Code where
  | ok | badArg | illegalState | busy | denied | noResource | fenced | timeout
  deriving DecidableEq, Repr

/-- The number of a completion code (Table 13.6). -/
def Code.num : Code → Nat
  | .ok => 0 | .badArg => 1 | .illegalState => 2 | .busy => 3
  | .denied => 4 | .noResource => 5 | .fenced => 6 | .timeout => 7

/-- Where start-up stands (Table 15.3): a step is running, start-up has ended, or the part is held. -/
inductive Startup where
  /-- Step S`n` is running (1 to 9). -/
  | step (n : Nat)
  /-- Step S9 has ended (R414). -/
  | done
  /-- A failed step holds the part (Table 15.3, R383). -/
  | failed (n : Nat)
  /-- The core is held in warm reset by a loss of PAIR_REFCLK (R21). -/
  | heldPairClk
  /-- The core is off after a thermal trip (R404). -/
  | heldThermal
  /-- The part is in device power state P3 (R396), also after a fault of a critical PMBus device (R399). -/
  | inP3
  deriving DecidableEq, Repr

/-- What alignment a program declares for its channel (R53, R58). -/
inductive AlignKind where
  | blocks | chars8b10b | raw
  deriving DecidableEq, Repr

/-- A program attached to a channel slot (R243): its number and version, whether its image was unsigned, the alignment it
declares, its worst cases in bundles, its words, its five entries (all ones for an absent one; empty for an Almanac
program), where its code lies in instruction memory and where its host image lies (0 bytes for an Almanac program), the
service thread that runs its frame handler, its place in the order of attachment, and the range and default of each
parameter. -/
structure Prog where
  id : Nat
  version : Nat
  unsigned : Bool
  align : AlignKind
  wcRx : Nat
  wcTx : Nat
  wcFrame : Nat
  wcInit : Nat
  wcDetach : Nat
  nParam : Nat
  nStatus : Nat
  entries : List Nat
  codeBase : Nat
  codeLen : Nat
  imageAddr : Nat
  imageLen : Nat
  thread : Nat
  order : Nat
  ranges : List (Nat × Nat × Nat)
  /-- The bytes of a host image (R243); empty for an Almanac program. -/
  image : List Nat
  /-- Of the paths of the frame handler that access the shared region: the fewest bundles before the first access and after
  the last (R259). -/
  edge : Option (Nat × Nat)
  deriving DecidableEq, Repr

/-- Why the part pulls FAULT_N low. The pin is asserted while any reason holds. -/
inductive FaultReason where
  | noSteward | pairClk | startup | sequence | thermal | pmb
  deriving DecidableEq, Repr

end Sys2Proof.Machine
end

