-- ==== Sys2Proof/Machine/CtlState.lean ====
section
/-! DEFINITION. Changes that a command or a master asks for and that take effect later (R245, R418), protection groups, and the
control state that a generation of the Ledger holds (R331). -/
namespace Sys2Proof

/-- What every host command's descriptor holds beside its arguments (Table 13.4): the ring it came from, its tag, and the
offset of the first reserved byte or bit outside the named arguments that is not 0, if there is one (R419). -/
structure CmdHead where
  ring : Fin 4
  tag : BitVec 32
  rsv : Option (BitVec 8)
  deriving DecidableEq, Repr

namespace Machine

/-- A protection group beside PAIR_PROT_g and PAIR_PROT_CFG_g (R307 to R316). -/
structure Group where
  /-- Operator requests in force (R311). -/
  lo : Bool
  fs : Bool
  msW : Bool
  msX : Bool
  /-- Conditions that have outlasted their hold-off. -/
  sfW : Bool
  sfX : Bool
  sdW : Bool
  sdX : Bool
  /-- A late path counts as sf (R309). -/
  lateW : Bool
  lateX : Bool
  wtr : Bool
  dnr : Bool
  /-- Change count sent (R313), and the last change count received (R314). -/
  seq : Nat
  rxSeq : Option Nat
  /-- The far end's last accepted word: request, selected path, bidir, revert, and whether it came on the path it names. -/
  farReq : Nat
  farSel : Nat
  farBidir : Bool
  farRevert : Bool
  farPath : Bool
  /-- Index offset between the two paths (R308), and the greater natural E of the last recentre in ns (R309). -/
  offset : Option Int
  eNs : Nat
  /-- Granary cells reserved (R309). -/
  cells : Nat
  deriving DecidableEq, Repr

def Group.init : Group :=
  { lo := false, fs := false, msW := false, msX := false, sfW := false, sfX := false, sdW := false, sdX := false,
    lateW := false, lateX := false, wtr := false, dnr := false, seq := 0, rxSeq := none, farReq := 0, farSel := 0,
    farBidir := false, farRevert := false, farPath := true, offset := none, eNs := 0, cells := 0 }

/-- One section of a calendar image (Table 6.8): reserved bits, direction (0 TX), channel, copy, count as the header gives it, and
the entries that follow. -/
structure CalSec where
  rsv : Nat
  dir : Nat
  chan : Nat
  copy : Nat
  count : Nat
  entries : List W32
  deriving DecidableEq, Repr

/-- The arguments of QUEUE_CREATE beside the queue (Table 15.7). -/
structure QueueArgs where
  egress : Nat
  cls : Nat
  express : Bool
  latePol : Nat
  dlSrc : Bool
  kind : Nat
  budget : Nat
  lateTol : Nat
  minCells : Nat
  maxCells : Nat
  key : Option Nat
  deriving DecidableEq, Repr

/-- The arguments of PROT_REQUEST CONFIG beside the group, with the defaults of PAIR_PROT_CFG_g in the fields left out. -/
structure ProtArgs where
  trib : Nat
  pChan : Nat
  holdOff : Nat
  wtr : Nat
  skew : Nat
  revert : Bool
  bidir : Bool
  deriving DecidableEq, Repr

/-- A change accepted and not yet applied (R245, R418). -/
inductive Change where
  | laneRate (lane width : Nat) (role pam4 : Bool) (rate : Nat)
  | laneSleep (lane : Nat) (dormant : Bool)
  | laneWake (lane : Nat)
  /-- The lane's transition, begun by LANE_SLEEP or LANE_WAKE, is awaited for the completion. -/
  | laneDone (lane : Nat) (wake : Bool)
  | attach (c slot : Nat) (replace : Bool) (p : Prog)
  | detach (c slot : Nat)
  | params (c slot first : Nat) (vs : List W32)
  | calStage (secs : List CalSec)
  /-- A TX calendar switch of channels at an absolute frame (R169). -/
  | calSwitch (chans : List Nat) (at_ : Nat)
  | queueCreate (q : Nat) (a : QueueArgs)
  | queueModify (q : Nat) (a : QueueArgs)
  | queueDelete (q : Nat)
  | queueFlush (q : Nat)
  | trunkCreate (t : Nat)
  | trunkDelete (t : Nat)
  | protConfig (g : Nat) (a : ProtArgs)
  /-- LO, FS, MS_W, MS_X, CLEAR or DELETE of Table 12.3, by number. -/
  | protReq (op g : Nat)
  | modeSet (m : Mode)
  | power (p : Nat)
  /-- REF_CONFIG: offsets within BELL_ and values (R305). -/
  | bell (writes : List (Nat × W32))
  /-- REG_CONFIG: internal addresses and values (R423). -/
  | regs (writes : List (Nat × W32))
  /-- A master's write to rw fields that takes effect at a multiframe boundary: address, value, mask of the fields (R228,
  R229). -/
  | regWrite (addr v mask : Nat)
  /-- SKEY_INSTALL, SKEY_PROMOTE or SKEY_ERASE of a slot, with epoch and key for an install (R384). -/
  | skeyInstall (slot epoch key : Nat)
  | skeyPromote (slot : Nat)
  | skeyErase (slot : Nat)
  /-- A flush of FIFO 1 or 3 on a pair (R367). -/
  | fifoFlush (q f : Nat)
  /-- A retest of banks whose march tests have not all ended (R226). -/
  | retest
  /-- The lift of a fence on a queue, thread or Weaver (R224, R250). -/
  | lift (kind unit : Nat)
  | pairLeave
  /-- REEVE_LOAD's return of a Reeve to the steward firmware, awaited for the completion (R422). -/
  | reeveBack (r : Nat)
  deriving DecidableEq, Repr, Inhabited

/-- When a pending change falls due. -/
inductive Due where
  /-- The first multiframe boundary whose frame number is at least `g`; with `sub0`, one of subframe 0 (R25, R416). -/
  | multiframe (g : Nat) (sub0 : Bool)
  /-- The next frame boundary (R315). -/
  | frame
  /-- The end of the transition of a lane (R34). -/
  | lane (n : Nat)
  /-- An event that names the change itself. -/
  | event
  deriving DecidableEq, Repr

/-- A pending change with the command that asked for it, if a command did. -/
structure Pend where
  head : Option CmdHead
  change : Change
  due : Due
  deriving DecidableEq, Repr

/-- The settings of a channel's lanes by its lowest lane: line rate in 2^-16 b/s, width, role and modulation, lane state (R331). -/
structure LaneCtl where
  lane : Nat
  rate : Nat
  width : Nat
  role : Bool
  pam4 : Bool
  state : Nat
  deriving DecidableEq, Repr

/-- The control state of the part at a multiframe boundary (R331): registers with their rw and configuration fields, attached
programs with the next place in the order of attachment, parameter blocks, calendar copies with which of them is in force and
their generations, flow keys, protection groups, major mode, lane settings (rate, width and lane state), and the changes that the
steward had accepted. -/
structure Ctl where
  regs : Tab W32
  progs : Tab (Option Prog)
  progNext : Nat
  pblk : Tab W32
  cals : Tab W32
  copies : List (Nat × Nat × Nat × Nat × Nat)
  flows : Tab (Option (Nat × Nat))
  groups : Tab Group
  mode : Mode
  lanes : List LaneCtl
  changes : List Pend
  deriving DecidableEq, Repr, Inhabited

/-- A generation of the Ledger (R331, R333): its number, the first journal entry that it does not contain, the frame of its boundary,
and its content; a content that a host's own firmware wrote is not known to the model. -/
structure Gen where
  num : Nat
  journalSeq : Nat
  frame : Nat
  ctl : Option Ctl
  deriving DecidableEq, Repr

/-- A journal entry (R334): its number, its apply frame, and the change that its command descriptor spells; `none` for one that a
host's own firmware appended. -/
structure Entry where
  seq : Nat
  frame : Nat
  change : Option Change
  deriving DecidableEq, Repr

end Machine
end Sys2Proof
end

