-- ==== Sys2Proof/Syntax.lean ====
section
/-! DEFINITION. The commands of the part, and the data they carry. The spec's table of operations and events gives each
row no operands of its own; the operands here are what the rule of the row leaves to the sender of the command or to the
world outside the part. -/
namespace Sys2Proof

/-- A VSI engine: thread `t` of Weaver `q`, or Reeve `r` (R230, R238). -/
inductive Engine where
  | thread (q : Fin 24) (t : Fin 16)
  | reeve (r : Fin 4)
  deriving DecidableEq, Repr

/-- One update of a lane loop of Table 2.2, with the output it takes (R32). -/
inductive LoopUpdate where
  | cdr
  | ctle (v : BitVec 4)
  | vga (v : BitVec 5)
  | ffe (k : Fin 32) (v : BitVec 10)
  | dfe (v : BitVec 8)
  | adcTrim
  | txFrequency
  /-- The phase the twin's servo wants, in 1/128 UI (R31, R322). -/
  | txPhase (target : BitVec 16)
  deriving DecidableEq, Repr

/-- The defect that an integration rule speaks of: bit `k` of a channel's TALLY_DEF_CHAN_c, or of a tributary's RX end `e` with
`k` 0 dTRL, 1 dPLM, 2 dCSF (Table 7.1). -/
inductive DefectOf where
  | chan (c : Fin 96) (k : Fin 23)
  | trib (t : BitVec 16) (e : Fin 2) (k : Fin 3)
  deriving DecidableEq, Repr

/-- The decode classes of a DEC-TED-A word (Table 8.2). -/
inductive EccClass where
  | clean | ce1 | ce2 | ue | ae
  deriving DecidableEq, Repr

/-- What a read of a DEC-TED-A word finds: its class, the corrected bit of the stored word, and GRN_ECC_SYN. -/
structure EccFind where
  cls : EccClass
  bitPos : BitVec 7
  syn : BitVec 16
  deriving DecidableEq, Repr

/-- The word of the Granary that a departing packet's bytes come through, for the find of its decoding (Table 8.3): a packet byte
or metadata word of a bank row, a link word, or a word of the queue's descriptor. -/
inductive GrnWord where
  | data (b : Fin 96) (row : BitVec 15) (word : BitVec 3)
  | meta_ (b : Fin 96) (row : BitVec 15) (word : BitVec 3)
  | link (cell : BitVec 19)
  | desc
  deriving DecidableEq, Repr

/-- What a restore reads from the Ledger: bit `s` of `bad` is set where a page of slot `s` does not match its page table or reads
uncorrectable; the first journal entry that does not read well; uncorrectable and corrected words seen (R336, R339). -/
structure LedgRead where
  bad : BitVec 2
  stop : Option (BitVec 64)
  uncorrected : Bool
  corrected : Bool
  deriving DecidableEq, Repr

/-- A packet that the active held at J, as its copy reaches the standby (R328): queue, receiving channel, arrival instant in ns,
send-by, late and errored marks, bytes. -/
structure PktCopy where
  queue : BitVec 16
  channel : Fin 96
  arrival : BitVec 64
  sendBy : BitVec 64
  late : Bool
  err : Bool
  bytes : List (BitVec 8)
  deriving DecidableEq, Repr

/-- What a start-up step of Table 15.3 finds, by step from S1 to S9: the oscillator's accuracy; root key slots with a bad fuse word, a
serial or stage field that fails, another word that reads uncorrectable; the descriptor's signature; the rails within 200 ms; the clocks
present; the ROM's signature; Reeves whose firmware does not compare; copies of the repair record whose CRC is correct; and at a P3 exit
what the Ledger reads as and the slots whose image fails verification. -/
inductive StepFind where
  | osc (ok : Bool)
  | fuses (bad : BitVec 4) (fatal other : Bool)
  | desc (sigOk : Bool)
  | rails (ok : Bool)
  | clocks (pair serdes osc : Bool)
  | rom (ok : Bool)
  | reeves (bad : BitVec 4)
  | memories (copyA copyB : Bool)
  | muster (r : LedgRead) (images : List (Fin 96 × Fin 4))
  deriving DecidableEq, Repr

/-- The commands of the part: one constructor per row of the table of operations and events, with what the row leaves to
its sender or to the world outside the part (a master, a unit number, a received word, a measured value) as operands. -/
inductive Instr where
  /-- `POWER_ON_RESET` (R409): PORST_N held low for at least 10 µs, or VDD_AON falling below range, resets the whole part except the fuses and the Ledger. -/
  | powerOnReset
  /-- `WARM_RESET` (R409): RESET_N low for at least 1 µs resets everything outside the always-on domain and keeps the state that Table 15.1 lists. -/
  | warmReset
  /-- `RESET_N_RELEASE` (R411): RESET_N rising lets start-up continue from step S5 once S4 has ended. -/
  | resetNRelease
  /-- `HOST_PORT_RESET` (R412): A PCIe hot reset, link down or Function Level Reset resets the HOST registers, the rings and masters HOST and DMA, and leaves the data plane running. -/
  | hostPortReset (flr hostBurst dmaBurst : Bool)
  /-- `STARTUP_STEP_COMPLETE` (R413): A start-up step of Table 15.3 ends, and the next step starts or the failure action is taken. -/
  | startupStepComplete (f : StepFind)
  /-- `PAIR_REFCLK_LOSS` (R21): After 1 µs without a PAIR_REFCLK edge, the core clocks stop, FAULT_N is asserted, TX goes to idle and the core is held in warm reset. -/
  | pairRefclkLoss
  /-- `PAIR_REFCLK_RESTORE` (R21): When PAIR_REFCLK has been present for 1 ms, start-up resumes at step S5 and the part leaves any pair as SOLO. -/
  | pairRefclkRestore
  /-- `SERDES_REFCLK_LOSS` (R21): Loss of SERDES_REFCLK makes every quad LC-PLL lose lock and blocks LANE_RATE commands that enable a lane. -/
  | serdesRefclkLoss
  /-- `SERDES_REFCLK_FENCE` (R21): 100 µs after the loss of SERDES_REFCLK, every populated lane that is not OFF is fenced with cause QUAD_PLL. -/
  | serdesRefclkFence
  /-- `SERDES_REFCLK_RETURN` (R21): When SERDES_REFCLK returns, each quad LC-PLL relocks by itself. -/
  | serdesRefclkReturn
  /-- `XTAL_AON_LOSS` (R21): Loss of XTAL_AON switches the always-on domain to its on-die oscillator and sets aon_clk_fault. -/
  | xtalAonLoss
  /-- `XTAL_AON_RESTORE` (R21): After XTAL_AON has been within ±100 ppm for 1 ms, the always-on domain switches back to it. -/
  | xtalAonRestore
  /-- `OSC_IN_LOSS` (R292): After 1 µs without an OSC_IN edge, CLK_BELL moves to the backup clock and all four DPLLs are fenced with cause OCXO. -/
  | oscInLoss (long : BitVec 4)
  /-- `SUPPLY_LOSS` (R435): An uncontrolled loss of all supplies leaves the last committed Ledger generation intact. -/
  | supplyLoss
  /-- `THERMAL_TRIP` (R404): At T_max of 115 °C or more, the comparator asserts FAULT_N, resets the core and has the Millrace switch the rails off. -/
  | thermalTrip
  /-- `THERMAL_TRIP_RECOVERY` (R404): Once T_max has been below 95 °C for 1 s after a trip, RESET_N and WAKE are honoured again. -/
  | thermalTripRecovery
  /-- `JTAG_TAP_RESET` (R428): TRST_N asserted resets the JTAG TAP. -/
  | jtagTapReset
  /-- `RVE_RESET` (R252): A write of rve_reset resets a Reeve and reloads its firmware from the Almanac, and first moves the steward duties when it names the steward. -/
  | rveReset (m : Fin 8) (r : Fin 4) (burst : Bool)
  /-- `RVE_RESET_DONE` (R252): A Reeve reset completes and sets rve_reset_done. -/
  | rveResetDone (r : Fin 4)
  /-- `RVE_FENCE_REQ` (R250): A write of fence_req fences the Reeve with cause HOST. -/
  | rveFenceReq (m : Fin 8) (r : Fin 4)
  /-- `REEVE_WATCHDOG` (R250): RVE_HEARTBEAT left unchanged for 10 ms fences the Reeve with cause WATCHDOG. -/
  | reeveWatchdog (r : Fin 4)
  /-- `REEVE_AWAIT_WAKE` (R273): An unmasked pending event ends an await, clears the lowest such bit and starts the frame entry. -/
  | reeveAwaitWake (r : Fin 4)
  /-- `REEVE_TIMER_ALARM` (R274): The Reeve timer reaching or passing the alarm sets event 0 once and cancels the alarm. -/
  | reeveTimerAlarm (r : Fin 4)
  /-- `REEVE_STALL_END` (R272): A Reeve bus transaction completes, or is abandoned by the watchdog, and the stalled Reeve continues. -/
  | reeveStallEnd (r : Fin 4) (cycles : BitVec 16)
  /-- `CKPT_LEDGER_REPORT` (R276): The Ledger reports the end of a ckpt operation, and the stalled Reeve receives its result. -/
  | ckptLedgerReport (r : Fin 4) (cycles : BitVec 32) (err ack : Bool)
  /-- `PWR_MILLRACE_REPLY` (R275): The Millrace answers a pwr request as done or refused, and the stalled Reeve continues. -/
  | pwrMillraceReply (r : Fin 4) (cycles : BitVec 32)
  /-- `FRAME_BOUNDARY` (R23): A frame boundary of the Bell Tower frame phase restarts the core epoch. -/
  | frameBoundary (drift : BitVec 16)
  /-- `MULTIFRAME_BOUNDARY` (R245): At a multiframe boundary, every change accepted for that boundary is applied in acceptance order. -/
  | multiframeBoundary (twin : BitVec 96)
  /-- `ONE_SECOND_TICK` (R298): Bell Tower time crossing a whole second produces the tick that the Tally counts and Reeve event 5 reports. -/
  | oneSecondTick
  /-- `RX_WORD_ENQUEUE` (R22): A received shell word enters the RX dual-clock queue at the RX reference point. -/
  | rxWordEnqueue (n : Fin 96) (w : BitVec 512) (late : Bool)
  /-- `BLOCK_RELEASE` (R23): A received block is released into CLK_CORE at its fixed epoch cycle. -/
  | blockRelease (n : Fin 96)
  /-- `LC_PLL_LOCK` (R53): The quad LC-PLL locks, and CAL of the lanes waiting on it begins. -/
  | lcPllLock (q : Fin 24) (us : BitVec 16)
  /-- `CAL_STEP_END` (R36): A calibration step of Table 2.5 ends, by meeting its target or by reaching the end of its trim range. -/
  | calStepEnd (n : Fin 104) (pass : Bool) (dlyTx dlyRx : BitVec 16)
  /-- `TXGEN_UNLOCK` (R49): A TX generator out of lock for more than 100 µs fails the running CAL step, or fences an ACTIVE or QUIET lane. -/
  | txgenUnlock (n : Fin 104)
  /-- `QUAD_PLL_UNLOCK` (R49): A quad LC-PLL out of lock for more than 100 µs fences every populated lane of the quad that is not OFF. -/
  | quadPllUnlock (q : Fin 25)
  /-- `DRIVER_FAULT` (R49): TX driver over-current or an open termination fences the lane with cause DRIVER_FAULT. -/
  | driverFault (n : Fin 104)
  /-- `SHELL_PARITY` (R49): A parity error in the shell's configuration state fences the lane with cause SHELL_PARITY. -/
  | shellParity (n : Fin 104) (shared : Bool)
  /-- `LANE_TRANSITION_END` (R33): A lane state transition of Table 2.3 ends, and commands that waited on it are judged. -/
  | laneTransitionEnd (n : Fin 96) (dur : BitVec 16)
  /-- `DORMANT_WAKE_TRIM_END` (R47): A wake-form calibration step ends, or misses its target and runs in full with wake_fallback. -/
  | dormantWakeTrimEnd (n : Fin 96) (pass : Bool)
  /-- `WAKE_FALLBACK` (R47): A restored set that has not reached TRACK within 1.5 ms restarts full adaptation and sets wake_fallback. -/
  | wakeFallback (n : Fin 96)
  /-- `CDR_LOCK` (R35): CDR frequency and phase lock move the receiver from SEEK to ADAPT. -/
  | cdrLock (n : Fin 96)
  /-- `ADAPT_CONVERGED` (R35): Converged FFE updates over 1 ms move the receiver to TRACK and set the track latch. -/
  | adaptConverged (n : Fin 96)
  /-- `ACQ_TIMEOUT` (R35): 20 ms in SEEK and ADAPT without reaching TRACK returns the receiver to SEEK with presets and sets acq_timeout. -/
  | acqTimeout (n : Fin 96)
  /-- `RAW_LOS_ASSERT` (R43): The input amplitude falling below the los_on threshold asserts raw LOS and puts the receiver in HOLD. -/
  | rawLosAssert (n : Fin 96) (mvpp : BitVec 16)
  /-- `RAW_LOS_CLEAR` (R43): The input amplitude rising above the los_off threshold clears raw LOS and returns the receiver to SEEK. -/
  | rawLosClear (n : Fin 96) (mvpp : BitVec 16) (over10ms : Bool)
  /-- `LOL_WINDOW_END` (R44): A LOL window of 2^16 symbols ends, and LANE_FREQ_OFS and the raw LOL state are updated. -/
  | lolWindowEnd (n : Fin 96) (ofs : BitVec 32) (pdOut : Bool)
  /-- `LANE_LOOP_UPDATE` (R32): A lane loop of Table 2.2 reaches its update interval and updates its output. -/
  | laneLoopUpdate (n : Fin 96) (u : LoopUpdate)
  /-- `DELAY_REPLICA_UPDATE` (R37): Every 10 ms the delay replica adds its drift terms to LANE_DLY_TX and LANE_DLY_RX. -/
  | delayReplicaUpdate (n : Fin 96) (dTx dRx : BitVec 16)
  /-- `TRANSITION_WINDOW_END` (R38): A 1,024-symbol density window ends, and adaptation freezes or resumes by its transition count. -/
  | transitionWindowEnd (n : Fin 96) (transitions : BitVec 11)
  /-- `PATTERN_GATE_CHECK` (R39): A repeating word signature over 256 words freezes adaptation, and 64 breaking words resume it. -/
  | patternGateCheck (n : Fin 96) (sig : BitVec 16)
  /-- `SNAPSHOT_WINDOW_END` (R40): At the end of a verified window, the present coefficient set becomes the snapshot. -/
  | snapshotWindowEnd (n : Fin 96) (errs units : BitVec 64)
  /-- `ENVELOPE_CHECK` (R41): Every 1 ms in TRACK, the coefficients are compared with the snapshot envelope. -/
  | envelopeCheck (n : Fin 96)
  /-- `SNR_UPDATE` (R45): Every 2^20 symbols in TRACK, LANE_SNR and the eye heights are updated. -/
  | snrUpdate (n : Fin 96) (snr : BitVec 9) (lo mid hi : BitVec 7)
  /-- `EYE_SCAN_START` (R46): A write of scan starts an eye scan, which ends at once with result 3 outside TRACK. -/
  | eyeScanStart (m : Fin 8) (n : Fin 96)
  /-- `EYE_SCAN_END` (R46): An eye scan finishes with its result, or is aborted by a state change. -/
  | eyeScanEnd (n : Fin 96) (h v : BitVec 8) (aborted : Bool)
  /-- `FIR_APPLY` (R30): fir_apply applies the six taps and the swing together, or refuses the set and sets fir_range_err. -/
  | firApply (m : Fin 8) (n : Fin 96)
  /-- `GUARD_RELEASE` (R42): A write of guard_release releases a freeze of R42. -/
  | guardRelease (m : Fin 8) (n : Fin 96)
  /-- `LANE_RESET` (R49): A write of lane_reset takes an unfenced lane to OFF and resets the shell. -/
  | laneReset (m : Fin 8) (n : Fin 96)
  /-- `LANE_RESET_DONE` (R49): A shell reset completes, and lane_reset_done is set. -/
  | laneResetDone (n : Fin 96)
  /-- `LANE_FENCE_REQ` (R49): A write of fence_req fences the lane with cause HOST. -/
  | laneFenceReq (m : Fin 8) (n : Fin 96)
  /-- `LOS_CFG_WRITE` (R43): A write to LANE_LOS_CFG is applied only when los_off is greater than los_on. -/
  | losCfgWrite (m : Fin 8) (n : Fin 96) (losOn losOff : BitVec 6)
  /-- `LOL_CFG_WRITE` (R44): A write to LANE_LOL_CFG is applied only when lol_off_ppm is less than lol_on_ppm. -/
  | lolCfgWrite (m : Fin 8) (n : Fin 96) (lolOn lolOff : BitVec 10)
  /-- `RS_CODEWORD_DECODE` (R55): A received codeword is decoded at the candidate boundary, and the boundary moves on when it is uncorrectable. -/
  | rsCodewordDecode (n : Fin 96) (correctable : Bool) (syms : BitVec 5)
  /-- `SYNC_HEADER_CHECK` (R56): A received sync header is tested at the candidate boundary during hunting or lock. -/
  | syncHeaderCheck (n : Fin 96) (hdr : BitVec 2)
  /-- `BLOCK_LOCK_WINDOW_END` (R56): A 64-header window that holds 16 or more invalid headers loses block lock. -/
  | blockLockWindowEnd (n : Fin 96) (hiBer : Bool)
  /-- `ALIGNMENT_MARKER_LOCK` (R114): An Ethernet RS-FEC lane acquires or loses alignment-marker lock from the received markers. -/
  | alignmentMarkerLock (n : Fin 96) (locked hiBer : Bool)
  /-- `COMMA_DETECT` (R58): A comma or alignment word found in the received units updates word_pos and sets pos_valid. -/
  | commaDetect (n : Fin 96) (pos : BitVec 7)
  /-- `PATTERN_WINDOW_EXPIRY` (R58): 16,384 shell words without a pattern clear pos_valid. -/
  | patternWindowExpiry (n : Fin 96)
  /-- `SLIP` (R59): A write of slip moves the unit boundary one bit later, increments slip_cnt and clears pos_valid. -/
  | slip (m : Fin 8) (n : Fin 96)
  /-- `BITSLIP_SEARCH_START` (R60): The steward starts the bit-slip search when a raw or 8B/10B lane enters TRACK. -/
  | bitslipSearchStart (n : Fin 96)
  /-- `PATTERN_WAIT_TIMEOUT` (R60): 10 ms without pos_valid makes the search report no_pattern and continue. -/
  | patternWaitTimeout (n : Fin 96)
  /-- `ALIGN_CONFIRM_READ` (R60): A confirming read 100 µs after the last one counts towards alignment, or restarts the search. -/
  | alignConfirmRead (n : Fin 96)
  /-- `ALIGN_MONITOR_READ` (R60): Every 1 ms the steward reads LANE_ALIGN of an aligned lane and reports alignment lost after two bad reads. -/
  | alignMonitorRead (n : Fin 96)
  /-- `LANE_TEST_WRITE` (R63): A write of loop, prbs_gen or prbs_chk in MUSTER or SMITHY changes the loop within 1 µs. -/
  | laneTestWrite (m : Fin 8) (n : Fin 96) (loop : BitVec 2) (gen chk : BitVec 3)
  /-- `FAR_END_LOOP_START` (R64): Once the TX generator has slewed to the CDR frequency, the far-end loop queue is centred and retransmission begins. -/
  | farEndLoopStart (n : Fin 96)
  /-- `PRBS_CHK_WRITE` (R68): Any write to prbs_chk clears LANE_PRBS_ERR and restarts checker synchronisation. -/
  | prbsChkWrite (m : Fin 8) (n : Fin 96) (chk : BitVec 3)
  /-- `PRBS_CHECK_WINDOW` (R68): The checker gains sync after 128 matching bits, or loses it when 256 of 1,024 bits mismatch. -/
  | prbsCheckWindow (n : Fin 96) (bits mism : BitVec 11)
  /-- `VTF_FRAME_SEND` (R69): A VTF lane sends one frame with its overhead and payload at the nominal instant. -/
  | vtfFrameSend (n : Fin 96)
  /-- `FAS_SEARCH_MATCH` (R92): A FAS block followed by a valid FIW creates a candidate or hits an expected one. -/
  | fasSearchMatch (n : Fin 96) (p : BitVec 64) (fiw : BitVec 64)
  /-- `EXPECTED_FAS_CHECK` (R95): The block at the expected FAS position is checked while the lane is frame-aligned. -/
  | expectedFasCheck (n : Fin 96) (good : Bool)
  /-- `FIW_RECEIVE` (R96): A received FIW is judged against the expected frame position. -/
  | fiwReceive (n : Fin 96) (v : BitVec 64) (arrival : BitVec 96)
  /-- `RX_CALENDAR_SWITCH` (R89): At the announced target frame 0, the receiver changes its RX calendar copy in force. -/
  | rxCalendarSwitch (n : Fin 96)
  /-- `MWR_RECEIVE` (R82): A received MWR delivers bip8, rei, rdi and ais. -/
  | mwrReceive (n : Fin 96) (v : BitVec 64) (payloadBip : BitVec 8)
  /-- `TIMING_MESSAGE_RECEIVE` (R86): A valid timing message is handed to the Bell Tower together with t_rx. -/
  | timingMessageReceive (n : Fin 96) (tc0 tc1 tc2 tc3 filtered : BitVec 64)
  /-- `MCC_CELL_RECEIVE` (R107): A received MCC cell is accepted or discarded by the ordered checks. -/
  | mccCellReceive (n : Fin 96) (mc : List (BitVec 64))
  /-- `CAL_ADV_SEGMENT_RECEIVE` (R168): A good advertisement segment is compared with the receiver's own RX copy. -/
  | calAdvSegmentReceive (n : Fin 96) (ca : List (BitVec 64))
  /-- `APS_WORD_RECEIVE` (R314): A received APS word is accepted when it is valid, names a group and is newer. -/
  | apsWordReceive (n : Fin 96) (v : BitVec 64) (recent : Bool)
  /-- `CALIBRATION_FRAME_RECEIVE` (R295): A calibration frame updates the lane's capture bias from block-averaged arrivals. -/
  | calibrationFrameReceive (n : Fin 96) (diff : BitVec 32)
  /-- `ETH_FRAME_RECEIVE` (R115): The receive MAC accepts or discards a frame after its preamble, length and FCS checks. -/
  | ethFrameReceive (c : Fin 96) (sfd fcs departed : Bool) (bytes : List (BitVec 8)) (ts : BitVec 96)
  /-- `ETH_FRAME_SEND` (R116): The transmit MAC sends a frame with preamble, padding and FCS, or idle. -/
  | ethFrameSend (c : Fin 96) (now : BitVec 64) (cut : Option (BitVec 14))
  /-- `FAULT_ORDERED_SET_RECEIVE` (R118): Received local-fault or remote-fault ordered sets make the RS send remote fault or idle. -/
  | faultOrderedSetReceive (c : Fin 96) (lf rf : Bool)
  /-- `PREEMPT_FRAGMENT_RECEIVE` (R119): A preemptable fragment is reassembled, or discarded with its frame when it breaks the sequence. -/
  | preemptFragmentReceive (c : Fin 96) (first last ok : Bool) (smd frag : BitVec 2) (bytes : List (BitVec 8)) (ts : BitVec 96)
  /-- `VERIFY_MPACKET_RECEIVE` (R119): A received verify mPacket is answered with a respond mPacket. -/
  | verifyMpacketReceive (c : Fin 96)
  /-- `VERIFY_MPACKET_SEND` (R120): Every verify_ms the MAC sends a verify mPacket, and declares failure after 3 are unanswered. -/
  | verifyMpacketSend (c : Fin 96)
  /-- `RESPOND_MPACKET_RECEIVE` (R120): The first respond mPacket declares the verify procedure successful. -/
  | respondMpacketReceive (c : Fin 96)
  /-- `INSERT_FRAME_SEND` (R130): An insert item leaves as an express frame at the first frame boundary with no frame in progress. -/
  | insertFrameSend (c : Fin 96) (ts : BitVec 96)
  /-- `ESMC_PDU_RECEIVE` (R132): A valid ESMC PDU updates the lane's QL, and an invalid one is counted in esmc_bad. -/
  | esmcPduReceive (c : Fin 96) (bytes : List (BitVec 8))
  /-- `ESMC_TIMEOUT` (R132): 5 s without a valid PDU makes the QL QL-FAILED and sets esmc_timeout. -/
  | esmcTimeout (c : Fin 96)
  /-- `ESMC_INFO_SEND` (R133): Within 1 ms after each tick, an information PDU is sent. -/
  | esmcInfoSend (c : Fin 96)
  /-- `ESMC_EVENT_SEND` (R133): Within 10 ms after the QL sent changes, an event PDU is sent, subject to the rate limit. -/
  | esmcEventSend (c : Fin 96)
  /-- `CPRI_HYPERFRAME_RECEIVE` (R137): A hyperframe start drives the HF_HUNT, HF_CONFIRM and HF_SYNC machine. -/
  | cpriHyperframeReceive (c : Fin 96) (start atExpected : Bool) (hfn : BitVec 8) (l1 : BitVec 8) (bfn : BitVec 12) (ts : BitVec 96)
  /-- `CBR_MAPPER_FRAME` (R150): A mapper computes the TH and places cnt words for one frame of a CBR tributary. -/
  | cbrMapperFrame (c : Fin 96) (t : BitVec 16) (measured : BitVec 64)
  /-- `TH_RECEIVE` (R147): A received tributary header is checked against the RX calendar entry and judged good, errored or mismatched. -/
  | thReceive (c : Fin 96) (t : BitVec 16) (v : BitVec 64)
  /-- `DEMAPPER_FRAME` (R154): A demapper updates ŵ and W* from a frame of a CBR slot set and takes its words. -/
  | demapperFrame (c : Fin 96) (t : BitVec 16) (content : List (BitVec 64)) (delay link : BitVec 32)
  /-- `DEMAP_WORD_DUE` (R156): A word falls due at the client ball at s(k) + E. -/
  | demapWordDue (cl : Fin 96) (slip : Bool)
  /-- `SHEAF_BLOCK_RECEIVE` (R161): A trunk position is processed by the sheaf receiver in SH_HUNT or SH_SYNC. -/
  | sheafBlockReceive (c : Fin 96) (t : BitVec 16) (pos : BitVec 14) (v : BitVec 64) (now : BitVec 64)
  /-- `TX_CALENDAR_SWITCH` (R171): At frame 0 of the switch multiframe, the new TX copy governs the frame and the switch is reported. -/
  | txCalendarSwitch (c : Fin 96)
  /-- `DEFECT_SET` (R175): A defect's set rule is met, and the defect becomes set. -/
  | defectSet (d : DefectOf)
  /-- `DEFECT_CLEAR` (R175): A defect's clear rule is met, and the defect clears. -/
  | defectClear (d : DefectOf)
  /-- `BIP_WINDOW_END` (R180): A 4,000-frame window ends, and its BIP-8 count is judged for dSD and dSF. -/
  | bipWindowEnd (n : Fin 96)
  /-- `SNAPSHOT_IMAGE_WRITE` (R189): The ring engine writes the snapshot image and then its descriptor completion fields. -/
  | snapshotImageWrite (bufLen : BitVec 32)
  /-- `TALLY_LIVE_READ` (R191): A read of TALLY_LIVE_LO returns the low word and copies the high word into TALLY_LIVE_HI. -/
  | tallyLiveRead (m : Fin 8)
  /-- `INJECTOR_START` (R192): Armed injectors start together at the start boundary. -/
  | injectorStart
  /-- `INJECTOR_EVENT` (R193): At an event position, an injector applies its action and counts it. -/
  | injectorEvent (j : Fin 16)
  /-- `REORDER_WINDOW_TIMEOUT` (R193): A reorder window that has not filled within 10 µs is released in arrival order. -/
  | reorderWindowTimeout (j : Fin 16)
  /-- `INJECTOR_REG_WRITE` (R196): A write to an armed or running injector's registers is discarded and sets inj_wr_busy. -/
  | injectorRegWrite (m : Fin 8) (j : Fin 16) (r : Fin 4) (v : BitVec 32)
  /-- `SCRUB_CYCLE` (R203): The reserved cycles of a frame read four rows and write back those of them that held a CE. -/
  | scrubCycle (b : Fin 96) (finds : List (BitVec 2 × BitVec 3 × EccFind))
  /-- `ROW_REPAIR_COPY` (R206): A qualified row is copied to a spare in the next frame's reserved cycles. -/
  | rowRepairCopy (b : Fin 96)
  /-- `ROW_REMAP` (R206): At epoch cycle 0 of the following frame, the spare row takes the row's place. -/
  | rowRemap (b : Fin 96)
  /-- `REPAIR_RECORD_WRITE` (R207): Within 10 ms of a change, the steward writes the repair record to the Ledger. -/
  | repairRecordWrite
  /-- `BANK_DRAIN_START` (R209): A bank to be retired enters DRAIN at the next boundary. -/
  | bankDrainStart (b : Fin 96) (twin : Option (BitVec 8))
  /-- `BANK_DRAIN_END` (R209): When the bank is empty or drain_ms has passed, the remaining packets are dropped and the bank becomes RETIRED or GATED. -/
  | bankDrainEnd (b : Fin 96)
  /-- `BANK_FENCE_REQ` (R209): A write of fence_req starts retirement of the bank with cause HOST. -/
  | bankFenceReq (m : Fin 8) (b : Fin 96)
  /-- `BANK_RESET` (R210): A write of bank_reset on a bank retired by HOST starts the march test. -/
  | bankReset (m : Fin 8) (b : Fin 96)
  /-- `BANK_RESET_DONE` (R210): The march test ends and rebuilds the repair map, or leaves the bank RETIRED. -/
  | bankResetDone (b : Fin 96) (failing : List (BitVec 15))
  /-- `FENCED_QUEUE_WALK` (R224): The cells of a fenced queue are freed by a walk or a scan of the link memory. -/
  | fencedQueueWalk (q : BitVec 16)
  /-- `FLUSH_POINT` (R223): At the flush point, packets of the queue are handled as Table 8.7 states. -/
  | flushPoint (q : BitVec 16)
  /-- `QUEUE_CLOSED` (R222): A closing queue's valid bit clears when its occupancy reaches 0, and the steward reports it. -/
  | queueClosed (q : BitVec 16)
  /-- `RESIDENCY_SWEEP` (R221): Every 100 µs in SUNDIAL, heads that joined more than 900 µs earlier are dropped. -/
  | residencySweep (now : BitVec 64)
  /-- `FLOW_ENTRY_REWRITE` (R202): The steward rewrites a flow-table entry that read uncorrectable, within 1 ms. -/
  | flowEntryRewrite (e : BitVec 17)
  /-- `REPAIR_SCAN_PASS_END` (R226): Every named bank ends its scan pass, and the result is reported with scan_done. -/
  | repairScanPassEnd
  /-- `RETEST_DONE` (R226): A retest march ends and returns the bank to LIVE or leaves it RETIRED. -/
  | retestDone (b : Fin 96) (failing : List (BitVec 15))
  /-- `BEAT_HANDLER_START` (R232): A beat presented to a stream thread starts the beat handlers of the channel's programs. -/
  | beatHandlerStart (q : Fin 24) (t : Fin 16) (first : BitVec 7) (row : BitVec 5) (col : BitVec 8) (epoch : BitVec 12)
  /-- `SERVICE_THREAD_START` (R232): At epoch cycle 16 of each frame, a service thread starts its frame handlers. -/
  | serviceThreadStart (q : Fin 24) (t : Fin 16)
  /-- `THREAD_OVERRUN` (R235): A thread that has not yielded when its budget ends is fenced with cause OVERRUN. -/
  | threadOverrun (q : Fin 24) (t : Fin 16)
  /-- `IMAGE_FETCH_COMPLETE` (R243): The fetched image of an ATTACH or REEVE_LOAD is verified and checked for resources and budgets. -/
  | imageFetchComplete (h : CmdHead) (img : List (BitVec 8)) (sigOk : Bool) (al : Machine.AlignKind)
  /-- `BUNDLE_REWRITE` (R237): The steward rewrites bad instruction bundles from the program's source within 1 ms. -/
  | bundleRewrite (q : Fin 24) (t : Fin 16) (first : BitVec 14) (ae : Bool)
  /-- `WEAVER_PARITY` (R250): A parity error in the thread-binding or budget state fences the Weaver. -/
  | weaverParity (q : Fin 24)
  /-- `THREAD_RESET` (R250): A write of thread_reset fences an unfenced thread, then resets it and clears its private region. -/
  | threadReset (m : Fin 8) (q : Fin 24) (t : Fin 16)
  /-- `THREAD_RESET_DONE` (R250): A thread reset completes, and thread_reset_done is set. -/
  | threadResetDone (q : Fin 24) (t : Fin 16)
  /-- `THREAD_FENCE_REQ` (R250): A write of fence_req fences the thread with cause HOST. -/
  | threadFenceReq (m : Fin 8) (q : Fin 24) (t : Fin 16)
  /-- `WVR_RESET` (R250): A write of wvr_reset fences an unfenced Weaver, then resets all its threads. -/
  | wvrReset (m : Fin 8) (q : Fin 24)
  /-- `WVR_RESET_DONE` (R250): A Weaver reset completes, and wvr_reset_done is set. -/
  | wvrResetDone (q : Fin 24)
  /-- `WVR_FENCE_REQ` (R250): A write of fence_req fences the Weaver with cause HOST. -/
  | wvrFenceReq (m : Fin 8) (q : Fin 24)
  /-- `FIFO_DATA_READ` (R365): A full read of a read FIFO's data register takes the next word, or sets underrun when the FIFO is empty. -/
  | fifoDataRead (m : Fin 8) (q : Fin 24) (f : Fin 5)
  /-- `FIFO_DATA_WRITE` (R365): A full write adds a word to a write FIFO, with whole-item space reservation. -/
  | fifoDataWrite (m : Fin 8) (q : Fin 24) (f : Fin 5) (v : BitVec 32)
  /-- `FIFO_FLUSH` (R366): A write of flush empties the FIFO and discards the rest of a partial item. -/
  | fifoFlush (m : Fin 8) (q : Fin 24) (f : Fin 5)
  /-- `PARAM_WORD_WRITE` (R247): A host write to a parameter word is held pending until its boundary. -/
  | paramWordWrite (m : Fin 8) (c : Fin 96) (slot : Fin 4) (w : Fin 128) (v : BitVec 32)
  /-- `PARAM_ERR_CLEAR` (R247): A full write of 1 to param_err clears the latch. -/
  | paramErrClear (m : Fin 8) (c : Fin 96) (slot : Fin 4) (v : BitVec 32)
  /-- `FNOP` (R266): The field-slot nop does nothing. -/
  | fnop (e : Engine)
  /-- `WEXT` (R266): wext extracts a field from the window. -/
  | wext (q : Fin 24) (t : Fin 16) (rd ra : Fin 32) (pos : BitVec 9) (wm1 : BitVec 6) (sx : Bool)
  /-- `WINS` (R266): wins inserts register bits into the window. -/
  | wins (q : Fin 24) (t : Fin 16) (rd ra : Fin 32) (pos : BitVec 9) (wm1 : BitVec 6)
  /-- `SBR` (R265): sbr reads a side-band field of the present beat. -/
  | sbr (q : Fin 24) (t : Fin 16) (pg : Fin 8) (rd : Fin 32) (f : Fin 7)
  /-- `BEXT` (R266): bext extracts a bit field from a register. -/
  | bext (e : Engine) (rd ra : Fin 32) (pos wm1 : BitVec 6) (sx : Bool)
  /-- `BINS` (R266): bins inserts a bit field into a register. -/
  | bins (e : Engine) (rd ra : Fin 32) (pos wm1 : BitVec 6)
  /-- `BOP` (R266): bop performs a bit operation such as popc, clz, ctz, brev, bswap or bip8. -/
  | bop (e : Engine) (pg : Fin 8) (rd ra : Fin 32) (f : Fin 6)
  /-- `CRC` (R267): crc advances a CRC state by 1 to 8 bytes. -/
  | crc (e : Engine) (pg : Fin 8) (rd ra rb : Fin 32) (poly : Fin 3) (n1 : Fin 8)
  /-- `ANOP` (R268): The arithmetic-slot nop does nothing. -/
  | anop (e : Engine)
  /-- `ALU` (R268): alu performs the two-register arithmetic or logic function selected by fn. -/
  | alu (e : Engine) (pg : Fin 8) (f : Fin 14) (rd ra rb : Fin 32)
  /-- `ADDI` (R268): addi adds a sign-extended immediate. -/
  | addi (e : Engine) (rd ra : Fin 32) (imm : BitVec 16)
  /-- `ANDI` (R268): andi ANDs a zero-extended immediate. -/
  | andi (e : Engine) (rd ra : Fin 32) (imm : BitVec 16)
  /-- `ORI` (R268): ori ORs a zero-extended immediate. -/
  | ori (e : Engine) (rd ra : Fin 32) (imm : BitVec 16)
  /-- `XORI` (R268): xori XORs a zero-extended immediate. -/
  | xori (e : Engine) (rd ra : Fin 32) (imm : BitVec 16)
  /-- `MOVK` (R268): movk sets one 16-bit half-word of a register. -/
  | movk (e : Engine) (rd : Fin 32) (h : Fin 4) (imm : BitVec 16)
  /-- `SHI` (R268): shi shifts or rotates by an immediate amount. -/
  | shi (e : Engine) (pg : Fin 8) (k : Fin 4) (rd ra : Fin 32) (n : Fin 64)
  /-- `MUL` (R268): mul multiplies with a latency of 3. -/
  | mul (e : Engine) (pg : Fin 8) (f : Fin 3) (rd ra rb : Fin 32)
  /-- `CMP` (R268): cmp sets a predicate from a register comparison. -/
  | cmp (e : Engine) (pg : Fin 8) (f : Fin 6) (pd : Fin 8) (ra rb : Fin 32)
  /-- `CMPI` (R268): cmpi sets a predicate from a comparison with an immediate. -/
  | cmpi (e : Engine) (c : Fin 4) (pd : Fin 8) (ra : Fin 32) (imm : BitVec 16)
  /-- `SEL` (R268): sel selects one of two registers by a predicate. -/
  | sel (e : Engine) (pg : Fin 8) (rd ra rb : Fin 32)
  /-- `POP` (R268): pop combines two predicates. -/
  | pop (e : Engine) (pg : Fin 8) (f : Fin 3) (pd : Fin 8) (na : Bool) (pa : Fin 8) (nb : Bool) (pb : Fin 8)
  /-- `QNOP` (R269): The queue-slot nop does nothing. -/
  | qnop (e : Engine)
  /-- `LD` (R269): ld loads 64 bits from the private region or Reeve data memory. -/
  | ld (e : Engine) (rd ra : Fin 32) (imm : BitVec 16) (c : EccClass)
  /-- `LDW` (R269): ldw loads 32 bits, zero-extended. -/
  | ldw (e : Engine) (rd ra : Fin 32) (imm : BitVec 16) (c : EccClass)
  /-- `ST` (R269): st stores 64 bits to the private region or Reeve data memory. -/
  | st (e : Engine) (rd ra : Fin 32) (imm : BitVec 16)
  /-- `STW` (R269): stw stores 32 bits, merging the other half of the word. -/
  | stw (e : Engine) (rd ra : Fin 32) (imm : BitVec 16) (c : EccClass)
  /-- `LDS` (R269): lds loads 64 bits from the shared region with a latency of 20. -/
  | lds (q : Fin 24) (t : Fin 16) (rd ra : Fin 32) (imm : BitVec 16) (c : EccClass)
  /-- `LDSW` (R269): ldsw loads 32 bits from the shared region with a latency of 20. -/
  | ldsw (q : Fin 24) (t : Fin 16) (rd ra : Fin 32) (imm : BitVec 16) (c : EccClass)
  /-- `STS` (R269): sts stores 64 bits to the shared region, effective at cycle k + 19. -/
  | sts (q : Fin 24) (t : Fin 16) (rd ra : Fin 32) (imm : BitVec 16)
  /-- `STSW` (R269): stsw stores 32 bits to the shared region, effective at cycle k + 19. -/
  | stsw (q : Fin 24) (t : Fin 16) (rd ra : Fin 32) (imm : BitVec 16) (c : EccClass)
  /-- `SHARED_STORE_EFFECT` (R269): Shared-region stores take effect at the end of cycle k + 19, in thread order. -/
  | sharedStoreEffect (q : Fin 24)
  /-- `TIME_READ` (R270): Port TIME returns Weaver time. -/
  | timeRead (q : Fin 24) (t : Fin 16) (pg : Fin 8) (rd : Fin 32) (f : Fin 3)
  /-- `STAMP_READ` (R270): Port STAMP returns the ball-crossing instant of a bit of the beat. -/
  | stampRead (q : Fin 24) (t : Fin 16) (pg : Fin 8) (rd : Fin 32) (f : Fin 2) (inst : BitVec 96)
  /-- `FLOW_LOOKUP_ISSUE` (R270): Port FLOW operation 0 issues a flow-table lookup with a tag. -/
  | flowLookupIssue (q : Fin 24) (t : Fin 16) (pg : Fin 8) (ra rb : Fin 32) (find : Option (BitVec 16 × EccFind))
  /-- `FLOW_RESULT_DUE` (R270): A flow lookup result falls due 24 cycles after issue, and is lost when 16 results are held. -/
  | flowResultDue (q : Fin 24) (t : Fin 16)
  /-- `FLOW_RESULT_COLLECT` (R270): Port FLOW operation 1 returns the oldest due lookup result. -/
  | flowResultCollect (q : Fin 24) (t : Fin 16) (pg : Fin 8) (rd : Fin 32)
  /-- `GRNI_OPEN` (R271): Port GRNI operation 0 opens a packet handle for a queue. -/
  | grniOpen (q : Fin 24) (t : Fin 16) (pg : Fin 8) (rd ra rb : Fin 32)
  /-- `GRNI_APPEND` (R271): Port GRNI operation 1 appends bytes from the window to an open packet. -/
  | grniAppend (q : Fin 24) (t : Fin 16) (pg : Fin 8) (ra rb : Fin 32)
  /-- `GRNI_CLOSE` (R271): Port GRNI operation 2 closes a packet handle with its errored and late marks. -/
  | grniClose (q : Fin 24) (t : Fin 16) (pg : Fin 8) (ra rb : Fin 32)
  /-- `GRNI_CUT_THROUGH` (R271): Port GRNI operation 3 marks a packet cut-through with its length. -/
  | grniCutThrough (q : Fin 24) (t : Fin 16) (pg : Fin 8) (ra rb : Fin 32)
  /-- `GRNI_SEND_BY` (R271): Port GRNI operation 4 sets the carried send-by instant of a packet. -/
  | grniSendBy (q : Fin 24) (t : Fin 16) (pg : Fin 8) (ra rb : Fin 32)
  /-- `GRNE_CHOICE_ISSUE` (R271): Port GRNE operation 0 makes a deadline choice for an egress at instant now. -/
  | grneChoiceIssue (q : Fin 24) (t : Fin 16) (pg : Fin 8) (ra rb : Fin 32)
  /-- `GRNE_CHOICE_DUE` (R271): A choice result falls due 20 cycles after issue. -/
  | grneChoiceDue (q : Fin 24) (t : Fin 16)
  /-- `GRNE_CHOICE_COLLECT` (R271): Port GRNE operation 1 returns the oldest due choice, which becomes the current packet. -/
  | grneChoiceCollect (q : Fin 24) (t : Fin 16) (pg : Fin 8) (rd : Fin 32)
  /-- `GRNE_WRITE` (R271): Port GRNE operation 2 writes the next bytes of the current packet into the window. -/
  | grneWrite (q : Fin 24) (t : Fin 16) (pg : Fin 8) (ra : Fin 32) (finds : List (GrnWord × EccFind))
  /-- `GRNE_END` (R271): Port GRNE operation 3 ends the current packet's departure and frees its cells. -/
  | grneEnd (q : Fin 24) (t : Fin 16) (pg : Fin 8)
  /-- `XC_PUT` (R270): Port XC operation 0 puts a word into a tributary toward its other ends. -/
  | xcPut (q : Fin 24) (t : Fin 16) (pg : Fin 8) (ra rb : Fin 32)
  /-- `XC_WORD_DELIVERY` (R172): A cross-connect word is delivered 32 cycles after it was put, or discarded when the end is full. -/
  | xcWordDelivery (tr : BitVec 16) (c : Fin 96)
  /-- `XC_TAKE` (R270): Port XC operation 1 takes the oldest delivered word of a tributary. -/
  | xcTake (q : Fin 24) (t : Fin 16) (pg : Fin 8) (rd ra : Fin 32)
  /-- `XC_COUNT` (R270): Port XC operation 2 returns the count of delivered words not yet taken. -/
  | xcCount (q : Fin 24) (t : Fin 16) (pg : Fin 8) (rd ra : Fin 32)
  /-- `FIFO_PORT_PUSH` (R271): Port FIFO pushes a word into a read FIFO, or sets overflow when it is full. -/
  | fifoPortPush (q : Fin 24) (t : Fin 16) (pg : Fin 8) (rb : Fin 32) (k : Fin 3)
  /-- `FIFO_PORT_POP` (R271): Port FIFO pops the next word of a write FIFO, or returns 0 when it is empty. -/
  | fifoPortPop (q : Fin 24) (t : Fin 16) (pg : Fin 8) (rd : Fin 32) (k : Fin 2)
  /-- `FIFO_PORT_LEVEL` (R270): Port FIFO returns free or held words of a FIFO. -/
  | fifoPortLevel (q : Fin 24) (t : Fin 16) (pg : Fin 8) (rd : Fin 32) (f : Fin 5)
  /-- `CAL_ENTRY_READ` (R270): Port CAL returns a calendar entry of a column. -/
  | calEntryRead (q : Fin 24) (t : Fin 16) (pg : Fin 8) (rd ra : Fin 32) (f : Fin 4)
  /-- `TALLY_ADD` (R271): Port TALLY adds to a counter that lies in an allowed group. -/
  | tallyAdd (q : Fin 24) (t : Fin 16) (pg : Fin 8) (ra rb : Fin 32)
  /-- `PBLK_READ` (R270): Port PBLK operation 0 reads a parameter block word as in force. -/
  | pblkRead (q : Fin 24) (t : Fin 16) (pg : Fin 8) (rd ra : Fin 32)
  /-- `PBLK_STATUS_WRITE` (R271): Port PBLK operation 1 writes a status word into the shadow. -/
  | pblkStatusWrite (q : Fin 24) (t : Fin 16) (pg : Fin 8) (ra rb : Fin 32)
  /-- `PBLK_STATUS_READ` (R270): Port PBLK operation 2 reads a status word from the shadow. -/
  | pblkStatusRead (q : Fin 24) (t : Fin 16) (pg : Fin 8) (rd ra : Fin 32)
  /-- `UNIT_STATUS_READ` (R270): Port UNIT operation 0 reads a fixed-function unit's status word. -/
  | unitStatusRead (q : Fin 24) (t : Fin 16) (pg : Fin 8) (rd ra : Fin 32)
  /-- `UNIT_CONTROL_WRITE` (R271): Port UNIT operation 1 writes a unit's control word, which is discarded when reserved or over capacity. -/
  | unitControlWrite (q : Fin 24) (t : Fin 16) (pg : Fin 8) (ra rb : Fin 32)
  /-- `BLD` (R272): bld loads 32 bits over the bus matrix and stalls until done. -/
  | bld (r : Fin 4) (rd ra : Fin 32) (imm : BitVec 16)
  /-- `BST` (R272): bst stores 32 bits over the bus matrix and stalls until done. -/
  | bst (r : Fin 4) (rd ra : Fin 32) (imm : BitVec 16)
  /-- `BLDD` (R272): bldd loads 64 bits as two bus accesses. -/
  | bldd (r : Fin 4) (rd ra : Fin 32) (imm : BitVec 16)
  /-- `BSTD` (R272): bstd stores 64 bits as two bus accesses. -/
  | bstd (r : Fin 4) (rd ra : Fin 32) (imm : BitVec 16)
  /-- `CKPT_OPEN` (R276): ckpt operation 0 opens the generation slot not holding the last committed generation. -/
  | ckptOpen (r : Fin 4) (pg : Fin 8) (rd ra rb : Fin 32)
  /-- `CKPT_WRITE` (R276): ckpt operation 1 writes 64 bytes into the open generation. -/
  | ckptWrite (r : Fin 4) (pg : Fin 8) (rd ra rb : Fin 32)
  /-- `CKPT_COMMIT` (R276): ckpt operation 2 writes the commit record last. -/
  | ckptCommit (r : Fin 4) (pg : Fin 8) (rd ra rb : Fin 32)
  /-- `CKPT_MIRROR` (R276): ckpt operation 3 sends the last committed generation to the twin, encrypted. -/
  | ckptMirror (r : Fin 4) (pg : Fin 8) (rd ra rb : Fin 32)
  /-- `CKPT_JOURNAL_APPEND` (R276): ckpt operation 4 appends 64 bytes to the command journal. -/
  | ckptJournalAppend (r : Fin 4) (pg : Fin 8) (rd ra rb : Fin 32)
  /-- `CKPT_REPAIR_RECORD` (R276): ckpt operation 5 writes the repair record into the copy not in force. -/
  | ckptRepairRecord (r : Fin 4) (pg : Fin 8) (rd ra rb : Fin 32)
  /-- `CNOP` (R260): The control-slot nop does nothing. -/
  | cnop (e : Engine)
  /-- `BR` (R260): br branches on a predicate. -/
  | br (e : Engine) (neg : Bool) (pc : Fin 8) (target : BitVec 14)
  /-- `CALL` (R260): call pushes the return index and branches. -/
  | call (e : Engine) (neg : Bool) (pc : Fin 8) (target : BitVec 14)
  /-- `RET` (R260): ret pops the return stack. -/
  | ret (e : Engine) (pg : Fin 8)
  /-- `REP` (R261): rep starts a static-count loop. -/
  | rep (e : Engine) (blen : BitVec 10) (count : BitVec 16)
  /-- `REPG` (R261): repg starts a loop counted by min(g[ra], bound). -/
  | repg (e : Engine) (blen : BitVec 5) (ra : Fin 32) (bound : BitVec 16)
  /-- `YIELD` (R262): yield ends the handler, passes carry registers and hands over the TX beat. -/
  | yield (q : Fin 24) (t : Fin 16)
  /-- `BRK` (R263): brk records a trace item in WATCH or TINKER and halts a TINKER target. -/
  | brk (e : Engine) (code : BitVec 8)
  /-- `AWAIT` (R273): await ends the Reeve handler and waits for an unmasked event. -/
  | await (r : Fin 4) (rd : Fin 32)
  /-- `TMR` (R274): tmr reads the timer, sets the alarm or cancels it. -/
  | tmr (r : Fin 4) (pg : Fin 8) (f : Fin 3) (rd ra : Fin 32)
  /-- `PWR` (R275): pwr asks the Millrace to switch a quad domain or a bank on or off. -/
  | pwr (r : Fin 4) (pg : Fin 8) (f : Fin 4) (rd ra : Fin 32)
  /-- `EVT` (R273): evt sets the event mask, reads pending events or clears them. -/
  | evt (r : Fin 4) (pg : Fin 8) (f : Fin 3) (rd ra : Fin 32)
  /-- `SYS` (R275): sys reads or clears the fault word, increments the heartbeat or sets the bus QoS. -/
  | sys (r : Fin 4) (pg : Fin 8) (f : Fin 4) (rd ra : Fin 32)
  /-- `REF_ENABLE_WRITE` (R284): A write of en in BELL_REF_CFG_n enables or disables a reference candidate. -/
  | refEnableWrite (m : Fin 8) (n : Fin 18) (en : Bool)
  /-- `REF_ACTIVITY_LOSS` (R278): A candidate whose activity is lost fails with cause ACTIVITY. -/
  | refActivityLoss (n : Fin 18) (long : Bool)
  /-- `REF_FAILURE_CLEAR` (R278): A failure cause absent for its clearing time clears the failure and starts QUALIFYING or WTR. -/
  | refFailureClear (n : Fin 18) (time : Bool)
  /-- `FREQ_MEASUREMENT_UPDATE` (R282): Every 100 ms the offset of each candidate is updated and judged by the drift and consensus monitors. -/
  | freqMeasurementUpdate (ofs : List (Fin 18 × BitVec 32))
  /-- `QUALIFICATION_TIMER_END` (R284): QUALIFYING or WTR ends without failure, and the candidate becomes QUALIFIED. -/
  | qualificationTimerEnd (n : Fin 18) (time : Bool)
  /-- `SELECTION_JUDGEMENT` (R285): Every 1 ms, or within 10 µs of a failure or QL change, each DPLL judges its selection. -/
  | selectionJudgement (d : Fin 4) (long : Bool)
  /-- `ALIGNMENT_WINDOW_END` (R286): The 100 µs alignment window of a switch ends, and the DPLL tracks the new candidate. -/
  | alignmentWindowEnd (d : Fin 4) (long : Bool)
  /-- `DPLL_LOCK` (R288): A DPLL in ACQUIRE that stays within its lock bound for long enough enters LOCKED. -/
  | dpllLock (d : Fin 4)
  /-- `HOLDOVER_SPEC_EXPIRY` (R290): Holdover beyond hold_h hours drops hold_spec and sets hold_spec_lost. -/
  | holdoverSpecExpiry (d : Fin 4)
  /-- `DPLL_FENCE_REQ` (R292): A write of fence_req fences the DPLL with cause HOST. -/
  | dpllFenceReq (m : Fin 8) (d : Fin 4) (long : Bool)
  /-- `DPLL_RESET` (R292): A write of dpll_reset resets the loop state. -/
  | dpllReset (m : Fin 8) (d : Fin 4)
  /-- `DPLL_RESET_DONE` (R292): A DPLL reset completes, and reset_done is set. -/
  | dpllResetDone (d : Fin 4)
  /-- `DPLL_PARITY` (R292): A parity error in a DPLL's loop state fences it with cause PARITY. -/
  | dpllParity (d : Fin 4) (long : Bool)
  /-- `FRAME_PHASE_SATURATION` (R296): Steering held at fp_pull for more than 1 s sets fp_sat. -/
  | framePhaseSaturation
  /-- `SLEW_COMPLETE` (R297): A phase slew finishes, the PHASE_STEP completes and step_done is set. -/
  | slewComplete
  /-- `PPS_IN_EDGE` (R299): A rising edge on PPS_INk is time-captured and drives a paired time reference. -/
  | ppsInEdge (k : Fin 2) (t : BitVec 80) (dev : BitVec 64)
  /-- `PPS_IN_MISSING` (R299): A missing expected edge clears pps_in_ok and sets pps_in_lost. -/
  | ppsInMissing (k : Fin 2)
  /-- `PPS_OUT_PULSE` (R300): A pulse rises on PPS_OUTk at its computed instant. -/
  | ppsOutPulse (k : Fin 4) (j : BitVec 64)
  /-- `TOD_MESSAGE_SEND` (R302): Between 100 ms and 400 ms after a tick, a time-of-day message names the next second. -/
  | todMessageSend
  /-- `TOD_MESSAGE_RECEIVE` (R302): A complete time-of-day message received on TOD_RXD names the next PPS_IN0 edge, or sets tod_err. -/
  | todMessageReceive (bytes : List (BitVec 8)) (inTime : Bool)
  /-- `BELL_FRAME_OFS_WRITE` (R305): A frame_ofs write outside MUSTER is discarded and sets ofs_wr_drop. -/
  | bellFrameOfsWrite (m : Fin 8) (v : BitVec 32)
  /-- `CLKOUT_FREQ_WRITE` (R301): A change of freq_hz restarts the clock output within 10 µs, or is refused when out of range. -/
  | clkoutFreqWrite (m : Fin 8) (k : Fin 8) (v : BitVec 32)
  /-- `PPS_CFG_WRITE` (R300): A pulse configuration write is refused when illegal, and otherwise takes effect at a pulse at least 1 ms later. -/
  | ppsCfgWrite (m : Fin 8) (k : Fin 4) (v : BitVec 32)
  /-- `HOLD_OFF_EXPIRY` (R311): A condition still present at the end of its hold-off becomes a request. -/
  | holdOffExpiry (g : BitVec 12) (x sd : Bool)
  /-- `PROT_WTR_EXPIRY` (R311): WTR running out leaves NR. -/
  | protWtrExpiry (g : BitVec 12)
  /-- `APS_TIMEOUT` (R312): 50 ms without an accepted APS word set aps_mismatch and take the far request as NR. -/
  | apsTimeout (g : BitVec 12)
  /-- `HEARTBEAT_SEND` (R319): At each even frame boundary, PAIR_ALIVE_OUT sends a pulse whose width codes its state. -/
  | heartbeatSend
  /-- `HEARTBEAT_DECODE` (R319): A falling edge on PAIR_ALIVE_IN decodes a heartbeat code. -/
  | heartbeatDecode (high : BitVec 16)
  /-- `HEARTBEAT_LOST` (R319): 10 µs without a rising edge decodes LOST. -/
  | heartbeatLost
  /-- `EPOCH_SCHEDULE_RECEIVE` (R321): The active's epoch schedule arrives over the twin link. -/
  | epochScheduleReceive (frame cycle : BitVec 64)
  /-- `TWIN_DELAY_MEASURE` (R321): Once per multiframe, the twin-link delay is measured by a round trip and reported in PAIR_DELAY. -/
  | twinDelayMeasure (d : BitVec 32)
  /-- `TWIN_TIME_ANCHOR_RECEIVE` (R24): The active's per-multiframe time anchor arrives over the twin link. -/
  | twinTimeAnchorReceive (frame : BitVec 64) (time : BitVec 96)
  /-- `FINE_OFFSET_RECEIVE` (R24): The active's fine arrival offset for an RX capture arrives over the twin link. -/
  | fineOffsetReceive (n : Fin 96) (ofs : BitVec 32)
  /-- `DIGEST_COMPARE` (R323): The twins' per-quad digests of a frame are compared and a divergence is detected. -/
  | digestCompare (diff : BitVec 24)
  /-- `INTERNAL_FAULT_RECEIVE` (R324): A twin's report of an internal fault arrives over the link. -/
  | internalFaultReceive (fence : Bool)
  /-- `TAKEOVER_CLAIM` (R325): The standby raises TAKE at the next frame boundary after it decides to take over. -/
  | takeoverClaim (planned : Bool) (r : LedgRead)
  /-- `TWIN_LINK_LOSS` (R324): The twin link reports the twin absent. -/
  | twinLinkLoss (up : BitVec 8)
  /-- `TWIN_LINK_RETURN` (R327): The return of the twin link starts CATCHUP when auto_rejoin is 1. -/
  | twinLinkReturn (up : BitVec 8)
  /-- `PAIR_FORMED` (R326): Both twins' joins with opposite roles are matched, and the pair forms or the join ends with IDENTITY. -/
  | pairFormed (fits : Bool)
  /-- `PAIR_JOIN_TIMEOUT` (R326): A twin not joined within 10 s completes PAIR_JOIN with TIMEOUT. -/
  | pairJoinTimeout
  /-- `CATCHUP_STAGE_END` (R327): A catch-up stage ends, and the standby advances, restarts or gives up. -/
  | catchupStageEnd (ok images : Bool) (r : LedgRead)
  /-- `PACKET_COPY_RECEIVE` (R328): The standby receives a copy of a packet held by the active at J. -/
  | packetCopyReceive (p : PktCopy)
  /-- `EGRESS_PAUSE` (R328): Each egress starts no new packet after K − 40 µs − t_max. -/
  | egressPause (eth : Bool) (e : BitVec 16)
  /-- `PACKET_LIST_SEND` (R328): At K − 40 µs the active sends every queue's packet list. -/
  | packetListSend (lists : List (BitVec 16 × List (Fin 96 × BitVec 64)))
  /-- `RESYNC_BOUNDARY` (R329): At K the standby aligns its queues and resync words with the active. -/
  | resyncBoundary (pool : Bool)
  /-- `RESYNC_WORDS_SEND` (R329): At each 1 ms boundary of stages 5 to 7, the active sends its resync words. -/
  | resyncWordsSend (words : List (BitVec 15 × BitVec 64))
  /-- `CHECKPOINT_PERIOD` (R332): Every ckpt_ms the steward writes and commits a generation. -/
  | checkpointPeriod (ack : Bool)
  /-- `GENERATION_MIRROR_RECEIVE` (R335): The standby writes a mirrored generation and commits it after a correct tag. -/
  | generationMirrorReceive (slot : Fin 2) (g : Machine.Gen) (tagOk : Bool)
  /-- `JOURNAL_ENTRY_RECEIVE` (R334): The standby appends a journal entry sent by the active. -/
  | journalEntryReceive (seq frame : BitVec 64) (c : Machine.Change) (differs : Bool)
  /-- `CONFIG_UNFENCE_HOST` (R343): A configuration write of unfence_host lifts the HOST master fence. -/
  | configUnfenceHost
  /-- `CONFIG_UNFENCE_DMA` (R343): A configuration write of unfence_dma resets the ring engine and lifts the DMA fence. -/
  | configUnfenceDma
  /-- `RING_ENABLE` (R345): Writing en from 0 to 1 enables a ring and sets both indices to 0. -/
  | ringEnable (m : Fin 8) (x : Fin 6) (lg : BitVec 4)
  /-- `RING_DISABLE` (R345): Writing en to 0 stops the ring after the descriptor in progress. -/
  | ringDisable (m : Fin 8) (x : Fin 6) (lg : BitVec 4)
  /-- `DOORBELL_WRITE` (R345): A write of host_idx rings the doorbell, or is discarded and sets ring_err when invalid. -/
  | doorbellWrite (m : Fin 8) (x : Fin 6) (idx : BitVec 16)
  /-- `COMMAND_FETCH` (R346): The steward takes a fetched command descriptor and dispatches it. -/
  | commandFetch (x : Fin 4) (opcode : BitVec 16) (flags rsv : BitVec 8) (tag : BitVec 32)
  /-- `HOST_MEMORY_ERROR` (R345): A completion timeout or error on a ring read stops the ring and sets dma_err. -/
  | hostMemoryError (x : Fin 6)
  /-- `MSIX_MODERATION_TIMEOUT` (R352): mod_us after the first unsignalled entry, the vector's message is sent. -/
  | msixModerationTimeout (v : Fin 64)
  /-- `MATRIX_WATCHDOG_FIRE` (R360): A transaction outstanding for wdog × 256 cycles fences its master and abandons its transactions. -/
  | matrixWatchdogFire (m : Fin 8)
  /-- `REGISTER_WRITE` (R362): A write to a register with no row of its own is judged by size and alignment, and applied. -/
  | registerWrite (m : Fin 8) (a : BitVec 32) (be : BitVec 4) (v : BitVec 32)
  /-- `MULTIWORD_CAPTURE_READ` (R363): A full read of word 0 of a multi-word value captures all its words for that master. -/
  | multiwordCaptureRead (m : Fin 8) (a : BitVec 32)
  /-- `ONCE_FIELD_WRITE` (R9): A write to a once field takes effect only the first time, and otherwise sets once_viol. -/
  | onceFieldWrite (m : Fin 8) (v : BitVec 3)
  /-- `KEY_BURN` (R377): Gatehouse operation 1 burns a root key hash into a slot. -/
  | keyBurn (m : Fin 8) (slot : BitVec 8) (signer : BitVec 4)
  /-- `KEY_REVOKE` (R378): Gatehouse operation 2 burns a slot's revocation field. -/
  | keyRevoke (m : Fin 8) (slot : BitVec 8) (signer : BitVec 4)
  /-- `DESC_BURN` (R381): Gatehouse operation 3 copies the Ledger descriptor into the descriptor array. -/
  | descBurn (m : Fin 8) (slot : BitVec 8) (signer : BitVec 4)
  /-- `LIFE_ADVANCE` (R376): Gatehouse operation 4 burns the next stage field, effective at the next power-on reset. -/
  | lifeAdvance (m : Fin 8) (slot : BitVec 8) (signer : BitVec 4)
  /-- `SKEY_INSTALL` (R384): Gatehouse operation 5 writes the next key and epoch of a symmetric slot. -/
  | skeyInstall (m : Fin 8) (slot : BitVec 8) (signer : BitVec 4)
  /-- `SKEY_PROMOTE` (R384): Gatehouse operation 6 schedules the next entry to become current at the boundary. -/
  | skeyPromote (m : Fin 8) (slot : BitVec 8) (signer : BitVec 4)
  /-- `SKEY_ERASE` (R384): Gatehouse operation 7 empties both entries of a slot. -/
  | skeyErase (m : Fin 8) (slot : BitVec 8) (signer : BitVec 4)
  /-- `CHALLENGE` (R390): Gatehouse operation 8 writes a fresh unlock challenge to the mailbox. -/
  | challenge (m : Fin 8) (slot : BitVec 8) (signer : BitVec 4)
  /-- `RESPONSE` (R390): Gatehouse operation 9 checks a signed response and enters TINKER on its targets. -/
  | response (m : Fin 8) (slot : BitVec 8) (signer : BitVec 4)
  /-- `LOCK` (R388): Gatehouse operation 10 returns the debug level to NONE. -/
  | lock (m : Fin 8) (slot : BitVec 8) (signer : BitVec 4)
  /-- `GATE_OP_DONE` (R387): A Gatehouse operation ends, and result, op_done and the mailbox are updated. -/
  | gateOpDone (readBack sigOk digestOk late : Bool) (nonce : BitVec 256)
  /-- `ENTROPY_HEALTH_FAIL` (R386): A failed entropy health test clears entropy_ok and sets entropy_fault. -/
  | entropyHealthFail
  /-- `UNLOCK_LOCKOUT_END` (R390): 60 s after three failures, CHALLENGE is allowed again. -/
  | unlockLockoutEnd
  /-- `LEVEL_REQ_WRITE` (R388): A write of level_req raises the debug level, or refuses the request and sets denied. -/
  | levelReqWrite (m : Fin 8) (level : BitVec 2) (trace : Bool)
  /-- `LANT_LOCK` (R388): A write of lock returns the debug level to NONE. -/
  | lantLock (m : Fin 8)
  /-- `LANT_RESET` (R407): lant_reset clears the trace and LANT_SEL and lifts the LANT master fence. -/
  | lantReset (m : Fin 8) (burst : Bool)
  /-- `LANT_HALT` (R391): halt stops a TINKER target thread or Reeve. -/
  | lantHalt (m : Fin 8) (reeve : Bool) (unit : BitVec 9)
  /-- `LANT_STEP` (R391): step issues exactly one bundle of a halted target. -/
  | lantStep (m : Fin 8) (reeve : Bool) (unit : BitVec 9)
  /-- `LANT_RESUME` (R391): resume restarts a halted target at its pc, or at its next slot. -/
  | lantResume (m : Fin 8) (reeve : Bool) (unit : BitVec 9) (missed : Bool)
  /-- `JTAG_EXTEST` (R392): JTAG EXTEST selects boundary scan. -/
  | jtagExtest (bits : List Bool)
  /-- `JTAG_IDCODE` (R392): JTAG IDCODE returns 0x1009_65B3. -/
  | jtagIdcode
  /-- `JTAG_SAMPLE_PRELOAD` (R392): JTAG SAMPLE/PRELOAD samples or preloads the boundary scan. -/
  | jtagSamplePreload (bits : List Bool)
  /-- `JTAG_LANT_MTX` (R392): JTAG LANT_MTX performs one matrix access as master LANT. -/
  | jtagLantMtx (a data : BitVec 32) (write : Bool)
  /-- `JTAG_AON_STAT` (R392): JTAG AON_STAT returns GATE_STATUS and MILL_STATUS. -/
  | jtagAonStat
  /-- `JTAG_AON_DESC` (R392): JTAG AON_DESC writes a word of the Ledger descriptor area when allowed. -/
  | jtagAonDesc (off : BitVec 16) (v : BitVec 32)
  /-- `JTAG_WAKE` (R396): JTAG WAKE leaves P3. -/
  | jtagWake
  /-- `JTAG_BYPASS` (R392): JTAG BYPASS, and every unlisted code, selects the 1-bit bypass register. -/
  | jtagBypass (code : BitVec 8)
  /-- `RAIL_SEQUENCE_STEP` (R398): The Millrace clears faults, sets vout and switches on the next PMBus device. -/
  | railSequenceStep (up : BitVec 3) (mvs : List (BitVec 16))
  /-- `POWER_GOOD_POLL` (R398): Every 100 µs STATUS_WORD is polled until POWER_GOOD# reads 0. -/
  | powerGoodPoll (status : BitVec 16) (fault : Bool)
  /-- `PG_TIMEOUT` (R399): No power good within pg_timeout fences the device with cause PG_TIMEOUT. -/
  | pgTimeout
  /-- `PMBUS_TRANSACTION_ERROR` (R398): A NACK or PEC error is retried up to 3 times, then fences the device. -/
  | pmbusTransactionError (d : Fin 8) (pec : Bool)
  /-- `PMB_ALERT` (R398): PMB_ALERT_N low makes the Millrace read the alert response address and the device status. -/
  | pmbAlert (d : Fin 8) (status : BitVec 16) (fault : Bool)
  /-- `PMB_FENCE_REQ` (R399): A write of fence_req fences the PMBus device with cause HOST. -/
  | pmbFenceReq (m : Fin 8) (d : Fin 8)
  /-- `PMB_RESET` (R399): A write of pmb_reset sends CLEAR_FAULTS and checks STATUS_WORD. -/
  | pmbReset (m : Fin 8) (d : Fin 8)
  /-- `PMB_RESET_DONE` (R399): pmb_reset completes, and reset_done is set. -/
  | pmbResetDone (d : Fin 8) (status : BitVec 16) (clean : Bool)
  /-- `AVS_UPDATE` (R400): Every 1 ms the VDD_CORE target moves by at most 5 mV over AVSBus. -/
  | avsUpdate (safe measured : BitVec 16) (ok : Bool)
  /-- `SENSOR_READ` (R401): Every 100 µs the temperature and voltage sensors are read and the domain currents estimated. -/
  | sensorRead (temps mvs powers : List (BitVec 16))
  /-- `IOUT_RECALIBRATE` (R401): Every 10 ms the current estimate is recalibrated against READ_IOUT. -/
  | ioutRecalibrate (powers : List (BitVec 16))
  /-- `CAP_LOOP` (R402): Every 100 µs with p_meas above the cap, the AVS margin is lowered and idle units are gated. -/
  | capLoop
  /-- `CAP_VIOLATION` (R402): Power above the cap after 10 ms sets cap_viol. -/
  | capViolation
  /-- `MILL_WAKE_EXPIRY` (R396): The MILL_WAKE timer expires and the part leaves P3. -/
  | millWakeExpiry
  /-- `P3_ENTRY` (R396): After its completion and a checkpoint commit, the part switches off all rails except VDD_AON and VDDIO. -/
  | p3Entry
  /-- `POWER_STATE_REACHED` (R395): A P0, P1 or P2 transition completes within the bounds of Table 14.11. -/
  | powerStateReached
  /-- `NOP` (R419): Command NOP completes at once. -/
  | nop (h : CmdHead)
  /-- `DEVICE_QUERY` (R419): Command DEVICE_QUERY returns the mode, power state, role, lifecycle and debug level. -/
  | deviceQuery (h : CmdHead)
  /-- `LANE_RATE` (R34): Command LANE_RATE enables, re-rates or disables a channel's lanes. -/
  | laneRate (h : CmdHead) (lane : BitVec 16) (width : BitVec 8) (role pam4 : Bool) (rate : BitVec 64)
  /-- `LANE_SLEEP` (R34): Command LANE_SLEEP puts a lane in QUIET or DORMANT. -/
  | laneSleep (h : CmdHead) (lane : BitVec 16) (target : BitVec 8)
  /-- `LANE_WAKE` (R34): Command LANE_WAKE returns a lane to ACTIVE. -/
  | laneWake (h : CmdHead) (lane : BitVec 16)
  /-- `ATTACH` (R243): Command ATTACH attaches a program to a channel slot at the next boundary. -/
  | attach (h : CmdHead) (c slot : BitVec 8) (replace host : Bool) (id : BitVec 16) (addr : BitVec 64) (len : BitVec 32)
  /-- `DETACH` (R244): Command DETACH removes a program from a slot at the next boundary. -/
  | detach (h : CmdHead) (c slot : BitVec 8)
  /-- `PARAM_WRITE` (R247): Command PARAM_WRITE writes parameter words, pending until their boundary. -/
  | paramWrite (h : CmdHead) (c slot first : BitVec 8) (vs : List (BitVec 32))
  /-- `REEVE_LOAD` (R422): Command REEVE_LOAD runs verified firmware of your own on Reeve 1 to 3. -/
  | reeveLoad (h : CmdHead) (r : BitVec 8) (addr : BitVec 64) (len : BitVec 32)
  /-- `REEVE_LOAD_RETURN` (R422): REEVE_LOAD with byte 9 bit 0 set returns a Reeve to the steward firmware. -/
  | reeveLoadReturn (h : CmdHead) (r : BitVec 8)
  /-- `CALENDAR_STAGE_WRITE` (R166): CALENDAR_STAGE operation 0 stages calendar copies from a host image. -/
  | calendarStageWrite (h : CmdHead) (addr : BitVec 64) (len : BitVec 32) (img : List (BitVec 32))
  /-- `CALENDAR_STAGE_READ` (R165): CALENDAR_STAGE operation 1 reads the named copies into a host image. -/
  | calendarStageRead (h : CmdHead) (addr : BitVec 64) (len : BitVec 32) (img : List (BitVec 32))
  /-- `CALENDAR_COMMIT` (R169): Command CALENDAR_COMMIT schedules a TX calendar switch on the named channels. -/
  | calendarCommit (h : CmdHead) (mask : BitVec 96)
  /-- `QUEUE_CREATE_QUEUE` (R222): QUEUE_CREATE operation 0 creates a queue and installs its flow key. -/
  | queueCreateQueue (h : CmdHead) (q egress : BitVec 16) (cls : BitVec 3) (express : Bool) (latePol : BitVec 2) (dlSrc ethEgress keyed : Bool) (budget : BitVec 20) (lateTol : BitVec 12) (minCells maxCells : BitVec 32) (key : BitVec 64)
  /-- `QUEUE_CREATE_TRUNK` (R222): QUEUE_CREATE operation 1 makes a trunk exist as an egress. -/
  | queueCreateTrunk (h : CmdHead) (t : BitVec 16)
  /-- `QUEUE_CREATE_MODIFY` (R222): QUEUE_CREATE operation 2 changes the timing fields of a valid queue. -/
  | queueCreateModify (h : CmdHead) (q : BitVec 16) (express : Bool) (latePol : BitVec 2) (dlSrc : Bool) (budget : BitVec 20) (lateTol : BitVec 12)
  /-- `QUEUE_DELETE_QUEUE` (R222): QUEUE_DELETE operation 0 closes a queue, removes its key and flushes it. -/
  | queueDeleteQueue (h : CmdHead) (q : BitVec 16)
  /-- `QUEUE_DELETE_TRUNK` (R222): QUEUE_DELETE operation 1 removes a trunk. -/
  | queueDeleteTrunk (h : CmdHead) (t : BitVec 16)
  /-- `QUEUE_FLUSH` (R223): Command QUEUE_FLUSH flushes a queue at its flush point. -/
  | queueFlush (h : CmdHead) (q : BitVec 16)
  /-- `REPAIR_SCAN_SCAN` (R226): REPAIR_SCAN operation 0 restarts the scrub pass of the named banks. -/
  | repairScanScan (h : CmdHead) (mask : BitVec 96)
  /-- `REPAIR_SCAN_RETEST` (R226): REPAIR_SCAN operation 1 retests retired banks in MUSTER. -/
  | repairScanRetest (h : CmdHead) (mask : BitVec 96)
  /-- `PROT_REQUEST_CONFIG` (R315): PROT_REQUEST CONFIG creates or modifies a protection group. -/
  | protRequestConfig (h : CmdHead) (g trib : BitVec 16) (pChan : BitVec 8) (given : BitVec 5) (holdOff wtr skew : BitVec 8) (revert bidir : Bool)
  /-- `PROT_REQUEST_LO` (R315): PROT_REQUEST LO requests lockout of protection. -/
  | protRequestLo (h : CmdHead) (g : BitVec 16)
  /-- `PROT_REQUEST_FS` (R315): PROT_REQUEST FS requests a forced switch to X. -/
  | protRequestFs (h : CmdHead) (g : BitVec 16)
  /-- `PROT_REQUEST_MS_W` (R315): PROT_REQUEST MS_W requests a manual switch to W. -/
  | protRequestMsW (h : CmdHead) (g : BitVec 16)
  /-- `PROT_REQUEST_MS_X` (R315): PROT_REQUEST MS_X requests a manual switch to X. -/
  | protRequestMsX (h : CmdHead) (g : BitVec 16)
  /-- `PROT_REQUEST_CLEAR` (R315): PROT_REQUEST CLEAR removes the operator requests and WTR. -/
  | protRequestClear (h : CmdHead) (g : BitVec 16)
  /-- `PROT_REQUEST_DELETE` (R315): PROT_REQUEST DELETE removes a group at a multiframe boundary. -/
  | protRequestDelete (h : CmdHead) (g : BitVec 16)
  /-- `MODE_SET` (R415): Command MODE_SET schedules a change of major mode. -/
  | modeSet (h : CmdHead) (mode : BitVec 8)
  /-- `POWER_STATE` (R395): Command POWER_STATE moves the part to another device power state. -/
  | powerState (h : CmdHead) (state : BitVec 8)
  /-- `PAIR_JOIN` (R326): Command PAIR_JOIN joins a pair as ACTIVE or STANDBY. -/
  | pairJoin (h : CmdHead) (role : BitVec 8)
  /-- `PAIR_LEAVE` (R326): Command PAIR_LEAVE makes the parts SOLO. -/
  | pairLeave (h : CmdHead)
  /-- `PAIR_TAKE` (R326): Command PAIR_TAKE starts a planned takeover by the standby. -/
  | pairTake (h : CmdHead)
  /-- `CHECKPOINT` (R326): Command CHECKPOINT starts a generation at once. -/
  | checkpoint (h : CmdHead)
  /-- `REF_CONFIG` (R305): Command REF_CONFIG writes BELL_ registers together at the next boundary. -/
  | refConfig (h : CmdHead) (writes : List (BitVec 32 × BitVec 32))
  /-- `PHASE_STEP_SLEW` (R297): PHASE_STEP operation 0 slews DPLL1 time by an amount at a given rate. -/
  | phaseStepSlew (h : CmdHead) (amount : BitVec 64) (rate : BitVec 32)
  /-- `PHASE_STEP_JUMP` (R297): PHASE_STEP operation 1 moves the time counter at once. -/
  | phaseStepJump (h : CmdHead) (amount : BitVec 64)
  /-- `PHASE_STEP_FREQUENCY` (R297): PHASE_STEP operation 2 sets DPLL1's frequency relative to DPLL0 in HOST mode. -/
  | phaseStepFrequency (h : CmdHead) (amount : BitVec 64)
  /-- `TIME_SET` (R297): Command TIME_SET sets the seconds at the next tick. -/
  | timeSet (h : CmdHead) (sec : BitVec 48)
  /-- `REG_CONFIG` (R423): Command REG_CONFIG writes data-plane registers under the journal at the next boundary. -/
  | regConfig (h : CmdHead) (writes : List (BitVec 32 × BitVec 32))
  /-- `FENCE_LIFT` (R369): Command FENCE_LIFT lifts a unit's fence once its required reset has completed. -/
  | fenceLift (h : CmdHead) (kind : BitVec 8) (unit : BitVec 32)
  /-- `INJECT_ARM` (R192): Command INJECT_ARM arms injectors to start at a boundary. -/
  | injectArm (h : CmdHead) (mask : BitVec 16)
  /-- `INJECT_STOP` (R192): Command INJECT_STOP stops the named injectors within 1 µs. -/
  | injectStop (h : CmdHead) (mask : BitVec 16)
  /-- `DEBUG_UNLOCK_LEVEL` (R388): DEBUG_UNLOCK operation 0 sets the debug level. -/
  | debugUnlockLevel (h : CmdHead) (level : BitVec 8) (mask : BitVec 32)
  /-- `DEBUG_UNLOCK_CHALLENGE` (R390): DEBUG_UNLOCK operation 1 obtains a challenge into host memory. -/
  | debugUnlockChallenge (h : CmdHead) (mask : BitVec 32) (addr : BitVec 64)
  /-- `DEBUG_UNLOCK_RESPONSE` (R390): DEBUG_UNLOCK operation 2 submits a signed response. -/
  | debugUnlockResponse (h : CmdHead) (signer : BitVec 8) (addr : BitVec 64) (sig : List (BitVec 8))
  /-- `GATE_CALL` (R420): Command GATE_CALL copies a host buffer into the mailbox and runs a Gatehouse operation. -/
  | gateCall (h : CmdHead) (op slot signer : BitVec 8) (len : BitVec 32) (addr : BitVec 64) (buf : List (BitVec 8))
  /-- `OSC_IN_RETURN` (R292): OSC_IN edges return after a loss, and ocxo_ok reads 1 again, which FENCE_LIFT of an OCXO-fenced DPLL requires. -/
  | oscInReturn
  /-- `LC_PLL_LOCK_LOSS` (R51): A quad LC-PLL loses lock, pll_state reads 3 and the latch pll_lost is set. -/
  | lcPllLockLoss (q : Fin 24)
  /-- `ENTROPY_HEALTH_RECOVER` (R386): The repetition count and adaptive proportion tests pass again, entropy_ok returns to 1 and CHALLENGE no longer gives BUSY. -/
  | entropyHealthRecover
  /-- `PCIE_LINK_TRAINED` (R340): PCIe link training started at S9 completes, link_gen and link_width take their values, and the host can reach the part. -/
  | pcieLinkTrained (gen width : BitVec 4)
  /-- `HOST_DATA_READ_FAILURE` (R418): A read of host memory for a command's data ends in an error completion or the 50 ms completion timeout, and the command completes at once with TIMEOUT. -/
  | hostDataReadFailure (h : CmdHead)
  /-- `COMMAND_FETCH_TIME_LIMIT` (R418): The whole fetch of a command's host data has not ended 100 ms after it began, and the command completes with TIMEOUT. -/
  | commandFetchTimeLimit (h : CmdHead)
  deriving DecidableEq, Repr

end Sys2Proof
end

