-- ==== Sys2Proof/Decode.lean ====
section
/-! DEFINITION. The decoder: no row of the table of operations and events has an encoding, so no word spells a command. -/
namespace Sys2Proof

/-- The command that a word of `nbits` bits spells by the table's bits: none, since no row of the table gives bits. -/
def decodeTableWord (_nbits _w : Nat) : Option Instr := none

end Sys2Proof
end

