-- ==== Sys2Proof/Config.lean ====
section
/-! DEFINITION. What one part fixes and the spec leaves open: constants and free values without a body, so that nothing
proved about the model can rest on a value of theirs. -/
namespace Sys2Proof.Config

/-- The bits burned for the die serial number; `serial` is what GLB_SERIAL reads (R3). Assumption log entry 2, DESIGN CHOICE, safe. -/
opaque serialRaw : BitVec 64

/-- The die serial number: fixed for the part, never all zeros and never all ones (R3). Assumption log entry 2, DESIGN CHOICE, safe. -/
def serial : BitVec 64 := if serialRaw = 0 ∨ serialRaw = BitVec.allOnes 64 then 1 else serialRaw

/-- A value the spec leaves open, fresh for each use: the model applies it to a counter that every use advances.
Assumption log entry 3, DESIGN CHOICE, safe. -/
opaque freeNat : Nat → Nat

/-- The contents of the Almanac ROM, by byte offset: fixed for the part and not listed by the spec.
Assumption log entry 4, DESIGN CHOICE, safe. -/
opaque romByte : Nat → BitVec 8

/-- The AES-256-GCM tag of NIST SP 800-38D over additional data, with an empty plaintext: key, initialisation vector and
data bytes in, 128 bits out (R106). The model keeps the cipher as an unknown function. Assumption log entry 9, DESIGN CHOICE, safe. -/
opaque gcmTag (key iv : Nat) (aad : List Nat) : BitVec 128

/-- Which of the eight entries of a full bucket the steward moves on, by key to install and move number (R126). Assumption log
entry 22, DESIGN CHOICE, safe. -/
opaque flowVictim (key move : Nat) : Nat

/-- The control state in a generation that a host's own firmware wrote, by generation number: its pages have a layout of that
firmware's (R331). Assumption log entry 25, DESIGN CHOICE, safe. -/
opaque genCtl (num : Nat) : Machine.Ctl

/-- The change that a journal entry spells which a host's own firmware appended, by its number (R334). Assumption log entry 25, DESIGN CHOICE, safe. -/
opaque entryChange (seq : Nat) : Machine.Change

end Sys2Proof.Config
end

