-- ==== Sys2Proof/Machine/EngState.lean ====
section
/-! DEFINITION. The state of a VSI engine: a Weaver thread or a Reeve (Tables 9.1 and 9.2, R238, R270). -/
namespace Sys2Proof.Machine

/-- Where a result goes: a register, a predicate, or bits of the window. -/
inductive Dest where
  | reg (r : Nat)
  | pred (p : Nat)
  | win (pos len : Nat)
  deriving DecidableEq, Repr

/-- A result in flight (R257): the cycle from which it is visible, and its value, or the shared word that a load returns as it
then stands (byte offset in the shared region and bytes, R269). -/
structure Flight where
  at_ : Nat
  dest : Dest
  val : Nat
  shared : Option (Nat × Nat)
  deriving DecidableEq, Repr

/-- What a stalled Reeve waits for (R272, R273, R275, R276). -/
inductive Stall where
  /-- A bus access: destination of a load, address, data of a store, and whether it has 64 bits. -/
  | bus (rd : Option Nat) (addr : Nat) (data : Nat) (double : Bool)
  /-- ckpt operation `f`, its destination, and g[ra] and g[rb] at issue. -/
  | ckpt (f rd a b : Nat)
  /-- pwr function `f` on a unit. -/
  | pwr (f rd unit : Nat)
  | await (rd : Nat)
  deriving DecidableEq, Repr

/-- The side-band of the present beat (R230). -/
structure Side where
  first : Nat
  row : Nat
  col : Nat
  pos : Nat
  state : Nat
  epoch : Nat
  deriving DecidableEq, Repr

/-- A handler of a thread's run: channel, slot and first bundle. -/
structure Handler where
  chan : Nat
  slot : Nat
  entry : Nat
  deriving DecidableEq, Repr

/-- A VSI engine. -/
structure Eng where
  /-- g1 to g31; an unlisted register holds 0. Bundle index; predicates as bits, p0 being 1 whatever bit 0 holds. -/
  g : Tab Nat
  pc : Nat
  p : Nat
  /-- lc0 to lc3; active reps, innermost first, as first and last bundle of the body (R261); return stack, top first. -/
  lc : List Nat
  loops : List (Nat × Nat)
  rs : List Nat
  /-- Cycles issued, and the results in flight. -/
  cycle : Nat
  due : List Flight
  /-- Window and side-band (R264, R265). -/
  w : Nat
  sb : Side
  /-- A run is in progress; bundles it has used; its handlers, the running one first; init and detach entries for the next
  run of a service thread (R232). -/
  running : Bool
  used : Nat
  todo : List Handler
  extra : List Handler
  /-- Halted by the Lantern (R263); let go for one bundle (R391); a reset in progress (R250). -/
  halted : Bool
  step : Bool
  resetting : Bool
  /-- A Reeve's stall, and whether it began in the present bundle. -/
  stall : Option Stall
  stallNew : Bool
  /-- Ports FLOW and GRNE: results issued and not due, results due and not collected, a result lost (R270); the current
  packet with the bytes already written; open packet handles of GRNI (R271). -/
  flowIss : List Nat
  flowHeld : List Nat
  flowLost : Bool
  grneIss : List (Nat × Option Nat)
  grneHeld : List (Nat × Option Nat)
  grneLost : Bool
  cur : Option (Nat × Nat)
  handles : List (Nat × Nat)
  /-- Control registers of a Reeve (R238, R273 to R275), that it runs firmware of the host's own
  (R239), and its frame entry. -/
  alarm : Option Nat
  mask : Nat
  events : Nat
  fault : Nat
  qos : Nat
  own : Bool
  frameEntry : Nat
  deriving DecidableEq, Repr

/-- An engine after reset. -/
def Eng.init : Eng :=
  { g := [], pc := 0, p := 0, lc := [0, 0, 0, 0], loops := [], rs := [], cycle := 0, due := [], w := 0,
    sb := ⟨0, 0, 0, 0, 0, 0⟩, running := false, used := 0, todo := [], extra := [], halted := false, step := false, resetting := false,
    stall := none, stallNew := false, flowIss := [], flowHeld := [], flowLost := false, grneIss := [], grneHeld := [],
    grneLost := false, cur := none, handles := [], alarm := none, mask := 0, events := 0, fault := 0, qos := 8, own := false, frameEntry := 0 }

/-- A shared-region store on its way (R269): Weaver, thread, cycle of that thread from which it is seen, byte offset, bytes,
value. -/
structure SharedStore where
  q : Nat
  t : Nat
  at_ : Nat
  addr : Nat
  len : Nat
  val : Nat
  deriving DecidableEq, Repr

end Sys2Proof.Machine
end

