-- ==== Sys2Proof/Machine/LaneState.lean ====
section
/-! DEFINITION. What a serial lane holds beside its registers: the shell's hidden state (chapter 2), the alignment
searches (chapter 3) and the VTF framing units (chapter 4). -/
namespace Sys2Proof.Machine

/-- One set of receiver coefficients: the LANE_RX_EQ word (CTLE, VGA, DFE) and the 32 FFE taps (R40, R47). -/
structure Coeffs where
  eq : W32
  taps : List Nat
  deriving DecidableEq, Repr

/-- The TX FIR set and swing in force (R30): the six taps and the swing code. -/
structure Fir where
  pre2 : Int
  pre1 : Int
  main : Nat
  post1 : Int
  post2 : Int
  post3 : Int
  swing : Nat
  deriving DecidableEq, Repr

/-- A lane state transition of Table 2.3 that has begun and not ended. -/
inductive Move where
  | none | toQuiet | toDormant | fromQuiet | fromDormant
  deriving DecidableEq, Repr

/-- The receiver's way out of DORMANT (R47). -/
inductive WakeForm where
  | none
  /-- Waiting for the quad LC-PLL. -/
  | pll
  /-- Running the wake form of calibration step `n` (1, 5 or 6). -/
  | trim (n : Nat)
  /-- A restored set is acquiring; 1.5 ms without TRACK falls back. -/
  | restored
  /-- Full adaptation from the presets. -/
  | full
  deriving DecidableEq, Repr

/-- The shell's hidden state of one lane. -/
structure LaneX where
  /-- Line rate in 2^-16 b/s, as LANE_RATE named it; 0 while disabled (R34). -/
  rate : Nat
  /-- Lanes in the lane's channel (R13). -/
  width : Nat
  /-- The FEC unit's code in force, as its control word: code in bits 1 to 0, transcoding in bit 2 (R18). -/
  fec : Nat
  /-- A transition of Table 2.3 in progress. -/
  move : Move
  /-- The step that has failed since the last CAL began, 0 = none (R36): the last failed step that cal_step shows outside CAL. -/
  calFails : Nat
  /-- CAL or a DORMANT exit waits for the quad LC-PLL to lock (R53). -/
  pllWait : Bool
  /-- The DORMANT exit in progress (R47). -/
  wake : WakeForm
  /-- A wake-form trim missed its target, so the exit adapts fully (R47). -/
  wakeMiss : Bool
  /-- TRACK reached since the last CAL began (R47). -/
  tracked : Bool
  /-- The receiver is stopped by a fence (R49). -/
  rxStopped : Bool
  /-- A lane_reset is in progress (R49). -/
  resetting : Bool
  /-- Consecutive LOL windows with the phase detector beyond its bound (R44). -/
  pdBad : Nat
  /-- Consecutive LOL windows within the clear threshold (R44). -/
  lolGood : Nat
  /-- Consecutive density windows of at least 32 transitions since a freeze (R38). -/
  densGood : Nat
  /-- For each period of 1 to 8 words, how many words in a row have repeated with it (R39). -/
  patRuns : List Nat
  /-- The period that froze adaptation, and the words in a row that have broken it since (R39). -/
  patPeriod : Nat
  patBreak : Nat
  /-- The last eight word signatures, newest first (R39). -/
  patSigs : List Nat
  /-- Something in the present verification window forbids a snapshot (R40). -/
  windowBad : Bool
  /-- LANE_RX_EQ as the snapshot holds it (R40). -/
  snapEq : W32
  /-- The set stored for a DORMANT exit (R47). -/
  stored : Option Coeffs
  /-- Envelope checks made, and the checks within the last second at which a revert took place (R41, R42). -/
  envTick : Nat
  reverts : List Nat
  /-- Register writes stored while DORMANT, oldest first (R48). -/
  writes : List (Nat × W32)
  /-- FIR set and swing in force (R30). -/
  fir : Fir
  /-- Words waiting in the RX dual-clock queue, oldest first, each with the mark of a late arrival (R22, R23). -/
  rxQueue : List (Nat × Bool)
  /-- The received 512-bit blocks released into CLK_CORE and not yet taken by a beat, oldest first. -/
  beats : List Nat
  /-- An eye scan is in progress (R46). -/
  scanning : Bool
  /-- The driver holds the TX at electrical idle for a reason outside the lane's own state (R21). -/
  txOff : Bool
  deriving DecidableEq, Repr

/-- A lane after reset. -/
def LaneX.init : LaneX :=
  { rate := 0, width := 1, fec := 0, move := .none, calFails := 0, pllWait := false, wake := .none, wakeMiss := false,
    tracked := false, rxStopped := false, resetting := false, pdBad := 0, lolGood := 0, densGood := 0, patRuns := [],
    patPeriod := 0, patBreak := 0, patSigs := [], windowBad := false, snapEq := 0, stored := none, envTick := 0,
    reverts := [], writes := [], fir := ⟨0, 0, 0, 0, 0, 0, 0⟩, rxQueue := [], beats := [], scanning := false,
    txOff := false }

/-- Where the steward's bit-slip search on a lane stands (R60). -/
inductive Search where
  | idle
  /-- Awaiting a pattern, within 10 ms; `slipped` after slips, when running out is not reported. -/
  | await (slipped : Bool)
  /-- The steward has this many slips still to write. -/
  | slips (left : Nat)
  /-- `k` confirming reads were good. -/
  | confirm (k : Nat)
  /-- Reported aligned; `bad` of the latest reads in a row showed a pattern off the boundary. -/
  | aligned (bad : Nat)
  deriving DecidableEq, Repr

/-- The alignment searches and the PRBS checker of one lane (chapter 3, R114). -/
structure AlignX where
  /-- RS codeword search: candidate boundary, good codewords at it, bad codewords in a row while locked (R55). -/
  cwCand : Nat
  cwGood : Nat
  cwBad : Nat
  cwLock : Bool
  /-- Block lock: candidate boundary, valid headers at it, headers and invalid headers of the window (R56). -/
  blCand : Nat
  blGood : Nat
  blSeen : Nat
  blBad : Nat
  blLock : Bool
  /-- Ethernet alignment-marker lock and hi_ber (R114). -/
  amLock : Bool
  hiBer : Bool
  /-- The bit-slip search (R60). -/
  search : Search
  /-- The far-end loop's queue is centred and retransmits (R64). -/
  farEnd : Bool
  /-- PRBS checker: matching bits in a row while seeding (R68). -/
  chkRun : Nat
  deriving DecidableEq, Repr

/-- The searches after reset. -/
def AlignX.init : AlignX :=
  { cwCand := 0, cwGood := 0, cwBad := 0, cwLock := false, blCand := 0, blGood := 0, blSeen := 0, blBad := 0,
    blLock := false, amLock := false, hiBer := false, search := .idle, farEnd := false, chkRun := 0 }

/-- A frame position (R72). -/
structure FramePos where
  sfn : Nat
  subframe : Nat
  frameNo : Nat
  deriving DecidableEq, Repr

/-- The successor of a frame position (R92). -/
def FramePos.succ (p : FramePos) : FramePos :=
  if p.frameNo ≠ 399 then { p with frameNo := p.frameNo + 1 }
  else if p.subframe ≠ 9 then { p with frameNo := 0, subframe := p.subframe + 1 }
  else { sfn := (p.sfn + 1) % 1024, subframe := 0, frameNo := 0 }

/-- The frame position of absolute frame number `g` (R72). -/
def FramePos.ofG (g : Nat) : FramePos :=
  { sfn := g / 4000 % 1024, subframe := g / 400 % 10, frameNo := g % 400 }

/-- A candidate of the frame search (R92): its count, the block index it expects next, the last frame position seen. -/
structure Cand where
  count : Nat
  next : Nat
  pos : FramePos
  deriving DecidableEq, Repr

/-- A delay request received on a lane and not yet answered (R87). -/
structure DlyReq where
  seq : Nat
  tRx : Nat
  deriving DecidableEq, Repr

/-- The framing units and the VTF program's state on one lane (chapter 4). -/
structure VtfX where
  /-- Frame alignment: the block index at which the next FAS is expected (R94), `none` in HUNT. -/
  fasAt : Option Nat
  /-- Errored FAS blocks in a row (R95). -/
  fasBad : Nat
  /-- Candidates, or shadow candidates while aligned (R92, R95). -/
  cands : List Cand
  /-- MF_SYNC, with the expected position of the next frame; in MF_HUNT the position of the last valid FIW (R96). -/
  mfSync : Bool
  expect : FramePos
  lastFiw : Option FramePos
  mfBad : Nat
  /-- The receiver's pending calendar switch: frames until the target frame 0, and the copy (R89). -/
  calTarget : Option Nat
  /-- The last valid FIW's fields that the checks use (R98, R101). -/
  fiwNode : Nat
  fiwLane : Nat
  fiwBonded : Bool
  fiwRate : Nat
  fiwSundial : Bool
  /-- The present received frame is a calibration frame (R109). -/
  rxCal : Bool
  /-- A mismatch seen in the latest valid FIW: rate (dPLM), node or lane (dTIM), calendar (dPLM) (R98, R89). -/
  rateMis : Bool
  idMis : Bool
  calMis : Bool
  /-- BIP-8 of the last received frame's payload, when there is one to check (R82). -/
  rxBip : Option Nat
  /-- Violations of the last check, to be sent as REI (R82); `none` when no check since the last frame sent. -/
  rei : Option Nat
  /-- Violations of the last frame checked, and that a frame was checked since UNIT 3 was last read (Table 10.11). -/
  lastViol : Nat
  checked : Bool
  /-- Last received rei, rdi and ais (R82). -/
  rxRei : Nat
  rxRdi : Bool
  rxAis : Bool
  /-- Arrival of the last frame's FAS at the RX reference point less LANE_DLY_RX, in 2^-16 ns (R86, R101). -/
  tRx : Nat
  /-- BIP-8 of the payload last sent (R82). -/
  txBip : Nat
  /-- DLY_REQ sent: count, and the reference instants of those not yet answered, by sequence (R86, R294). -/
  dlySeq : Nat
  dlySent : List (Nat × Nat)
  /-- The most recent unanswered DLY_REQ, and the one before it that it may not yet replace in frame 200 (R87). -/
  dlyReqs : List DlyReq
  /-- MCC transmit: cell number, wraps of the sfn since the key epoch took effect, the epoch last sent under, the message
  bytes not yet sent (R104, R106). -/
  mccSeq : Nat
  mccWrap : Nat
  mccEpoch : Option Nat
  mccTx : List Nat
  mccStart : Bool
  /-- MCC receive: the next epoch that an accepted cell has made current here, the last accepted cell's replay key (R107), and
  the message being assembled (R108). -/
  mccRxEpoch : Option Nat
  mccLast : Option (List Nat)
  mccRxSeq : Option Nat
  mccRx : Option (List Nat)
  /-- 32-bit wrapping counts of Table 4.15. -/
  candOvf : Nat
  mccCrcErr : Nat
  mccAuthErr : Nat
  mccReplay : Nat
  mccMsgErr : Nat
  /-- Payload words to be sent in the next frame, keyed by 256 × row + column (R71, R150). -/
  txPayload : Tab Nat
  /-- Differences of the last 16 calibration frames and the capture bias, in 2^-16 ns (R295). -/
  calDiffs : List Int
  bias : Int
  deriving DecidableEq, Repr

/-- The framing units after reset. -/
def VtfX.init : VtfX :=
  { fasAt := none, fasBad := 0, cands := [], mfSync := false, expect := ⟨0, 0, 0⟩, lastFiw := none, mfBad := 0,
    calTarget := none, fiwNode := 0, fiwLane := 0, fiwBonded := false, fiwRate := 0, fiwSundial := false, rxCal := false,
    rateMis := false, idMis := false, calMis := false, rxBip := none, rei := none, lastViol := 0, checked := false, rxRei := 0, rxRdi := false,
    rxAis := false, tRx := 0, txBip := 0, dlySeq := 0, dlySent := [], dlyReqs := [], mccSeq := 0, mccWrap := 0,
    mccEpoch := none, mccTx := [], mccStart := false, mccRxEpoch := none, mccLast := none, mccRxSeq := none, mccRx := none, candOvf := 0,
    mccCrcErr := 0, mccAuthErr := 0, mccReplay := 0, mccMsgErr := 0, txPayload := [], calDiffs := [], bias := 0 }

end Sys2Proof.Machine
end

