-- ==== Sys2Proof/Machine/NetState.lean ====
section
/-! DEFINITION. What the part holds beside its registers for client channels, calendars, tributaries, the Granary, the
Weaver FIFOs, protection groups and the Bell Tower (chapters 5, 6, 8, 11 and 12). -/
namespace Sys2Proof.Machine

/-- An Ethernet frame on its way, from the destination address, without FCS (R115). -/
structure Frame where
  bytes : List Nat
  express : Bool
  /-- Sent with an inverted FCS (R116). -/
  bad : Bool
  deriving DecidableEq, Repr

/-- An insert item that has been taken from the insert FIFO (Table 5.5). -/
structure Insert where
  oneStep : Bool
  twoStep : Bool
  tag : Nat
  bytes : List Nat
  deriving DecidableEq, Repr

/-- The state of a channel's calendars and client units. -/
structure ChanX where
  /-- Copies in force (R164) and generations of the TX copies (R166). -/
  txSel : Nat
  rxSel : Nat
  genA : Nat
  genB : Nat
  /-- A scheduled TX switch: the absolute number of its frame 0 and the countdown in multiframes (R169). -/
  switchAt : Option Nat
  switchAnn : Nat
  /-- Advertisement comparison: consecutive good matching segments of copies A and B (R168, R179). -/
  advRunA : Nat
  advRunB : Nat
  /-- APS: the group sent last in the rotation, and groups whose changed word is still to be sent, oldest first, with the
  frames left (R313). -/
  apsLast : Nat
  apsNew : List (Nat × Nat)
  /-- A preempted frame set aside with the bytes already sent (R120). -/
  txHeld : Option (Frame × Nat)
  /-- A preemptable frame being reassembled: bytes so far, its SMD frame count and the next fragment count (R119). -/
  rxFrag : Option (List Nat × Nat × Nat)
  /-- Verify mPackets sent and not answered (R120). -/
  verifies : Nat
  /-- Insert items waiting for a frame boundary (R130), and items of a pair waiting for the multiframe boundary (R131). -/
  inserts : List Insert
  /-- ESMC: the QL last sent, an information PDU owed since the last tick, and the times of the PDUs of the last second,
  in 2^-16 ns, newest first (R133). -/
  esmcSent : Nat
  esmcInfo : Bool
  esmcTimes : List Nat
  /-- CPRI: good hyperframes in a row, errored ones in a row, HFN of the previous one, and per bit of Z.130.0 its value
  and run (R137, R138). -/
  hfGood : Nat
  hfBad : Nat
  hfPrev : Nat
  l1Run : List (Nat × Nat)
  deriving DecidableEq, Repr

/-- A channel after reset. -/
def ChanX.init : ChanX :=
  { txSel := 0, rxSel := 0, genA := 0, genB := 0, switchAt := none, switchAnn := 0, advRunA := 0, advRunB := 0,
    apsLast := 0, apsNew := [], txHeld := none, rxFrag := none, verifies := 0,
    inserts := [], esmcSent := 0, esmcInfo := false, esmcTimes := [], hfGood := 0, hfBad := 0,
    hfPrev := 0, l1Run := [(0, 0), (0, 0), (0, 0), (0, 0), (0, 0)] }

/-- A sheaf packet in reassembly (R159, R161): header fields, bytes received and data blocks still to come. -/
structure Sheaf where
  flow : Nat
  len : Nat
  deadline : Nat
  late : Bool
  err : Bool
  ct : Bool
  cls : Nat
  bytes : List Nat
  left : Nat
  deriving DecidableEq, Repr

/-- The end of a tributary on one channel: its mapper, its demapper and its sheaf units (R142, R149 to R161). W* and its
increments are in 1/256 word. -/
structure EndX where
  /-- Mapper: words placed since the last recentre, W* at that recentre, the frame of a recentre in hand, age in 20 ns,
  csf sent, and the words waiting to be placed, oldest first. -/
  sent : Nat
  base : Nat
  recentreAt : Option Nat
  age : Int
  csf : Bool
  /-- The frame at which csf became 1 at a source, with W at that instant (R183). -/
  csfAt : Option (Nat × Nat)
  words : List Nat
  /-- Demapper: good THs of the last 256 frames since the last recentre, newest first, as frame and W*; words taken; good
  and bad THs in a row. -/
  hist : List (Nat × Nat)
  recvd : Nat
  goodRun : Nat
  badRun : Nat
  /-- The last TH: 0 good, 1 errored, 2 mismatched, 3 none yet; its count, phase, age and csf. -/
  thKind : Nat
  thCnt : Nat
  thPhase : Nat
  thAge : Int
  thCsf : Bool
  /-- Link delay at the last recentre in ns (Table 6.4). -/
  link : Nat
  /-- Words taken and not yet delivered: index, word, usable (R308). -/
  buf : List (Nat × Nat × Bool)
  /-- Frames of replacement content left in a recentre, E in force and the largest natural delay seen, in ns (R156). -/
  recentring : Nat
  eNs : Nat
  natural : Nat
  /-- The next word to leave the client ball (R156). -/
  nextWord : Nat
  /-- Sheaf transmitter: blocks waiting to be sent, with a mark on each header (R158). -/
  txBlocks : List (Nat × Bool)
  /-- Sheaf receiver: SH_SYNC, the packet in progress, a status block due (R161). -/
  sync : Bool
  pkt : Option Sheaf
  status : Bool
  deriving DecidableEq, Repr

/-- An end before anything has passed it. -/
def EndX.init : EndX :=
  { sent := 0, base := 0, recentreAt := none, age := 0, csf := false, csfAt := none, words := [], hist := [], recvd := 0, goodRun := 0,
    badRun := 0, thKind := 3, thCnt := 0, thPhase := 0, thAge := 0, thCsf := false, link := 0, buf := [],
    recentring := 0, eNs := 0, natural := 0, nextWord := 0, txBlocks := [], sync := false, pkt := none,
    status := false }

/-- An end of a tributary in the cross-connect: words in flight and words delivered and not yet taken (R172). -/
structure XcEnd where
  flight : List Nat
  held : List Nat
  deriving DecidableEq, Repr

def XcEnd.init : XcEnd := { flight := [], held := [] }

/-- A packet in the Granary (R199, R214). -/
structure Packet where
  id : Nat
  queue : Nat
  /-- Packet bytes written so far, and the banks of its cells in order. -/
  bytes : List Nat
  cells : List Nat
  /-- The length announced for a cut-through packet (R160). -/
  len : Nat
  sendBy : Nat
  carried : Option Nat
  late : Bool
  err : Bool
  ct : Bool
  /-- It has joined its queue, at this time in ns and in this order; all its bytes are written; it is departing. -/
  joined : Bool
  joinedAt : Nat
  order : Nat
  whole : Bool
  /-- Chosen by an egress; its first block has left the Weaver (R223, R271). -/
  departing : Bool
  begun : Bool
  /-- Receiving channel, and the instant in ns from which the budget runs (R216). -/
  channel : Nat
  arrival : Nat
  deriving DecidableEq, Repr

/-- An entry of a bank's repair tracker (R205): logical row, position of its last corrected bit as 128 × word + bit, the scrub
pass in which a scrub last found it (0 when none did), and whether the row has qualified. -/
structure Track where
  row : Nat
  pos : Nat
  pass : Nat
  qualified : Bool
  deriving DecidableEq, Repr

/-- A bank of the Granary beside GRN_BANK_b. -/
structure BankX where
  /-- The next physical row that the scrub reads and the number of the pass, from 1 (R203). -/
  scrubRow : Nat
  pass : Nat
  /-- The repair tracker, oldest first (R205), and the repair map: logical row and spare row `k` in use (R206). -/
  tracker : List Track
  map : List (Nat × Nat)
  /-- A row copied and to be remapped at the next frame: logical row, spare, frame of the copy (R206). -/
  copy : Option (Nat × Nat × Nat)
  /-- Times of the UEs and AEs of the last second, in ns (R209). -/
  ueTimes : List Nat
  /-- Retirement asked for with a cause and not yet begun; the frame at which DRAIN began; DRAIN ends in GATED (R209, R212). -/
  asked : Nat
  drainFrom : Nat
  gate : Bool
  /-- A march test runs: 1 of bank_reset, 2 of a retest (R210, R226). -/
  march : Nat
  /-- Named by the REPAIR_SCAN in progress; its pass has not ended; rows qualified in it (R226). -/
  named : Bool
  scanning : Bool
  scanRows : Nat
  deriving DecidableEq, Repr

def BankX.init : BankX :=
  { scrubRow := 0, pass := 1, tracker := [], map := [], copy := none, ueTimes := [], asked := 0, drainFrom := 0, gate := false,
    march := 0, named := false, scanning := false, scanRows := 0 }

/-- One copy of the repair record in the Ledger (R207): its sequence number, and for each bank that is RETIRED or has spares in
use its retire_cause (0 when it is not RETIRED) and its repair map. -/
structure RepairRec where
  seq : Nat
  banks : List (Nat × Nat × List (Nat × Nat))
  deriving DecidableEq, Repr

/-- A FIFO of a Weaver (R251, R365, R366): its words, oldest first, the last word read or written, the words of an item
still to arrive and whether they are discarded, and whether the discard follows a flush. -/
structure Fifo where
  words : List W32
  last : W32
  left : Nat
  drop : Bool
  flushed : Bool
  deriving DecidableEq, Repr

def Fifo.init : Fifo := { words := [], last := 0, left := 0, drop := false, flushed := false }

/-- A reference candidate beside its registers (R278 to R284). -/
structure RefX where
  /-- First qualification after en was set is still to come, for frequency and for time; updates in a row beyond hard, and
  beyond the consensus bound; the time ability's state (as the frequency state's codes), its observations or seconds out of
  bound in a row. -/
  first : Bool
  timeFirst : Bool
  hardRun : Nat
  consRun : Nat
  timeState : Nat
  timeBad : Nat
  deriving DecidableEq, Repr

def RefX.init : RefX :=
  { first := false, timeFirst := false, hardRun := 0, consRun := 0, timeState := 0, timeBad := 0 }

/-- A slew of DPLL1 in progress (R297): what is left of it in 2^-16 ns, its rate, the fraction of 2^-16 ns carried over in 10^-9
of it, and the command that asked for it. -/
structure Slew where
  left : Int
  ppb : Nat
  acc : Nat
  head : CmdHead
  deriving DecidableEq, Repr

/-- The Bell Tower beside its registers. -/
structure BellX where
  /-- CLK_BELL runs on its backup (R292); DPLLs whose reset is in progress; seconds that each DPLL has spent in HOLDOVER, counted
  at the ticks. -/
  backup : Bool
  resetting : List Nat
  holdSec : List Nat
  /-- Timing fields: hops sent last while locked, and of the last valid TIME message its hops and time_trace; the QL that
  the active sends over the twin link (R280, R281). -/
  hops : Nat
  rxHops : Nat
  rxTrace : Bool
  twinQl : Nat
  /-- The source that DPLL1 last locked to (31 none). -/
  src1 : Nat
  /-- Path delay: accepted measurements of the VTF source lane, newest first, up to 16, in 2^-16 ns, and rejections in a
  row (R294); the filtered offset θ. -/
  delays : List Int
  rejects : Nat
  theta : Int
  /-- HOST mode frequency relative to DPLL0 in 2^-16 ppb with the fraction of 2^-16 ns carried over, the slew in progress, a
  TIME_SET that waits for the tick with its command (R297). -/
  hostFreq : Int
  freqAcc : Int
  slew : Option Slew
  setSec : Option (Nat × CmdHead)
  /-- PPS inputs: last 8 intervals of each, newest first, and the last edge of each, in 2^-16 ns (R300); a time-of-day message
  that names the next edge of PPS_IN0 (R302); the whole second that the last edge of each marks (R293); settings of the pulse
  outputs in force, as BELL_PPS_CFG_k and BELL_PPS_OFS_k, where a later write is not yet in force, with the time of that
  write (R300). -/
  pps0 : List Nat
  pps1 : List Nat
  edge0 : Option Nat
  edge1 : Option Nat
  /-- The instant that the next output pulse placed by each input follows: its last edge, or while edges are missing the instant
  at which the last one missing was due (R300). -/
  base0 : Option Nat
  base1 : Option Nat
  tod : Option Nat
  sec0 : Nat
  sec1 : Nat
  ppsOld : Tab (Option (Nat × Nat × Nat))
  /-- TIME message QL of VTF lanes: the ql of the latest valid TC3, by lane (R280). -/
  laneQl : Tab Nat
  /-- Time stepped since the previous tick (Table 7.9). -/
  stepped : Bool
  deriving DecidableEq, Repr

def BellX.init : BellX :=
  { backup := false, resetting := [], holdSec := [0, 0, 0, 0], hops := 255, rxHops := 0, rxTrace := false, twinQl := 0, src1 := 31,
    delays := [], rejects := 0, theta := 0, hostFreq := 0, freqAcc := 0, slew := none, setSec := none, pps0 := [], pps1 := [],
    edge0 := none, edge1 := none, base0 := none, base1 := none, tod := none, sec0 := 0, sec1 := 0, ppsOld := [], laneQl := [],
    stepped := false }

/-- A tick whose snapshot image is still to be written (R189): its header fields and the counters of its groups. -/
structure Tick where
  groups : Nat
  seq : Nat
  time : Nat
  flags : Nat
  counts : List Nat
  deriving DecidableEq, Repr

/-- An INJECT_ARM that waits for its start boundary (R192): its command, injector mask and frame. -/
structure Arm where
  head : CmdHead
  mask : Nat
  at_ : Nat
  deriving DecidableEq, Repr

/-- The snapshot engine: the number of the next tick, images due, oldest first, ticks missed since the last written image, and
the high word held by a read of a shadow's low word, with its index (R188 to R191); injectors armed and not yet started. -/
structure TallyX where
  seq : Nat
  due : List Tick
  missed : Nat
  hold : Option (Nat × Nat)
  arms : List Arm
  deriving DecidableEq, Repr

def TallyX.init : TallyX := { seq := 0, due := [], missed := 0, hold := none, arms := [] }

/-- An injector beside its registers (R192 to R195): the events so far, the units that the
last event still has to affect, and what a reorder window holds, in arrival order: sheaf blocks toward a channel, and
packets received on one with the instant and the error mark. -/
structure InjX where
  events : Nat
  left : Nat
  heldTx : List (Nat × List (Nat × Bool))
  heldRx : List (Nat × Nat × Sheaf × Bool)
  deriving DecidableEq, Repr

def InjX.init : InjX := { events := 0, left := 0, heldTx := [], heldRx := [] }

/-- One entry of a symmetric key slot: key epoch and key (R384). -/
structure KeyEntry where
  epoch : Nat
  key : Nat
  deriving DecidableEq, Repr

/-- A symmetric key slot of the Gatehouse: its current and next entries (R384). -/
structure KeySlot where
  cur : Option KeyEntry
  next : Option KeyEntry
  deriving DecidableEq, Repr

def KeySlot.init : KeySlot := { cur := none, next := none }

/-- BIP-8 windows of a lane (R180): the count, the window is complete so far, and the runs of windows at or above and at
or below the thresholds. -/
structure BipX where
  count : Nat
  whole : Bool
  sfRun : Nat
  sdRun : Nat
  sfLow : Nat
  sdLow : Nat
  /-- dSF and dSD of the lane; the channel's are the OR over its lanes. -/
  sf : Bool
  sd : Bool
  deriving DecidableEq, Repr

def BipX.init : BipX :=
  { count := 0, whole := false, sfRun := 0, sdRun := 0, sfLow := 0, sdLow := 0, sf := false, sd := false }

end Sys2Proof.Machine
end

