-- ==== Sys2Proof/Machine/RegMap.lean ====
section
/-! DEFINITION. The register map: every register that a table of the spec lays out, with its address, its fields and
their access codes (R8). Each field has a handle `R.<REGISTER>.<field>`, named as the spec names it; register values
outside the table (offsets no chapter defines) read 0 and discard writes (R358). -/
namespace Sys2Proof.Machine

/-- How software may use a field (R8). -/
inductive Access where
  | ro | rw | live | latch | once | go
  deriving DecidableEq, Repr

/-- A field of a register, or of each register of a row of like registers: register `i` lies at `base + i * stride`. -/
structure Fld where
  base : Nat
  stride : Nat
  lo : Nat
  w : Nat
  deriving DecidableEq, Repr

/-- The internal address of register `i` of the field's row. -/
def Fld.addr (f : Fld) (i : Nat) : Nat := f.base + i * f.stride

/-- A row of like registers: register `(i, j)` lies at `base + i * s1 + j * s2`, `i < c1`, `j < c2`. -/
structure RegDef where
  base : Nat
  s1 : Nat
  c1 : Nat
  s2 : Nat
  c2 : Nat
  fields : List (Nat × Nat × Access)
  deriving DecidableEq, Repr

/-- The indices of address `a` in the row, when it names one of its registers. -/
def RegDef.index (r : RegDef) (a : Nat) : Option (Nat × Nat) :=
  if a < r.base then none
  else
    let off := a - r.base
    let i := off / r.s1
    let j := off % r.s1 / r.s2
    if i < r.c1 ∧ j < r.c2 ∧ off % r.s1 % r.s2 = 0 then some (i, j) else none

/-- The mask of the fields of one access code. -/
def RegDef.mask (r : RegDef) (k : Access) : Nat :=
  r.fields.foldl (fun m f => if f.2.2 = k then m + (2 ^ f.2.1 - 1) * 2 ^ f.1 else m) 0

/-! `GLB_ID`, Part identification (00_scope.md). -/
/-- `GLB_ID.member`, ro. -/
def R.GLB_ID.member : Fld := ⟨0x0, 0x0, 0, 8⟩
/-- `GLB_ID.family`, ro. -/
def R.GLB_ID.family : Fld := ⟨0x0, 0x0, 8, 8⟩
/-- `GLB_ID.part_number`, ro. -/
def R.GLB_ID.part_number : Fld := ⟨0x0, 0x0, 16, 16⟩
/-- The register row `GLB_ID`. -/
def R.GLB_ID.row : RegDef :=
  ⟨0x0, 0x4, 1, 0x4, 1,
   [(0, 8, .ro), (8, 8, .ro), (16, 16, .ro)]⟩

/-! `GLB_REV`, Silicon and ROM revision (00_scope.md). -/
/-- `GLB_REV.metal_step`, ro. -/
def R.GLB_REV.metal_step : Fld := ⟨0x4, 0x0, 4, 4⟩
/-- `GLB_REV.base_step`, ro. -/
def R.GLB_REV.base_step : Fld := ⟨0x4, 0x0, 8, 4⟩
/-- `GLB_REV.rom_build`, ro. -/
def R.GLB_REV.rom_build : Fld := ⟨0x4, 0x0, 16, 16⟩
/-- The register row `GLB_REV`. -/
def R.GLB_REV.row : RegDef :=
  ⟨0x4, 0x4, 1, 0x4, 1,
   [(4, 4, .ro), (8, 4, .ro), (16, 16, .ro)]⟩

/-! `GLB_SERIAL_LO`, Die serial number, low word (00_scope.md). -/
/-- `GLB_SERIAL_LO.serial_lo`, ro. -/
def R.GLB_SERIAL_LO.serial_lo : Fld := ⟨0x8, 0x0, 0, 32⟩
/-- The register row `GLB_SERIAL_LO`. -/
def R.GLB_SERIAL_LO.row : RegDef :=
  ⟨0x8, 0x4, 1, 0x4, 1,
   [(0, 32, .ro)]⟩

/-! `GLB_SERIAL_HI`, Die serial number, high word (00_scope.md). -/
/-- `GLB_SERIAL_HI.serial_hi`, ro. -/
def R.GLB_SERIAL_HI.serial_hi : Fld := ⟨0xc, 0x0, 0, 32⟩
/-- The register row `GLB_SERIAL_HI`. -/
def R.GLB_SERIAL_HI.row : RegDef :=
  ⟨0xc, 0x4, 1, 0x4, 1,
   [(0, 32, .ro)]⟩

/-! `LANE_CTRL`, Lane control (02_lane_analogue.md). -/
/-- `LANE_CTRL.lane_reset`, go. -/
def R.LANE_CTRL.lane_reset : Fld := ⟨0x100000, 0x1000, 0, 1⟩
/-- `LANE_CTRL.fence_req`, go. -/
def R.LANE_CTRL.fence_req : Fld := ⟨0x100000, 0x1000, 1, 1⟩
/-- `LANE_CTRL.tx_inv`, rw. -/
def R.LANE_CTRL.tx_inv : Fld := ⟨0x100000, 0x1000, 2, 1⟩
/-- `LANE_CTRL.rx_inv`, rw. -/
def R.LANE_CTRL.rx_inv : Fld := ⟨0x100000, 0x1000, 3, 1⟩
/-- `LANE_CTRL.tx_squelch`, rw. -/
def R.LANE_CTRL.tx_squelch : Fld := ⟨0x100000, 0x1000, 4, 1⟩
/-- The register row `LANE_CTRL`. -/
def R.LANE_CTRL.row : RegDef :=
  ⟨0x100000, 0x1000, 96, 0x1000, 1,
   [(0, 1, .go), (1, 1, .go), (2, 1, .rw), (3, 1, .rw), (4, 1, .rw)]⟩

/-! `LANE_SPEED`, Rate, modulation and role (02_lane_analogue.md). -/
/-- `LANE_SPEED.rate_kbps`, ro. -/
def R.LANE_SPEED.rate_kbps : Fld := ⟨0x100004, 0x1000, 0, 27⟩
/-- `LANE_SPEED.pam4`, ro. -/
def R.LANE_SPEED.pam4 : Fld := ⟨0x100004, 0x1000, 27, 1⟩
/-- `LANE_SPEED.os`, ro. -/
def R.LANE_SPEED.os : Fld := ⟨0x100004, 0x1000, 28, 2⟩
/-- `LANE_SPEED.role`, ro. -/
def R.LANE_SPEED.role : Fld := ⟨0x100004, 0x1000, 30, 1⟩
/-- The register row `LANE_SPEED`. -/
def R.LANE_SPEED.row : RegDef :=
  ⟨0x100004, 0x1000, 96, 0x1000, 1,
   [(0, 27, .ro), (27, 1, .ro), (28, 2, .ro), (30, 1, .ro)]⟩

/-! `LANE_STATE`, Lane and receiver state (02_lane_analogue.md). -/
/-- `LANE_STATE.lane_state`, live. -/
def R.LANE_STATE.lane_state : Fld := ⟨0x100008, 0x1000, 0, 3⟩
/-- `LANE_STATE.rx_state`, live. -/
def R.LANE_STATE.rx_state : Fld := ⟨0x100008, 0x1000, 4, 2⟩
/-- `LANE_STATE.los`, live. -/
def R.LANE_STATE.los : Fld := ⟨0x100008, 0x1000, 8, 1⟩
/-- `LANE_STATE.lol`, live. -/
def R.LANE_STATE.lol : Fld := ⟨0x100008, 0x1000, 9, 1⟩
/-- `LANE_STATE.tx_locked`, live. -/
def R.LANE_STATE.tx_locked : Fld := ⟨0x100008, 0x1000, 10, 1⟩
/-- `LANE_STATE.lane_reset_done`, live. -/
def R.LANE_STATE.lane_reset_done : Fld := ⟨0x100008, 0x1000, 11, 1⟩
/-- `LANE_STATE.cal_step`, live. -/
def R.LANE_STATE.cal_step : Fld := ⟨0x100008, 0x1000, 12, 4⟩
/-- `LANE_STATE.fence_cause`, ro. -/
def R.LANE_STATE.fence_cause : Fld := ⟨0x100008, 0x1000, 16, 8⟩
/-- The register row `LANE_STATE`. -/
def R.LANE_STATE.row : RegDef :=
  ⟨0x100008, 0x1000, 96, 0x1000, 1,
   [(0, 3, .live), (4, 2, .live), (8, 1, .live), (9, 1, .live), (10, 1, .live), (11, 1, .live), (12, 4, .live), (16, 8, .ro)]⟩

/-! `LANE_EVENT`, Event latches (02_lane_analogue.md). -/
/-- `LANE_EVENT.los_on`, latch. -/
def R.LANE_EVENT.los_on : Fld := ⟨0x10000c, 0x1000, 0, 1⟩
/-- `LANE_EVENT.los_off`, latch. -/
def R.LANE_EVENT.los_off : Fld := ⟨0x10000c, 0x1000, 1, 1⟩
/-- `LANE_EVENT.lol_on`, latch. -/
def R.LANE_EVENT.lol_on : Fld := ⟨0x10000c, 0x1000, 2, 1⟩
/-- `LANE_EVENT.lol_off`, latch. -/
def R.LANE_EVENT.lol_off : Fld := ⟨0x10000c, 0x1000, 3, 1⟩
/-- `LANE_EVENT.track`, latch. -/
def R.LANE_EVENT.track : Fld := ⟨0x10000c, 0x1000, 4, 1⟩
/-- `LANE_EVENT.acq_timeout`, latch. -/
def R.LANE_EVENT.acq_timeout : Fld := ⟨0x10000c, 0x1000, 5, 1⟩
/-- `LANE_EVENT.adapt_revert`, latch. -/
def R.LANE_EVENT.adapt_revert : Fld := ⟨0x10000c, 0x1000, 6, 1⟩
/-- `LANE_EVENT.adapt_guard`, latch. -/
def R.LANE_EVENT.adapt_guard : Fld := ⟨0x10000c, 0x1000, 7, 1⟩
/-- `LANE_EVENT.cal_retry`, latch. -/
def R.LANE_EVENT.cal_retry : Fld := ⟨0x10000c, 0x1000, 8, 1⟩
/-- `LANE_EVENT.fence`, latch. -/
def R.LANE_EVENT.fence : Fld := ⟨0x10000c, 0x1000, 9, 1⟩
/-- `LANE_EVENT.fir_range_err`, latch. -/
def R.LANE_EVENT.fir_range_err : Fld := ⟨0x10000c, 0x1000, 10, 1⟩
/-- `LANE_EVENT.late_release`, latch. -/
def R.LANE_EVENT.late_release : Fld := ⟨0x10000c, 0x1000, 11, 1⟩
/-- `LANE_EVENT.eye_done`, latch. -/
def R.LANE_EVENT.eye_done : Fld := ⟨0x10000c, 0x1000, 12, 1⟩
/-- `LANE_EVENT.wake_fallback`, latch. -/
def R.LANE_EVENT.wake_fallback : Fld := ⟨0x10000c, 0x1000, 13, 1⟩
/-- The register row `LANE_EVENT`. -/
def R.LANE_EVENT.row : RegDef :=
  ⟨0x10000c, 0x1000, 96, 0x1000, 1,
   [(0, 1, .latch), (1, 1, .latch), (2, 1, .latch), (3, 1, .latch), (4, 1, .latch), (5, 1, .latch), (6, 1, .latch), (7, 1, .latch), (8, 1, .latch), (9, 1, .latch), (10, 1, .latch), (11, 1, .latch), (12, 1, .latch), (13, 1, .latch)]⟩

/-! `LANE_EVENT_EN`, Event forwarding enables (02_lane_analogue.md). -/
/-- `LANE_EVENT_EN.event_en`, rw. -/
def R.LANE_EVENT_EN.event_en : Fld := ⟨0x100010, 0x1000, 0, 14⟩
/-- The register row `LANE_EVENT_EN`. -/
def R.LANE_EVENT_EN.row : RegDef :=
  ⟨0x100010, 0x1000, 96, 0x1000, 1,
   [(0, 14, .rw)]⟩

/-! `LANE_TX_FIR_A`, TX FIR pre-taps and main tap (02_lane_analogue.md). -/
/-- `LANE_TX_FIR_A.pre2`, rw. -/
def R.LANE_TX_FIR_A.pre2 : Fld := ⟨0x100020, 0x1000, 0, 7⟩
/-- `LANE_TX_FIR_A.pre1`, rw. -/
def R.LANE_TX_FIR_A.pre1 : Fld := ⟨0x100020, 0x1000, 8, 7⟩
/-- `LANE_TX_FIR_A.main`, rw. -/
def R.LANE_TX_FIR_A.main : Fld := ⟨0x100020, 0x1000, 16, 6⟩
/-- The register row `LANE_TX_FIR_A`. -/
def R.LANE_TX_FIR_A.row : RegDef :=
  ⟨0x100020, 0x1000, 96, 0x1000, 1,
   [(0, 7, .rw), (8, 7, .rw), (16, 6, .rw)]⟩

/-! `LANE_TX_FIR_B`, TX FIR post-taps (02_lane_analogue.md). -/
/-- `LANE_TX_FIR_B.post1`, rw. -/
def R.LANE_TX_FIR_B.post1 : Fld := ⟨0x100024, 0x1000, 0, 7⟩
/-- `LANE_TX_FIR_B.post2`, rw. -/
def R.LANE_TX_FIR_B.post2 : Fld := ⟨0x100024, 0x1000, 8, 7⟩
/-- `LANE_TX_FIR_B.post3`, rw. -/
def R.LANE_TX_FIR_B.post3 : Fld := ⟨0x100024, 0x1000, 16, 7⟩
/-- The register row `LANE_TX_FIR_B`. -/
def R.LANE_TX_FIR_B.row : RegDef :=
  ⟨0x100024, 0x1000, 96, 0x1000, 1,
   [(0, 7, .rw), (8, 7, .rw), (16, 7, .rw)]⟩

/-! `LANE_TX_CFG`, TX swing and apply (02_lane_analogue.md). -/
/-- `LANE_TX_CFG.swing`, rw. -/
def R.LANE_TX_CFG.swing : Fld := ⟨0x100028, 0x1000, 0, 4⟩
/-- `LANE_TX_CFG.fir_apply`, go. -/
def R.LANE_TX_CFG.fir_apply : Fld := ⟨0x100028, 0x1000, 8, 1⟩
/-- `LANE_TX_CFG.fir_src`, ro. -/
def R.LANE_TX_CFG.fir_src : Fld := ⟨0x100028, 0x1000, 9, 1⟩
/-- The register row `LANE_TX_CFG`. -/
def R.LANE_TX_CFG.row : RegDef :=
  ⟨0x100028, 0x1000, 96, 0x1000, 1,
   [(0, 4, .rw), (8, 1, .go), (9, 1, .ro)]⟩

/-! `LANE_TX_PHASE`, TX phase adjustment (02_lane_analogue.md). -/
/-- `LANE_TX_PHASE.phase`, ro. -/
def R.LANE_TX_PHASE.phase : Fld := ⟨0x10002c, 0x1000, 0, 16⟩
/-- `LANE_TX_PHASE.servo_on`, live. -/
def R.LANE_TX_PHASE.servo_on : Fld := ⟨0x10002c, 0x1000, 16, 1⟩
/-- The register row `LANE_TX_PHASE`. -/
def R.LANE_TX_PHASE.row : RegDef :=
  ⟨0x10002c, 0x1000, 96, 0x1000, 1,
   [(0, 16, .ro), (16, 1, .live)]⟩

/-! `LANE_RX_CFG`, Receiver configuration (02_lane_analogue.md). -/
/-- `LANE_RX_CFG.cdr_bw`, rw. -/
def R.LANE_RX_CFG.cdr_bw : Fld := ⟨0x100040, 0x1000, 0, 2⟩
/-- `LANE_RX_CFG.cursor`, rw. -/
def R.LANE_RX_CFG.cursor : Fld := ⟨0x100040, 0x1000, 2, 5⟩
/-- `LANE_RX_CFG.ctle_adapt_en`, rw. -/
def R.LANE_RX_CFG.ctle_adapt_en : Fld := ⟨0x100040, 0x1000, 8, 1⟩
/-- `LANE_RX_CFG.ffe_adapt_en`, rw. -/
def R.LANE_RX_CFG.ffe_adapt_en : Fld := ⟨0x100040, 0x1000, 9, 1⟩
/-- `LANE_RX_CFG.dfe_adapt_en`, rw. -/
def R.LANE_RX_CFG.dfe_adapt_en : Fld := ⟨0x100040, 0x1000, 10, 1⟩
/-- `LANE_RX_CFG.vga_adapt_en`, rw. -/
def R.LANE_RX_CFG.vga_adapt_en : Fld := ⟨0x100040, 0x1000, 11, 1⟩
/-- `LANE_RX_CFG.ctle_start`, rw. -/
def R.LANE_RX_CFG.ctle_start : Fld := ⟨0x100040, 0x1000, 12, 4⟩
/-- The register row `LANE_RX_CFG`. -/
def R.LANE_RX_CFG.row : RegDef :=
  ⟨0x100040, 0x1000, 96, 0x1000, 1,
   [(0, 2, .rw), (2, 5, .rw), (8, 1, .rw), (9, 1, .rw), (10, 1, .rw), (11, 1, .rw), (12, 4, .rw)]⟩

/-! `LANE_RX_EQ`, CTLE, VGA and DFE state (02_lane_analogue.md). -/
/-- `LANE_RX_EQ.ctle`, ro. -/
def R.LANE_RX_EQ.ctle : Fld := ⟨0x100044, 0x1000, 0, 4⟩
/-- `LANE_RX_EQ.vga`, ro. -/
def R.LANE_RX_EQ.vga : Fld := ⟨0x100044, 0x1000, 4, 5⟩
/-- `LANE_RX_EQ.dfe`, ro. -/
def R.LANE_RX_EQ.dfe : Fld := ⟨0x100044, 0x1000, 16, 8⟩
/-- The register row `LANE_RX_EQ`. -/
def R.LANE_RX_EQ.row : RegDef :=
  ⟨0x100044, 0x1000, 96, 0x1000, 1,
   [(0, 4, .ro), (4, 5, .ro), (16, 8, .ro)]⟩

/-! `LANE_RX_FFE_k`, FFE tap k (02_lane_analogue.md). -/
/-- `LANE_RX_FFE_k.tap`, ro. -/
def R.LANE_RX_FFE_k.tap (i : Nat) : Fld := ⟨0x100080 + i * 0x1000, 0x4, 0, 10⟩
/-- `LANE_RX_FFE_k.snap`, ro. -/
def R.LANE_RX_FFE_k.snap (i : Nat) : Fld := ⟨0x100080 + i * 0x1000, 0x4, 16, 10⟩
/-- The register row `LANE_RX_FFE_k`. -/
def R.LANE_RX_FFE_k.row : RegDef :=
  ⟨0x100080, 0x1000, 96, 0x4, 32,
   [(0, 10, .ro), (16, 10, .ro)]⟩

/-! `LANE_ADAPT_CFG`, Adaptation guards (02_lane_analogue.md). -/
/-- `LANE_ADAPT_CFG.dens_gate_en`, rw. -/
def R.LANE_ADAPT_CFG.dens_gate_en : Fld := ⟨0x100100, 0x1000, 0, 1⟩
/-- `LANE_ADAPT_CFG.pat_gate_en`, rw. -/
def R.LANE_ADAPT_CFG.pat_gate_en : Fld := ⟨0x100100, 0x1000, 1, 1⟩
/-- `LANE_ADAPT_CFG.env_en`, rw. -/
def R.LANE_ADAPT_CFG.env_en : Fld := ⟨0x100100, 0x1000, 2, 1⟩
/-- `LANE_ADAPT_CFG.env_ffe`, rw. -/
def R.LANE_ADAPT_CFG.env_ffe : Fld := ⟨0x100100, 0x1000, 4, 4⟩
/-- `LANE_ADAPT_CFG.env_dfe`, rw. -/
def R.LANE_ADAPT_CFG.env_dfe : Fld := ⟨0x100100, 0x1000, 8, 4⟩
/-- `LANE_ADAPT_CFG.env_ctle`, rw. -/
def R.LANE_ADAPT_CFG.env_ctle : Fld := ⟨0x100100, 0x1000, 12, 2⟩
/-- `LANE_ADAPT_CFG.snap_ratio_k`, rw. -/
def R.LANE_ADAPT_CFG.snap_ratio_k : Fld := ⟨0x100100, 0x1000, 16, 5⟩
/-- `LANE_ADAPT_CFG.snap_win`, rw. -/
def R.LANE_ADAPT_CFG.snap_win : Fld := ⟨0x100100, 0x1000, 21, 5⟩
/-- `LANE_ADAPT_CFG.revert_max`, rw. -/
def R.LANE_ADAPT_CFG.revert_max : Fld := ⟨0x100100, 0x1000, 26, 4⟩
/-- `LANE_ADAPT_CFG.guard_release`, go. -/
def R.LANE_ADAPT_CFG.guard_release : Fld := ⟨0x100100, 0x1000, 30, 1⟩
/-- The register row `LANE_ADAPT_CFG`. -/
def R.LANE_ADAPT_CFG.row : RegDef :=
  ⟨0x100100, 0x1000, 96, 0x1000, 1,
   [(0, 1, .rw), (1, 1, .rw), (2, 1, .rw), (4, 4, .rw), (8, 4, .rw), (12, 2, .rw), (16, 5, .rw), (21, 5, .rw), (26, 4, .rw), (30, 1, .go)]⟩

/-! `LANE_ADAPT_STAT`, Adaptation guard status (02_lane_analogue.md). -/
/-- `LANE_ADAPT_STAT.dens_frozen`, live. -/
def R.LANE_ADAPT_STAT.dens_frozen : Fld := ⟨0x100104, 0x1000, 0, 1⟩
/-- `LANE_ADAPT_STAT.pat_frozen`, live. -/
def R.LANE_ADAPT_STAT.pat_frozen : Fld := ⟨0x100104, 0x1000, 1, 1⟩
/-- `LANE_ADAPT_STAT.guard_frozen`, live. -/
def R.LANE_ADAPT_STAT.guard_frozen : Fld := ⟨0x100104, 0x1000, 2, 1⟩
/-- `LANE_ADAPT_STAT.snap_valid`, live. -/
def R.LANE_ADAPT_STAT.snap_valid : Fld := ⟨0x100104, 0x1000, 3, 1⟩
/-- `LANE_ADAPT_STAT.revert_cnt`, ro. -/
def R.LANE_ADAPT_STAT.revert_cnt : Fld := ⟨0x100104, 0x1000, 4, 8⟩
/-- `LANE_ADAPT_STAT.snap_age`, ro. -/
def R.LANE_ADAPT_STAT.snap_age : Fld := ⟨0x100104, 0x1000, 16, 16⟩
/-- The register row `LANE_ADAPT_STAT`. -/
def R.LANE_ADAPT_STAT.row : RegDef :=
  ⟨0x100104, 0x1000, 96, 0x1000, 1,
   [(0, 1, .live), (1, 1, .live), (2, 1, .live), (3, 1, .live), (4, 8, .ro), (16, 16, .ro)]⟩

/-! `LANE_LOS_CFG`, LOS thresholds (02_lane_analogue.md). -/
/-- `LANE_LOS_CFG.los_on`, rw. -/
def R.LANE_LOS_CFG.los_on : Fld := ⟨0x100110, 0x1000, 0, 6⟩
/-- `LANE_LOS_CFG.los_off`, rw. -/
def R.LANE_LOS_CFG.los_off : Fld := ⟨0x100110, 0x1000, 8, 6⟩
/-- The register row `LANE_LOS_CFG`. -/
def R.LANE_LOS_CFG.row : RegDef :=
  ⟨0x100110, 0x1000, 96, 0x1000, 1,
   [(0, 6, .rw), (8, 6, .rw)]⟩

/-! `LANE_LOL_CFG`, LOL thresholds (02_lane_analogue.md). -/
/-- `LANE_LOL_CFG.lol_on_ppm`, rw. -/
def R.LANE_LOL_CFG.lol_on_ppm : Fld := ⟨0x100114, 0x1000, 0, 10⟩
/-- `LANE_LOL_CFG.lol_off_ppm`, rw. -/
def R.LANE_LOL_CFG.lol_off_ppm : Fld := ⟨0x100114, 0x1000, 16, 10⟩
/-- The register row `LANE_LOL_CFG`. -/
def R.LANE_LOL_CFG.row : RegDef :=
  ⟨0x100114, 0x1000, 96, 0x1000, 1,
   [(0, 10, .rw), (16, 10, .rw)]⟩

/-! `LANE_FREQ_OFS`, Received frequency offset (02_lane_analogue.md). -/
/-- `LANE_FREQ_OFS.ofs`, ro. -/
def R.LANE_FREQ_OFS.ofs : Fld := ⟨0x100118, 0x1000, 0, 32⟩
/-- The register row `LANE_FREQ_OFS`. -/
def R.LANE_FREQ_OFS.row : RegDef :=
  ⟨0x100118, 0x1000, 96, 0x1000, 1,
   [(0, 32, .ro)]⟩

/-! `LANE_SNR`, SNR and eye heights (02_lane_analogue.md). -/
/-- `LANE_SNR.snr`, ro. -/
def R.LANE_SNR.snr : Fld := ⟨0x100120, 0x1000, 0, 9⟩
/-- `LANE_SNR.eye_lo`, ro. -/
def R.LANE_SNR.eye_lo : Fld := ⟨0x100120, 0x1000, 9, 7⟩
/-- `LANE_SNR.eye_mid`, ro. -/
def R.LANE_SNR.eye_mid : Fld := ⟨0x100120, 0x1000, 16, 7⟩
/-- `LANE_SNR.eye_hi`, ro. -/
def R.LANE_SNR.eye_hi : Fld := ⟨0x100120, 0x1000, 23, 7⟩
/-- The register row `LANE_SNR`. -/
def R.LANE_SNR.row : RegDef :=
  ⟨0x100120, 0x1000, 96, 0x1000, 1,
   [(0, 9, .ro), (9, 7, .ro), (16, 7, .ro), (23, 7, .ro)]⟩

/-! `LANE_EYE_SCAN`, Eye scan (02_lane_analogue.md). -/
/-- `LANE_EYE_SCAN.scan`, go. -/
def R.LANE_EYE_SCAN.scan : Fld := ⟨0x100124, 0x1000, 0, 1⟩
/-- `LANE_EYE_SCAN.ber_exp`, rw. -/
def R.LANE_EYE_SCAN.ber_exp : Fld := ⟨0x100124, 0x1000, 1, 5⟩
/-- `LANE_EYE_SCAN.h_open`, ro. -/
def R.LANE_EYE_SCAN.h_open : Fld := ⟨0x100124, 0x1000, 8, 8⟩
/-- `LANE_EYE_SCAN.v_open`, ro. -/
def R.LANE_EYE_SCAN.v_open : Fld := ⟨0x100124, 0x1000, 16, 7⟩
/-- `LANE_EYE_SCAN.result`, ro. -/
def R.LANE_EYE_SCAN.result : Fld := ⟨0x100124, 0x1000, 24, 2⟩
/-- The register row `LANE_EYE_SCAN`. -/
def R.LANE_EYE_SCAN.row : RegDef :=
  ⟨0x100124, 0x1000, 96, 0x1000, 1,
   [(0, 1, .go), (1, 5, .rw), (8, 8, .ro), (16, 7, .ro), (24, 2, .ro)]⟩

/-! `LANE_DLY_TX`, TX path delay (02_lane_analogue.md). -/
/-- `LANE_DLY_TX.delay`, ro. -/
def R.LANE_DLY_TX.delay : Fld := ⟨0x100140, 0x1000, 0, 16⟩
/-- `LANE_DLY_TX.valid`, live. -/
def R.LANE_DLY_TX.valid : Fld := ⟨0x100140, 0x1000, 16, 1⟩
/-- The register row `LANE_DLY_TX`. -/
def R.LANE_DLY_TX.row : RegDef :=
  ⟨0x100140, 0x1000, 96, 0x1000, 1,
   [(0, 16, .ro), (16, 1, .live)]⟩

/-! `LANE_DLY_RX`, RX path delay (02_lane_analogue.md). -/
/-- `LANE_DLY_RX.delay`, ro. -/
def R.LANE_DLY_RX.delay : Fld := ⟨0x100144, 0x1000, 0, 16⟩
/-- `LANE_DLY_RX.valid`, live. -/
def R.LANE_DLY_RX.valid : Fld := ⟨0x100144, 0x1000, 16, 1⟩
/-- The register row `LANE_DLY_RX`. -/
def R.LANE_DLY_RX.row : RegDef :=
  ⟨0x100144, 0x1000, 96, 0x1000, 1,
   [(0, 16, .ro), (16, 1, .live)]⟩

/-! `LANE_PWR`, Power-state control (02_lane_analogue.md). -/
/-- `LANE_PWR.wake_src`, rw. -/
def R.LANE_PWR.wake_src : Fld := ⟨0x100150, 0x1000, 0, 1⟩
/-- `LANE_PWR.stored_valid`, live. -/
def R.LANE_PWR.stored_valid : Fld := ⟨0x100150, 0x1000, 1, 1⟩
/-- `LANE_PWR.last_exit`, ro. -/
def R.LANE_PWR.last_exit : Fld := ⟨0x100150, 0x1000, 16, 16⟩
/-- The register row `LANE_PWR`. -/
def R.LANE_PWR.row : RegDef :=
  ⟨0x100150, 0x1000, 96, 0x1000, 1,
   [(0, 1, .rw), (1, 1, .live), (16, 16, .ro)]⟩

/-! `LANE_ALIGN`, Word alignment (02_lane_analogue.md). -/
/-- `LANE_ALIGN.word_pos`, ro. -/
def R.LANE_ALIGN.word_pos : Fld := ⟨0x100160, 0x1000, 0, 7⟩
/-- `LANE_ALIGN.pos_valid`, live. -/
def R.LANE_ALIGN.pos_valid : Fld := ⟨0x100160, 0x1000, 7, 1⟩
/-- `LANE_ALIGN.slip`, go. -/
def R.LANE_ALIGN.slip : Fld := ⟨0x100160, 0x1000, 8, 1⟩
/-- `LANE_ALIGN.slip_cnt`, ro. -/
def R.LANE_ALIGN.slip_cnt : Fld := ⟨0x100160, 0x1000, 16, 8⟩
/-- The register row `LANE_ALIGN`. -/
def R.LANE_ALIGN.row : RegDef :=
  ⟨0x100160, 0x1000, 96, 0x1000, 1,
   [(0, 7, .ro), (7, 1, .live), (8, 1, .go), (16, 8, .ro)]⟩

/-! `LANE_TEST`, Loops and PRBS (02_lane_analogue.md). -/
/-- `LANE_TEST.loop`, rw. -/
def R.LANE_TEST.loop : Fld := ⟨0x100164, 0x1000, 0, 2⟩
/-- `LANE_TEST.prbs_gen`, rw. -/
def R.LANE_TEST.prbs_gen : Fld := ⟨0x100164, 0x1000, 2, 3⟩
/-- `LANE_TEST.prbs_chk`, rw. -/
def R.LANE_TEST.prbs_chk : Fld := ⟨0x100164, 0x1000, 5, 3⟩
/-- `LANE_TEST.prbs_sync`, live. -/
def R.LANE_TEST.prbs_sync : Fld := ⟨0x100164, 0x1000, 8, 1⟩
/-- The register row `LANE_TEST`. -/
def R.LANE_TEST.row : RegDef :=
  ⟨0x100164, 0x1000, 96, 0x1000, 1,
   [(0, 2, .rw), (2, 3, .rw), (5, 3, .rw), (8, 1, .live)]⟩

/-! `LANE_PRBS_ERR`, PRBS error count (02_lane_analogue.md). -/
/-- `LANE_PRBS_ERR.errors`, ro. -/
def R.LANE_PRBS_ERR.errors : Fld := ⟨0x100168, 0x1000, 0, 32⟩
/-- The register row `LANE_PRBS_ERR`. -/
def R.LANE_PRBS_ERR.row : RegDef :=
  ⟨0x100168, 0x1000, 96, 0x1000, 1,
   [(0, 32, .ro)]⟩

/-! `QUAD_PLL`, LC-PLL control and state (02_lane_analogue.md). -/
/-- `QUAD_PLL.pll_state`, live. -/
def R.QUAD_PLL.pll_state : Fld := ⟨0x200000, 0x10000, 0, 2⟩
/-- `QUAD_PLL.pll_keep`, rw. -/
def R.QUAD_PLL.pll_keep : Fld := ⟨0x200000, 0x10000, 4, 1⟩
/-- `QUAD_PLL.lock_time`, ro. -/
def R.QUAD_PLL.lock_time : Fld := ⟨0x200000, 0x10000, 16, 16⟩
/-- The register row `QUAD_PLL`. -/
def R.QUAD_PLL.row : RegDef :=
  ⟨0x200000, 0x10000, 24, 0x10000, 1,
   [(0, 2, .live), (4, 1, .rw), (16, 16, .ro)]⟩

/-! `QUAD_STATUS`, Quad lane summary (02_lane_analogue.md). -/
/-- `QUAD_STATUS.active`, live. -/
def R.QUAD_STATUS.active : Fld := ⟨0x200004, 0x10000, 0, 4⟩
/-- `QUAD_STATUS.dormant`, live. -/
def R.QUAD_STATUS.dormant : Fld := ⟨0x200004, 0x10000, 4, 4⟩
/-- `QUAD_STATUS.fenced`, live. -/
def R.QUAD_STATUS.fenced : Fld := ⟨0x200004, 0x10000, 8, 4⟩
/-- `QUAD_STATUS.pd_on`, live. -/
def R.QUAD_STATUS.pd_on : Fld := ⟨0x200004, 0x10000, 16, 1⟩
/-- The register row `QUAD_STATUS`. -/
def R.QUAD_STATUS.row : RegDef :=
  ⟨0x200004, 0x10000, 24, 0x10000, 1,
   [(0, 4, .live), (4, 4, .live), (8, 4, .live), (16, 1, .live)]⟩

/-! `QUAD_EVENT`, Quad event latches (02_lane_analogue.md). -/
/-- `QUAD_EVENT.pll_locked`, latch. -/
def R.QUAD_EVENT.pll_locked : Fld := ⟨0x200008, 0x10000, 0, 1⟩
/-- `QUAD_EVENT.pll_lost`, latch. -/
def R.QUAD_EVENT.pll_lost : Fld := ⟨0x200008, 0x10000, 1, 1⟩
/-- `QUAD_EVENT.shell_parity`, latch. -/
def R.QUAD_EVENT.shell_parity : Fld := ⟨0x200008, 0x10000, 2, 1⟩
/-- The register row `QUAD_EVENT`. -/
def R.QUAD_EVENT.row : RegDef :=
  ⟨0x200008, 0x10000, 24, 0x10000, 1,
   [(0, 1, .latch), (1, 1, .latch), (2, 1, .latch)]⟩

/-! `QUAD_BOND`, Bonding state (02_lane_analogue.md). -/
/-- `QUAD_BOND.bond`, ro. -/
def R.QUAD_BOND.bond : Fld := ⟨0x20000c, 0x10000, 0, 3⟩
/-- `QUAD_BOND.skew`, ro. -/
def R.QUAD_BOND.skew : Fld := ⟨0x20000c, 0x10000, 8, 7⟩
/-- The register row `QUAD_BOND`. -/
def R.QUAD_BOND.row : RegDef :=
  ⟨0x20000c, 0x10000, 24, 0x10000, 1,
   [(0, 3, .ro), (8, 7, .ro)]⟩

/-! `TALLY_CTRL`, Snapshot control (07_defects_tally.md). -/
/-- `TALLY_CTRL.snap_groups`, rw. -/
def R.TALLY_CTRL.snap_groups : Fld := ⟨0x40000, 0x0, 0, 5⟩
/-- `TALLY_CTRL.snap_en`, rw. -/
def R.TALLY_CTRL.snap_en : Fld := ⟨0x40000, 0x0, 8, 1⟩
/-- The register row `TALLY_CTRL`. -/
def R.TALLY_CTRL.row : RegDef :=
  ⟨0x40000, 0x4, 1, 0x4, 1,
   [(0, 5, .rw), (8, 1, .rw)]⟩

/-! `TALLY_STATUS`, Snapshot status (07_defects_tally.md). -/
/-- `TALLY_STATUS.seq_lo`, ro. -/
def R.TALLY_STATUS.seq_lo : Fld := ⟨0x40004, 0x0, 0, 16⟩
/-- `TALLY_STATUS.dma_busy`, live. -/
def R.TALLY_STATUS.dma_busy : Fld := ⟨0x40004, 0x0, 16, 1⟩
/-- The register row `TALLY_STATUS`. -/
def R.TALLY_STATUS.row : RegDef :=
  ⟨0x40004, 0x4, 1, 0x4, 1,
   [(0, 16, .ro), (16, 1, .live)]⟩

/-! `TALLY_EVENT`, Tally event latches (07_defects_tally.md). -/
/-- `TALLY_EVENT.snap_done`, latch. -/
def R.TALLY_EVENT.snap_done : Fld := ⟨0x40008, 0x0, 0, 1⟩
/-- `TALLY_EVENT.snap_miss`, latch. -/
def R.TALLY_EVENT.snap_miss : Fld := ⟨0x40008, 0x0, 1, 1⟩
/-- `TALLY_EVENT.live_idx_err`, latch. -/
def R.TALLY_EVENT.live_idx_err : Fld := ⟨0x40008, 0x0, 2, 1⟩
/-- `TALLY_EVENT.inj_wr_busy`, latch. -/
def R.TALLY_EVENT.inj_wr_busy : Fld := ⟨0x40008, 0x0, 3, 1⟩
/-- The register row `TALLY_EVENT`. -/
def R.TALLY_EVENT.row : RegDef :=
  ⟨0x40008, 0x4, 1, 0x4, 1,
   [(0, 1, .latch), (1, 1, .latch), (2, 1, .latch), (3, 1, .latch)]⟩

/-! `TALLY_LIVE_IDX`, Live counter index (07_defects_tally.md). -/
/-- `TALLY_LIVE_IDX.live_idx`, rw. -/
def R.TALLY_LIVE_IDX.live_idx : Fld := ⟨0x40010, 0x0, 0, 19⟩
/-- The register row `TALLY_LIVE_IDX`. -/
def R.TALLY_LIVE_IDX.row : RegDef :=
  ⟨0x40010, 0x4, 1, 0x4, 1,
   [(0, 19, .rw)]⟩

/-! `TALLY_LIVE_LO`, Live counter, low word (07_defects_tally.md). -/
/-- `TALLY_LIVE_LO.cnt_lo`, ro. -/
def R.TALLY_LIVE_LO.cnt_lo : Fld := ⟨0x40014, 0x0, 0, 32⟩
/-- The register row `TALLY_LIVE_LO`. -/
def R.TALLY_LIVE_LO.row : RegDef :=
  ⟨0x40014, 0x4, 1, 0x4, 1,
   [(0, 32, .ro)]⟩

/-! `TALLY_LIVE_HI`, Live counter, high word (07_defects_tally.md). -/
/-- `TALLY_LIVE_HI.cnt_hi`, ro. -/
def R.TALLY_LIVE_HI.cnt_hi : Fld := ⟨0x40018, 0x0, 0, 32⟩
/-- The register row `TALLY_LIVE_HI`. -/
def R.TALLY_LIVE_HI.row : RegDef :=
  ⟨0x40018, 0x4, 1, 0x4, 1,
   [(0, 32, .ro)]⟩

/-! `TALLY_DEF_CHAN_c`, Channel defects (07_defects_tally.md). -/
/-- `TALLY_DEF_CHAN_c.d_los`, live. -/
def R.TALLY_DEF_CHAN_c.d_los : Fld := ⟨0x40100, 0x4, 0, 1⟩
/-- `TALLY_DEF_CHAN_c.d_lol`, live. -/
def R.TALLY_DEF_CHAN_c.d_lol : Fld := ⟨0x40100, 0x4, 1, 1⟩
/-- `TALLY_DEF_CHAN_c.d_lob`, live. -/
def R.TALLY_DEF_CHAN_c.d_lob : Fld := ⟨0x40100, 0x4, 2, 1⟩
/-- `TALLY_DEF_CHAN_c.d_oof`, live. -/
def R.TALLY_DEF_CHAN_c.d_oof : Fld := ⟨0x40100, 0x4, 3, 1⟩
/-- `TALLY_DEF_CHAN_c.d_lof`, live. -/
def R.TALLY_DEF_CHAN_c.d_lof : Fld := ⟨0x40100, 0x4, 4, 1⟩
/-- `TALLY_DEF_CHAN_c.d_lom`, live. -/
def R.TALLY_DEF_CHAN_c.d_lom : Fld := ⟨0x40100, 0x4, 5, 1⟩
/-- `TALLY_DEF_CHAN_c.d_ais`, live. -/
def R.TALLY_DEF_CHAN_c.d_ais : Fld := ⟨0x40100, 0x4, 6, 1⟩
/-- `TALLY_DEF_CHAN_c.d_tim`, live. -/
def R.TALLY_DEF_CHAN_c.d_tim : Fld := ⟨0x40100, 0x4, 7, 1⟩
/-- `TALLY_DEF_CHAN_c.d_plm`, live. -/
def R.TALLY_DEF_CHAN_c.d_plm : Fld := ⟨0x40100, 0x4, 8, 1⟩
/-- `TALLY_DEF_CHAN_c.d_sf`, live. -/
def R.TALLY_DEF_CHAN_c.d_sf : Fld := ⟨0x40100, 0x4, 9, 1⟩
/-- `TALLY_DEF_CHAN_c.d_sd`, live. -/
def R.TALLY_DEF_CHAN_c.d_sd : Fld := ⟨0x40100, 0x4, 10, 1⟩
/-- `TALLY_DEF_CHAN_c.d_rdi`, live. -/
def R.TALLY_DEF_CHAN_c.d_rdi : Fld := ⟨0x40100, 0x4, 11, 1⟩
/-- `TALLY_DEF_CHAN_c.d_loa`, live. -/
def R.TALLY_DEF_CHAN_c.d_loa : Fld := ⟨0x40100, 0x4, 12, 1⟩
/-- `TALLY_DEF_CHAN_c.d_hiber`, live. -/
def R.TALLY_DEF_CHAN_c.d_hiber : Fld := ⟨0x40100, 0x4, 13, 1⟩
/-- `TALLY_DEF_CHAN_c.d_lf`, live. -/
def R.TALLY_DEF_CHAN_c.d_lf : Fld := ⟨0x40100, 0x4, 14, 1⟩
/-- `TALLY_DEF_CHAN_c.d_rf`, live. -/
def R.TALLY_DEF_CHAN_c.d_rf : Fld := ⟨0x40100, 0x4, 15, 1⟩
/-- `TALLY_DEF_CHAN_c.d_losync`, live. -/
def R.TALLY_DEF_CHAN_c.d_losync : Fld := ⟨0x40100, 0x4, 16, 1⟩
/-- `TALLY_DEF_CHAN_c.d_hflof`, live. -/
def R.TALLY_DEF_CHAN_c.d_hflof : Fld := ⟨0x40100, 0x4, 17, 1⟩
/-- `TALLY_DEF_CHAN_c.l1`, live. -/
def R.TALLY_DEF_CHAN_c.l1 : Fld := ⟨0x40100, 0x4, 18, 5⟩
/-- `TALLY_DEF_CHAN_c.fenced`, live. -/
def R.TALLY_DEF_CHAN_c.fenced : Fld := ⟨0x40100, 0x4, 23, 1⟩
/-- `TALLY_DEF_CHAN_c.ch_sf`, live. -/
def R.TALLY_DEF_CHAN_c.ch_sf : Fld := ⟨0x40100, 0x4, 24, 1⟩
/-- `TALLY_DEF_CHAN_c.ch_sd`, live. -/
def R.TALLY_DEF_CHAN_c.ch_sd : Fld := ⟨0x40100, 0x4, 25, 1⟩
/-- The register row `TALLY_DEF_CHAN_c`. -/
def R.TALLY_DEF_CHAN_c.row : RegDef :=
  ⟨0x40100, 0x4, 96, 0x4, 1,
   [(0, 1, .live), (1, 1, .live), (2, 1, .live), (3, 1, .live), (4, 1, .live), (5, 1, .live), (6, 1, .live), (7, 1, .live), (8, 1, .live), (9, 1, .live), (10, 1, .live), (11, 1, .live), (12, 1, .live), (13, 1, .live), (14, 1, .live), (15, 1, .live), (16, 1, .live), (17, 1, .live), (18, 5, .live), (23, 1, .live), (24, 1, .live), (25, 1, .live)]⟩

/-! `TALLY_DEF_LATCH_c`, Channel defect latches (07_defects_tally.md). -/
/-- `TALLY_DEF_LATCH_c.set_evt`, latch. -/
def R.TALLY_DEF_LATCH_c.set_evt : Fld := ⟨0x40300, 0x4, 0, 26⟩
/-- The register row `TALLY_DEF_LATCH_c`. -/
def R.TALLY_DEF_LATCH_c.row : RegDef :=
  ⟨0x40300, 0x4, 96, 0x4, 1,
   [(0, 26, .latch)]⟩

/-! `TALLY_INJ_CFG_j`, Injector target and action (07_defects_tally.md). -/
/-- `TALLY_INJ_CFG_j.target`, rw. -/
def R.TALLY_INJ_CFG_j.target : Fld := ⟨0x40800, 0x20, 0, 16⟩
/-- `TALLY_INJ_CFG_j.dir`, rw. -/
def R.TALLY_INJ_CFG_j.dir : Fld := ⟨0x40800, 0x20, 23, 1⟩
/-- `TALLY_INJ_CFG_j.action`, rw. -/
def R.TALLY_INJ_CFG_j.action : Fld := ⟨0x40800, 0x20, 24, 4⟩
/-- `TALLY_INJ_CFG_j.kind`, rw. -/
def R.TALLY_INJ_CFG_j.kind : Fld := ⟨0x40800, 0x20, 28, 3⟩
/-- The register row `TALLY_INJ_CFG_j`. -/
def R.TALLY_INJ_CFG_j.row : RegDef :=
  ⟨0x40800, 0x20, 16, 0x20, 1,
   [(0, 16, .rw), (23, 1, .rw), (24, 4, .rw), (28, 3, .rw)]⟩

/-! `TALLY_INJ_PAT_j`, Injector pattern (07_defects_tally.md). -/
/-- `TALLY_INJ_PAT_j.first`, rw. -/
def R.TALLY_INJ_PAT_j.first : Fld := ⟨0x40804, 0x20, 0, 16⟩
/-- `TALLY_INJ_PAT_j.len`, rw. -/
def R.TALLY_INJ_PAT_j.len : Fld := ⟨0x40804, 0x20, 16, 16⟩
/-- The register row `TALLY_INJ_PAT_j`. -/
def R.TALLY_INJ_PAT_j.row : RegDef :=
  ⟨0x40804, 0x20, 16, 0x20, 1,
   [(0, 16, .rw), (16, 16, .rw)]⟩

/-! `TALLY_INJ_INT_j`, Injector interval (07_defects_tally.md). -/
/-- `TALLY_INJ_INT_j.interval`, rw. -/
def R.TALLY_INJ_INT_j.interval : Fld := ⟨0x40808, 0x20, 0, 32⟩
/-- The register row `TALLY_INJ_INT_j`. -/
def R.TALLY_INJ_INT_j.row : RegDef :=
  ⟨0x40808, 0x20, 16, 0x20, 1,
   [(0, 32, .rw)]⟩

/-! `TALLY_INJ_LIMIT_j`, Injector limit (07_defects_tally.md). -/
/-- `TALLY_INJ_LIMIT_j.limit`, rw. -/
def R.TALLY_INJ_LIMIT_j.limit : Fld := ⟨0x4080c, 0x20, 0, 32⟩
/-- The register row `TALLY_INJ_LIMIT_j`. -/
def R.TALLY_INJ_LIMIT_j.row : RegDef :=
  ⟨0x4080c, 0x20, 16, 0x20, 1,
   [(0, 32, .rw)]⟩

/-! `TALLY_INJ_STAT_j`, Injector state (07_defects_tally.md). -/
/-- `TALLY_INJ_STAT_j.state`, live. -/
def R.TALLY_INJ_STAT_j.state : Fld := ⟨0x40810, 0x20, 0, 2⟩
/-- `TALLY_INJ_STAT_j.stop_cause`, ro. -/
def R.TALLY_INJ_STAT_j.stop_cause : Fld := ⟨0x40810, 0x20, 8, 3⟩
/-- The register row `TALLY_INJ_STAT_j`. -/
def R.TALLY_INJ_STAT_j.row : RegDef :=
  ⟨0x40810, 0x20, 16, 0x20, 1,
   [(0, 2, .live), (8, 3, .ro)]⟩

/-! `TALLY_DEF_TRIB_t`, Tributary defects (07_defects_tally.md). -/
/-- `TALLY_DEF_TRIB_t.end0`, live. -/
def R.TALLY_DEF_TRIB_t.end0 : Fld := ⟨0x50000, 0x4, 0, 6⟩
/-- `TALLY_DEF_TRIB_t.end1`, live. -/
def R.TALLY_DEF_TRIB_t.end1 : Fld := ⟨0x50000, 0x4, 8, 6⟩
/-- `TALLY_DEF_TRIB_t.csf_tx`, live. -/
def R.TALLY_DEF_TRIB_t.csf_tx : Fld := ⟨0x50000, 0x4, 16, 1⟩
/-- `TALLY_DEF_TRIB_t.present`, live. -/
def R.TALLY_DEF_TRIB_t.present : Fld := ⟨0x50000, 0x4, 17, 1⟩
/-- The register row `TALLY_DEF_TRIB_t`. -/
def R.TALLY_DEF_TRIB_t.row : RegDef :=
  ⟨0x50000, 0x4, 65536, 0x4, 1,
   [(0, 6, .live), (8, 6, .live), (16, 1, .live), (17, 1, .live)]⟩

/-! `GRN_CTRL`, Granary control (08_granary.md). -/
/-- `GRN_CTRL.repair_en`, rw. -/
def R.GRN_CTRL.repair_en : Fld := ⟨0x800000, 0x0, 0, 1⟩
/-- `GRN_CTRL.ue_burst`, rw. -/
def R.GRN_CTRL.ue_burst : Fld := ⟨0x800000, 0x0, 8, 8⟩
/-- `GRN_CTRL.drain_ms`, rw. -/
def R.GRN_CTRL.drain_ms : Fld := ⟨0x800000, 0x0, 16, 8⟩
/-- The register row `GRN_CTRL`. -/
def R.GRN_CTRL.row : RegDef :=
  ⟨0x800000, 0x4, 1, 0x4, 1,
   [(0, 1, .rw), (8, 8, .rw), (16, 8, .rw)]⟩

/-! `GRN_STATUS`, Granary status (08_granary.md). -/
/-- `GRN_STATUS.scrub_pass`, ro. -/
def R.GRN_STATUS.scrub_pass : Fld := ⟨0x800004, 0x0, 0, 8⟩
/-- `GRN_STATUS.live_banks`, live. -/
def R.GRN_STATUS.live_banks : Fld := ⟨0x800004, 0x0, 8, 8⟩
/-- `GRN_STATUS.usable_banks`, live. -/
def R.GRN_STATUS.usable_banks : Fld := ⟨0x800004, 0x0, 16, 8⟩
/-- `GRN_STATUS.degraded`, live. -/
def R.GRN_STATUS.degraded : Fld := ⟨0x800004, 0x0, 24, 1⟩
/-- `GRN_STATUS.scan_busy`, live. -/
def R.GRN_STATUS.scan_busy : Fld := ⟨0x800004, 0x0, 31, 1⟩
/-- The register row `GRN_STATUS`. -/
def R.GRN_STATUS.row : RegDef :=
  ⟨0x800004, 0x4, 1, 0x4, 1,
   [(0, 8, .ro), (8, 8, .live), (16, 8, .live), (24, 1, .live), (31, 1, .live)]⟩

/-! `GRN_EVENT`, Granary event latches (08_granary.md). -/
/-- `GRN_EVENT.row_repaired`, latch. -/
def R.GRN_EVENT.row_repaired : Fld := ⟨0x800008, 0x0, 0, 1⟩
/-- `GRN_EVENT.bank_drain`, latch. -/
def R.GRN_EVENT.bank_drain : Fld := ⟨0x800008, 0x0, 1, 1⟩
/-- `GRN_EVENT.bank_retired`, latch. -/
def R.GRN_EVENT.bank_retired : Fld := ⟨0x800008, 0x0, 2, 1⟩
/-- `GRN_EVENT.ecc_ue`, latch. -/
def R.GRN_EVENT.ecc_ue : Fld := ⟨0x800008, 0x0, 3, 1⟩
/-- `GRN_EVENT.degraded_on`, latch. -/
def R.GRN_EVENT.degraded_on : Fld := ⟨0x800008, 0x0, 4, 1⟩
/-- `GRN_EVENT.queue_fenced`, latch. -/
def R.GRN_EVENT.queue_fenced : Fld := ⟨0x800008, 0x0, 5, 1⟩
/-- `GRN_EVENT.scan_done`, latch. -/
def R.GRN_EVENT.scan_done : Fld := ⟨0x800008, 0x0, 6, 1⟩
/-- The register row `GRN_EVENT`. -/
def R.GRN_EVENT.row : RegDef :=
  ⟨0x800008, 0x4, 1, 0x4, 1,
   [(0, 1, .latch), (1, 1, .latch), (2, 1, .latch), (3, 1, .latch), (4, 1, .latch), (5, 1, .latch), (6, 1, .latch)]⟩

/-! `GRN_FREE`, Free cells (08_granary.md). -/
/-- `GRN_FREE.free_cells`, live. -/
def R.GRN_FREE.free_cells : Fld := ⟨0x800010, 0x0, 0, 19⟩
/-- The register row `GRN_FREE`. -/
def R.GRN_FREE.row : RegDef :=
  ⟨0x800010, 0x4, 1, 0x4, 1,
   [(0, 19, .live)]⟩

/-! `GRN_GUAR`, Guaranteed cells unused (08_granary.md). -/
/-- `GRN_GUAR.guar_cells`, live. -/
def R.GRN_GUAR.guar_cells : Fld := ⟨0x800014, 0x0, 0, 19⟩
/-- The register row `GRN_GUAR`. -/
def R.GRN_GUAR.row : RegDef :=
  ⟨0x800014, 0x4, 1, 0x4, 1,
   [(0, 19, .live)]⟩

/-! `GRN_ECC_LAST`, Last error address (08_granary.md). -/
/-- `GRN_ECC_LAST.addr`, ro. -/
def R.GRN_ECC_LAST.addr : Fld := ⟨0x800020, 0x0, 0, 25⟩
/-- `GRN_ECC_LAST.mem`, ro. -/
def R.GRN_ECC_LAST.mem : Fld := ⟨0x800020, 0x0, 28, 2⟩
/-- `GRN_ECC_LAST.class`, ro. -/
def R.GRN_ECC_LAST.class_ : Fld := ⟨0x800020, 0x0, 30, 2⟩
/-- The register row `GRN_ECC_LAST`. -/
def R.GRN_ECC_LAST.row : RegDef :=
  ⟨0x800020, 0x4, 1, 0x4, 1,
   [(0, 25, .ro), (28, 2, .ro), (30, 2, .ro)]⟩

/-! `GRN_ECC_SYN`, Last error syndrome (08_granary.md). -/
/-- `GRN_ECC_SYN.bch_syn`, ro. -/
def R.GRN_ECC_SYN.bch_syn : Fld := ⟨0x800024, 0x0, 0, 14⟩
/-- `GRN_ECC_SYN.p_diff`, ro. -/
def R.GRN_ECC_SYN.p_diff : Fld := ⟨0x800024, 0x0, 14, 1⟩
/-- `GRN_ECC_SYN.a_diff`, ro. -/
def R.GRN_ECC_SYN.a_diff : Fld := ⟨0x800024, 0x0, 15, 1⟩
/-- The register row `GRN_ECC_SYN`. -/
def R.GRN_ECC_SYN.row : RegDef :=
  ⟨0x800024, 0x4, 1, 0x4, 1,
   [(0, 14, .ro), (14, 1, .ro), (15, 1, .ro)]⟩

/-! `GRN_BANK_b`, Bank state (08_granary.md). -/
/-- `GRN_BANK_b.state`, live. -/
def R.GRN_BANK_b.state : Fld := ⟨0x800100, 0x4, 0, 3⟩
/-- `GRN_BANK_b.spares_used`, ro. -/
def R.GRN_BANK_b.spares_used : Fld := ⟨0x800100, 0x4, 8, 6⟩
/-- `GRN_BANK_b.retire_cause`, ro. -/
def R.GRN_BANK_b.retire_cause : Fld := ⟨0x800100, 0x4, 16, 8⟩
/-- `GRN_BANK_b.fence_req`, go. -/
def R.GRN_BANK_b.fence_req : Fld := ⟨0x800100, 0x4, 24, 1⟩
/-- `GRN_BANK_b.bank_reset`, go. -/
def R.GRN_BANK_b.bank_reset : Fld := ⟨0x800100, 0x4, 25, 1⟩
/-- `GRN_BANK_b.bank_reset_done`, live. -/
def R.GRN_BANK_b.bank_reset_done : Fld := ⟨0x800100, 0x4, 26, 1⟩
/-- The register row `GRN_BANK_b`. -/
def R.GRN_BANK_b.row : RegDef :=
  ⟨0x800100, 0x4, 96, 0x4, 1,
   [(0, 3, .live), (8, 6, .ro), (16, 8, .ro), (24, 1, .go), (25, 1, .go), (26, 1, .live)]⟩

/-! `GRN_TRUNK_t`, Trunk state (08_granary.md). -/
/-- `GRN_TRUNK_t.backlog_cells`, live. -/
def R.GRN_TRUNK_t.backlog_cells : Fld := ⟨0x840000, 0x4, 0, 19⟩
/-- `GRN_TRUNK_t.in_cal`, live. -/
def R.GRN_TRUNK_t.in_cal : Fld := ⟨0x840000, 0x4, 30, 1⟩
/-- `GRN_TRUNK_t.valid`, ro. -/
def R.GRN_TRUNK_t.valid : Fld := ⟨0x840000, 0x4, 31, 1⟩
/-- The register row `GRN_TRUNK_t`. -/
def R.GRN_TRUNK_t.row : RegDef :=
  ⟨0x840000, 0x4, 65536, 0x4, 1,
   [(0, 19, .live), (30, 1, .live), (31, 1, .ro)]⟩

/-! `GRN_QD_CTRL`, Queue control (08_granary.md). -/
/-- `GRN_QD_CTRL.egress`, ro. -/
def R.GRN_QD_CTRL.egress : Fld := ⟨0x400000, 0x40, 0, 16⟩
/-- `GRN_QD_CTRL.dl_src`, rw. -/
def R.GRN_QD_CTRL.dl_src : Fld := ⟨0x400000, 0x40, 21, 1⟩
/-- `GRN_QD_CTRL.late_pol`, rw. -/
def R.GRN_QD_CTRL.late_pol : Fld := ⟨0x400000, 0x40, 22, 2⟩
/-- `GRN_QD_CTRL.class`, ro. -/
def R.GRN_QD_CTRL.class_ : Fld := ⟨0x400000, 0x40, 24, 3⟩
/-- `GRN_QD_CTRL.express`, rw. -/
def R.GRN_QD_CTRL.express : Fld := ⟨0x400000, 0x40, 27, 1⟩
/-- `GRN_QD_CTRL.egress_kind`, ro. -/
def R.GRN_QD_CTRL.egress_kind : Fld := ⟨0x400000, 0x40, 28, 1⟩
/-- `GRN_QD_CTRL.fenced`, ro. -/
def R.GRN_QD_CTRL.fenced : Fld := ⟨0x400000, 0x40, 29, 1⟩
/-- `GRN_QD_CTRL.closing`, ro. -/
def R.GRN_QD_CTRL.closing : Fld := ⟨0x400000, 0x40, 30, 1⟩
/-- `GRN_QD_CTRL.valid`, ro. -/
def R.GRN_QD_CTRL.valid : Fld := ⟨0x400000, 0x40, 31, 1⟩
/-- The register row `GRN_QD_CTRL`. -/
def R.GRN_QD_CTRL.row : RegDef :=
  ⟨0x400000, 0x40, 65536, 0x40, 1,
   [(0, 16, .ro), (21, 1, .rw), (22, 2, .rw), (24, 3, .ro), (27, 1, .rw), (28, 1, .ro), (29, 1, .ro), (30, 1, .ro), (31, 1, .ro)]⟩

/-! `GRN_QD_TIME`, Budget and lateness tolerance (08_granary.md). -/
/-- `GRN_QD_TIME.budget`, rw. -/
def R.GRN_QD_TIME.budget : Fld := ⟨0x400004, 0x40, 0, 20⟩
/-- `GRN_QD_TIME.late_tol`, rw. -/
def R.GRN_QD_TIME.late_tol : Fld := ⟨0x400004, 0x40, 20, 12⟩
/-- The register row `GRN_QD_TIME`. -/
def R.GRN_QD_TIME.row : RegDef :=
  ⟨0x400004, 0x40, 65536, 0x40, 1,
   [(0, 20, .rw), (20, 12, .rw)]⟩

/-! `GRN_QD_MIN`, Minimum cells (08_granary.md). -/
/-- `GRN_QD_MIN.min_cells`, ro. -/
def R.GRN_QD_MIN.min_cells : Fld := ⟨0x400008, 0x40, 0, 19⟩
/-- The register row `GRN_QD_MIN`. -/
def R.GRN_QD_MIN.row : RegDef :=
  ⟨0x400008, 0x40, 65536, 0x40, 1,
   [(0, 19, .ro)]⟩

/-! `GRN_QD_MAX`, Maximum cells (08_granary.md). -/
/-- `GRN_QD_MAX.max_cells`, ro. -/
def R.GRN_QD_MAX.max_cells : Fld := ⟨0x40000c, 0x40, 0, 19⟩
/-- The register row `GRN_QD_MAX`. -/
def R.GRN_QD_MAX.row : RegDef :=
  ⟨0x40000c, 0x40, 65536, 0x40, 1,
   [(0, 19, .ro)]⟩

/-! `GRN_QD_OCC`, Occupancy in cells (08_granary.md). -/
/-- `GRN_QD_OCC.occ_cells`, live. -/
def R.GRN_QD_OCC.occ_cells : Fld := ⟨0x400010, 0x40, 0, 19⟩
/-- The register row `GRN_QD_OCC`. -/
def R.GRN_QD_OCC.row : RegDef :=
  ⟨0x400010, 0x40, 65536, 0x40, 1,
   [(0, 19, .live)]⟩

/-! `GRN_QD_PKTS`, Occupancy in packets (08_granary.md). -/
/-- `GRN_QD_PKTS.occ_pkts`, live. -/
def R.GRN_QD_PKTS.occ_pkts : Fld := ⟨0x400014, 0x40, 0, 19⟩
/-- The register row `GRN_QD_PKTS`. -/
def R.GRN_QD_PKTS.row : RegDef :=
  ⟨0x400014, 0x40, 65536, 0x40, 1,
   [(0, 19, .live)]⟩

/-! `GRN_QD_HEAD`, Head send-by time (08_granary.md). -/
/-- `GRN_QD_HEAD.head_s`, live. -/
def R.GRN_QD_HEAD.head_s : Fld := ⟨0x400018, 0x40, 0, 32⟩
/-- The register row `GRN_QD_HEAD`. -/
def R.GRN_QD_HEAD.row : RegDef :=
  ⟨0x400018, 0x40, 65536, 0x40, 1,
   [(0, 32, .live)]⟩

/-! `GRN_QD_STAT`, Queue status (08_granary.md). -/
/-- `GRN_QD_STAT.fence_cause`, ro. -/
def R.GRN_QD_STAT.fence_cause : Fld := ⟨0x40001c, 0x40, 16, 8⟩
/-- `GRN_QD_STAT.last_drop`, ro. -/
def R.GRN_QD_STAT.last_drop : Fld := ⟨0x40001c, 0x40, 24, 4⟩
/-- `GRN_QD_STAT.head_valid`, live. -/
def R.GRN_QD_STAT.head_valid : Fld := ⟨0x40001c, 0x40, 31, 1⟩
/-- The register row `GRN_QD_STAT`. -/
def R.GRN_QD_STAT.row : RegDef :=
  ⟨0x40001c, 0x40, 65536, 0x40, 1,
   [(16, 8, .ro), (24, 4, .ro), (31, 1, .live)]⟩

/-! `GRN_QD_LATE`, Packets sent late (08_granary.md). -/
/-- `GRN_QD_LATE.late_sent`, ro. -/
def R.GRN_QD_LATE.late_sent : Fld := ⟨0x400020, 0x40, 0, 32⟩
/-- The register row `GRN_QD_LATE`. -/
def R.GRN_QD_LATE.row : RegDef :=
  ⟨0x400020, 0x40, 65536, 0x40, 1,
   [(0, 32, .ro)]⟩

/-! `GRN_QD_MINEFF`, Effective minimum (08_granary.md). -/
/-- `GRN_QD_MINEFF.min_eff`, live. -/
def R.GRN_QD_MINEFF.min_eff : Fld := ⟨0x400024, 0x40, 0, 19⟩
/-- The register row `GRN_QD_MINEFF`. -/
def R.GRN_QD_MINEFF.row : RegDef :=
  ⟨0x400024, 0x40, 65536, 0x40, 1,
   [(0, 19, .live)]⟩

/-! `WVR_CTRL`, Weaver control (09_vsi_model.md). -/
/-- `WVR_CTRL.wvr_reset`, go. -/
def R.WVR_CTRL.wvr_reset : Fld := ⟨0x201000, 0x10000, 0, 1⟩
/-- `WVR_CTRL.fence_req`, go. -/
def R.WVR_CTRL.fence_req : Fld := ⟨0x201000, 0x10000, 1, 1⟩
/-- The register row `WVR_CTRL`. -/
def R.WVR_CTRL.row : RegDef :=
  ⟨0x201000, 0x10000, 24, 0x10000, 1,
   [(0, 1, .go), (1, 1, .go)]⟩

/-! `WVR_STATUS`, Weaver status (09_vsi_model.md). -/
/-- `WVR_STATUS.threads_fenced`, live. -/
def R.WVR_STATUS.threads_fenced : Fld := ⟨0x201004, 0x10000, 0, 16⟩
/-- `WVR_STATUS.wvr_reset_done`, live. -/
def R.WVR_STATUS.wvr_reset_done : Fld := ⟨0x201004, 0x10000, 23, 1⟩
/-- `WVR_STATUS.fence_cause`, ro. -/
def R.WVR_STATUS.fence_cause : Fld := ⟨0x201004, 0x10000, 24, 8⟩
/-- The register row `WVR_STATUS`. -/
def R.WVR_STATUS.row : RegDef :=
  ⟨0x201004, 0x10000, 24, 0x10000, 1,
   [(0, 16, .live), (23, 1, .live), (24, 8, .ro)]⟩

/-! `WVR_EVENT`, Weaver event latches (09_vsi_model.md). -/
/-- `WVR_EVENT.fence`, latch. -/
def R.WVR_EVENT.fence : Fld := ⟨0x201008, 0x10000, 0, 1⟩
/-- `WVR_EVENT.thread_fence`, latch. -/
def R.WVR_EVENT.thread_fence : Fld := ⟨0x201008, 0x10000, 1, 1⟩
/-- `WVR_EVENT.ecc_ue`, latch. -/
def R.WVR_EVENT.ecc_ue : Fld := ⟨0x201008, 0x10000, 2, 1⟩
/-- `WVR_EVENT.imem_rewritten`, latch. -/
def R.WVR_EVENT.imem_rewritten : Fld := ⟨0x201008, 0x10000, 3, 1⟩
/-- `WVR_EVENT.verify_done`, latch. -/
def R.WVR_EVENT.verify_done : Fld := ⟨0x201008, 0x10000, 4, 1⟩
/-- The register row `WVR_EVENT`. -/
def R.WVR_EVENT.row : RegDef :=
  ⟨0x201008, 0x10000, 24, 0x10000, 1,
   [(0, 1, .latch), (1, 1, .latch), (2, 1, .latch), (3, 1, .latch), (4, 1, .latch)]⟩

/-! `WVR_ECC_LAST`, Last uncorrectable error (09_vsi_model.md). -/
/-- `WVR_ECC_LAST.addr`, ro. -/
def R.WVR_ECC_LAST.addr : Fld := ⟨0x20100c, 0x10000, 0, 17⟩
/-- `WVR_ECC_LAST.mem`, ro. -/
def R.WVR_ECC_LAST.mem : Fld := ⟨0x20100c, 0x10000, 29, 2⟩
/-- `WVR_ECC_LAST.class`, ro. -/
def R.WVR_ECC_LAST.class_ : Fld := ⟨0x20100c, 0x10000, 31, 1⟩
/-- The register row `WVR_ECC_LAST`. -/
def R.WVR_ECC_LAST.row : RegDef :=
  ⟨0x20100c, 0x10000, 24, 0x10000, 1,
   [(0, 17, .ro), (29, 2, .ro), (31, 1, .ro)]⟩

/-! `WVR_VERIFY`, Last verifier result (09_vsi_model.md). -/
/-- `WVR_VERIFY.wc_rx`, ro. -/
def R.WVR_VERIFY.wc_rx : Fld := ⟨0x201010, 0x10000, 0, 6⟩
/-- `WVR_VERIFY.wc_tx`, ro. -/
def R.WVR_VERIFY.wc_tx : Fld := ⟨0x201010, 0x10000, 6, 6⟩
/-- `WVR_VERIFY.wc_frame`, ro. -/
def R.WVR_VERIFY.wc_frame : Fld := ⟨0x201010, 0x10000, 12, 12⟩
/-- `WVR_VERIFY.code`, ro. -/
def R.WVR_VERIFY.code : Fld := ⟨0x201010, 0x10000, 24, 8⟩
/-- The register row `WVR_VERIFY`. -/
def R.WVR_VERIFY.row : RegDef :=
  ⟨0x201010, 0x10000, 24, 0x10000, 1,
   [(0, 6, .ro), (6, 6, .ro), (12, 12, .ro), (24, 8, .ro)]⟩

/-! `WVR_THREAD_t`, Thread state (09_vsi_model.md). -/
/-- `WVR_THREAD_t.committed`, live. -/
def R.WVR_THREAD_t.committed (i : Nat) : Fld := ⟨0x201040 + i * 0x10000, 0x4, 0, 12⟩
/-- `WVR_THREAD_t.lane`, live. -/
def R.WVR_THREAD_t.lane (i : Nat) : Fld := ⟨0x201040 + i * 0x10000, 0x4, 12, 7⟩
/-- `WVR_THREAD_t.role`, live. -/
def R.WVR_THREAD_t.role (i : Nat) : Fld := ⟨0x201040 + i * 0x10000, 0x4, 19, 2⟩
/-- `WVR_THREAD_t.fence_req`, go. -/
def R.WVR_THREAD_t.fence_req (i : Nat) : Fld := ⟨0x201040 + i * 0x10000, 0x4, 21, 1⟩
/-- `WVR_THREAD_t.thread_reset`, go. -/
def R.WVR_THREAD_t.thread_reset (i : Nat) : Fld := ⟨0x201040 + i * 0x10000, 0x4, 22, 1⟩
/-- `WVR_THREAD_t.thread_reset_done`, live. -/
def R.WVR_THREAD_t.thread_reset_done (i : Nat) : Fld := ⟨0x201040 + i * 0x10000, 0x4, 23, 1⟩
/-- `WVR_THREAD_t.fence_cause`, ro. -/
def R.WVR_THREAD_t.fence_cause (i : Nat) : Fld := ⟨0x201040 + i * 0x10000, 0x4, 24, 8⟩
/-- The register row `WVR_THREAD_t`. -/
def R.WVR_THREAD_t.row : RegDef :=
  ⟨0x201040, 0x10000, 24, 0x4, 16,
   [(0, 12, .live), (12, 7, .live), (19, 2, .live), (21, 1, .go), (22, 1, .go), (23, 1, .live), (24, 8, .ro)]⟩

/-! `WVR_FIFO_DATA_f`, FIFO data (09_vsi_model.md). -/
/-- `WVR_FIFO_DATA_f.data`, ro. -/
def R.WVR_FIFO_DATA_f.data (i : Nat) : Fld := ⟨0x201100 + i * 0x10000, 0x10, 0, 32⟩
/-- The register row `WVR_FIFO_DATA_f`. -/
def R.WVR_FIFO_DATA_f.row : RegDef :=
  ⟨0x201100, 0x10000, 24, 0x10, 5,
   [(0, 32, .ro)]⟩

/-! `WVR_FIFO_STAT_f`, FIFO status (09_vsi_model.md). -/
/-- `WVR_FIFO_STAT_f.level`, live. -/
def R.WVR_FIFO_STAT_f.level (i : Nat) : Fld := ⟨0x201104 + i * 0x10000, 0x10, 0, 13⟩
/-- `WVR_FIFO_STAT_f.overflow`, latch. -/
def R.WVR_FIFO_STAT_f.overflow (i : Nat) : Fld := ⟨0x201104 + i * 0x10000, 0x10, 28, 1⟩
/-- `WVR_FIFO_STAT_f.underrun`, latch. -/
def R.WVR_FIFO_STAT_f.underrun (i : Nat) : Fld := ⟨0x201104 + i * 0x10000, 0x10, 29, 1⟩
/-- `WVR_FIFO_STAT_f.full`, live. -/
def R.WVR_FIFO_STAT_f.full (i : Nat) : Fld := ⟨0x201104 + i * 0x10000, 0x10, 30, 1⟩
/-- `WVR_FIFO_STAT_f.empty`, live. -/
def R.WVR_FIFO_STAT_f.empty (i : Nat) : Fld := ⟨0x201104 + i * 0x10000, 0x10, 31, 1⟩
/-- The register row `WVR_FIFO_STAT_f`. -/
def R.WVR_FIFO_STAT_f.row : RegDef :=
  ⟨0x201104, 0x10000, 24, 0x10, 5,
   [(0, 13, .live), (28, 1, .latch), (29, 1, .latch), (30, 1, .live), (31, 1, .live)]⟩

/-! `WVR_FIFO_CTRL_f`, FIFO control (09_vsi_model.md). -/
/-- `WVR_FIFO_CTRL_f.flush`, go. -/
def R.WVR_FIFO_CTRL_f.flush (i : Nat) : Fld := ⟨0x201108 + i * 0x10000, 0x10, 0, 1⟩
/-- `WVR_FIFO_CTRL_f.flushed_words`, ro. -/
def R.WVR_FIFO_CTRL_f.flushed_words (i : Nat) : Fld := ⟨0x201108 + i * 0x10000, 0x10, 16, 16⟩
/-- The register row `WVR_FIFO_CTRL_f`. -/
def R.WVR_FIFO_CTRL_f.row : RegDef :=
  ⟨0x201108, 0x10000, 24, 0x10, 5,
   [(0, 1, .go), (16, 16, .ro)]⟩

/-! `RVE_CTRL`, Reeve control (09_vsi_model.md). -/
/-- `RVE_CTRL.rve_reset`, go. -/
def R.RVE_CTRL.rve_reset : Fld := ⟨0x30000, 0x4000, 0, 1⟩
/-- `RVE_CTRL.fence_req`, go. -/
def R.RVE_CTRL.fence_req : Fld := ⟨0x30000, 0x4000, 1, 1⟩
/-- The register row `RVE_CTRL`. -/
def R.RVE_CTRL.row : RegDef :=
  ⟨0x30000, 0x4000, 4, 0x4000, 1,
   [(0, 1, .go), (1, 1, .go)]⟩

/-! `RVE_STATUS`, Reeve status (09_vsi_model.md). -/
/-- `RVE_STATUS.pc`, live. -/
def R.RVE_STATUS.pc : Fld := ⟨0x30004, 0x4000, 0, 12⟩
/-- `RVE_STATUS.ue_mem`, ro. -/
def R.RVE_STATUS.ue_mem : Fld := ⟨0x30004, 0x4000, 18, 2⟩
/-- `RVE_STATUS.state`, live. -/
def R.RVE_STATUS.state : Fld := ⟨0x30004, 0x4000, 20, 2⟩
/-- `RVE_STATUS.rve_reset_done`, live. -/
def R.RVE_STATUS.rve_reset_done : Fld := ⟨0x30004, 0x4000, 22, 1⟩
/-- `RVE_STATUS.steward`, live. -/
def R.RVE_STATUS.steward : Fld := ⟨0x30004, 0x4000, 23, 1⟩
/-- `RVE_STATUS.fence_cause`, ro. -/
def R.RVE_STATUS.fence_cause : Fld := ⟨0x30004, 0x4000, 24, 8⟩
/-- The register row `RVE_STATUS`. -/
def R.RVE_STATUS.row : RegDef :=
  ⟨0x30004, 0x4000, 4, 0x4000, 1,
   [(0, 12, .live), (18, 2, .ro), (20, 2, .live), (22, 1, .live), (23, 1, .live), (24, 8, .ro)]⟩

/-! `RVE_EVENT`, Reeve event latches (09_vsi_model.md). -/
/-- `RVE_EVENT.fence`, latch. -/
def R.RVE_EVENT.fence : Fld := ⟨0x30008, 0x4000, 0, 1⟩
/-- `RVE_EVENT.ecc_ue`, latch. -/
def R.RVE_EVENT.ecc_ue : Fld := ⟨0x30008, 0x4000, 1, 1⟩
/-- `RVE_EVENT.steward_taken`, latch. -/
def R.RVE_EVENT.steward_taken : Fld := ⟨0x30008, 0x4000, 2, 1⟩
/-- The register row `RVE_EVENT`. -/
def R.RVE_EVENT.row : RegDef :=
  ⟨0x30008, 0x4000, 4, 0x4000, 1,
   [(0, 1, .latch), (1, 1, .latch), (2, 1, .latch)]⟩

/-! `RVE_HEARTBEAT`, Firmware heartbeat (09_vsi_model.md). -/
/-- `RVE_HEARTBEAT.beat`, ro. -/
def R.RVE_HEARTBEAT.beat : Fld := ⟨0x3000c, 0x4000, 0, 32⟩
/-- The register row `RVE_HEARTBEAT`. -/
def R.RVE_HEARTBEAT.row : RegDef :=
  ⟨0x3000c, 0x4000, 4, 0x4000, 1,
   [(0, 32, .ro)]⟩

/-! `BELL_CTRL`, Bell Tower control (11_bell_tower.md). -/
/-- `BELL_CTRL.ql_hold`, rw. -/
def R.BELL_CTRL.ql_hold : Fld := ⟨0x10000, 0x0, 0, 4⟩
/-- `BELL_CTRL.fp_pull`, rw. -/
def R.BELL_CTRL.fp_pull : Fld := ⟨0x10000, 0x0, 8, 8⟩
/-- `BELL_CTRL.hold_h`, rw. -/
def R.BELL_CTRL.hold_h : Fld := ⟨0x10000, 0x0, 16, 8⟩
/-- `BELL_CTRL.tod_rx_en`, rw. -/
def R.BELL_CTRL.tod_rx_en : Fld := ⟨0x10000, 0x0, 24, 1⟩
/-- `BELL_CTRL.tod_tx_en`, rw. -/
def R.BELL_CTRL.tod_tx_en : Fld := ⟨0x10000, 0x0, 25, 1⟩
/-- `BELL_CTRL.host_trace`, rw. -/
def R.BELL_CTRL.host_trace : Fld := ⟨0x10000, 0x0, 26, 1⟩
/-- The register row `BELL_CTRL`. -/
def R.BELL_CTRL.row : RegDef :=
  ⟨0x10000, 0x4, 1, 0x4, 1,
   [(0, 4, .rw), (8, 8, .rw), (16, 8, .rw), (24, 1, .rw), (25, 1, .rw), (26, 1, .rw)]⟩

/-! `BELL_STATUS`, Bell Tower status (11_bell_tower.md). -/
/-- `BELL_STATUS.tstat`, live. -/
def R.BELL_STATUS.tstat : Fld := ⟨0x10004, 0x0, 0, 3⟩
/-- `BELL_STATUS.ql_out`, live. -/
def R.BELL_STATUS.ql_out : Fld := ⟨0x10004, 0x0, 4, 4⟩
/-- `BELL_STATUS.pps_in_ok`, live. -/
def R.BELL_STATUS.pps_in_ok : Fld := ⟨0x10004, 0x0, 8, 2⟩
/-- `BELL_STATUS.fp_locked`, live. -/
def R.BELL_STATUS.fp_locked : Fld := ⟨0x10004, 0x0, 10, 1⟩
/-- `BELL_STATUS.ocxo_ok`, live. -/
def R.BELL_STATUS.ocxo_ok : Fld := ⟨0x10004, 0x0, 11, 1⟩
/-- `BELL_STATUS.fp_err`, live. -/
def R.BELL_STATUS.fp_err : Fld := ⟨0x10004, 0x0, 16, 16⟩
/-- The register row `BELL_STATUS`. -/
def R.BELL_STATUS.row : RegDef :=
  ⟨0x10004, 0x4, 1, 0x4, 1,
   [(0, 3, .live), (4, 4, .live), (8, 2, .live), (10, 1, .live), (11, 1, .live), (16, 16, .live)]⟩

/-! `BELL_EVENT`, Bell Tower event latches (11_bell_tower.md). -/
/-- `BELL_EVENT.ref_fail`, latch. -/
def R.BELL_EVENT.ref_fail : Fld := ⟨0x10008, 0x0, 0, 1⟩
/-- `BELL_EVENT.ref_qual`, latch. -/
def R.BELL_EVENT.ref_qual : Fld := ⟨0x10008, 0x0, 1, 1⟩
/-- `BELL_EVENT.switch`, latch. -/
def R.BELL_EVENT.switch : Fld := ⟨0x10008, 0x0, 2, 1⟩
/-- `BELL_EVENT.hold_on`, latch. -/
def R.BELL_EVENT.hold_on : Fld := ⟨0x10008, 0x0, 3, 1⟩
/-- `BELL_EVENT.hold_spec_lost`, latch. -/
def R.BELL_EVENT.hold_spec_lost : Fld := ⟨0x10008, 0x0, 4, 1⟩
/-- `BELL_EVENT.soft_drift`, latch. -/
def R.BELL_EVENT.soft_drift : Fld := ⟨0x10008, 0x0, 5, 1⟩
/-- `BELL_EVENT.cons_dq`, latch. -/
def R.BELL_EVENT.cons_dq : Fld := ⟨0x10008, 0x0, 6, 1⟩
/-- `BELL_EVENT.fp_sat`, latch. -/
def R.BELL_EVENT.fp_sat : Fld := ⟨0x10008, 0x0, 7, 1⟩
/-- `BELL_EVENT.step_done`, latch. -/
def R.BELL_EVENT.step_done : Fld := ⟨0x10008, 0x0, 8, 1⟩
/-- `BELL_EVENT.pps_in_lost`, latch. -/
def R.BELL_EVENT.pps_in_lost : Fld := ⟨0x10008, 0x0, 9, 1⟩
/-- `BELL_EVENT.tod_err`, latch. -/
def R.BELL_EVENT.tod_err : Fld := ⟨0x10008, 0x0, 10, 1⟩
/-- `BELL_EVENT.ofs_wr_drop`, latch. -/
def R.BELL_EVENT.ofs_wr_drop : Fld := ⟨0x10008, 0x0, 11, 1⟩
/-- `BELL_EVENT.ocxo_fault`, latch. -/
def R.BELL_EVENT.ocxo_fault : Fld := ⟨0x10008, 0x0, 12, 1⟩
/-- `BELL_EVENT.dly_reject`, latch. -/
def R.BELL_EVENT.dly_reject : Fld := ⟨0x10008, 0x0, 13, 1⟩
/-- The register row `BELL_EVENT`. -/
def R.BELL_EVENT.row : RegDef :=
  ⟨0x10008, 0x4, 1, 0x4, 1,
   [(0, 1, .latch), (1, 1, .latch), (2, 1, .latch), (3, 1, .latch), (4, 1, .latch), (5, 1, .latch), (6, 1, .latch), (7, 1, .latch), (8, 1, .latch), (9, 1, .latch), (10, 1, .latch), (11, 1, .latch), (12, 1, .latch), (13, 1, .latch)]⟩

/-! `BELL_FRAME_OFS`, Frame-phase offset (11_bell_tower.md). -/
/-- `BELL_FRAME_OFS.frame_ofs`, rw. -/
def R.BELL_FRAME_OFS.frame_ofs : Fld := ⟨0x1000c, 0x0, 0, 32⟩
/-- The register row `BELL_FRAME_OFS`. -/
def R.BELL_FRAME_OFS.row : RegDef :=
  ⟨0x1000c, 0x4, 1, 0x4, 1,
   [(0, 32, .rw)]⟩

/-! `BELL_TIME_w`, Time snapshot (11_bell_tower.md). -/
/-- `BELL_TIME_w.time`, ro. -/
def R.BELL_TIME_w.time : Fld := ⟨0x10010, 0x4, 0, 32⟩
/-- The register row `BELL_TIME_w`. -/
def R.BELL_TIME_w.row : RegDef :=
  ⟨0x10010, 0x4, 3, 0x4, 1,
   [(0, 32, .ro)]⟩

/-! `BELL_TIMESRC`, Time sources (11_bell_tower.md). -/
/-- `BELL_TIMESRC.vtf_lane`, rw. -/
def R.BELL_TIMESRC.vtf_lane : Fld := ⟨0x10020, 0x0, 0, 7⟩
/-- `BELL_TIMESRC.pps0_ref`, rw. -/
def R.BELL_TIMESRC.pps0_ref : Fld := ⟨0x10020, 0x0, 8, 4⟩
/-- `BELL_TIMESRC.pps1_ref`, rw. -/
def R.BELL_TIMESRC.pps1_ref : Fld := ⟨0x10020, 0x0, 12, 4⟩
/-- The register row `BELL_TIMESRC`. -/
def R.BELL_TIMESRC.row : RegDef :=
  ⟨0x10020, 0x4, 1, 0x4, 1,
   [(0, 7, .rw), (8, 4, .rw), (12, 4, .rw)]⟩

/-! `BELL_QUAL`, Qualification times (11_bell_tower.md). -/
/-- `BELL_QUAL.qual_s`, rw. -/
def R.BELL_QUAL.qual_s : Fld := ⟨0x10024, 0x0, 0, 8⟩
/-- `BELL_QUAL.wtr_s`, rw. -/
def R.BELL_QUAL.wtr_s : Fld := ⟨0x10024, 0x0, 8, 12⟩
/-- The register row `BELL_QUAL`. -/
def R.BELL_QUAL.row : RegDef :=
  ⟨0x10024, 0x4, 1, 0x4, 1,
   [(0, 8, .rw), (8, 12, .rw)]⟩

/-! `BELL_CONS`, Consensus monitor (11_bell_tower.md). -/
/-- `BELL_CONS.cons_ppb`, rw. -/
def R.BELL_CONS.cons_ppb : Fld := ⟨0x10028, 0x0, 0, 16⟩
/-- `BELL_CONS.cons_s`, rw. -/
def R.BELL_CONS.cons_s : Fld := ⟨0x10028, 0x0, 16, 8⟩
/-- `BELL_CONS.cons_en`, rw. -/
def R.BELL_CONS.cons_en : Fld := ⟨0x10028, 0x0, 31, 1⟩
/-- The register row `BELL_CONS`. -/
def R.BELL_CONS.row : RegDef :=
  ⟨0x10028, 0x4, 1, 0x4, 1,
   [(0, 16, .rw), (16, 8, .rw), (31, 1, .rw)]⟩

/-! `BELL_VTF_LAG`, Frame lag of the VTF source (11_bell_tower.md). -/
/-- `BELL_VTF_LAG.vtf_lag`, ro. -/
def R.BELL_VTF_LAG.vtf_lag : Fld := ⟨0x1002c, 0x0, 0, 32⟩
/-- The register row `BELL_VTF_LAG`. -/
def R.BELL_VTF_LAG.row : RegDef :=
  ⟨0x1002c, 0x4, 1, 0x4, 1,
   [(0, 32, .ro)]⟩

/-! `BELL_REF_CFG_n`, Candidate configuration (11_bell_tower.md). -/
/-- `BELL_REF_CFG_n.time_trace`, rw. -/
def R.BELL_REF_CFG_n.time_trace : Fld := ⟨0x10100, 0x10, 0, 1⟩
/-- `BELL_REF_CFG_n.dpll_mask`, rw. -/
def R.BELL_REF_CFG_n.dpll_mask : Fld := ⟨0x10100, 0x10, 8, 3⟩
/-- `BELL_REF_CFG_n.prio`, rw. -/
def R.BELL_REF_CFG_n.prio : Fld := ⟨0x10100, 0x10, 16, 4⟩
/-- `BELL_REF_CFG_n.ql_src`, rw. -/
def R.BELL_REF_CFG_n.ql_src : Fld := ⟨0x10100, 0x10, 23, 1⟩
/-- `BELL_REF_CFG_n.ql`, rw. -/
def R.BELL_REF_CFG_n.ql : Fld := ⟨0x10100, 0x10, 24, 4⟩
/-- `BELL_REF_CFG_n.en`, rw. -/
def R.BELL_REF_CFG_n.en : Fld := ⟨0x10100, 0x10, 31, 1⟩
/-- The register row `BELL_REF_CFG_n`. -/
def R.BELL_REF_CFG_n.row : RegDef :=
  ⟨0x10100, 0x10, 18, 0x10, 1,
   [(0, 1, .rw), (8, 3, .rw), (16, 4, .rw), (23, 1, .rw), (24, 4, .rw), (31, 1, .rw)]⟩

/-! `BELL_REF_STAT_n`, Candidate state (11_bell_tower.md). -/
/-- `BELL_REF_STAT_n.state`, live. -/
def R.BELL_REF_STAT_n.state : Fld := ⟨0x10104, 0x10, 0, 3⟩
/-- `BELL_REF_STAT_n.sel_by`, live. -/
def R.BELL_REF_STAT_n.sel_by : Fld := ⟨0x10104, 0x10, 4, 3⟩
/-- `BELL_REF_STAT_n.time_ok`, live. -/
def R.BELL_REF_STAT_n.time_ok : Fld := ⟨0x10104, 0x10, 7, 1⟩
/-- `BELL_REF_STAT_n.ql_eff`, live. -/
def R.BELL_REF_STAT_n.ql_eff : Fld := ⟨0x10104, 0x10, 8, 4⟩
/-- `BELL_REF_STAT_n.soft_alarm`, live. -/
def R.BELL_REF_STAT_n.soft_alarm : Fld := ⟨0x10104, 0x10, 12, 1⟩
/-- `BELL_REF_STAT_n.cause`, ro. -/
def R.BELL_REF_STAT_n.cause : Fld := ⟨0x10104, 0x10, 13, 3⟩
/-- `BELL_REF_STAT_n.wtr_left`, live. -/
def R.BELL_REF_STAT_n.wtr_left : Fld := ⟨0x10104, 0x10, 16, 16⟩
/-- The register row `BELL_REF_STAT_n`. -/
def R.BELL_REF_STAT_n.row : RegDef :=
  ⟨0x10104, 0x10, 18, 0x10, 1,
   [(0, 3, .live), (4, 3, .live), (7, 1, .live), (8, 4, .live), (12, 1, .live), (13, 3, .ro), (16, 16, .live)]⟩

/-! `BELL_REF_FREQ_n`, Candidate frequency offset (11_bell_tower.md). -/
/-- `BELL_REF_FREQ_n.ofs`, ro. -/
def R.BELL_REF_FREQ_n.ofs : Fld := ⟨0x10108, 0x10, 0, 32⟩
/-- The register row `BELL_REF_FREQ_n`. -/
def R.BELL_REF_FREQ_n.row : RegDef :=
  ⟨0x10108, 0x10, 18, 0x10, 1,
   [(0, 32, .ro)]⟩

/-! `BELL_REF_THR_n`, Candidate drift thresholds (11_bell_tower.md). -/
/-- `BELL_REF_THR_n.soft`, rw. -/
def R.BELL_REF_THR_n.soft : Fld := ⟨0x1010c, 0x10, 0, 16⟩
/-- `BELL_REF_THR_n.hard`, rw. -/
def R.BELL_REF_THR_n.hard : Fld := ⟨0x1010c, 0x10, 16, 16⟩
/-- The register row `BELL_REF_THR_n`. -/
def R.BELL_REF_THR_n.row : RegDef :=
  ⟨0x1010c, 0x10, 18, 0x10, 1,
   [(0, 16, .rw), (16, 16, .rw)]⟩

/-! `BELL_DPLL_CFG_d`, DPLL configuration (11_bell_tower.md). -/
/-- `BELL_DPLL_CFG_d.mode`, rw. -/
def R.BELL_DPLL_CFG_d.mode : Fld := ⟨0x10300, 0x10, 0, 3⟩
/-- `BELL_DPLL_CFG_d.bw`, rw. -/
def R.BELL_DPLL_CFG_d.bw : Fld := ⟨0x10300, 0x10, 5, 5⟩
/-- `BELL_DPLL_CFG_d.acq_bw`, rw. -/
def R.BELL_DPLL_CFG_d.acq_bw : Fld := ⟨0x10300, 0x10, 10, 5⟩
/-- `BELL_DPLL_CFG_d.force_ref`, rw. -/
def R.BELL_DPLL_CFG_d.force_ref : Fld := ⟨0x10300, 0x10, 16, 5⟩
/-- `BELL_DPLL_CFG_d.ql_min`, rw. -/
def R.BELL_DPLL_CFG_d.ql_min : Fld := ⟨0x10300, 0x10, 24, 3⟩
/-- `BELL_DPLL_CFG_d.fence_req`, go. -/
def R.BELL_DPLL_CFG_d.fence_req : Fld := ⟨0x10300, 0x10, 28, 1⟩
/-- `BELL_DPLL_CFG_d.dpll_reset`, go. -/
def R.BELL_DPLL_CFG_d.dpll_reset : Fld := ⟨0x10300, 0x10, 29, 1⟩
/-- The register row `BELL_DPLL_CFG_d`. -/
def R.BELL_DPLL_CFG_d.row : RegDef :=
  ⟨0x10300, 0x10, 4, 0x10, 1,
   [(0, 3, .rw), (5, 5, .rw), (10, 5, .rw), (16, 5, .rw), (24, 3, .rw), (28, 1, .go), (29, 1, .go)]⟩

/-! `BELL_DPLL_STAT_d`, DPLL state (11_bell_tower.md). -/
/-- `BELL_DPLL_STAT_d.state`, live. -/
def R.BELL_DPLL_STAT_d.state : Fld := ⟨0x10304, 0x10, 0, 3⟩
/-- `BELL_DPLL_STAT_d.hold_min`, live. -/
def R.BELL_DPLL_STAT_d.hold_min : Fld := ⟨0x10304, 0x10, 4, 12⟩
/-- `BELL_DPLL_STAT_d.sel_ref`, live. -/
def R.BELL_DPLL_STAT_d.sel_ref : Fld := ⟨0x10304, 0x10, 16, 5⟩
/-- `BELL_DPLL_STAT_d.switching`, live. -/
def R.BELL_DPLL_STAT_d.switching : Fld := ⟨0x10304, 0x10, 21, 1⟩
/-- `BELL_DPLL_STAT_d.hold_spec`, live. -/
def R.BELL_DPLL_STAT_d.hold_spec : Fld := ⟨0x10304, 0x10, 22, 1⟩
/-- `BELL_DPLL_STAT_d.reset_done`, live. -/
def R.BELL_DPLL_STAT_d.reset_done : Fld := ⟨0x10304, 0x10, 23, 1⟩
/-- `BELL_DPLL_STAT_d.fence_cause`, ro. -/
def R.BELL_DPLL_STAT_d.fence_cause : Fld := ⟨0x10304, 0x10, 24, 8⟩
/-- The register row `BELL_DPLL_STAT_d`. -/
def R.BELL_DPLL_STAT_d.row : RegDef :=
  ⟨0x10304, 0x10, 4, 0x10, 1,
   [(0, 3, .live), (4, 12, .live), (16, 5, .live), (21, 1, .live), (22, 1, .live), (23, 1, .live), (24, 8, .ro)]⟩

/-! `BELL_DPLL_PHASE_d`, DPLL phase error (11_bell_tower.md). -/
/-- `BELL_DPLL_PHASE_d.phase`, ro. -/
def R.BELL_DPLL_PHASE_d.phase : Fld := ⟨0x10308, 0x10, 0, 32⟩
/-- The register row `BELL_DPLL_PHASE_d`. -/
def R.BELL_DPLL_PHASE_d.row : RegDef :=
  ⟨0x10308, 0x10, 4, 0x10, 1,
   [(0, 32, .ro)]⟩

/-! `BELL_DPLL_FREQ_d`, DPLL output frequency (11_bell_tower.md). -/
/-- `BELL_DPLL_FREQ_d.freq`, ro. -/
def R.BELL_DPLL_FREQ_d.freq : Fld := ⟨0x1030c, 0x10, 0, 32⟩
/-- The register row `BELL_DPLL_FREQ_d`. -/
def R.BELL_DPLL_FREQ_d.row : RegDef :=
  ⟨0x1030c, 0x10, 4, 0x10, 1,
   [(0, 32, .ro)]⟩

/-! `BELL_RCV_SEL_k`, Recovered-clock selector (11_bell_tower.md). -/
/-- `BELL_RCV_SEL_k.lane`, rw. -/
def R.BELL_RCV_SEL_k.lane : Fld := ⟨0x10340, 0x4, 0, 7⟩
/-- The register row `BELL_RCV_SEL_k`. -/
def R.BELL_RCV_SEL_k.row : RegDef :=
  ⟨0x10340, 0x4, 8, 0x4, 1,
   [(0, 7, .rw)]⟩

/-! `BELL_CLKOUT_CFG_k`, Clock output configuration (11_bell_tower.md). -/
/-- `BELL_CLKOUT_CFG_k.en`, rw. -/
def R.BELL_CLKOUT_CFG_k.en : Fld := ⟨0x10400, 0x8, 0, 1⟩
/-- `BELL_CLKOUT_CFG_k.src`, rw. -/
def R.BELL_CLKOUT_CFG_k.src : Fld := ⟨0x10400, 0x8, 1, 2⟩
/-- `BELL_CLKOUT_CFG_k.squelch`, rw. -/
def R.BELL_CLKOUT_CFG_k.squelch : Fld := ⟨0x10400, 0x8, 3, 1⟩
/-- The register row `BELL_CLKOUT_CFG_k`. -/
def R.BELL_CLKOUT_CFG_k.row : RegDef :=
  ⟨0x10400, 0x8, 8, 0x8, 1,
   [(0, 1, .rw), (1, 2, .rw), (3, 1, .rw)]⟩

/-! `BELL_CLKOUT_FREQ_k`, Clock output frequency (11_bell_tower.md). -/
/-- `BELL_CLKOUT_FREQ_k.freq_hz`, rw. -/
def R.BELL_CLKOUT_FREQ_k.freq_hz : Fld := ⟨0x10404, 0x8, 0, 30⟩
/-- The register row `BELL_CLKOUT_FREQ_k`. -/
def R.BELL_CLKOUT_FREQ_k.row : RegDef :=
  ⟨0x10404, 0x8, 8, 0x8, 1,
   [(0, 30, .rw)]⟩

/-! `BELL_PPS_CFG_k`, Pulse output configuration (11_bell_tower.md). -/
/-- `BELL_PPS_CFG_k.en`, rw. -/
def R.BELL_PPS_CFG_k.en : Fld := ⟨0x10440, 0x8, 0, 1⟩
/-- `BELL_PPS_CFG_k.src`, rw. -/
def R.BELL_PPS_CFG_k.src : Fld := ⟨0x10440, 0x8, 2, 2⟩
/-- `BELL_PPS_CFG_k.rate`, rw. -/
def R.BELL_PPS_CFG_k.rate : Fld := ⟨0x10440, 0x8, 4, 2⟩
/-- `BELL_PPS_CFG_k.width`, rw. -/
def R.BELL_PPS_CFG_k.width : Fld := ⟨0x10440, 0x8, 8, 16⟩
/-- `BELL_PPS_CFG_k.ofs_frac`, rw. -/
def R.BELL_PPS_CFG_k.ofs_frac : Fld := ⟨0x10440, 0x8, 24, 8⟩
/-- The register row `BELL_PPS_CFG_k`. -/
def R.BELL_PPS_CFG_k.row : RegDef :=
  ⟨0x10440, 0x8, 4, 0x8, 1,
   [(0, 1, .rw), (2, 2, .rw), (4, 2, .rw), (8, 16, .rw), (24, 8, .rw)]⟩

/-! `BELL_PPS_OFS_k`, Pulse output offset (11_bell_tower.md). -/
/-- `BELL_PPS_OFS_k.ofs_ns`, rw. -/
def R.BELL_PPS_OFS_k.ofs_ns : Fld := ⟨0x10444, 0x8, 0, 32⟩
/-- The register row `BELL_PPS_OFS_k`. -/
def R.BELL_PPS_OFS_k.row : RegDef :=
  ⟨0x10444, 0x8, 4, 0x8, 1,
   [(0, 32, .rw)]⟩

/-! `BELL_PPSIN_TS_k_w`, Pulse input capture (11_bell_tower.md). -/
/-- `BELL_PPSIN_TS_k_w.edge`, ro. -/
def R.BELL_PPSIN_TS_k_w.edge (i : Nat) : Fld := ⟨0x10480 + i * 0x10, 0x4, 0, 32⟩
/-- The register row `BELL_PPSIN_TS_k_w`. -/
def R.BELL_PPSIN_TS_k_w.row : RegDef :=
  ⟨0x10480, 0x10, 2, 0x4, 3,
   [(0, 32, .ro)]⟩

/-! `BELL_ASYM_n`, Fibre asymmetry of lane n (11_bell_tower.md). -/
/-- `BELL_ASYM_n.asym`, rw. -/
def R.BELL_ASYM_n.asym : Fld := ⟨0x10800, 0x4, 0, 24⟩
/-- The register row `BELL_ASYM_n`. -/
def R.BELL_ASYM_n.row : RegDef :=
  ⟨0x10800, 0x4, 96, 0x4, 1,
   [(0, 24, .rw)]⟩

/-! `PAIR_CTRL`, Pair policy (12_protection_twin.md). -/
/-- `PAIR_CTRL.ckpt_en`, rw. -/
def R.PAIR_CTRL.ckpt_en : Fld := ⟨0x20000, 0x0, 1, 1⟩
/-- `PAIR_CTRL.solo_take`, rw. -/
def R.PAIR_CTRL.solo_take : Fld := ⟨0x20000, 0x0, 2, 1⟩
/-- `PAIR_CTRL.takeover_on_fence`, rw. -/
def R.PAIR_CTRL.takeover_on_fence : Fld := ⟨0x20000, 0x0, 3, 1⟩
/-- `PAIR_CTRL.takeover_on_fault`, rw. -/
def R.PAIR_CTRL.takeover_on_fault : Fld := ⟨0x20000, 0x0, 4, 1⟩
/-- `PAIR_CTRL.takeover_from_catchup`, rw. -/
def R.PAIR_CTRL.takeover_from_catchup : Fld := ⟨0x20000, 0x0, 5, 1⟩
/-- `PAIR_CTRL.auto_rejoin`, rw. -/
def R.PAIR_CTRL.auto_rejoin : Fld := ⟨0x20000, 0x0, 6, 1⟩
/-- `PAIR_CTRL.ckpt_ms`, rw. -/
def R.PAIR_CTRL.ckpt_ms : Fld := ⟨0x20000, 0x0, 8, 8⟩
/-- `PAIR_CTRL.rj_settle_ms`, rw. -/
def R.PAIR_CTRL.rj_settle_ms : Fld := ⟨0x20000, 0x0, 16, 8⟩
/-- `PAIR_CTRL.pair_key`, rw. -/
def R.PAIR_CTRL.pair_key : Fld := ⟨0x20000, 0x0, 24, 8⟩
/-- The register row `PAIR_CTRL`. -/
def R.PAIR_CTRL.row : RegDef :=
  ⟨0x20000, 0x4, 1, 0x4, 1,
   [(1, 1, .rw), (2, 1, .rw), (3, 1, .rw), (4, 1, .rw), (5, 1, .rw), (6, 1, .rw), (8, 8, .rw), (16, 8, .rw), (24, 8, .rw)]⟩

/-! `PAIR_STATUS`, Pair status (12_protection_twin.md). -/
/-- `PAIR_STATUS.takeovers`, ro. -/
def R.PAIR_STATUS.takeovers : Fld := ⟨0x20004, 0x0, 0, 8⟩
/-- `PAIR_STATUS.catch_retry`, ro. -/
def R.PAIR_STATUS.catch_retry : Fld := ⟨0x20004, 0x0, 8, 4⟩
/-- `PAIR_STATUS.catch_fail`, ro. -/
def R.PAIR_STATUS.catch_fail : Fld := ⟨0x20004, 0x0, 12, 4⟩
/-- `PAIR_STATUS.catch_stage`, live. -/
def R.PAIR_STATUS.catch_stage : Fld := ⟨0x20004, 0x0, 18, 4⟩
/-- `PAIR_STATUS.dpll3_locked`, live. -/
def R.PAIR_STATUS.dpll3_locked : Fld := ⟨0x20004, 0x0, 22, 1⟩
/-- `PAIR_STATUS.link_up`, live. -/
def R.PAIR_STATUS.link_up : Fld := ⟨0x20004, 0x0, 23, 1⟩
/-- `PAIR_STATUS.alive_in`, live. -/
def R.PAIR_STATUS.alive_in : Fld := ⟨0x20004, 0x0, 24, 3⟩
/-- `PAIR_STATUS.take`, live. -/
def R.PAIR_STATUS.take : Fld := ⟨0x20004, 0x0, 27, 1⟩
/-- `PAIR_STATUS.side`, ro. -/
def R.PAIR_STATUS.side : Fld := ⟨0x20004, 0x0, 28, 1⟩
/-- `PAIR_STATUS.role`, live. -/
def R.PAIR_STATUS.role : Fld := ⟨0x20004, 0x0, 29, 3⟩
/-- The register row `PAIR_STATUS`. -/
def R.PAIR_STATUS.row : RegDef :=
  ⟨0x20004, 0x4, 1, 0x4, 1,
   [(0, 8, .ro), (8, 4, .ro), (12, 4, .ro), (18, 4, .live), (22, 1, .live), (23, 1, .live), (24, 3, .live), (27, 1, .live), (28, 1, .ro), (29, 3, .live)]⟩

/-! `PAIR_EVENT`, Pair event latches (12_protection_twin.md). -/
/-- `PAIR_EVENT.takeover`, latch. -/
def R.PAIR_EVENT.takeover : Fld := ⟨0x20008, 0x0, 0, 1⟩
/-- `PAIR_EVENT.divergence`, latch. -/
def R.PAIR_EVENT.divergence : Fld := ⟨0x20008, 0x0, 1, 1⟩
/-- `PAIR_EVENT.catchup_done`, latch. -/
def R.PAIR_EVENT.catchup_done : Fld := ⟨0x20008, 0x0, 2, 1⟩
/-- `PAIR_EVENT.catch_fail`, latch. -/
def R.PAIR_EVENT.catch_fail : Fld := ⟨0x20008, 0x0, 3, 1⟩
/-- `PAIR_EVENT.alive_lost`, latch. -/
def R.PAIR_EVENT.alive_lost : Fld := ⟨0x20008, 0x0, 4, 1⟩
/-- `PAIR_EVENT.link_lost`, latch. -/
def R.PAIR_EVENT.link_lost : Fld := ⟨0x20008, 0x0, 5, 1⟩
/-- `PAIR_EVENT.standby_alarm`, latch. -/
def R.PAIR_EVENT.standby_alarm : Fld := ⟨0x20008, 0x0, 6, 1⟩
/-- `PAIR_EVENT.ckpt_commit`, latch. -/
def R.PAIR_EVENT.ckpt_commit : Fld := ⟨0x20008, 0x0, 7, 1⟩
/-- `PAIR_EVENT.mirror_fail`, latch. -/
def R.PAIR_EVENT.mirror_fail : Fld := ⟨0x20008, 0x0, 8, 1⟩
/-- `PAIR_EVENT.journal_full`, latch. -/
def R.PAIR_EVENT.journal_full : Fld := ⟨0x20008, 0x0, 9, 1⟩
/-- `PAIR_EVENT.phase_ovf`, latch. -/
def R.PAIR_EVENT.phase_ovf : Fld := ⟨0x20008, 0x0, 10, 1⟩
/-- `PAIR_EVENT.prot_switch`, latch. -/
def R.PAIR_EVENT.prot_switch : Fld := ⟨0x20008, 0x0, 11, 1⟩
/-- `PAIR_EVENT.aps_mismatch`, latch. -/
def R.PAIR_EVENT.aps_mismatch : Fld := ⟨0x20008, 0x0, 12, 1⟩
/-- `PAIR_EVENT.skew_late`, latch. -/
def R.PAIR_EVENT.skew_late : Fld := ⟨0x20008, 0x0, 13, 1⟩
/-- The register row `PAIR_EVENT`. -/
def R.PAIR_EVENT.row : RegDef :=
  ⟨0x20008, 0x4, 1, 0x4, 1,
   [(0, 1, .latch), (1, 1, .latch), (2, 1, .latch), (3, 1, .latch), (4, 1, .latch), (5, 1, .latch), (6, 1, .latch), (7, 1, .latch), (8, 1, .latch), (9, 1, .latch), (10, 1, .latch), (11, 1, .latch), (12, 1, .latch), (13, 1, .latch)]⟩

/-! `PAIR_LINK`, Twin lanes (12_protection_twin.md). -/
/-- `PAIR_LINK.up`, live. -/
def R.PAIR_LINK.up : Fld := ⟨0x2000c, 0x0, 0, 8⟩
/-- `PAIR_LINK.fenced`, live. -/
def R.PAIR_LINK.fenced : Fld := ⟨0x2000c, 0x0, 8, 8⟩
/-- `PAIR_LINK.yielded`, latch. -/
def R.PAIR_LINK.yielded : Fld := ⟨0x2000c, 0x0, 16, 1⟩
/-- The register row `PAIR_LINK`. -/
def R.PAIR_LINK.row : RegDef :=
  ⟨0x2000c, 0x4, 1, 0x4, 1,
   [(0, 8, .live), (8, 8, .live), (16, 1, .latch)]⟩

/-! `PAIR_DELAY`, Twin-link delay (12_protection_twin.md). -/
/-- `PAIR_DELAY.delay`, ro. -/
def R.PAIR_DELAY.delay : Fld := ⟨0x20010, 0x0, 0, 32⟩
/-- The register row `PAIR_DELAY`. -/
def R.PAIR_DELAY.row : RegDef :=
  ⟨0x20010, 0x4, 1, 0x4, 1,
   [(0, 32, .ro)]⟩

/-! `PAIR_DIGEST`, Last divergence (12_protection_twin.md). -/
/-- `PAIR_DIGEST.quads`, ro. -/
def R.PAIR_DIGEST.quads : Fld := ⟨0x20014, 0x0, 0, 24⟩
/-- `PAIR_DIGEST.count`, ro. -/
def R.PAIR_DIGEST.count : Fld := ⟨0x20014, 0x0, 24, 8⟩
/-- The register row `PAIR_DIGEST`. -/
def R.PAIR_DIGEST.row : RegDef :=
  ⟨0x20014, 0x4, 1, 0x4, 1,
   [(0, 24, .ro), (24, 8, .ro)]⟩

/-! `PAIR_GEN_LO`, Last committed generation, low word (12_protection_twin.md). -/
/-- `PAIR_GEN_LO.gen_lo`, ro. -/
def R.PAIR_GEN_LO.gen_lo : Fld := ⟨0x20018, 0x0, 0, 32⟩
/-- The register row `PAIR_GEN_LO`. -/
def R.PAIR_GEN_LO.row : RegDef :=
  ⟨0x20018, 0x4, 1, 0x4, 1,
   [(0, 32, .ro)]⟩

/-! `PAIR_GEN_HI`, Last committed generation, high word (12_protection_twin.md). -/
/-- `PAIR_GEN_HI.gen_hi`, ro. -/
def R.PAIR_GEN_HI.gen_hi : Fld := ⟨0x2001c, 0x0, 0, 32⟩
/-- The register row `PAIR_GEN_HI`. -/
def R.PAIR_GEN_HI.row : RegDef :=
  ⟨0x2001c, 0x4, 1, 0x4, 1,
   [(0, 32, .ro)]⟩

/-! `PAIR_PROT_g`, Protection group state (12_protection_twin.md). -/
/-- `PAIR_PROT_g.trib_id`, ro. -/
def R.PAIR_PROT_g.trib_id : Fld := ⟨0x24000, 0x4, 0, 16⟩
/-- `PAIR_PROT_g.local_req`, live. -/
def R.PAIR_PROT_g.local_req : Fld := ⟨0x24000, 0x4, 16, 4⟩
/-- `PAIR_PROT_g.far_req`, live. -/
def R.PAIR_PROT_g.far_req : Fld := ⟨0x24000, 0x4, 20, 4⟩
/-- `PAIR_PROT_g.mismatch`, live. -/
def R.PAIR_PROT_g.mismatch : Fld := ⟨0x24000, 0x4, 24, 1⟩
/-- `PAIR_PROT_g.far_valid`, live. -/
def R.PAIR_PROT_g.far_valid : Fld := ⟨0x24000, 0x4, 25, 1⟩
/-- `PAIR_PROT_g.ruling`, live. -/
def R.PAIR_PROT_g.ruling : Fld := ⟨0x24000, 0x4, 26, 4⟩
/-- `PAIR_PROT_g.sel`, live. -/
def R.PAIR_PROT_g.sel : Fld := ⟨0x24000, 0x4, 30, 1⟩
/-- `PAIR_PROT_g.valid`, ro. -/
def R.PAIR_PROT_g.valid : Fld := ⟨0x24000, 0x4, 31, 1⟩
/-- The register row `PAIR_PROT_g`. -/
def R.PAIR_PROT_g.row : RegDef :=
  ⟨0x24000, 0x4, 4096, 0x4, 1,
   [(0, 16, .ro), (16, 4, .live), (20, 4, .live), (24, 1, .live), (25, 1, .live), (26, 4, .live), (30, 1, .live), (31, 1, .ro)]⟩

/-! `PAIR_PROT_CFG_g`, Protection group configuration (12_protection_twin.md). -/
/-- `PAIR_PROT_CFG_g.wtr`, ro. -/
def R.PAIR_PROT_CFG_g.wtr : Fld := ⟨0x28000, 0x4, 0, 8⟩
/-- `PAIR_PROT_CFG_g.hold_off`, ro. -/
def R.PAIR_PROT_CFG_g.hold_off : Fld := ⟨0x28000, 0x4, 8, 7⟩
/-- `PAIR_PROT_CFG_g.skew_us`, ro. -/
def R.PAIR_PROT_CFG_g.skew_us : Fld := ⟨0x28000, 0x4, 15, 8⟩
/-- `PAIR_PROT_CFG_g.p_channel`, ro. -/
def R.PAIR_PROT_CFG_g.p_channel : Fld := ⟨0x28000, 0x4, 23, 7⟩
/-- `PAIR_PROT_CFG_g.bidir`, ro. -/
def R.PAIR_PROT_CFG_g.bidir : Fld := ⟨0x28000, 0x4, 30, 1⟩
/-- `PAIR_PROT_CFG_g.revert`, ro. -/
def R.PAIR_PROT_CFG_g.revert : Fld := ⟨0x28000, 0x4, 31, 1⟩
/-- The register row `PAIR_PROT_CFG_g`. -/
def R.PAIR_PROT_CFG_g.row : RegDef :=
  ⟨0x28000, 0x4, 4096, 0x4, 1,
   [(0, 8, .ro), (8, 7, .ro), (15, 8, .ro), (23, 7, .ro), (30, 1, .ro), (31, 1, .ro)]⟩

/-! `LEDG_STATUS`, Ledger status (12_protection_twin.md). -/
/-- `LEDG_STATUS.ready`, live. -/
def R.LEDG_STATUS.ready : Fld := ⟨0x2f000, 0x0, 0, 1⟩
/-- `LEDG_STATUS.committed`, live. -/
def R.LEDG_STATUS.committed : Fld := ⟨0x2f000, 0x0, 1, 2⟩
/-- `LEDG_STATUS.open`, live. -/
def R.LEDG_STATUS.open_ : Fld := ⟨0x2f000, 0x0, 3, 1⟩
/-- `LEDG_STATUS.journal_level`, live. -/
def R.LEDG_STATUS.journal_level : Fld := ⟨0x2f000, 0x0, 16, 16⟩
/-- The register row `LEDG_STATUS`. -/
def R.LEDG_STATUS.row : RegDef :=
  ⟨0x2f000, 0x4, 1, 0x4, 1,
   [(0, 1, .live), (1, 2, .live), (3, 1, .live), (16, 16, .live)]⟩

/-! `LEDG_EVENT`, Ledger event latches (12_protection_twin.md). -/
/-- `LEDG_EVENT.write_err`, latch. -/
def R.LEDG_EVENT.write_err : Fld := ⟨0x2f004, 0x0, 0, 1⟩
/-- `LEDG_EVENT.ledg_ce`, latch. -/
def R.LEDG_EVENT.ledg_ce : Fld := ⟨0x2f004, 0x0, 1, 1⟩
/-- `LEDG_EVENT.ledg_ue`, latch. -/
def R.LEDG_EVENT.ledg_ue : Fld := ⟨0x2f004, 0x0, 2, 1⟩
/-- `LEDG_EVENT.restore_fail`, latch. -/
def R.LEDG_EVENT.restore_fail : Fld := ⟨0x2f004, 0x0, 3, 1⟩
/-- The register row `LEDG_EVENT`. -/
def R.LEDG_EVENT.row : RegDef :=
  ⟨0x2f004, 0x4, 1, 0x4, 1,
   [(0, 1, .latch), (1, 1, .latch), (2, 1, .latch), (3, 1, .latch)]⟩

/-! `LEDG_WEAR`, Wear (12_protection_twin.md). -/
/-- `LEDG_WEAR.max_writes`, ro. -/
def R.LEDG_WEAR.max_writes : Fld := ⟨0x2f008, 0x0, 0, 32⟩
/-- The register row `LEDG_WEAR`. -/
def R.LEDG_WEAR.row : RegDef :=
  ⟨0x2f008, 0x4, 1, 0x4, 1,
   [(0, 32, .ro)]⟩

/-! `MTX_MCFG_m`, Master configuration (13_host_matrix.md). -/
/-- `MTX_MCFG_m.qos`, rw. -/
def R.MTX_MCFG_m.qos : Fld := ⟨0x1000, 0x10, 0, 4⟩
/-- `MTX_MCFG_m.wdog`, rw. -/
def R.MTX_MCFG_m.wdog : Fld := ⟨0x1000, 0x10, 16, 16⟩
/-- The register row `MTX_MCFG_m`. -/
def R.MTX_MCFG_m.row : RegDef :=
  ⟨0x1000, 0x10, 8, 0x10, 1,
   [(0, 4, .rw), (16, 16, .rw)]⟩

/-! `MTX_MSTAT_m`, Master status (13_host_matrix.md). -/
/-- `MTX_MSTAT_m.access_size`, latch. -/
def R.MTX_MSTAT_m.access_size : Fld := ⟨0x1004, 0x10, 0, 1⟩
/-- `MTX_MSTAT_m.access_align`, latch. -/
def R.MTX_MSTAT_m.access_align : Fld := ⟨0x1004, 0x10, 1, 1⟩
/-- `MTX_MSTAT_m.once_viol`, latch. -/
def R.MTX_MSTAT_m.once_viol : Fld := ⟨0x1004, 0x10, 2, 1⟩
/-- `MTX_MSTAT_m.pair_wr_drop`, latch. -/
def R.MTX_MSTAT_m.pair_wr_drop : Fld := ⟨0x1004, 0x10, 3, 1⟩
/-- `MTX_MSTAT_m.mem_wr_drop`, latch. -/
def R.MTX_MSTAT_m.mem_wr_drop : Fld := ⟨0x1004, 0x10, 4, 1⟩
/-- `MTX_MSTAT_m.fenced_tgt`, latch. -/
def R.MTX_MSTAT_m.fenced_tgt : Fld := ⟨0x1004, 0x10, 5, 1⟩
/-- `MTX_MSTAT_m.hang`, latch. -/
def R.MTX_MSTAT_m.hang : Fld := ⟨0x1004, 0x10, 6, 1⟩
/-- `MTX_MSTAT_m.burst_cut`, latch. -/
def R.MTX_MSTAT_m.burst_cut : Fld := ⟨0x1004, 0x10, 7, 1⟩
/-- `MTX_MSTAT_m.outstanding`, live. -/
def R.MTX_MSTAT_m.outstanding : Fld := ⟨0x1004, 0x10, 16, 6⟩
/-- `MTX_MSTAT_m.fenced`, live. -/
def R.MTX_MSTAT_m.fenced : Fld := ⟨0x1004, 0x10, 23, 1⟩
/-- `MTX_MSTAT_m.fence_cause`, ro. -/
def R.MTX_MSTAT_m.fence_cause : Fld := ⟨0x1004, 0x10, 24, 8⟩
/-- The register row `MTX_MSTAT_m`. -/
def R.MTX_MSTAT_m.row : RegDef :=
  ⟨0x1004, 0x10, 8, 0x10, 1,
   [(0, 1, .latch), (1, 1, .latch), (2, 1, .latch), (3, 1, .latch), (4, 1, .latch), (5, 1, .latch), (6, 1, .latch), (7, 1, .latch), (16, 6, .live), (23, 1, .live), (24, 8, .ro)]⟩

/-! `MTX_MCNT_m`, Write-once violation count (13_host_matrix.md). -/
/-- `MTX_MCNT_m.once_viol_cnt`, ro. -/
def R.MTX_MCNT_m.once_viol_cnt : Fld := ⟨0x1008, 0x10, 0, 32⟩
/-- The register row `MTX_MCNT_m`. -/
def R.MTX_MCNT_m.row : RegDef :=
  ⟨0x1008, 0x10, 8, 0x10, 1,
   [(0, 32, .ro)]⟩

/-! `MTX_MHANG_m`, Hung address (13_host_matrix.md). -/
/-- `MTX_MHANG_m.addr`, ro. -/
def R.MTX_MHANG_m.addr : Fld := ⟨0x100c, 0x10, 0, 32⟩
/-- The register row `MTX_MHANG_m`. -/
def R.MTX_MHANG_m.row : RegDef :=
  ⟨0x100c, 0x10, 8, 0x10, 1,
   [(0, 32, .ro)]⟩

/-! `MTX_STATUS`, Matrix status (13_host_matrix.md). -/
/-- `MTX_STATUS.fenced`, live. -/
def R.MTX_STATUS.fenced : Fld := ⟨0x1100, 0x0, 0, 8⟩
/-- `MTX_STATUS.steward`, live. -/
def R.MTX_STATUS.steward : Fld := ⟨0x1100, 0x0, 8, 3⟩
/-- The register row `MTX_STATUS`. -/
def R.MTX_STATUS.row : RegDef :=
  ⟨0x1100, 0x4, 1, 0x4, 1,
   [(0, 8, .live), (8, 3, .live)]⟩

/-! `HOST_CTRL`, Interrupt moderation (13_host_matrix.md). -/
/-- `HOST_CTRL.mod_cnt`, rw. -/
def R.HOST_CTRL.mod_cnt : Fld := ⟨0x2000, 0x0, 0, 8⟩
/-- `HOST_CTRL.mod_us`, rw. -/
def R.HOST_CTRL.mod_us : Fld := ⟨0x2000, 0x0, 8, 10⟩
/-- The register row `HOST_CTRL`. -/
def R.HOST_CTRL.row : RegDef :=
  ⟨0x2000, 0x4, 1, 0x4, 1,
   [(0, 8, .rw), (8, 10, .rw)]⟩

/-! `HOST_STATUS`, Host port status (13_host_matrix.md). -/
/-- `HOST_STATUS.link_width`, live. -/
def R.HOST_STATUS.link_width : Fld := ⟨0x2004, 0x0, 0, 4⟩
/-- `HOST_STATUS.link_gen`, live. -/
def R.HOST_STATUS.link_gen : Fld := ⟨0x2004, 0x0, 4, 4⟩
/-- `HOST_STATUS.inflight`, live. -/
def R.HOST_STATUS.inflight : Fld := ⟨0x2004, 0x0, 8, 8⟩
/-- `HOST_STATUS.rej_cnt`, ro. -/
def R.HOST_STATUS.rej_cnt : Fld := ⟨0x2004, 0x0, 16, 16⟩
/-- The register row `HOST_STATUS`. -/
def R.HOST_STATUS.row : RegDef :=
  ⟨0x2004, 0x4, 1, 0x4, 1,
   [(0, 4, .live), (4, 4, .live), (8, 8, .live), (16, 16, .ro)]⟩

/-! `HOST_EVENT`, Host port event latches (13_host_matrix.md). -/
/-- `HOST_EVENT.ring_err`, latch. -/
def R.HOST_EVENT.ring_err : Fld := ⟨0x2008, 0x0, 0, 1⟩
/-- `HOST_EVENT.ev_lost`, latch. -/
def R.HOST_EVENT.ev_lost : Fld := ⟨0x2008, 0x0, 1, 1⟩
/-- `HOST_EVENT.dma_err`, latch. -/
def R.HOST_EVENT.dma_err : Fld := ⟨0x2008, 0x0, 2, 1⟩
/-- `HOST_EVENT.dma_fenced`, latch. -/
def R.HOST_EVENT.dma_fenced : Fld := ⟨0x2008, 0x0, 3, 1⟩
/-- `HOST_EVENT.cmd_rej`, latch. -/
def R.HOST_EVENT.cmd_rej : Fld := ⟨0x2008, 0x0, 4, 1⟩
/-- The register row `HOST_EVENT`. -/
def R.HOST_EVENT.row : RegDef :=
  ⟨0x2008, 0x4, 1, 0x4, 1,
   [(0, 1, .latch), (1, 1, .latch), (2, 1, .latch), (3, 1, .latch), (4, 1, .latch)]⟩

/-! `HOST_EV_VEC_k`, Class-to-vector map (13_host_matrix.md). -/
/-- `HOST_EV_VEC_k.vec0`, rw. -/
def R.HOST_EV_VEC_k.vec0 : Fld := ⟨0x2010, 0x4, 0, 6⟩
/-- `HOST_EV_VEC_k.en0`, rw. -/
def R.HOST_EV_VEC_k.en0 : Fld := ⟨0x2010, 0x4, 7, 1⟩
/-- `HOST_EV_VEC_k.vec1`, rw. -/
def R.HOST_EV_VEC_k.vec1 : Fld := ⟨0x2010, 0x4, 8, 6⟩
/-- `HOST_EV_VEC_k.en1`, rw. -/
def R.HOST_EV_VEC_k.en1 : Fld := ⟨0x2010, 0x4, 15, 1⟩
/-- `HOST_EV_VEC_k.vec2`, rw. -/
def R.HOST_EV_VEC_k.vec2 : Fld := ⟨0x2010, 0x4, 16, 6⟩
/-- `HOST_EV_VEC_k.en2`, rw. -/
def R.HOST_EV_VEC_k.en2 : Fld := ⟨0x2010, 0x4, 23, 1⟩
/-- `HOST_EV_VEC_k.vec3`, rw. -/
def R.HOST_EV_VEC_k.vec3 : Fld := ⟨0x2010, 0x4, 24, 6⟩
/-- `HOST_EV_VEC_k.en3`, rw. -/
def R.HOST_EV_VEC_k.en3 : Fld := ⟨0x2010, 0x4, 31, 1⟩
/-- The register row `HOST_EV_VEC_k`. -/
def R.HOST_EV_VEC_k.row : RegDef :=
  ⟨0x2010, 0x4, 4, 0x4, 1,
   [(0, 6, .rw), (7, 1, .rw), (8, 6, .rw), (15, 1, .rw), (16, 6, .rw), (23, 1, .rw), (24, 6, .rw), (31, 1, .rw)]⟩

/-! `HOST_RING_BASE_LO_x`, Ring base, low word (13_host_matrix.md). -/
/-- `HOST_RING_BASE_LO_x.base_lo`, rw. -/
def R.HOST_RING_BASE_LO_x.base_lo : Fld := ⟨0x2100, 0x20, 6, 26⟩
/-- The register row `HOST_RING_BASE_LO_x`. -/
def R.HOST_RING_BASE_LO_x.row : RegDef :=
  ⟨0x2100, 0x20, 6, 0x20, 1,
   [(6, 26, .rw)]⟩

/-! `HOST_RING_BASE_HI_x`, Ring base, high word (13_host_matrix.md). -/
/-- `HOST_RING_BASE_HI_x.base_hi`, rw. -/
def R.HOST_RING_BASE_HI_x.base_hi : Fld := ⟨0x2104, 0x20, 0, 32⟩
/-- The register row `HOST_RING_BASE_HI_x`. -/
def R.HOST_RING_BASE_HI_x.row : RegDef :=
  ⟨0x2104, 0x20, 6, 0x20, 1,
   [(0, 32, .rw)]⟩

/-! `HOST_RING_CFG_x`, Ring configuration (13_host_matrix.md). -/
/-- `HOST_RING_CFG_x.en`, rw. -/
def R.HOST_RING_CFG_x.en : Fld := ⟨0x2108, 0x20, 0, 1⟩
/-- `HOST_RING_CFG_x.lg_size`, rw. -/
def R.HOST_RING_CFG_x.lg_size : Fld := ⟨0x2108, 0x20, 1, 4⟩
/-- `HOST_RING_CFG_x.active`, live. -/
def R.HOST_RING_CFG_x.active : Fld := ⟨0x2108, 0x20, 8, 1⟩
/-- The register row `HOST_RING_CFG_x`. -/
def R.HOST_RING_CFG_x.row : RegDef :=
  ⟨0x2108, 0x20, 6, 0x20, 1,
   [(0, 1, .rw), (1, 4, .rw), (8, 1, .live)]⟩

/-! `HOST_RING_DB_x`, Host index and doorbell (13_host_matrix.md). -/
/-- `HOST_RING_DB_x.host_idx`, rw. -/
def R.HOST_RING_DB_x.host_idx : Fld := ⟨0x210c, 0x20, 0, 16⟩
/-- The register row `HOST_RING_DB_x`. -/
def R.HOST_RING_DB_x.row : RegDef :=
  ⟨0x210c, 0x20, 6, 0x20, 1,
   [(0, 16, .rw)]⟩

/-! `HOST_RING_DEV_x`, Device index (13_host_matrix.md). -/
/-- `HOST_RING_DEV_x.dev_idx`, ro. -/
def R.HOST_RING_DEV_x.dev_idx : Fld := ⟨0x2110, 0x20, 0, 16⟩
/-- The register row `HOST_RING_DEV_x`. -/
def R.HOST_RING_DEV_x.row : RegDef :=
  ⟨0x2110, 0x20, 6, 0x20, 1,
   [(0, 16, .ro)]⟩

/-! `GATE_STATUS`, Gatehouse status (14_gate_lantern_millrace.md). -/
/-- `GATE_STATUS.entropy_ok`, live. -/
def R.GATE_STATUS.entropy_ok : Fld := ⟨0x4000, 0x0, 3, 1⟩
/-- `GATE_STATUS.rom_ok`, ro. -/
def R.GATE_STATUS.rom_ok : Fld := ⟨0x4000, 0x0, 4, 1⟩
/-- `GATE_STATUS.desc_unsigned`, ro. -/
def R.GATE_STATUS.desc_unsigned : Fld := ⟨0x4000, 0x0, 5, 1⟩
/-- `GATE_STATUS.desc_ok`, ro. -/
def R.GATE_STATUS.desc_ok : Fld := ⟨0x4000, 0x0, 6, 1⟩
/-- `GATE_STATUS.desc_burned`, ro. -/
def R.GATE_STATUS.desc_burned : Fld := ⟨0x4000, 0x0, 7, 1⟩
/-- `GATE_STATUS.desc_src`, ro. -/
def R.GATE_STATUS.desc_src : Fld := ⟨0x4000, 0x0, 8, 2⟩
/-- `GATE_STATUS.key_bad`, ro. -/
def R.GATE_STATUS.key_bad : Fld := ⟨0x4000, 0x0, 12, 4⟩
/-- `GATE_STATUS.key_revoked`, ro. -/
def R.GATE_STATUS.key_revoked : Fld := ⟨0x4000, 0x0, 16, 4⟩
/-- `GATE_STATUS.key_prog`, ro. -/
def R.GATE_STATUS.key_prog : Fld := ⟨0x4000, 0x0, 20, 4⟩
/-- `GATE_STATUS.life_next`, ro. -/
def R.GATE_STATUS.life_next : Fld := ⟨0x4000, 0x0, 28, 2⟩
/-- `GATE_STATUS.lifecycle`, ro. -/
def R.GATE_STATUS.lifecycle : Fld := ⟨0x4000, 0x0, 30, 2⟩
/-- The register row `GATE_STATUS`. -/
def R.GATE_STATUS.row : RegDef :=
  ⟨0x4000, 0x4, 1, 0x4, 1,
   [(3, 1, .live), (4, 1, .ro), (5, 1, .ro), (6, 1, .ro), (7, 1, .ro), (8, 2, .ro), (12, 4, .ro), (16, 4, .ro), (20, 4, .ro), (28, 2, .ro), (30, 2, .ro)]⟩

/-! `GATE_EVENT`, Gatehouse event latches (14_gate_lantern_millrace.md). -/
/-- `GATE_EVENT.op_done`, latch. -/
def R.GATE_EVENT.op_done : Fld := ⟨0x4004, 0x0, 0, 1⟩
/-- `GATE_EVENT.op_fail`, latch. -/
def R.GATE_EVENT.op_fail : Fld := ⟨0x4004, 0x0, 1, 1⟩
/-- `GATE_EVENT.unlock_fail`, latch. -/
def R.GATE_EVENT.unlock_fail : Fld := ⟨0x4004, 0x0, 2, 1⟩
/-- `GATE_EVENT.unlock_lockout`, latch. -/
def R.GATE_EVENT.unlock_lockout : Fld := ⟨0x4004, 0x0, 3, 1⟩
/-- `GATE_EVENT.entropy_fault`, latch. -/
def R.GATE_EVENT.entropy_fault : Fld := ⟨0x4004, 0x0, 4, 1⟩
/-- `GATE_EVENT.fuse_ue`, latch. -/
def R.GATE_EVENT.fuse_ue : Fld := ⟨0x4004, 0x0, 5, 1⟩
/-- `GATE_EVENT.lock_viol`, latch. -/
def R.GATE_EVENT.lock_viol : Fld := ⟨0x4004, 0x0, 6, 1⟩
/-- The register row `GATE_EVENT`. -/
def R.GATE_EVENT.row : RegDef :=
  ⟨0x4004, 0x4, 1, 0x4, 1,
   [(0, 1, .latch), (1, 1, .latch), (2, 1, .latch), (3, 1, .latch), (4, 1, .latch), (5, 1, .latch), (6, 1, .latch)]⟩

/-! `GATE_OP`, Operation (14_gate_lantern_millrace.md). -/
/-- `GATE_OP.go`, go. -/
def R.GATE_OP.go : Fld := ⟨0x4008, 0x0, 0, 1⟩
/-- `GATE_OP.op`, rw. -/
def R.GATE_OP.op : Fld := ⟨0x4008, 0x0, 4, 4⟩
/-- `GATE_OP.slot`, rw. -/
def R.GATE_OP.slot : Fld := ⟨0x4008, 0x0, 8, 8⟩
/-- `GATE_OP.signer`, rw. -/
def R.GATE_OP.signer : Fld := ⟨0x4008, 0x0, 16, 4⟩
/-- `GATE_OP.result`, ro. -/
def R.GATE_OP.result : Fld := ⟨0x4008, 0x0, 24, 8⟩
/-- The register row `GATE_OP`. -/
def R.GATE_OP.row : RegDef :=
  ⟨0x4008, 0x4, 1, 0x4, 1,
   [(0, 1, .go), (4, 4, .rw), (8, 8, .rw), (16, 4, .rw), (24, 8, .ro)]⟩

/-! `GATE_LOCK`, Lock-down (14_gate_lantern_millrace.md). -/
/-- `GATE_LOCK.key_lock`, once. -/
def R.GATE_LOCK.key_lock : Fld := ⟨0x400c, 0x0, 0, 1⟩
/-- `GATE_LOCK.unlock_lock`, once. -/
def R.GATE_LOCK.unlock_lock : Fld := ⟨0x400c, 0x0, 1, 1⟩
/-- `GATE_LOCK.aon_lock`, once. -/
def R.GATE_LOCK.aon_lock : Fld := ⟨0x400c, 0x0, 2, 1⟩
/-- The register row `GATE_LOCK`. -/
def R.GATE_LOCK.row : RegDef :=
  ⟨0x400c, 0x4, 1, 0x4, 1,
   [(0, 1, .once), (1, 1, .once), (2, 1, .once)]⟩

/-! `GATE_MBOX_w`, Mailbox (14_gate_lantern_millrace.md). -/
/-- `GATE_MBOX_w.data`, rw. -/
def R.GATE_MBOX_w.data : Fld := ⟨0x4100, 0x4, 0, 32⟩
/-- The register row `GATE_MBOX_w`. -/
def R.GATE_MBOX_w.row : RegDef :=
  ⟨0x4100, 0x4, 64, 0x4, 1,
   [(0, 32, .rw)]⟩

/-! `LANT_CTRL`, Lantern control (14_gate_lantern_millrace.md). -/
/-- `LANT_CTRL.level_req`, rw. -/
def R.LANT_CTRL.level_req : Fld := ⟨0x8000, 0x0, 0, 2⟩
/-- `LANT_CTRL.trace_en`, rw. -/
def R.LANT_CTRL.trace_en : Fld := ⟨0x8000, 0x0, 3, 1⟩
/-- `LANT_CTRL.lock`, go. -/
def R.LANT_CTRL.lock : Fld := ⟨0x8000, 0x0, 4, 1⟩
/-- `LANT_CTRL.lant_reset`, go. -/
def R.LANT_CTRL.lant_reset : Fld := ⟨0x8000, 0x0, 5, 1⟩
/-- The register row `LANT_CTRL`. -/
def R.LANT_CTRL.row : RegDef :=
  ⟨0x8000, 0x4, 1, 0x4, 1,
   [(0, 2, .rw), (3, 1, .rw), (4, 1, .go), (5, 1, .go)]⟩

/-! `LANT_STATUS`, Lantern status (14_gate_lantern_millrace.md). -/
/-- `LANT_STATUS.tinker`, live. -/
def R.LANT_STATUS.tinker : Fld := ⟨0x8004, 0x0, 0, 28⟩
/-- `LANT_STATUS.level`, live. -/
def R.LANT_STATUS.level : Fld := ⟨0x8004, 0x0, 30, 2⟩
/-- The register row `LANT_STATUS`. -/
def R.LANT_STATUS.row : RegDef :=
  ⟨0x8004, 0x4, 1, 0x4, 1,
   [(0, 28, .live), (30, 2, .live)]⟩

/-! `LANT_TMASK`, TINKER targets (14_gate_lantern_millrace.md). -/
/-- `LANT_TMASK.tmask`, rw. -/
def R.LANT_TMASK.tmask : Fld := ⟨0x8008, 0x0, 0, 28⟩
/-- The register row `LANT_TMASK`. -/
def R.LANT_TMASK.row : RegDef :=
  ⟨0x8008, 0x4, 1, 0x4, 1,
   [(0, 28, .rw)]⟩

/-! `LANT_EVENT`, Lantern event latches (14_gate_lantern_millrace.md). -/
/-- `LANT_EVENT.level_change`, latch. -/
def R.LANT_EVENT.level_change : Fld := ⟨0x800c, 0x0, 0, 1⟩
/-- `LANT_EVENT.denied`, latch. -/
def R.LANT_EVENT.denied : Fld := ⟨0x800c, 0x0, 1, 1⟩
/-- `LANT_EVENT.halted`, latch. -/
def R.LANT_EVENT.halted : Fld := ⟨0x800c, 0x0, 2, 1⟩
/-- `LANT_EVENT.trace_lost`, latch. -/
def R.LANT_EVENT.trace_lost : Fld := ⟨0x800c, 0x0, 3, 1⟩
/-- `LANT_EVENT.unlock_ok`, latch. -/
def R.LANT_EVENT.unlock_ok : Fld := ⟨0x800c, 0x0, 4, 1⟩
/-- The register row `LANT_EVENT`. -/
def R.LANT_EVENT.row : RegDef :=
  ⟨0x800c, 0x4, 1, 0x4, 1,
   [(0, 1, .latch), (1, 1, .latch), (2, 1, .latch), (3, 1, .latch), (4, 1, .latch)]⟩

/-! `LANT_SEL`, Halt and step (14_gate_lantern_millrace.md). -/
/-- `LANT_SEL.unit`, rw. -/
def R.LANT_SEL.unit : Fld := ⟨0x8010, 0x0, 0, 9⟩
/-- `LANT_SEL.kind`, rw. -/
def R.LANT_SEL.kind : Fld := ⟨0x8010, 0x0, 9, 1⟩
/-- `LANT_SEL.halt`, go. -/
def R.LANT_SEL.halt : Fld := ⟨0x8010, 0x0, 21, 1⟩
/-- `LANT_SEL.step`, go. -/
def R.LANT_SEL.step : Fld := ⟨0x8010, 0x0, 22, 1⟩
/-- `LANT_SEL.resume`, go. -/
def R.LANT_SEL.resume : Fld := ⟨0x8010, 0x0, 23, 1⟩
/-- `LANT_SEL.is_halted`, live. -/
def R.LANT_SEL.is_halted : Fld := ⟨0x8010, 0x0, 31, 1⟩
/-- The register row `LANT_SEL`. -/
def R.LANT_SEL.row : RegDef :=
  ⟨0x8010, 0x4, 1, 0x4, 1,
   [(0, 9, .rw), (9, 1, .rw), (21, 1, .go), (22, 1, .go), (23, 1, .go), (31, 1, .live)]⟩

/-! `LANT_TRACE_DATA`, Trace data (14_gate_lantern_millrace.md). -/
/-- `LANT_TRACE_DATA.data`, ro. -/
def R.LANT_TRACE_DATA.data : Fld := ⟨0x8020, 0x0, 0, 32⟩
/-- The register row `LANT_TRACE_DATA`. -/
def R.LANT_TRACE_DATA.row : RegDef :=
  ⟨0x8020, 0x4, 1, 0x4, 1,
   [(0, 32, .ro)]⟩

/-! `LANT_TRACE_STAT`, Trace status (14_gate_lantern_millrace.md). -/
/-- `LANT_TRACE_STAT.level`, live. -/
def R.LANT_TRACE_STAT.level : Fld := ⟨0x8024, 0x0, 0, 17⟩
/-- `LANT_TRACE_STAT.overflow`, latch. -/
def R.LANT_TRACE_STAT.overflow : Fld := ⟨0x8024, 0x0, 28, 1⟩
/-- `LANT_TRACE_STAT.underrun`, latch. -/
def R.LANT_TRACE_STAT.underrun : Fld := ⟨0x8024, 0x0, 29, 1⟩
/-- `LANT_TRACE_STAT.full`, live. -/
def R.LANT_TRACE_STAT.full : Fld := ⟨0x8024, 0x0, 30, 1⟩
/-- `LANT_TRACE_STAT.empty`, live. -/
def R.LANT_TRACE_STAT.empty : Fld := ⟨0x8024, 0x0, 31, 1⟩
/-- The register row `LANT_TRACE_STAT`. -/
def R.LANT_TRACE_STAT.row : RegDef :=
  ⟨0x8024, 0x4, 1, 0x4, 1,
   [(0, 17, .live), (28, 1, .latch), (29, 1, .latch), (30, 1, .live), (31, 1, .live)]⟩

/-! `LANT_TRACE_CTRL`, Trace control (14_gate_lantern_millrace.md). -/
/-- `LANT_TRACE_CTRL.flush`, go. -/
def R.LANT_TRACE_CTRL.flush : Fld := ⟨0x8028, 0x0, 0, 1⟩
/-- `LANT_TRACE_CTRL.flushed_words`, ro. -/
def R.LANT_TRACE_CTRL.flushed_words : Fld := ⟨0x8028, 0x0, 16, 16⟩
/-- The register row `LANT_TRACE_CTRL`. -/
def R.LANT_TRACE_CTRL.row : RegDef :=
  ⟨0x8028, 0x4, 1, 0x4, 1,
   [(0, 1, .go), (16, 16, .ro)]⟩

/-! `MILL_CTRL`, Millrace control (14_gate_lantern_millrace.md). -/
/-- `MILL_CTRL.avs_en`, rw. -/
def R.MILL_CTRL.avs_en : Fld := ⟨0xc000, 0x0, 1, 1⟩
/-- `MILL_CTRL.throttle_en`, rw. -/
def R.MILL_CTRL.throttle_en : Fld := ⟨0xc000, 0x0, 2, 1⟩
/-- `MILL_CTRL.therm_warn`, rw. -/
def R.MILL_CTRL.therm_warn : Fld := ⟨0xc000, 0x0, 16, 8⟩
/-- `MILL_CTRL.cap_lim`, rw. -/
def R.MILL_CTRL.cap_lim : Fld := ⟨0xc000, 0x0, 24, 8⟩
/-- The register row `MILL_CTRL`. -/
def R.MILL_CTRL.row : RegDef :=
  ⟨0xc000, 0x4, 1, 0x4, 1,
   [(1, 1, .rw), (2, 1, .rw), (16, 8, .rw), (24, 8, .rw)]⟩

/-! `MILL_STATUS`, Millrace status (14_gate_lantern_millrace.md). -/
/-- `MILL_STATUS.p_meas`, live. -/
def R.MILL_STATUS.p_meas : Fld := ⟨0xc004, 0x0, 0, 16⟩
/-- `MILL_STATUS.cap_w`, live. -/
def R.MILL_STATUS.cap_w : Fld := ⟨0xc004, 0x0, 16, 8⟩
/-- `MILL_STATUS.off_cause`, ro. -/
def R.MILL_STATUS.off_cause : Fld := ⟨0xc004, 0x0, 24, 3⟩
/-- `MILL_STATUS.cap_over`, live. -/
def R.MILL_STATUS.cap_over : Fld := ⟨0xc004, 0x0, 27, 1⟩
/-- `MILL_STATUS.throttle`, live. -/
def R.MILL_STATUS.throttle : Fld := ⟨0xc004, 0x0, 28, 1⟩
/-- `MILL_STATUS.therm_n`, live. -/
def R.MILL_STATUS.therm_n : Fld := ⟨0xc004, 0x0, 29, 1⟩
/-- `MILL_STATUS.pstate`, live. -/
def R.MILL_STATUS.pstate : Fld := ⟨0xc004, 0x0, 30, 2⟩
/-- The register row `MILL_STATUS`. -/
def R.MILL_STATUS.row : RegDef :=
  ⟨0xc004, 0x4, 1, 0x4, 1,
   [(0, 16, .live), (16, 8, .live), (24, 3, .ro), (27, 1, .live), (28, 1, .live), (29, 1, .live), (30, 2, .live)]⟩

/-! `MILL_EVENT`, Millrace event latches (14_gate_lantern_millrace.md). -/
/-- `MILL_EVENT.cap_viol`, latch. -/
def R.MILL_EVENT.cap_viol : Fld := ⟨0xc008, 0x0, 0, 1⟩
/-- `MILL_EVENT.therm_warn_on`, latch. -/
def R.MILL_EVENT.therm_warn_on : Fld := ⟨0xc008, 0x0, 1, 1⟩
/-- `MILL_EVENT.therm_trip`, latch. -/
def R.MILL_EVENT.therm_trip : Fld := ⟨0xc008, 0x0, 2, 1⟩
/-- `MILL_EVENT.avs_fault`, latch. -/
def R.MILL_EVENT.avs_fault : Fld := ⟨0xc008, 0x0, 3, 1⟩
/-- `MILL_EVENT.pmb_fence`, latch. -/
def R.MILL_EVENT.pmb_fence : Fld := ⟨0xc008, 0x0, 4, 1⟩
/-- `MILL_EVENT.pmb_alert`, latch. -/
def R.MILL_EVENT.pmb_alert : Fld := ⟨0xc008, 0x0, 5, 1⟩
/-- `MILL_EVENT.cold`, latch. -/
def R.MILL_EVENT.cold : Fld := ⟨0xc008, 0x0, 6, 1⟩
/-- `MILL_EVENT.seq_fail`, latch. -/
def R.MILL_EVENT.seq_fail : Fld := ⟨0xc008, 0x0, 7, 1⟩
/-- `MILL_EVENT.wake`, latch. -/
def R.MILL_EVENT.wake : Fld := ⟨0xc008, 0x0, 8, 1⟩
/-- `MILL_EVENT.aon_clk_fault`, latch. -/
def R.MILL_EVENT.aon_clk_fault : Fld := ⟨0xc008, 0x0, 9, 1⟩
/-- The register row `MILL_EVENT`. -/
def R.MILL_EVENT.row : RegDef :=
  ⟨0xc008, 0x4, 1, 0x4, 1,
   [(0, 1, .latch), (1, 1, .latch), (2, 1, .latch), (3, 1, .latch), (4, 1, .latch), (5, 1, .latch), (6, 1, .latch), (7, 1, .latch), (8, 1, .latch), (9, 1, .latch)]⟩

/-! `MILL_AVS`, Core voltage (14_gate_lantern_millrace.md). -/
/-- `MILL_AVS.v_target`, live. -/
def R.MILL_AVS.v_target : Fld := ⟨0xc00c, 0x0, 0, 16⟩
/-- `MILL_AVS.v_meas`, live. -/
def R.MILL_AVS.v_meas : Fld := ⟨0xc00c, 0x0, 16, 16⟩
/-- The register row `MILL_AVS`. -/
def R.MILL_AVS.row : RegDef :=
  ⟨0xc00c, 0x4, 1, 0x4, 1,
   [(0, 16, .live), (16, 16, .live)]⟩

/-! `MILL_PADM`, Admitted power (14_gate_lantern_millrace.md). -/
/-- `MILL_PADM.p_adm`, live. -/
def R.MILL_PADM.p_adm : Fld := ⟨0xc010, 0x0, 0, 16⟩
/-- The register row `MILL_PADM`. -/
def R.MILL_PADM.row : RegDef :=
  ⟨0xc010, 0x4, 1, 0x4, 1,
   [(0, 16, .live)]⟩

/-! `MILL_WAKE`, Wake timer (14_gate_lantern_millrace.md). -/
/-- `MILL_WAKE.wake_s`, rw. -/
def R.MILL_WAKE.wake_s : Fld := ⟨0xc014, 0x0, 0, 32⟩
/-- The register row `MILL_WAKE`. -/
def R.MILL_WAKE.row : RegDef :=
  ⟨0xc014, 0x4, 1, 0x4, 1,
   [(0, 32, .rw)]⟩

/-! `MILL_TEMP_k`, Temperature (14_gate_lantern_millrace.md). -/
/-- `MILL_TEMP_k.temp`, live. -/
def R.MILL_TEMP_k.temp : Fld := ⟨0xc100, 0x4, 0, 16⟩
/-- `MILL_TEMP_k.valid`, live. -/
def R.MILL_TEMP_k.valid : Fld := ⟨0xc100, 0x4, 31, 1⟩
/-- The register row `MILL_TEMP_k`. -/
def R.MILL_TEMP_k.row : RegDef :=
  ⟨0xc100, 0x4, 32, 0x4, 1,
   [(0, 16, .live), (31, 1, .live)]⟩

/-! `MILL_VMON_k`, Voltage monitor (14_gate_lantern_millrace.md). -/
/-- `MILL_VMON_k.mv`, live. -/
def R.MILL_VMON_k.mv : Fld := ⟨0xc180, 0x4, 0, 16⟩
/-- `MILL_VMON_k.valid`, live. -/
def R.MILL_VMON_k.valid : Fld := ⟨0xc180, 0x4, 31, 1⟩
/-- The register row `MILL_VMON_k`. -/
def R.MILL_VMON_k.row : RegDef :=
  ⟨0xc180, 0x4, 16, 0x4, 1,
   [(0, 16, .live), (31, 1, .live)]⟩

/-! `MILL_PWR_d`, Domain power (14_gate_lantern_millrace.md). -/
/-- `MILL_PWR_d.p`, live. -/
def R.MILL_PWR_d.p : Fld := ⟨0xc1c0, 0x4, 0, 16⟩
/-- The register row `MILL_PWR_d`. -/
def R.MILL_PWR_d.row : RegDef :=
  ⟨0xc1c0, 0x4, 6, 0x4, 1,
   [(0, 16, .live)]⟩

/-! `MILL_PMB_d`, PMBus device (14_gate_lantern_millrace.md). -/
/-- `MILL_PMB_d.status_word`, ro. -/
def R.MILL_PMB_d.status_word : Fld := ⟨0xc200, 0x4, 0, 16⟩
/-- `MILL_PMB_d.present`, live. -/
def R.MILL_PMB_d.present : Fld := ⟨0xc200, 0x4, 20, 1⟩
/-- `MILL_PMB_d.fence_req`, go. -/
def R.MILL_PMB_d.fence_req : Fld := ⟨0xc200, 0x4, 21, 1⟩
/-- `MILL_PMB_d.pmb_reset`, go. -/
def R.MILL_PMB_d.pmb_reset : Fld := ⟨0xc200, 0x4, 22, 1⟩
/-- `MILL_PMB_d.reset_done`, live. -/
def R.MILL_PMB_d.reset_done : Fld := ⟨0xc200, 0x4, 23, 1⟩
/-- `MILL_PMB_d.fence_cause`, ro. -/
def R.MILL_PMB_d.fence_cause : Fld := ⟨0xc200, 0x4, 24, 8⟩
/-- The register row `MILL_PMB_d`. -/
def R.MILL_PMB_d.row : RegDef :=
  ⟨0xc200, 0x4, 8, 0x4, 1,
   [(0, 16, .ro), (20, 1, .live), (21, 1, .go), (22, 1, .go), (23, 1, .live), (24, 8, .ro)]⟩

/-- The GLB_ registers. -/
def regsGlb : List RegDef :=
  [R.GLB_ID.row,
   R.GLB_REV.row,
   R.GLB_SERIAL_LO.row,
   R.GLB_SERIAL_HI.row]

/-- The LANE_ registers. -/
def regsLane : List RegDef :=
  [R.LANE_CTRL.row,
   R.LANE_SPEED.row,
   R.LANE_STATE.row,
   R.LANE_EVENT.row,
   R.LANE_EVENT_EN.row,
   R.LANE_TX_FIR_A.row,
   R.LANE_TX_FIR_B.row,
   R.LANE_TX_CFG.row,
   R.LANE_TX_PHASE.row,
   R.LANE_RX_CFG.row,
   R.LANE_RX_EQ.row,
   R.LANE_RX_FFE_k.row,
   R.LANE_ADAPT_CFG.row,
   R.LANE_ADAPT_STAT.row,
   R.LANE_LOS_CFG.row,
   R.LANE_LOL_CFG.row,
   R.LANE_FREQ_OFS.row,
   R.LANE_SNR.row,
   R.LANE_EYE_SCAN.row,
   R.LANE_DLY_TX.row,
   R.LANE_DLY_RX.row,
   R.LANE_PWR.row,
   R.LANE_ALIGN.row,
   R.LANE_TEST.row,
   R.LANE_PRBS_ERR.row]

/-- The QUAD_ registers. -/
def regsQuad : List RegDef :=
  [R.QUAD_PLL.row,
   R.QUAD_STATUS.row,
   R.QUAD_EVENT.row,
   R.QUAD_BOND.row]

/-- The TALLY_ registers. -/
def regsTally : List RegDef :=
  [R.TALLY_CTRL.row,
   R.TALLY_STATUS.row,
   R.TALLY_EVENT.row,
   R.TALLY_LIVE_IDX.row,
   R.TALLY_LIVE_LO.row,
   R.TALLY_LIVE_HI.row,
   R.TALLY_DEF_CHAN_c.row,
   R.TALLY_DEF_LATCH_c.row,
   R.TALLY_INJ_CFG_j.row,
   R.TALLY_INJ_PAT_j.row,
   R.TALLY_INJ_INT_j.row,
   R.TALLY_INJ_LIMIT_j.row,
   R.TALLY_INJ_STAT_j.row,
   R.TALLY_DEF_TRIB_t.row]

/-- The GRN_ registers. -/
def regsGrn : List RegDef :=
  [R.GRN_CTRL.row,
   R.GRN_STATUS.row,
   R.GRN_EVENT.row,
   R.GRN_FREE.row,
   R.GRN_GUAR.row,
   R.GRN_ECC_LAST.row,
   R.GRN_ECC_SYN.row,
   R.GRN_BANK_b.row,
   R.GRN_TRUNK_t.row,
   R.GRN_QD_CTRL.row,
   R.GRN_QD_TIME.row,
   R.GRN_QD_MIN.row,
   R.GRN_QD_MAX.row,
   R.GRN_QD_OCC.row,
   R.GRN_QD_PKTS.row,
   R.GRN_QD_HEAD.row,
   R.GRN_QD_STAT.row,
   R.GRN_QD_LATE.row,
   R.GRN_QD_MINEFF.row]

/-- The WVR_ registers. -/
def regsWvr : List RegDef :=
  [R.WVR_CTRL.row,
   R.WVR_STATUS.row,
   R.WVR_EVENT.row,
   R.WVR_ECC_LAST.row,
   R.WVR_VERIFY.row,
   R.WVR_THREAD_t.row,
   R.WVR_FIFO_DATA_f.row,
   R.WVR_FIFO_STAT_f.row,
   R.WVR_FIFO_CTRL_f.row]

/-- The RVE_ registers. -/
def regsRve : List RegDef :=
  [R.RVE_CTRL.row,
   R.RVE_STATUS.row,
   R.RVE_EVENT.row,
   R.RVE_HEARTBEAT.row]

/-- The BELL_ registers. -/
def regsBell : List RegDef :=
  [R.BELL_CTRL.row,
   R.BELL_STATUS.row,
   R.BELL_EVENT.row,
   R.BELL_FRAME_OFS.row,
   R.BELL_TIME_w.row,
   R.BELL_TIMESRC.row,
   R.BELL_QUAL.row,
   R.BELL_CONS.row,
   R.BELL_VTF_LAG.row,
   R.BELL_REF_CFG_n.row,
   R.BELL_REF_STAT_n.row,
   R.BELL_REF_FREQ_n.row,
   R.BELL_REF_THR_n.row,
   R.BELL_DPLL_CFG_d.row,
   R.BELL_DPLL_STAT_d.row,
   R.BELL_DPLL_PHASE_d.row,
   R.BELL_DPLL_FREQ_d.row,
   R.BELL_RCV_SEL_k.row,
   R.BELL_CLKOUT_CFG_k.row,
   R.BELL_CLKOUT_FREQ_k.row,
   R.BELL_PPS_CFG_k.row,
   R.BELL_PPS_OFS_k.row,
   R.BELL_PPSIN_TS_k_w.row,
   R.BELL_ASYM_n.row]

/-- The PAIR_ registers. -/
def regsPair : List RegDef :=
  [R.PAIR_CTRL.row,
   R.PAIR_STATUS.row,
   R.PAIR_EVENT.row,
   R.PAIR_LINK.row,
   R.PAIR_DELAY.row,
   R.PAIR_DIGEST.row,
   R.PAIR_GEN_LO.row,
   R.PAIR_GEN_HI.row,
   R.PAIR_PROT_g.row,
   R.PAIR_PROT_CFG_g.row]

/-- The LEDG_ registers. -/
def regsLedg : List RegDef :=
  [R.LEDG_STATUS.row,
   R.LEDG_EVENT.row,
   R.LEDG_WEAR.row]

/-- The MTX_ registers. -/
def regsMtx : List RegDef :=
  [R.MTX_MCFG_m.row,
   R.MTX_MSTAT_m.row,
   R.MTX_MCNT_m.row,
   R.MTX_MHANG_m.row,
   R.MTX_STATUS.row]

/-- The HOST_ registers. -/
def regsHost : List RegDef :=
  [R.HOST_CTRL.row,
   R.HOST_STATUS.row,
   R.HOST_EVENT.row,
   R.HOST_EV_VEC_k.row,
   R.HOST_RING_BASE_LO_x.row,
   R.HOST_RING_BASE_HI_x.row,
   R.HOST_RING_CFG_x.row,
   R.HOST_RING_DB_x.row,
   R.HOST_RING_DEV_x.row]

/-- The GATE_ registers. -/
def regsGate : List RegDef :=
  [R.GATE_STATUS.row,
   R.GATE_EVENT.row,
   R.GATE_OP.row,
   R.GATE_LOCK.row,
   R.GATE_MBOX_w.row]

/-- The LANT_ registers. -/
def regsLant : List RegDef :=
  [R.LANT_CTRL.row,
   R.LANT_STATUS.row,
   R.LANT_TMASK.row,
   R.LANT_EVENT.row,
   R.LANT_SEL.row,
   R.LANT_TRACE_DATA.row,
   R.LANT_TRACE_STAT.row,
   R.LANT_TRACE_CTRL.row]

/-- The MILL_ registers. -/
def regsMill : List RegDef :=
  [R.MILL_CTRL.row,
   R.MILL_STATUS.row,
   R.MILL_EVENT.row,
   R.MILL_AVS.row,
   R.MILL_PADM.row,
   R.MILL_WAKE.row,
   R.MILL_TEMP_k.row,
   R.MILL_VMON_k.row,
   R.MILL_PWR_d.row,
   R.MILL_PMB_d.row]

/-- The rows of the block that holds address `a` (Table 13.11). -/
def regsAt (a : Nat) : List RegDef :=
  if a < 0x1000 then regsGlb
  else if a < 0x2000 then regsMtx
  else if a < 0x4000 then regsHost
  else if a < 0x8000 then regsGate
  else if a < 0xC000 then regsLant
  else if a < 0x10000 then regsMill
  else if a < 0x20000 then regsBell
  else if a < 0x2F000 then regsPair
  else if a < 0x30000 then regsLedg
  else if a < 0x40000 then regsRve
  else if a < 0x90000 then regsTally
  else if a < 0x100000 then []
  else if a < 0x160000 then regsLane
  else if a < 0x200000 then []
  else if a < 0x380000 then (if (a - 0x200000) % 0x10000 < 0x1000 then regsQuad else regsWvr)
  else if a < 0x400000 then []
  else if a < 0x900000 then regsGrn
  else []

/-- The row of a list that holds address `a`. -/
def findRow : List RegDef → Nat → Option RegDef
  | [], _ => none
  | r :: rs, a => match r.index a with
    | some _ => some r
    | none => findRow rs a

/-- The register row that holds address `a`, if the spec defines a register there. -/
def regRow (a : Nat) : Option RegDef := findRow (regsAt a) a

/-- The reset values that the register tables give and that are not 0, by register row. -/
def regResets : List (RegDef × Nat) :=
  [(⟨0x0, 0x4, 1, 0x4, 1, []⟩, 0x960102),
   (⟨0x4, 0x4, 1, 0x4, 1, []⟩, 0x1040010),
   (⟨0x100040, 0x1000, 96, 0x1000, 1, []⟩, 0xf19),
   (⟨0x100100, 0x1000, 96, 0x1000, 1, []⟩, 0x11312687),
   (⟨0x100110, 0x1000, 96, 0x1000, 1, []⟩, 0xc06),
   (⟨0x100114, 0x1000, 96, 0x1000, 1, []⟩, 0xc800fa),
   (⟨0x100124, 0x1000, 96, 0x1000, 1, []⟩, 0xc),
   (⟨0x40000, 0x4, 1, 0x4, 1, []⟩, 0x7),
   (⟨0x800000, 0x4, 1, 0x4, 1, []⟩, 0xa0801),
   (⟨0x800004, 0x4, 1, 0x4, 1, []⟩, 0x606000),
   (⟨0x800010, 0x4, 1, 0x4, 1, []⟩, 0x60000),
   (⟨0x201104, 0x10000, 24, 0x10, 5, []⟩, 0x80000000),
   (⟨0x10000, 0x4, 1, 0x4, 1, []⟩, 0x41408),
   (⟨0x10004, 0x4, 1, 0x4, 1, []⟩, 0x800),
   (⟨0x10020, 0x4, 1, 0x4, 1, []⟩, 0xff00),
   (⟨0x10024, 0x4, 1, 0x4, 1, []⟩, 0x12c0a),
   (⟨0x10028, 0x4, 1, 0x4, 1, []⟩, 0x800a0032),
   (⟨0x1010c, 0x10, 18, 0x10, 1, []⟩, 0x23f00fa0),
   (⟨0x10304, 0x10, 4, 0x10, 1, []⟩, 0x1f0000),
   (⟨0x10440, 0x8, 4, 0x8, 1, []⟩, 0x6400),
   (⟨0x20000, 0x4, 1, 0x4, 1, []⟩, 0x190a7a),
   (⟨0x2000, 0x4, 1, 0x4, 1, []⟩, 0x1),
   (⟨0x2108, 0x20, 6, 0x20, 1, []⟩, 0x8),
   (⟨0x4008, 0x4, 1, 0x4, 1, []⟩, 0xff000000),
   (⟨0x8024, 0x4, 1, 0x4, 1, []⟩, 0x80000000),
   (⟨0xc000, 0x4, 1, 0x4, 1, []⟩, 0x6c0006),
   (⟨0xc004, 0x4, 1, 0x4, 1, []⟩, 0xc0000000),
   (⟨0xc00c, 0x4, 1, 0x4, 1, []⟩, 0x3200320),
   (⟨0x10300, 0x4, 1, 0x4, 1, []⟩, 0x4003120),
   (⟨0x10310, 0x4, 1, 0x4, 1, []⟩, 0x40024c0),
   (⟨0x10320, 0x4, 1, 0x4, 1, []⟩, 0x40049e4),
   (⟨0x10330, 0x4, 1, 0x4, 1, []⟩, 0x4005640),
   (⟨0x1000, 0x4, 1, 0x4, 1, []⟩, 0x1000008),
   (⟨0x1010, 0x4, 1, 0x4, 1, []⟩, 0x1000008),
   (⟨0x1020, 0x4, 1, 0x4, 1, []⟩, 0x1000008),
   (⟨0x1030, 0x4, 1, 0x4, 1, []⟩, 0x1000008),
   (⟨0x1040, 0x4, 1, 0x4, 1, []⟩, 0x1000008),
   (⟨0x1050, 0x4, 1, 0x4, 1, []⟩, 0x1000004),
   (⟨0x1060, 0x4, 1, 0x4, 1, []⟩, 0x100000c),
   (⟨0x1070, 0x4, 1, 0x4, 1, []⟩, 0x1000006)]

/-- The reset value of the register at `a` (R6): that of its table; 0 where the table says 0, and 0 for the fields whose
table says "descriptor", "fused" or "boot", which the descriptor load and the boot steps fill. -/
def resetOf : List (RegDef × Nat) → Nat → W32
  | [], _ => 0
  | (r, v) :: rs, a => match r.index a with
    | some _ => BitVec.ofNat 32 v
    | none => resetOf rs a

/-- The reset value of the register at `a`. -/
def regReset (a : Nat) : W32 := resetOf regResets a

end Sys2Proof.Machine
end

