-- ==== Sys2Proof/Machine/UnitState.lean ====
section
/-! DEFINITION. What the part holds beside its registers for the twin unit, the Ledger, the host port, the matrix, the Gatehouse, the
Millrace and the always-on domain (chapters 12 to 15). -/
namespace Sys2Proof.Machine

/-! The twin unit. -/

/-- How this part's decision to take over turns out (Table 12.6, R325). -/
inductive Claim where
  | none
  /-- Row 2 or 5: the claimant becomes SOLO with standby_alarm. -/
  | solo
  /-- Row 3: the claimant becomes ACTIVE and the other part CATCHUP. -/
  | active
  /-- From CATCHUP: control state is restored, then TAKE rises and the part is SOLO. -/
  | catchup
  deriving DecidableEq, Repr

/-- The twin unit beside its registers. -/
structure PairX where
  /-- Why this part's heartbeat codes FAULT while ACTIVE: 0 no trigger, 1 a fence, 2 another internal fault (R319, R324). -/
  trigger : Nat
  /-- The twin's role as the twin link tells it, coded as PAIR_STATUS.role; this part's claim that waits for its frame boundary;
  it has claimed and the other side has not yet yielded; the active's planned switch frame and its command (Table 12.7). -/
  twinRole : Nat
  /-- In the active, the frames since K whose digests matched: with 400 the twin is in STANDBY (R327, stage 8). -/
  matched : Option Nat
  claim : Claim
  claimed : Bool
  planned : Option (Nat × CmdHead)
  /-- A PAIR_JOIN that has not completed, with its role (R326). -/
  join : Option (CmdHead × Nat)
  /-- Frame and kind (a fence or not) of the last internal fault of this part and of the twin; a divergence that waits for the two
  frames in which a fault counts as its cause (R324). -/
  ownFault : Option (Nat × Bool)
  twinFault : Option (Nat × Bool)
  /-- CLK_CORE cycles counted (R321), the last epoch schedule received as frame and cycle, the last time anchor as frame and time in
  2^-16 ns, and fine arrival offsets by lane (R24). -/
  core : Nat
  schedule : Option (Nat × Nat)
  anchor : Option (Nat × Nat)
  fine : Tab Int
  /-- Catch-up (R328, R329): frame J; the packet lists received, by queue as channel and arrival of each packet in order, and the number of
  the next packet when they came; the active's resync words by 64 × thread + word, and this part's own at the same boundary. -/
  j : Option Nat
  lists : List (Nat × List (Nat × Nat))
  listAt : Nat
  resync : Tab Nat
  resyncOwn : Tab Nat
  /-- Egresses that start no new packet, as kind and number, and the window in which cells are admitted without limit (R328). -/
  paused : List (Nat × Nat)
  window : Bool
  /-- Channels whose 8B/10B or raw stream both twins have reported aligned at a multiframe boundary (R62). -/
  forward : List Nat
  /-- Fenced twin lanes by cause (Table 13.17, kind 11), and twin lanes whose calibration has failed once. -/
  twinFence : Tab Nat
  twinRetry : List Nat
  deriving DecidableEq, Repr

/-- The twin unit after reset. -/
def PairX.init : PairX :=
  { trigger := 0, twinRole := 0, matched := none, claim := .none, claimed := false, planned := none, join := none, ownFault := none, twinFault := none,
    core := 0, schedule := none, anchor := none, fine := [], j := none, lists := [], listAt := 0, resync := [],
    resyncOwn := [], paused := [], window := false, forward := [], twinFence := [], twinRetry := [] }

/-! The Ledger. -/

/-- The Ledger beside its registers and the window's stored bytes (R330 to R336): the two slots' committed generations; the lifecycle copy
of its header; the open one's slot and content; the number and slot of the last committed; the journal, oldest first, the number of the next entry, and a half entry
appended by a host's own firmware; the command that waits for a commit, and that P3 waits for it. -/
structure LedgX where
  slot0 : Option Gen
  slot1 : Option Gen
  life : Nat
  open_ : Option (Nat × Gen)
  lastNum : Nat
  lastSlot : Nat
  journal : List Entry
  nextSeq : Nat
  half : Bool
  waiting : Option CmdHead
  deriving DecidableEq, Repr

def LedgX.init : LedgX :=
  { slot0 := none, slot1 := none, life := 0, open_ := none, lastNum := 0, lastSlot := 1, journal := [], nextSeq := 0, half := false,
    waiting := none }

/-! Host data. -/

/-- What a fetch of an image is for (R243, R422, R383). -/
inductive FetchFor where
  | attach (c slot : Nat) (replace : Bool)
  | reeve (r : Nat)
  deriving DecidableEq, Repr

/-- A fetch of an image from host memory in progress: the command, address and length, and its use. -/
structure Fetch where
  head : CmdHead
  addr : Nat
  len : Nat
  use : FetchFor
  deriving DecidableEq, Repr

/-- A transaction of a master to an unmapped address, which never completes, or one held back behind it (R355, R360). -/
structure Hung where
  m : Nat
  addr : Nat
  write : Bool
  deriving DecidableEq, Repr

/-- A multi-word value captured for a master (R363): master, address of word 0, all the words. -/
structure Capture where
  m : Nat
  addr : Nat
  words : List W32
  deriving DecidableEq, Repr

/-! The Gatehouse and the fuse store. -/

/-- The fuse store (R373 to R378): lifecycle number of the highest stage field set, root key hashes, slots with a revocation field set,
slots with a bad word, the descriptor array when it is burned. -/
structure Fuses where
  life : Nat
  keys : List (Option Nat)
  revoked : Nat
  bad : Nat
  desc : Option (List Host.Cell)
  deriving DecidableEq, Repr

/-- The fuse store as manufactured: BLANK and unprogrammed. -/
def Fuses.init : Fuses := { life := 0, keys := [none, none, none, none], revoked := 0, bad := 0, desc := none }

/-- A Gatehouse operation in progress (R387): op, slot, signer, the command that runs it, and for the challenge of a command the host
address that it is copied to. -/
structure GateOp where
  op : Nat
  slot : Nat
  signer : Nat
  head : Option CmdHead
  addr : Option Nat
  deriving DecidableEq, Repr

/-- The Gatehouse beside its registers (R384 to R390): the operation in progress; the target mask of the challenge outstanding; challenges
issued since power-on reset; responses that failed in a row; CHALLENGE is locked out. -/
structure GateX where
  op : Option GateOp
  challenge : Option Nat
  issued : Nat
  fails : Nat
  lockout : Bool
  deriving DecidableEq, Repr

def GateX.init : GateX := { op := none, challenge := none, issued := 0, fails := 0, lockout := false }

/-! The Millrace and the always-on domain. -/

/-- What the Millrace does to the device at the head of a sequence (R398): transactions with the device, then power-good polling, then
on_delay. -/
inductive SeqPhase where
  | idle
  | setup
  | polling
  | delay
  deriving DecidableEq, Repr

/-- The Millrace beside its registers (R398 to R404): devices still to be switched on, in order, and the phase of the first; retries used
by the present transaction; devices that are on; AVS failures in a row and that VDD_CORE is held at 0.80 V; the margin lowered and idle
units gated by the cap loop; out-of-range reads in a row by monitor; units that a Reeve switched (0 to 23 quads, 32 to 127 banks), with
the frame of the last switch and whether it is off; lane states before P2; T_max has tripped and has not yet recovered; devices whose
pmb_reset is in progress. -/
structure MillX where
  todo : List Nat
  phase : SeqPhase
  retries : Nat
  on_ : List Nat
  avsFails : Nat
  avsHeld : Bool
  reduced : Bool
  gated : Bool
  range : Tab Nat
  switched : Tab (Option (Nat × Bool))
  rested : List (Nat × Nat)
  tripped : Bool
  resetting : List Nat
  deriving DecidableEq, Repr

def MillX.init : MillX :=
  { todo := [], phase := .idle, retries := 0, on_ := [], avsFails := 0, avsHeld := false, reduced := false, gated := false,
    range := [], switched := [], rested := [], tripped := false, resetting := [] }

/-- The JTAG port (R392): instruction register, the boundary-scan register as last captured or shifted, and the 72-bit register of
LANT_MTX. -/
structure JtagX where
  ir : Nat
  scan : Nat
  mtx : Nat
  deriving DecidableEq, Repr

def JtagX.init : JtagX := { ir := 1, scan := 0, mtx := 0 }

/-- Clocks that the always-on domain watches (R21), that this start-up follows a P3 exit (R413), a warm reset (then V1 and V2 are checks
only), and that the commit before P3 is awaited (R396). -/
structure AonX where
  pairLost : Bool
  serdesLost : Bool
  xtalLost : Bool
  fromP3 : Bool
  warm : Bool
  goingP3 : Bool
  deriving DecidableEq, Repr

def AonX.init : AonX :=
  { pairLost := false, serdesLost := false, xtalLost := false, fromP3 := false, warm := false, goingP3 := false }

end Sys2Proof.Machine
end

