-- ==== Sys2Proof/Machine/State.lean ====
section
/-! DEFINITION. The machine's state as plain data, its faults and refusals, and the state after power-on reset. -/
namespace Sys2Proof.Machine

/-- Faults. The part never stops as a whole: an error of a unit is an effect on the state (a fence, a latch, a completion
code). No command of the model ends in a fault; the one constructor is kept so that the type is inhabited, is raised by
nobody, and is safe. -/
inductive Fault where
  | none
  deriving DecidableEq, Repr

/-- Refusals. -/
inductive Refusal where
  /-- A command that has no meaning in the model yet; raised by its arm of `exec`. Safe: the model stops. -/
  | notModelled (mnemonic : String)
  deriving DecidableEq, Repr

/-- An entry of the event ring (Table 13.5); its time is held in 2^-16 ns, of which R85 gives the layout. -/
structure Event where
  cls : Nat
  code : Nat
  ring : Nat
  flags : Nat
  unit : Nat
  detail : Nat
  time : Nat
  seq : Nat
  deriving DecidableEq, Repr

/-- A command in flight: taken by the steward and not completed (R346). -/
structure Cmd where
  ring : Nat
  tag : Nat
  opcode : Nat
  deriving DecidableEq, Repr

/-- What the part drives out of its pins and links, for the statements to speak about. -/
inductive Out where
  /-- An MSI-X message of a vector (R352). -/
  | msix (vec : Nat)
  /-- This part's internal fault, told to the twin (R324). -/
  | twinFault (fence : Bool)
  /-- A VTF frame sent on a lane: its 40 overhead words by row and block, and its payload words as sent (R69, R79). -/
  | vtfFrame (lane : Nat) (overhead payload : List Nat)
  /-- An Ethernet frame or fragment sent on a channel, from the destination address and padded, without FCS; with a good or
  an inverted FCS (R116, R120). -/
  | ethFrame (chan : Nat) (bytes : List Nat) (badFcs : Bool)
  /-- Idle or remote-fault ordered sets in place of data (R116, R118). -/
  | ethIdle (chan : Nat)
  | ethFault (chan : Nat)
  /-- A verify (respond false) or respond mPacket (R119, R120). -/
  | mPacket (chan : Nat) (respond : Bool)
  /-- A word of a CBR tributary sent at a client ball; `none` is replacement content (R156, R184). -/
  | cbrWord (chan : Nat) (word : Option Nat)
  /-- The data that a read of a master returned (R363). -/
  | busRead (m addr data : Nat)
  /-- A complete item of a write FIFO copied to the standby (R131, R367). -/
  | insertItem (q f : Nat) (words : List W32)
  /-- A beat that a host program's TX thread handed over for a lane (R262). -/
  | txBeat (lane : Nat) (w : Nat)
  /-- A pulse on PPS_OUTk at an instant in 2^-16 ns, with its width in ns (R300). -/
  | ppsOut (k : Nat) (at_ : Int) (width : Nat)
  /-- A time-of-day message on TOD_TXD (Table 11.9). -/
  | tod (bytes : List Nat)
  /-- An access that a fenced or abandoned master meets in place of data: Completer Abort to the host, an error to the debug port or
  to the twin (Table 13.13). -/
  | busError (m addr : Nat)
  /-- A heartbeat pulse of a code on PAIR_ALIVE_OUT (R319): 1 IDLE, 2 FAULT, 3 HOLD. -/
  | heartbeat (code : Nat)
  /-- The active's packet list of a queue, as channel and arrival of each packet in order (R328). -/
  | packetList (q : Nat) (ids : List (Nat × Nat))
  /-- The active's resync word of an engine (R329). -/
  | resyncWord (engine word value : Nat)
  /-- A journal entry, a generation or a Gatehouse key operation sent to the twin (R334, R335, R385). -/
  | twinEntry (seq frame : Nat) (change : Change)
  | twinGen (num : Nat)
  /-- The switch frame of a planned takeover, sent to the standby (Table 12.7). -/
  | twinTake (frame : Nat)
  /-- A byte block written to host memory for a command: address and bytes (R165, R390). -/
  | hostWrite (addr : Nat) (bytes : List Nat)
  /-- A PMBus or AVSBus command of the Millrace: device, command code, value (R398, R400). -/
  | pmbus (device code value : Nat)
  | avs (mv : Nat)
  /-- Data shifted out of the JTAG port: instruction code and register value (R392). -/
  | jtag (code value : Nat)
  /-- What injector `j` did at an event to a line or twin lane (R193): its registers CFG and PAT. -/
  | injected (j cfg pat : Nat)
  /-- A snapshot image, or with status 2 none, and the completion of its descriptor (Tables 7.9, 13.9): groups, seq, time,
  flags, ticks missed and the counters. -/
  | snapshot (status groups seq time flags missed : Nat) (counts : List Nat)
  deriving DecidableEq, Repr

/-- The state of the part. -/
structure State where
  /-- The commands that are waiting, first in first out. -/
  pending : List Instr
  /-- Every register of the map, by internal address; an unlisted register holds its reset value. -/
  regs : Tab W32
  /-- Every memory of the map, by internal byte address; an unlisted byte reads 0. -/
  mem : List Host.Cell
  /-- MSI-X table words, by byte offset from 0x3000, and the pending bits (R342). -/
  msixTable : Tab W32
  msixPba : Nat
  /-- Entries written since a vector's last message (R352). -/
  msixCount : Tab Nat
  /-- Start-up (R413), the RESET_N pin, the major mode (R25). -/
  startup : Startup
  resetN : Bool
  mode : Mode
  /-- Absolute number of the present frame (R72) and Bell Tower time at its start, in 2^-16 ns. -/
  frame : Nat
  time : Nat
  /-- Reasons for which FAULT_N is asserted. -/
  faultN : List FaultReason
  /-- A Reeve holds the steward duties (R11); MTX_STATUS.steward names it. -/
  stewardOn : Bool
  /-- Entries of the event ring not yet consumed by the host, oldest first; the next entry's number; a report was lost
  since the last entry (R349). -/
  evRing : List Event
  evSeq : W32
  evLost : Bool
  /-- The writeback word of each ring as the part last wrote it to host memory; `none` until it has (R344). -/
  writeback : List (Option Nat)
  /-- Commands in flight, oldest first (R346). -/
  cmds : List Cmd
  /-- Changes accepted and not yet applied, in acceptance order (R245). -/
  changes : List Pend
  /-- The descriptor in force (R380), by byte offset. -/
  desc : List Host.Cell
  /-- Words of the Lantern trace FIFO, oldest first (R393). -/
  trace : List W32
  /-- The twin unit and the Ledger (chapter 12). -/
  pair : PairX
  ledg : LedgX
  /-- Images being fetched, oldest first (R243); transactions that hang (R360); multi-word values captured (R363). -/
  fetches : List Fetch
  hung : List Hung
  captures : List Capture
  /-- Once fields that have been written since power-on reset, by register address (R9). -/
  onceDone : List Nat
  /-- The fuse store, the Gatehouse, the Millrace, the JTAG port and the always-on domain (chapters 14 and 15). -/
  fuses : Fuses
  gate : GateX
  mill : MillX
  jtag : JtagX
  aon : AonX
  /-- Programs attached, by 4 × channel + slot (R243). -/
  progs : Tab (Option Prog)
  progNext : Nat
  /-- VSI engines: thread `t` of Weaver `q` under 16 q + t, Reeve `r` under 384 + r; shared-region stores on their way, in
  issue order; Weavers whose reset is in progress (R250); status words that PBLK has written and the frame boundary has
  not yet copied, by the index of `pblk` (R271). -/
  engs : Tab Eng
  shst : List SharedStore
  /-- Control words that port UNIT has written, by 8 × lane + unit (R271). -/
  units : Tab (Option Nat)
  wvrResetting : List Nat
  shadow : Tab (Option W32)
  /-- Words of the parameter blocks as in force, by 128 × (16 q + 4 k + slot) + word (R246), and the parameter values
  written and not yet in force, in the order written, with the command that wrote them (R247). -/
  pblk : Tab W32
  pblkPending : List (Nat × W32 × Option CmdHead)
  /-- Tally counters by index (Table 7.5), each a count modulo 2^64 (R187). -/
  tally : Tab Nat
  /-- The snapshot engine and the injectors. -/
  tallyX : TallyX
  injs : Tab InjX
  /-- Per-lane state. -/
  lanes : Tab LaneX
  aligns : Tab AlignX
  vtfs : Tab VtfX
  bips : Tab BipX
  /-- Calendar memory: entries by ((2 c + dir) 2 + copy) 1024 + column, TX being direction 0 (R163). -/
  cals : Tab W32
  /-- Per-channel state. -/
  chans : Tab ChanX
  /-- Tributary ends, by 128 t + c, and their cross-connect queues. -/
  ends : Tab EndX
  xc : Tab XcEnd
  /-- The Granary: packets in the order in which their first byte was written, the next packet's number, the next place
  in the joining order, and the banks. -/
  pkts : List Packet
  pktNext : Nat
  joinNext : Nat
  banks : Tab BankX
  /-- Queues flushed since they were fenced (R224), and the two copies of the repair record (R207). -/
  qFlushed : List Nat
  repairA : Option RepairRec
  repairB : Option RepairRec
  /-- Flow-table entries by 8 × bucket + place, as key and flow (R125), and the entries that read uncorrectable and wait
  for the steward (R202). -/
  flows : Tab (Option (Nat × Nat))
  flowBad : List Nat
  /-- FIFOs of the Weavers, by 8 q + f. -/
  fifos : Tab Fifo
  /-- Protection groups. -/
  groups : Tab Group
  /-- The Bell Tower and its candidates. -/
  bell : BellX
  refs : Tab RefX
  /-- Symmetric key slots (R384). -/
  skeys : Tab KeySlot
  /-- Free values used so far (the model's own, assumption log entry 3, DESIGN CHOICE, safe). -/
  free : Nat
  /-- What the part drove out, newest first. -/
  out : List Out
  deriving DecidableEq, Repr

/-- The part right after power-on reset: step S1 is running, nothing is listed in a table, FAULT_N is released, Reeve 0 is
the steward (R11, R409, R413). -/
def State.reset : State :=
  { pending := [], regs := [], mem := [], msixTable := [], msixPba := 0, msixCount := [], startup := .step 1,
    resetN := false, mode := .muster, frame := 0, time := 0, faultN := [], stewardOn := true, evRing := [], evSeq := 0,
    evLost := false, writeback := List.replicate 6 none, cmds := [], changes := [], desc := [], trace := [], pair := PairX.init, ledg := LedgX.init, fetches := [], hung := [], captures := [],
    onceDone := [], fuses := Fuses.init, gate := GateX.init, mill := MillX.init, jtag := JtagX.init, aon := AonX.init, progs := [], progNext := 0, engs := [], shst := [], units := [], wvrResetting := [], shadow := [], pblk := [], pblkPending := [], tally := [], tallyX := TallyX.init, injs := [], lanes := [], aligns := [], vtfs := [], bips := [],
    cals := [], chans := [], ends := [], xc := [], pkts := [], pktNext := 0, joinNext := 0, banks := [], qFlushed := [], repairA := none, repairB := none, flows := [],
    flowBad := [], fifos := [], groups := [], bell := BellX.init, refs := [], skeys := [], free := 0, out := [] }

end Sys2Proof.Machine
end

