-- ==== Sys2Proof/Machine/Ops.lean ====
section
/-! DEFINITION. The operations that every family shares: registers and their fields, memory, reports and completions on
the event ring, pending changes, and the standing of masters and units. -/
namespace Sys2Proof.Machine

/-- The outcome type of a meaning. -/
abbrev Res := Host.Outcome State Fault Refusal

/-! Registers. -/

/-- The register at internal address `a`. -/
def State.reg (s : State) (a : Nat) : W32 := Tab.get (regReset a) s.regs a

/-- The register at internal address `a` replaced. -/
def State.setReg (s : State) (a : Nat) (v : W32) : State := { s with regs := Tab.put (regReset a) s.regs a v }

/-- Field `f` of register `i` of its row. -/
def State.rd (s : State) (f : Fld) (i : Nat) : Nat := bitField (s.reg (f.addr i)).toNat f.lo f.w

/-- Field `f` of register `i` of its row replaced by the low bits of `v`. -/
def State.wr (s : State) (f : Fld) (i v : Nat) : State :=
  s.setReg (f.addr i) (BitVec.ofNat 32 (setBitField (s.reg (f.addr i)).toNat f.lo f.w v))

/-- Field `f` is not 0. -/
def State.on (s : State) (f : Fld) (i : Nat) : Bool := s.rd f i != 0

/-- A latch set by the hardware (R8). -/
def State.latch (s : State) (f : Fld) (i : Nat) : State := s.wr f i 1

/-- A field raised by `k`, wrapping at its width. -/
def State.bump (s : State) (f : Fld) (i k : Nat) : State := s.wr f i (s.rd f i + k)

/-- A field raised by `k`, saturating at its width. -/
def State.bumpSat (s : State) (f : Fld) (i k : Nat) : State := s.wr f i (min (s.rd f i + k) (2 ^ f.w - 1))

/-- All registers in the address range back to their reset values. -/
def State.clearRegs (s : State) (lo n : Nat) : State :=
  { s with regs := Tab.drop (fun a => decide (lo ≤ a ∧ a < lo + n)) s.regs }

/-! Memory: one byte-addressed space over the memories of Table 13.11. -/

/-- The byte at internal address `a`. -/
def State.byte (s : State) (a : Nat) : Byte := Tab.get 0 s.mem a

/-- The byte at internal address `a` replaced. -/
def State.setByte (s : State) (a : Nat) (b : Byte) : State := { s with mem := Tab.put 0 s.mem a b }

/-- `n` bytes from `a` on as a little-endian number (R4). -/
def State.bytes (s : State) (a : Nat) : Nat → Nat
  | 0 => 0
  | n + 1 => (s.byte a).toNat + 256 * State.bytes s (a + 1) n

/-- `n` bytes from `a` on set to the little-endian bytes of `v` (R4). -/
def State.setBytes (s : State) (a : Nat) : Nat → Nat → State
  | 0, _ => s
  | n + 1, v => State.setBytes (s.setByte a (BitVec.ofNat 8 v)) (a + 1) n (v / 256)

/-- The 32-bit word at `a`. -/
def State.word (s : State) (a : Nat) : W32 := BitVec.ofNat 32 (s.bytes a 4)

/-- The 32-bit word at `a` replaced. -/
def State.setWord (s : State) (a : Nat) (v : W32) : State := s.setBytes a 4 v.toNat

/-- `n` bytes from `lo` on set to 0. -/
def State.clearMem (s : State) (lo n : Nat) : State :=
  { s with mem := Tab.drop (fun a => decide (lo ≤ a ∧ a < lo + n)) s.mem }

/-! Free values, output and FAULT_N. -/

/-- A free value of `w` bits, and the state that has used it. Assumption log entry 3, DESIGN CHOICE, safe. -/
def State.fresh (s : State) (w : Nat) : Nat × State := (Config.freeNat s.free % 2 ^ w, { s with free := s.free + 1 })

/-- Something driven out of the part. -/
def State.emit (s : State) (o : Out) : State := { s with out := o :: s.out }

/-- FAULT_N asserted for a reason. -/
def State.assertFault (s : State) (r : FaultReason) : State :=
  if r ∈ s.faultN then s else { s with faultN := r :: s.faultN }

/-- A reason for FAULT_N withdrawn. -/
def State.releaseFault (s : State) (r : FaultReason) : State := { s with faultN := s.faultN.filter (· ≠ r) }

/-! Standing of the part. -/

/-- Start-up has ended and the core runs (R414). -/
def State.running (s : State) : Bool := decide (s.startup = .done)

/-- Loops, PRBS, squelch and ais_force act in these modes only (R63, R185). -/
def State.testMode (s : State) : Bool := decide (s.mode = .muster ∨ s.mode = .smithy)

/-- The pair role (PAIR_STATUS.role): 0 SOLO, 1 ACTIVE, 2 STANDBY, 3 CATCHUP. -/
def State.role (s : State) : Nat := s.rd R.PAIR_STATUS.role 0

/-- The device power state, 0 to 3 (MILL_STATUS.pstate). -/
def State.pstate (s : State) : Nat := s.rd R.MILL_STATUS.pstate 0

/-- The lifecycle in force, 0 BLANK to 3 RETIRED (R375). -/
def State.lifecycle (s : State) : Nat := s.rd R.GATE_STATUS.lifecycle 0

/-- The Reeve named as steward (MTX_STATUS.steward). -/
def State.steward (s : State) : Nat := s.rd R.MTX_STATUS.steward 0

/-- A steward is there to act (R11). -/
def State.stewardActs (s : State) : Bool := s.running && s.stewardOn

/-- Master `m` of Table 13.10 is fenced (R360). -/
def State.masterFenced (s : State) (m : Nat) : Bool := s.on R.MTX_MSTAT_m.fenced m

/-- A write that R24 refuses in the pair roles ACTIVE, STANDBY and CATCHUP: discarded, with pair_wr_drop set. -/
def State.pairGate (s : State) (m : Nat) (f : State → State) : State :=
  if s.role = 0 then f s else s.latch R.MTX_MSTAT_m.pair_wr_drop m

/-! The event ring. -/

/-- log2 of the entries of ring `x`. -/
def State.ringLg (s : State) (x : Nat) : Nat := s.rd R.HOST_RING_CFG_x.lg_size x

/-- Entries between the host index and the device index of the event ring: written and not consumed (R344). -/
def State.evUsed (s : State) : Nat :=
  (s.rd R.HOST_RING_DEV_x.dev_idx 4 + 2 ^ 16 - s.rd R.HOST_RING_DB_x.host_idx 4) % 2 ^ 16

/-- Free entries of the event ring. -/
def State.evFree (s : State) : Nat := 2 ^ s.ringLg 4 - s.evUsed

/-- The event ring is served and master DMA is not fenced (R349). -/
def State.evOpen (s : State) : Bool :=
  s.on R.HOST_RING_CFG_x.en 4 && s.on R.HOST_RING_CFG_x.active 4 && !s.masterFenced 7

/-- MSI-X vector control word of a vector: masked at reset, as PCI Express has it. Assumption log entry 5, PRESUMED, unsafe. -/
def State.msixMasked (s : State) (v : Nat) : Bool := (Tab.get 1 s.msixTable (16 * v + 12)).toNat % 2 = 1

/-- A message of vector `v`, or its pending bit while the vector is masked (R352). -/
def State.sendMsix (s : State) (v : Nat) : State :=
  let s := { s with msixCount := Tab.put 0 s.msixCount v 0 }
  if s.msixMasked v then { s with msixPba := setBitField s.msixPba v 1 1 } else s.emit (.msix v)

/-- The vector that HOST_EV_VEC_k gives a class, when the class is enabled (R352). -/
def State.vecOf (s : State) (cls : Nat) : Option Nat :=
  let b := bitField (s.reg (0x2010 + 4 * (cls / 4))).toNat (8 * (cls % 4)) 8
  if b / 128 = 1 then some (b % 64) else none

/-- An entry of a class was written: it counts towards its vector's next message (R352). -/
def State.signal (s : State) (cls : Nat) : State :=
  match s.vecOf cls with
  | none => s
  | some v =>
    if cls = 15 then s.sendMsix v
    else
      let c := Tab.get 0 s.msixCount v + 1
      let s := { s with msixCount := Tab.put 0 s.msixCount v c }
      if s.rd R.HOST_CTRL.mod_cnt 0 ≤ c then s.sendMsix v else s

/-- The Bell Tower time that an event entry carries: the time at the start of the frame plus an instant within it that
the model leaves free. Assumption log entry 6, DESIGN CHOICE, safe. -/
def State.stamp (s : State) : Nat × State :=
  let (f, s) := s.fresh 32
  ((s.time + f % (2500 * 2 ^ 16)) % 2 ^ 96, s)

/-- The device index of ring `x` rises by 1 and is copied to the ring's writeback word (R344). -/
def State.devAdvance (s : State) (x : Nat) : State :=
  let s := s.bump R.HOST_RING_DEV_x.dev_idx x 1
  { s with writeback := listSet s.writeback x (some (s.rd R.HOST_RING_DEV_x.dev_idx x)) }

/-- One entry written to the event ring (R347, R349). -/
def State.putEvent (s : State) (cls code ring flags unit detail : Nat) : State :=
  let (t, s) := s.stamp
  let e : Event := { cls := cls, code := code, ring := ring, flags := flags + bit s.evLost, unit := unit % 2 ^ 32,
                     detail := detail % 2 ^ 64, time := t, seq := s.evSeq.toNat }
  let s := { s with evRing := s.evRing ++ [e], evSeq := s.evSeq + 1, evLost := false }
  (s.devAdvance 4).signal cls

/-- A report or completion that cannot be written: discarded, ev_lost set, and the next entry says so (R349). -/
def State.loseEvent (s : State) : State := { s.latch R.HOST_EVENT.ev_lost 0 with evLost := true }

/-- A report in a class of Table 13.7: written when the ring is open and holds a free entry beyond the reserve of the
commands in flight, and lost otherwise (R346, R349). -/
def State.report (s : State) (cls code unit detail : Nat) : State :=
  if s.evOpen && decide (s.cmds.length < s.evFree) then s.putEvent cls code 0 0 unit detail else s.loseEvent

/-- A completion: the command leaves the commands in flight and its entry is written unless the ring is closed
(R346, R347, R349); ILLEGAL_STATE is logged (R350). -/
def State.complete (s : State) (h : CmdHead) (code : Code) (reason offset result : Nat) : State :=
  let s := { s with cmds := s.cmds.filter (fun c => !(c.ring == h.ring.val && c.tag == h.tag.toNat)) }
  let ill := decide (code = .illegalState)
  let s := if ill then (s.bump R.HOST_STATUS.rej_cnt 0 1).latch R.HOST_EVENT.cmd_rej 0 else s
  if s.evOpen then
    s.putEvent 0 code.num h.ring.val (2 * bit ill) h.tag.toNat
      (reason % 256 + 256 * (offset % 256) + 2 ^ 16 * (result % 2 ^ 48))
  else s.loseEvent

/-- Completion with OK and a result. -/
def State.ok (s : State) (h : CmdHead) (result : Nat) : State := s.complete h .ok 0 0xFF result

/-- Completion with a code that is not OK; nothing else changes (R418). -/
def State.fail (s : State) (h : CmdHead) (code : Code) : State := s.complete h code 0 0xFF 0

/-- Completion of a change's command, when a command asked for it. -/
def State.okOpt (s : State) (h : Option CmdHead) (result : Nat) : State :=
  match h with | some h => s.ok h result | none => s

/-- Failure of a change's command, when a command asked for it. -/
def State.failOpt (s : State) (h : Option CmdHead) (code : Code) : State :=
  match h with | some h => s.fail h code | none => s

/-- BAD_ARG with the offset of the first faulty byte (R347, R419). -/
def State.badArg (s : State) (h : CmdHead) (offset : Nat) : State := s.complete h .badArg 0 offset 0

/-! Latches of the Gatehouse and the Lantern, with their reports (R405). -/

/-- A latch of GATE_EVENT set and reported (class 10). -/
def State.gateEvent (s : State) (f : Fld) : State :=
  let s := s.latch f 0
  s.report 10 f.lo 0 (s.reg 0x4000).toNat

/-- A latch of LANT_EVENT set and reported (class 11). -/
def State.lantEvent (s : State) (f : Fld) (unit : Nat) : State :=
  let s := s.latch f 0
  s.report 11 f.lo unit (s.reg 0x8004).toNat

/-- A Lantern request or access refused: denied is set (R388, R391). -/
def State.denied (s : State) : State := s.lantEvent R.LANT_EVENT.denied 0

/-! Accesses of masters. -/

/-- Master `m` can reach the registers: start-up has ended, the link is trained for HOST and the part is not in P3; the
Lantern reaches the matrix through JTAG as soon as the core runs (R413, R392, R396). An access behind one that hangs is held back
until the watchdog abandons both (R355, R360). -/
def State.reaches (s : State) (m : Nat) : Bool :=
  s.running && !s.masterFenced m && (m != 0 || s.on R.HOST_STATUS.link_gen 0) && !s.hung.any (fun h => h.m == m)

/-- An access by HOST, a Reeve or LANT, which alone reach every target (R358): nothing happens when the master cannot reach the
part. -/
def State.asAny (s : State) (m : Nat) (f : State → State) : State := if m ≤ 5 ∧ s.reaches m then f s else s

/-- A write to a register outside LANT_ and GATE_: by LANT at level TINKER only, and otherwise discarded with denied set (R391). -/
def State.asMaster (s : State) (m : Nat) (f : State → State) : State :=
  s.asAny m (fun s => if m = 5 ∧ s.rd R.LANT_STATUS.level 0 ≠ 2 then s.denied else f s)

/-- A read of a register outside LANT_ and GATE_ at address `a`: by LANT at level WATCH or TINKER only; otherwise it reads 0 with denied
set (R391). -/
def State.asReader (s : State) (m a : Nat) (f : State → State) : State :=
  s.asAny m (fun s => if m = 5 ∧ s.rd R.LANT_STATUS.level 0 = 0 then s.denied.emit (.busRead m a 0) else f s)

/-- One trace item of four words, written while trace_en is 1 and the level is WATCH or TINKER and THERM_N does not
throttle it; an item that does not fit is dropped whole (R393, R404). The spec names no data for words 2 and 3 but the
bundle index of a brk: what it does not name is free (assumption log entry 17, DESIGN CHOICE, safe). -/
def State.traceItem (s : State) (type srcKind unit code : Nat) (d2 : Option Nat) : State :=
  if s.on R.LANT_CTRL.trace_en 0 && s.on R.LANT_STATUS.level 0 && !s.on R.MILL_STATUS.throttle 0 then
    if s.trace.length + 4 ≤ 65536 then
      let (f2, s) := s.fresh 32
      let (f3, s) := s.fresh 32
      let (now, s) := s.stamp
      { s with trace := s.trace ++ [BitVec.ofNat 32 (type % 16 * 2 ^ 28 + srcKind % 16 * 2 ^ 24 + unit % 256 * 2 ^ 16 + code % 2 ^ 16),
                                   BitVec.ofNat 32 (now / 2 ^ 16 % 10 ^ 9), BitVec.ofNat 32 (d2.getD f2), BitVec.ofNat 32 f3] }
    else
      let s := s.latch R.LANT_TRACE_STAT.overflow 0
      if s.on R.LANT_EVENT.trace_lost 0 then s else s.lantEvent R.LANT_EVENT.trace_lost 0
  else s

/-- The opcode of a command in flight, as it was taken from its ring (0 when it was not). -/
def State.opcodeOf (s : State) (h : CmdHead) : Nat :=
  match s.cmds.find? (fun c => c.ring == h.ring.val && c.tag == h.tag.toNat) with
  | some c => c.opcode
  | none => 0

/-! Judging a command (R418). -/

/-- One possible completion other than OK: its code and the offset of a faulty argument. -/
abbrev Check := Bool × Code × Nat

/-- The rank of a code in R418's order of precedence. -/
def Code.rank : Code → Nat
  | .badArg => 0 | .denied => 1 | .fenced => 2 | .illegalState => 3
  | .busy => 4 | .noResource => 5 | .timeout => 6 | .ok => 7

/-- The check that applies and ranks first: among the checks whose condition holds, the lowest rank, and the first of
equal ranks (R418). -/
def firstCheck : List Check → Option (Code × Nat)
  | [] => none
  | (c, code, off) :: t =>
    if c then
      match firstCheck t with
      | some (code', off') => if code'.rank < code.rank then some (code', off') else some (code, off)
      | none => some (code, off)
    else firstCheck t

/-- 3,072 entries wait in the journal (R334). -/
def State.journalFull (s : State) : Bool := decide (3072 ≤ s.ledg.journal.length)

/-- The checks that every command meets: a reserved byte that is not 0 (R419), the pair roles in which a journalled
command is refused, a full journal (R334), and the power state P2 (Table 15.7, R395). -/
def State.common (s : State) (h : CmdHead) (j p2 : Bool) : List Check :=
  [(h.rsv.isSome, .badArg, match h.rsv with | some o => o.toNat | none => 0xFF),
   (j && decide (2 ≤ s.role), .illegalState, 0xFF),
   (j && s.journalFull, .busy, 0xFF),
   (p2 && decide (s.pstate = 2), .illegalState, 0xFF)]

/-- A change added behind those already accepted (R245). -/
def State.later (s : State) (h : Option CmdHead) (d : Due) (c : Change) : State :=
  { s with changes := s.changes ++ [⟨h, c, d⟩] }

/-- The first change that satisfies `p`, taken out of those that wait. -/
def State.takeChange (s : State) (p : Pend → Bool) : Option Pend × State :=
  match s.changes.find? p with
  | some e => (some e, { s with changes := s.changes.erase e })
  | none => (none, s)

/-- The next multiframe boundary: due at the first one after the present frame. -/
def State.nextMultiframe (s : State) : Due := .multiframe (s.frame + 1) false

/-- The boundary that R25 sets for rate and calendar changes in the present mode. -/
def State.rateBoundary (s : State) : Due := .multiframe (s.frame + 1) (decide (s.mode = .sundial))

/-! VSI engines. -/

def State.eng (s : State) (i : Nat) : Eng := Tab.get Eng.init s.engs i
def State.setEng (s : State) (i : Nat) (x : Eng) : State := { s with engs := Tab.put Eng.init s.engs i x }

/-- Event `k` of Table 10.12 becomes pending on every Reeve (R273). -/
def State.reeveEvent (s : State) (k : Nat) : State :=
  iter (fun i s => s.setEng i { s.eng i with events := (s.eng i).events ||| 2 ^ k }) 384 4 s

/-! Fences. -/

/-- The trace item of a fence of a Weaver thread, a Reeve or a matrix master (R393). -/
def State.traceFence (s : State) (kind unit cause : Nat) : State :=
  if kind = 3 then s.traceItem 3 0 unit cause none
  else if kind = 8 then s.traceItem 3 1 unit cause none
  else if kind = 9 then s.traceItem 3 2 unit cause none
  else s

/-- The report of a fence set or lifted (R368, class 3), and its trace item (R393). -/
def State.reportFence (s : State) (kind unit cause : Nat) (set : Bool) : State :=
  let s := if set then s.reeveEvent 8 else s
  (s.traceFence kind unit cause).report 3 kind unit (cause % 256 + 256 * bit set)

/-! Pair events that every unit can raise. -/

/-- A latch of PAIR_EVENT set and reported (class 4, R348). -/
def State.pairEvent (s : State) (f : Fld) : State := (s.latch f 0).report 4 f.lo 0 (s.reg 0x20004).toNat

/-- A command judged: refused with the first check that applies, or accepted. Without a steward no command is executed
(R11). A command that finds the journal full sets journal_full (R334). -/
def State.judge (s : State) (h : CmdHead) (checks : List Check) (accept : State → State) : State :=
  if !s.stewardActs then s
  else match firstCheck checks with
    | some (code, off) =>
      let s := if code = .busy ∧ s.journalFull then s.pairEvent R.PAIR_EVENT.journal_full else s
      s.complete h code 0 off 0
    | none => accept (s.traceItem 4 1 s.steward (s.opcodeOf h) none)

/-- A planned takeover ends without its switch frame: its PAIR_TAKE completes with ILLEGAL_STATE (R326). -/
def State.dropPlanned (s : State) : State :=
  match s.pair.planned with
  | some (_, h) => ({ s with pair := { s.pair with planned := none } } : State).fail h .illegalState
  | none => s

/-- This part becomes SOLO, with TAKE as solo_take says (R320, R324). -/
def State.toSolo (s : State) (take : Bool) : State :=
  let s := s.dropPlanned
  let s := ((s.wr R.PAIR_CTRL.solo_take 0 (bit take)).wr R.PAIR_STATUS.role 0 0).wr R.PAIR_STATUS.take 0 (bit take)
  let s := s.wr R.PAIR_STATUS.catch_stage 0 0
  { s with pair := { s.pair with trigger := 0, claim := .none, paused := [], window := false, j := none, matched := none } }

/-- An internal fault of this part (R324): told to the twin in the pair roles. A fence in the standby makes this part SOLO
with TAKE low (row 1 of Table 12.6); in the active a fence with takeover_on_fence, or another fault with
takeover_on_fault, is a takeover trigger that the heartbeat codes FAULT (rows 2, 3 and 8). -/
def State.internalFault (s : State) (fence : Bool) : State :=
  if s.role = 0 then s
  else
    let s := ({ s with pair := { s.pair with ownFault := some (s.frame, fence) } } : State).emit (.twinFault fence)
    if s.role = 1 then
      if fence && s.on R.PAIR_CTRL.takeover_on_fence 0 && decide (s.pair.twinRole = 2) then
        { s with pair := { s.pair with trigger := 1 } }
      else s
    else if fence then s.toSolo false
    else s

/-! Programs. -/

/-- The program in a slot of a channel. -/
def State.prog (s : State) (c slot : Nat) : Option Prog := Tab.get none s.progs (4 * c + slot)

/-- The program in a slot of a channel replaced. -/
def State.setProg (s : State) (c slot : Nat) (p : Option Prog) : State :=
  { s with progs := Tab.put none s.progs (4 * c + slot) p }

/-- The Almanac program of a number is attached to its home slot on the channel (Table 9.10). -/
def State.runs (s : State) (c slot id : Nat) : Bool :=
  match s.prog c slot with
  | some p => p.id == id && p.imageLen == 0
  | none => false

/-- The channel carries VTF: the Almanac VTF program is attached to it (chapter 4). A host program built on the same
layout does its framing itself, in its own instructions. Assumption log entry 8, DEDUCED, unsafe. -/
def State.carriesVtf (s : State) (c : Nat) : Bool := s.runs c 0 1

/-- The index of word `w` of the parameter block of a channel's slot (R246). -/
def blockWord (c slot w : Nat) : Nat := 128 * (16 * (c / 4) + 4 * (c % 4) + slot) + w

/-- Word `w` of the parameter block of a slot, as in force. -/
def State.pw (s : State) (c slot w : Nat) : Nat := (Tab.get 0 s.pblk (blockWord c slot w)).toNat

/-- Word `w` of the parameter block of a slot replaced. -/
def State.setPw (s : State) (c slot w v : Nat) : State :=
  { s with pblk := Tab.put 0 s.pblk (blockWord c slot w) (BitVec.ofNat 32 v) }

/-! Tally counters (R187, Tables 7.5 to 7.8). -/

/-- Counter `i` raised by `k`, wrapping at 2^64. -/
def State.count (s : State) (i k : Nat) : State :=
  { s with tally := Tab.put 0 s.tally i ((Tab.get 0 s.tally i + k) % 2 ^ 64) }

/-- Lane counter `k` of lane `n` raised (Table 7.6). -/
def State.countL (s : State) (n k by_ : Nat) : State := s.count (16 * n + k) by_
/-- Channel counter `k` of channel `c` raised (Table 7.7). -/
def State.countC (s : State) (c k by_ : Nat) : State := s.count (1536 + 32 * c + k) by_
/-- Device counter `k` raised (Table 7.8). -/
def State.countD (s : State) (k by_ : Nat) : State := s.count (4608 + k) by_
/-- Tributary counter `k` of tributary `t` raised. -/
def State.countT (s : State) (t k by_ : Nat) : State := s.count (5632 + 2 * t + k) by_
/-- Queue counter `k` of queue `q` raised. -/
def State.countQ (s : State) (q k by_ : Nat) : State := s.count (136704 + 2 * q + k) by_

/-! Per-lane records. -/

def State.lane (s : State) (n : Nat) : LaneX := Tab.get LaneX.init s.lanes n
def State.setLane (s : State) (n : Nat) (x : LaneX) : State := { s with lanes := Tab.put LaneX.init s.lanes n x }
def State.align (s : State) (n : Nat) : AlignX := Tab.get AlignX.init s.aligns n
def State.setAlign (s : State) (n : Nat) (x : AlignX) : State := { s with aligns := Tab.put AlignX.init s.aligns n x }
def State.vtf (s : State) (n : Nat) : VtfX := Tab.get VtfX.init s.vtfs n
def State.setVtf (s : State) (n : Nat) (x : VtfX) : State := { s with vtfs := Tab.put VtfX.init s.vtfs n x }
def State.bip (s : State) (n : Nat) : BipX := Tab.get BipX.init s.bips n
def State.setBip (s : State) (n : Nat) (x : BipX) : State := { s with bips := Tab.put BipX.init s.bips n x }
def State.chanX (s : State) (c : Nat) : ChanX := Tab.get ChanX.init s.chans c
def State.setChanX (s : State) (c : Nat) (x : ChanX) : State := { s with chans := Tab.put ChanX.init s.chans c x }
/-- The end of tributary `t` on channel `c`. -/
def State.trib (s : State) (t c : Nat) : EndX := Tab.get EndX.init s.ends (128 * t + c)
def State.setTrib (s : State) (t c : Nat) (x : EndX) : State := { s with ends := Tab.put EndX.init s.ends (128 * t + c) x }
def State.bank (s : State) (b : Nat) : BankX := Tab.get BankX.init s.banks b
def State.setBank (s : State) (b : Nat) (x : BankX) : State := { s with banks := Tab.put BankX.init s.banks b x }
def State.group (s : State) (g : Nat) : Group := Tab.get Group.init s.groups g
def State.setGroup (s : State) (g : Nat) (x : Group) : State := { s with groups := Tab.put Group.init s.groups g x }
def State.refx (s : State) (n : Nat) : RefX := Tab.get RefX.init s.refs n
def State.setRefx (s : State) (n : Nat) (x : RefX) : State := { s with refs := Tab.put RefX.init s.refs n x }
def State.xcEnd (s : State) (t c : Nat) : XcEnd := Tab.get XcEnd.init s.xc (128 * t + c)
def State.setXc (s : State) (t c : Nat) (x : XcEnd) : State := { s with xc := Tab.put XcEnd.init s.xc (128 * t + c) x }
def State.inj (s : State) (j : Nat) : InjX := Tab.get InjX.init s.injs j
def State.setInj (s : State) (j : Nat) (x : InjX) : State := { s with injs := Tab.put InjX.init s.injs j x }

end Sys2Proof.Machine
end

