-- ==== Sys2Proof/Machine/FifoOps.lean ====
section
/-! DEFINITION. The register FIFOs of the Weavers (R251, R365, R366): 0 capture, 1 insert, 2 MCC receive, 3 MCC transmit,
4 APS receive. -/
namespace Sys2Proof.Machine

/-- Words that FIFO `f` holds at most. -/
def fifoCap (f : Nat) : Nat := if f = 4 then 256 else 4096

/-- FIFO `f` of Weaver `q`. -/
def State.fifo (s : State) (q f : Nat) : Fifo := Tab.get Fifo.init s.fifos (8 * q + f)

/-- FIFO `f` of Weaver `q` replaced, with its level and flags shown. -/
def State.setFifo (s : State) (q f : Nat) (x : Fifo) : State :=
  let s := { s with fifos := Tab.put Fifo.init s.fifos (8 * q + f) x }
  let n := x.words.length
  ((s.wr (R.WVR_FIFO_STAT_f.level q) f n).wr (R.WVR_FIFO_STAT_f.empty q) f (bit (n == 0))).wr
    (R.WVR_FIFO_STAT_f.full q) f (bit (decide (fifoCap f ≤ n)))

/-- The length of an item from its first word (Table 13.16). -/
def itemLen (f : Nat) (w : W32) : Nat :=
  match f with
  | 0 => if w.toNat / 2 ^ 28 = 2 then 5 else 4 + (w.toNat % 2 ^ 14 + 3) / 4
  | 1 => 2 + (w.toNat % 2 ^ 14 + 3) / 4
  | 4 => 3
  | _ => 1 + (w.toNat % 2 ^ 13 + 3) / 4

/-- The Weaver writes a whole item into a read FIFO; nothing is written when it does not fit (R129). While the rest of an
item flushed part-way is still to arrive, this does not arise: a whole item is written at once. -/
def State.pushItem (s : State) (q f : Nat) (ws : List W32) : Option State :=
  let x := s.fifo q f
  if x.words.length + ws.length ≤ fifoCap f then some (s.setFifo q f { x with words := x.words ++ ws }) else none

/-- One word written by a producer: the rest of an item that is being discarded is dropped, a first word reserves the whole
item's space, and overflow is set when the item does not fit (R365, R366). -/
def State.pushWord (s : State) (q f : Nat) (w : W32) : State :=
  let x := { s.fifo q f with last := w }
  if x.left ≠ 0 then
    if x.drop then
      let s := s.setFifo q f { x with left := x.left - 1 }
      if x.flushed then s.bump (R.WVR_FIFO_CTRL_f.flushed_words q) f 1 else s
    else s.setFifo q f { x with left := x.left - 1, words := x.words ++ [w] }
  else
    let need := itemLen f w
    if x.words.length + need ≤ fifoCap f then
      s.setFifo q f { x with left := need - 1, drop := false, flushed := false, words := x.words ++ [w] }
    else (s.setFifo q f { x with left := need - 1, drop := true, flushed := false }).wr (R.WVR_FIFO_STAT_f.overflow q) f 1

/-- The oldest whole item of a write FIFO taken by its consumer (R365). -/
def State.takeItem (s : State) (q f : Nat) : Option (List W32) × State :=
  let x := s.fifo q f
  match x.words with
  | [] => (none, s)
  | w :: _ =>
    let n := itemLen f w
    if n ≤ x.words.length then (some (x.words.take n), s.setFifo q f { x with words := x.words.drop n })
    else (none, s)

/-- A flush: the FIFO is empty at once, and the rest of an item in hand is discarded as it arrives and counted (R366). -/
def State.flushFifo (s : State) (q f : Nat) : State :=
  let x := s.fifo q f
  s.setFifo q f { x with words := [], drop := decide (x.left ≠ 0), flushed := decide (x.left ≠ 0) }

end Sys2Proof.Machine
end

