-- ==== Sys2Proof/Machine/Codes.lean ====
section
/-! DEFINITION. Check codes and word layouts of the transport frame (chapter 4): CRCs, the frame identity word, parity. -/
namespace Sys2Proof.Machine

/-- The low `n` bits of `v` fed to a CRC register of `w` bits, most significant bit first, without reflection (R81). -/
def crcBits (w poly : Nat) : Nat → Nat → Nat → Nat
  | 0, _, c => c
  | n + 1, v, c =>
    let top := (c / 2 ^ (w - 1) + v / 2 ^ n) % 2
    let c' := c * 2 % 2 ^ w
    crcBits w poly n v (if top = 1 then c' ^^^ poly else c')

/-- CRC-8 of Table 4.6 over the low 56 bits of a word. -/
def crc8 (v : Nat) : Nat := crcBits 8 0x07 56 v 0xFF

/-- 64-bit words fed to a CRC register in the order listed. -/
def crcWords (w poly : Nat) (c : Nat) (vs : List Nat) : Nat := vs.foldl (fun c v => crcBits w poly 64 v c) c

/-- CRC-16 of Table 4.6 over 64-bit words, then the low 48 bits of a last one. -/
def crc16 (vs : List Nat) (last48 : Nat) : Nat := crcBits 16 0x1021 48 last48 (crcWords 16 0x1021 0xFFFF vs)

/-- CRC-16 over CA0[47:0] and then CA1 to CA7 (Table 4.6). -/
def crc16ca (ca0 : Nat) (body : List Nat) : Nat := crcWords 16 0x1021 (crcBits 16 0x1021 48 ca0 0xFFFF) body

/-- CRC-16 over bytes (Table 11.9). -/
def crc16Bytes (bs : List Nat) : Nat := bs.foldl (fun c b => crcBits 16 0x1021 8 b c) 0xFFFF

/-- CRC-32 of Table 4.6 over MC0 to MC10 and then MC11[63:32]. -/
def crc32mc (vs : List Nat) (mc11hi : Nat) : Nat :=
  crcBits 32 0x04C11DB7 32 mc11hi (crcWords 32 0x04C11DB7 0xFFFFFFFF vs) ^^^ 0xFFFFFFFF

/-- CRC-32 of a 64-bit flow key, bytes k[63:56] first (R125). -/
def crc32key (k : Nat) : Nat := crcBits 32 0x04C11DB7 64 k 0xFFFFFFFF ^^^ 0xFFFFFFFF

/-- The frame alignment signal (Table 4.4). -/
def fasWord : Nat := 0x4A7E1C93B5E08D36

/-- A word whose top byte is the CRC-8 over its other 56 bits. -/
def withCrc8 (v : Nat) : Nat := v % 2 ^ 56 + crc8 v * 2 ^ 56

/-- The top byte of a 64-bit word is the CRC-8 of the rest. -/
def crc8Ok (v : Nat) : Bool := bitField v 56 8 == crc8 v

/-- Fields of a frame identity word (Table 4.5). -/
structure Fiw where
  nodeId : Nat
  laneInBond : Nat
  bonded : Bool
  calSel : Nat
  rateCode : Nat
  subframe : Nat
  sfn : Nat
  calCnt : Nat
  calf : Bool
  frameNo : Nat
  deriving DecidableEq, Repr

/-- The word of a frame identity (Table 4.5). -/
def Fiw.word (f : Fiw) : Nat :=
  withCrc8 (f.nodeId % 2 ^ 18 * 2 ^ 38 + f.laneInBond % 4 * 2 ^ 36 + bit f.bonded * 2 ^ 35 + f.calSel % 2 * 2 ^ 34
    + f.rateCode % 8 * 2 ^ 31 + f.subframe % 16 * 2 ^ 27 + f.sfn % 1024 * 2 ^ 17 + f.calCnt % 8 * 2 ^ 14
    + bit f.calf * 2 ^ 13 + 1 * 2 ^ 11 + f.frameNo % 512)

/-- The frame identity that a word carries, when the word is valid (R80). -/
def fiwOf (v : Nat) : Option Fiw :=
  if crc8Ok v ∧ bitField v 11 2 = 1 ∧ bitField v 9 2 = 0 ∧ bitField v 0 9 ≤ 399 ∧ bitField v 27 4 ≤ 9 ∧
      bitField v 31 3 ≤ 4 then
    some { nodeId := bitField v 38 18, laneInBond := bitField v 36 2, bonded := bitField v 35 1 == 1,
           calSel := bitField v 34 1, rateCode := bitField v 31 3, subframe := bitField v 27 4, sfn := bitField v 17 10,
           calCnt := bitField v 14 3, calf := bitField v 13 1 == 1, frameNo := bitField v 0 9 }
  else none

/-- Bit `j` of the result is the even parity of the bits `i` with `i mod 8 = j` of the words (R82). -/
def bip8 (ws : List Nat) : Nat :=
  let x := ws.foldl (fun a w => a ^^^ w % 2 ^ 64) 0
  let x := (x / 2 ^ 32) ^^^ (x % 2 ^ 32)
  let x := (x / 2 ^ 16) ^^^ (x % 2 ^ 16)
  (x / 2 ^ 8) ^^^ (x % 2 ^ 8)

/-- The number of ones among the low `n` bits. -/
def popcount : Nat → Nat → Nat
  | 0, _ => 0
  | n + 1, v => v % 2 + popcount n (v / 2)

/-- The scrambler x^58 + x^39 + 1 over the low `n` bits of a word, least significant bit first: state and output (R78). -/
def scrambleBits : Nat → Nat → Nat → Nat → Nat × Nat
  | 0, _, s, _ => (s, 0)
  | n + 1, x, s, w =>
    let k := (s / 2 ^ 57 + s / 2 ^ 38) % 2
    let (s', rest) := scrambleBits n (x / 2) ((2 * s + k) % 2 ^ 58) (2 * w)
    (s', (x + k) % 2 * w + rest)

/-- A list of 64-bit words scrambled from a state (R78). -/
def scrambleWords : Nat → List Nat → List Nat
  | _, [] => []
  | s, x :: t => let (s', y) := scrambleBits 64 x s 1; y :: scrambleWords s' t

/-- The scrambler seed of a frame (R78). -/
def scrambleSeed (sfn subframe frameNo laneInBond : Nat) : Nat :=
  sfn % 1024 * 2 ^ 48 + subframe % 16 * 2 ^ 44 + frameNo % 512 * 2 ^ 35 + laneInBond % 4 * 2 ^ 33 + 0x15A5A5A5A

/-- Blocks per row, slots and line bits per frame by rate code; VTF-400 is given per lane (Table 4.1). -/
def rateB : Nat → Nat
  | 0 => 20 | 1 => 50 | 2 => 100 | _ => 200
def rateS : Nat → Nat
  | 0 => 18 | 1 => 48 | 2 => 98 | _ => 198
def rateF : Nat → Nat
  | 0 => 26400 | 1 => 66000 | 2 => 132000 | _ => 264000

/-- Little-endian bytes of a number. -/
def leBytes : Nat → Nat → List Nat
  | 0, _ => []
  | n + 1, v => v % 256 :: leBytes n (v / 256)

/-- The number of little-endian bytes. -/
def ofLeBytes : List Nat → Nat
  | [] => 0
  | b :: t => b % 256 + 256 * ofLeBytes t

/-- The number of big-endian bytes. -/
def ofBeBytes (bs : List Nat) : Nat := bs.foldl (fun a b => 256 * a + b % 256) 0

/-- A byte list cut into 64-bit words, first byte in the low bits, the last word padded with 0 (R159). -/
def bytesToWords (bs : List Nat) : List Nat := upTo8 (fun i => ofLeBytes ((bs.drop (8 * i)).take 8)) ((bs.length + 7) / 8)
where
  upTo8 (f : Nat → Nat) : Nat → List Nat
    | 0 => []
    | n + 1 => upTo8 f n ++ [f n]

/-- A byte list cut into 32-bit words, first byte in the low bits, the last word padded with 0. -/
def bytesToW32 (bs : List Nat) : List W32 :=
  upTo4 (fun i => BitVec.ofNat 32 (ofLeBytes ((bs.drop (4 * i)).take 4))) ((bs.length + 3) / 4)
where
  upTo4 (f : Nat → W32) : Nat → List W32
    | 0 => []
    | n + 1 => upTo4 f n ++ [f n]

end Sys2Proof.Machine
end

