-- ==== Sys2Proof/Machine/LaneBase.lean ====
section
/-! DEFINITION. What every family asks of a serial lane: its board facts, its state, its channel, its event latches (chapters 1
and 2). -/
namespace Sys2Proof.Machine

/-! Board facts. -/

/-- Byte `k` of lane `n`'s entry in the descriptor in force (Table 14.5). -/
def State.laneDesc (s : State) (n k : Nat) : Nat := (Tab.get 0 s.desc (0x40 + 12 * n + k)).toNat

/-- The lane is populated: marked so, with a loss of at most 28 dB (R29). -/
def State.populated (s : State) (n : Nat) : Bool := decide (n < 96 ∧ s.laneDesc n 0 % 2 = 1 ∧ s.laneDesc n 1 ≤ 112)

/-- The CTLE starting code, round(loss × 15 / 28), with the loss in units of 0.25 dB (R29). -/
def State.ctleStart (s : State) (n : Nat) : Nat := (2 * s.laneDesc n 1 * 15 + 112) / 224 % 16

/-- The FIR preset and swing of the descriptor (R30). -/
def State.firPreset (s : State) (n : Nat) : Fir :=
  { swing := s.laneDesc n 2 % 16, main := s.laneDesc n 3, pre2 := signedOf 8 (s.laneDesc n 4),
    pre1 := signedOf 8 (s.laneDesc n 5), post1 := signedOf 8 (s.laneDesc n 6), post2 := signedOf 8 (s.laneDesc n 7),
    post3 := signedOf 8 (s.laneDesc n 8) }

/-- The taps and swing loaded from the descriptor, as after every reset and each LANE_RATE (R30). -/
def State.loadFir (s : State) (n : Nat) : State :=
  let f := s.firPreset n
  let s := s.setLane n { s.lane n with fir := f }
  let s := (((s.wr R.LANE_TX_FIR_A.main n f.main).wr R.LANE_TX_FIR_A.pre1 n (patternOf 7 f.pre1))).wr
    R.LANE_TX_FIR_A.pre2 n (patternOf 7 f.pre2)
  let s := ((s.wr R.LANE_TX_FIR_B.post1 n (patternOf 7 f.post1)).wr R.LANE_TX_FIR_B.post2 n (patternOf 7 f.post2)).wr
    R.LANE_TX_FIR_B.post3 n (patternOf 7 f.post3)
  (s.wr R.LANE_TX_CFG.swing n f.swing).wr R.LANE_TX_CFG.fir_src n 0

/-- The LANE_ fields whose reset value is the descriptor's (R50). -/
def State.loadLaneDesc (s : State) (n : Nat) : State := (s.loadFir n).wr R.LANE_RX_CFG.ctle_start n (s.ctleStart n)

/-! Lane states: 0 OFF, 1 CAL, 2 ACTIVE, 3 QUIET, 4 DORMANT, 5 FENCED (LANE_STATE). -/

def State.laneState (s : State) (n : Nat) : Nat := s.rd R.LANE_STATE.lane_state n
def State.setLaneState (s : State) (n v : Nat) : State := s.wr R.LANE_STATE.lane_state n v
/-- The receiver state: 0 SEEK, 1 ADAPT, 2 TRACK, 3 HOLD (LANE_STATE). -/
def State.rxState (s : State) (n : Nat) : Nat := s.rd R.LANE_STATE.rx_state n

/-- The channel of a lane: its lowest lane (R13). -/
def State.chan (s : State) (n : Nat) : Nat :=
  match (s.lane n).width with
  | 4 => n - n % 4
  | 2 => n - n % 2
  | _ => n

/-- The lanes of the channel whose lowest lane is `c`. -/
def State.chanLanes (s : State) (c : Nat) : List Nat := upTo (fun i => c + i) (max 1 (s.lane c).width)

/-- The lane's channel runs the Ethernet client program (R114). -/
def State.isEthernet (s : State) (n : Nat) : Bool := s.runs (s.chan n) 0 2

/-- A LANE_EVENT latch set; the steward reports its setting when the matching enable is 1 (R348, class 2). -/
def State.laneEvent (s : State) (n bitNo : Nat) : State :=
  let old := bitField (s.reg (0x10000C + n * 0x1000)).toNat bitNo 1
  let s := s.setReg (0x10000C + n * 0x1000)
    (BitVec.ofNat 32 (setBitField (s.reg (0x10000C + n * 0x1000)).toNat bitNo 1 1))
  let en := old == 0 && bitField (s.rd R.LANE_EVENT_EN.event_en n) bitNo 1 == 1
  let s := if en then s.reeveEvent 9 else s
  if en && s.stewardActs then
    s.report 2 bitNo n (s.reg (0x100008 + n * 0x1000)).toNat
  else s

/-- A lane of the channel is fenced. -/
def State.chanLaneFenced (s : State) (c : Nat) : Bool := (s.chanLanes c).any (fun n => s.laneState n == 5)

/-- A sum over `0 … n - 1`. -/
def sumUpTo (f : Nat → Nat) : Nat → Nat
  | 0 => 0
  | n + 1 => sumUpTo f n + f n

end Sys2Proof.Machine
end

