-- ==== Sys2Proof/Machine/GranaryOps.lean ====
section
/-! DEFINITION. The Granary's shared operations (chapter 8): admission, joining, the choice of an egress, departures and
drops, and the usable-bank arithmetic. -/
namespace Sys2Proof.Machine

/-! Banks and cells. -/

/-- State of bank `b`: 0 LIVE, 1 DRAIN, 2 GATED, 3 RETIRED. -/
def State.bankState (s : State) (b : Nat) : Nat := s.rd R.GRN_BANK_b.state b

/-- Cells that packets hold in bank `b`. -/
def State.cellsIn (s : State) (b : Nat) : Nat := (s.pkts.map (fun p => p.cells.count b)).foldl (· + ·) 0

/-- U, the number of LIVE banks (R211). -/
def State.usable (s : State) : Nat := ((upTo id 96).filter (fun b => s.bankState b == 0)).length

/-- Free cells in LIVE banks (R215). -/
def State.freeCells (s : State) : Nat :=
  sumUpTo (fun b => if s.bankState b = 0 then 4096 - s.cellsIn b else 0) 96

/-- U_spec of the major mode (R211). -/
def State.uSpec (s : State) : Nat := if s.mode = .hearth then 22 else 88

/-- Cells that queues may reserve, 4,096 for each of the U_spec banks (R211). -/
def State.cellLimit (s : State) : Nat := 4096 * s.uSpec

/-- Free and guaranteed cells shown (GRN_FREE, GRN_GUAR). -/
def State.showFree (s : State) : State := s.wr R.GRN_FREE.free_cells 0 s.freeCells

/-- min_eff of queue `q` for `u` usable banks (R211). -/
def State.minEffAt (s : State) (q u : Nat) : Nat :=
  let m := s.rd R.GRN_QD_MIN.min_cells q
  if s.uSpec ≤ u then m else m * u / s.uSpec

/-- The numbers of a row's registers, from address `lo` with a stride, that are listed with bit 31 set: ascending. -/
def State.validIn (s : State) (lo n stride : Nat) : List Nat :=
  (s.regs.filter (fun e => decide (lo ≤ e.1 ∧ e.1 < lo + n * stride ∧ (e.1 - lo) % stride = 0 ∧ 2 ^ 31 ≤ e.2.toNat))).map
    (fun e => (e.1 - lo) / stride)

/-- Valid queues, ascending. -/
def State.queuesNow (s : State) : List Nat := s.validIn 0x400000 65536 64

/-- Trunks that exist, ascending. -/
def State.trunksNow (s : State) : List Nat := s.validIn 0x840000 65536 4

/-- min_eff recomputed for every queue that has one, guar formed anew, degraded shown (R211). -/
def State.degradedRecompute (s : State) : State :=
  let u := s.usable
  let qs := s.queuesNow
  let s := qs.foldl (fun s q => s.wr R.GRN_QD_MINEFF.min_eff q (s.minEffAt q u)) s
  let guar := (qs.map (fun q => s.rd R.GRN_QD_MINEFF.min_eff q - s.rd R.GRN_QD_OCC.occ_cells q)).foldl (· + ·) 0
  let s := (s.wr R.GRN_GUAR.guar_cells 0 guar).showFree
  let deg := decide (u < s.uSpec)
  let s := if deg && !s.on R.GRN_STATUS.degraded 0 then s.latch R.GRN_EVENT.degraded_on 0 else s
  let s := (s.wr R.GRN_STATUS.degraded 0 (bit deg)).wr R.GRN_STATUS.usable_banks 0 u
  s.wr R.GRN_STATUS.live_banks 0 ((upTo id 96).filter (fun b => s.bankState b != 3)).length

/-- A latch of GRN_EVENT set for a unit and reported with the unit's register (class 5, Table 13.7). -/
def State.grnEvent (s : State) (f : Fld) (unit detail : Nat) : State := (s.latch f 0).report 5 f.lo unit detail

/-! Queues. -/

/-- Packets of queue `q` that have joined and have not begun to depart, in joining order. -/
def State.waiting (s : State) (q : Nat) : List Packet :=
  s.pkts.filter (fun p => p.queue == q && p.joined && !p.departing)

/-- The packet first in joining order. -/
def firstJoined : List Packet → Option Packet
  | [] => none
  | p :: t => match firstJoined t with
    | some r => if r.order < p.order then some r else some p
    | none => some p

/-- The packets and the head shown in the descriptor (GRN_QD_PKTS, GRN_QD_HEAD, GRN_QD_STAT). -/
def State.showHead (s : State) (q : Nat) : State :=
  let s := s.wr R.GRN_QD_PKTS.occ_pkts q (s.pkts.filter (fun p => p.queue == q && p.joined)).length
  match firstJoined (s.waiting q) with
  | some p => (s.wr R.GRN_QD_HEAD.head_s q p.sendBy).wr R.GRN_QD_STAT.head_valid q (bit (!s.on R.GRN_QD_CTRL.fenced q))
  | none => s.wr R.GRN_QD_STAT.head_valid q 0

/-- The packet of a number. -/
def State.pkt (s : State) (id : Nat) : Option Packet := s.pkts.find? (fun p => p.id == id)

/-- A packet replaced. -/
def State.setPkt (s : State) (p : Packet) : State :=
  { s with pkts := s.pkts.map (fun r => if r.id = p.id then p else r) }

/-- One cell of queue `q` back in its bank (R215). -/
def State.returnCell (s : State) (q : Nat) : State :=
  let occ := s.rd R.GRN_QD_OCC.occ_cells q - 1
  let s := s.wr R.GRN_QD_OCC.occ_cells q occ
  let s := if occ < s.rd R.GRN_QD_MINEFF.min_eff q then s.bump R.GRN_GUAR.guar_cells 0 1 else s
  if s.rd R.GRN_QD_CTRL.egress_kind q = 0 then
    let t := s.rd R.GRN_QD_CTRL.egress q
    s.wr R.GRN_TRUNK_t.backlog_cells t (s.rd R.GRN_TRUNK_t.backlog_cells t - 1)
  else s

/-- The packet's cells freed and the packet gone. -/
def State.freePkt (s : State) (p : Packet) : State :=
  let s := p.cells.foldl (fun s _ => s.returnCell p.queue) { s with pkts := s.pkts.filter (fun r => r.id != p.id) }
  (s.showFree).showHead p.queue

/-- A drop recorded for queue `q` with a cause of Table 8.8 (R225). -/
def State.recordDrop (s : State) (q cause : Nat) : State :=
  (s.wr R.GRN_QD_STAT.last_drop q cause).countQ q 1 1

/-- A stored packet dropped (R225). -/
def State.dropPkt (s : State) (p : Packet) (cause : Nat) : State := (s.freePkt p).recordDrop p.queue cause

/-- Banks that can take a cell. -/
def State.roomyBanks (s : State) : List Nat :=
  (upTo id 96).filter (fun b => s.bankState b == 0 && decide (s.cellsIn b < 4096))

/-- One cell admitted to queue `q`, or the cause of its refusal (R215); in the window of R328 a cell is refused only when none is free. -/
def State.admitCause (s : State) (q : Nat) : Option Nat :=
  let occ := s.rd R.GRN_QD_OCC.occ_cells q
  let free := s.freeCells
  if s.on R.GRN_QD_CTRL.fenced q then some 8
  else if s.on R.GRN_QD_CTRL.closing q then some 4
  else if s.pair.window then (if free < 1 then some 2 else none)
  else if s.rd R.GRN_QD_MAX.max_cells q < occ + 1 then some 1
  else if free < 1 then some 2
  else if ¬ occ < s.rd R.GRN_QD_MINEFF.min_eff q ∧ free < s.rd R.GRN_GUAR.guar_cells 0 + 1 then some 2
  else none

/-- A cell taken for packet `p`: the bank it lies in is left open by the spec (R199), a free choice among the banks with
room. Assumption log entry 10, DESIGN CHOICE, safe. -/
def State.takeCell (s : State) (p : Packet) : State :=
  let q := p.queue
  let occ := s.rd R.GRN_QD_OCC.occ_cells q
  let own := decide (occ < s.rd R.GRN_QD_MINEFF.min_eff q)
  let bs := s.roomyBanks
  let (v, s) := s.fresh 32
  let b := bs.getD (v % max 1 bs.length) 0
  let s := s.wr R.GRN_QD_OCC.occ_cells q (occ + 1)
  let s := if own then s.wr R.GRN_GUAR.guar_cells 0 (s.rd R.GRN_GUAR.guar_cells 0 - 1) else s
  let s := if s.rd R.GRN_QD_CTRL.egress_kind q = 0 then s.bump R.GRN_TRUNK_t.backlog_cells (s.rd R.GRN_QD_CTRL.egress q) 1 else s
  (s.setPkt { p with cells := p.cells ++ [b] }).showFree

/-- Cells that a packet of `len` bytes needs (R199). -/
def cellsFor (len : Nat) : Nat := (len + 32 + 255) / 256

/-- Cells admitted one at a time until packet `id` has `need` of them; the first refusal drops the packet and answers its
cause (R215). -/
def State.admitCells (s : State) (id need : Nat) : Nat → Option Nat × State
  | 0 => (none, s)
  | fuel + 1 =>
    match s.pkt id with
    | none => (none, s)
    | some p =>
      if need ≤ p.cells.length then (none, s)
      else match s.admitCause p.queue with
        | some cause => (some cause, s.dropPkt p cause)
        | none => State.admitCells (s.takeCell p) id need fuel

/-- A packet begun for queue `q` on receiving channel `c`, with the instant from which its budget runs (R214, R216). -/
def State.openPkt (s : State) (q c arrival : Nat) : Nat × State :=
  let p : Packet := { id := s.pktNext, queue := q, bytes := [], cells := [], len := 0, sendBy := 0, carried := none,
                      late := false, err := false, ct := false, joined := false, joinedAt := 0, order := 0,
                      whole := false, departing := false, begun := false, channel := c, arrival := arrival }
  (s.pktNext, { s with pkts := s.pkts ++ [p], pktNext := s.pktNext + 1 })

/-- Bytes added to a packet, each new cell admitted first (R215). A refusal drops the whole packet. -/
def State.writePkt (s : State) (id : Nat) (bs : List Nat) : Option Nat × State :=
  match s.pkt id with
  | none => (none, s)
  | some p =>
    let p := { p with bytes := p.bytes ++ bs }
    (s.setPkt p).admitCells id (cellsFor p.bytes.length) 64

/-- The send-by time of a packet that joins queue `q` (R216). -/
def State.sendByFor (s : State) (p : Packet) : Nat :=
  let budget := 10 * s.rd R.GRN_QD_TIME.budget p.queue
  match p.carried with
  | some t => if s.on R.GRN_QD_CTRL.dl_src p.queue then t + budget else p.arrival + budget
  | none => p.arrival + budget

/-- A packet joins its queue at the present instant (R214, R216). -/
def State.joinPkt (s : State) (id : Nat) : State :=
  match s.pkt id with
  | none => s
  | some p =>
    if p.joined then s
    else
      let (t, s) := s.stamp
      let s := { s with joinNext := s.joinNext + 1 }
      (s.setPkt { p with joined := true, joinedAt := t / 2 ^ 16, order := s.joinNext, sendBy := s.sendByFor p }).showHead p.queue

/-- The last byte of a packet is written: in store-and-forward it joins (R214). -/
def State.closePkt (s : State) (id : Nat) (err late : Bool) : State :=
  match s.pkt id with
  | none => s
  | some p => (s.setPkt { p with whole := true, err := p.err || err, late := p.late || late }).joinPkt id

/-- A whole packet received for queue `q` (R115, R161): written, and joined unless a cell was refused. A queue that is not
valid takes nothing. -/
def State.receivePkt (s : State) (q c arrival : Nat) (carried : Option Nat) (bytes : List Nat) (err late : Bool) : State :=
  if !s.on R.GRN_QD_CTRL.valid q then s
  else
    let (id, s) := s.openPkt q c arrival
    let s := match s.pkt id with | some p => s.setPkt { p with carried := carried } | none => s
    let (_, s) := s.writePkt id bytes
    s.closePkt id err late

/-! The choice at an egress (R217 to R220). -/

/-- The queue feeds an egress: kind 0 trunk, 1 Ethernet channel. -/
def State.feeds (s : State) (q kind e : Nat) : Bool :=
  s.on R.GRN_QD_CTRL.valid q && !s.on R.GRN_QD_CTRL.fenced q && s.rd R.GRN_QD_CTRL.egress_kind q == kind
    && s.rd R.GRN_QD_CTRL.egress q == e

/-- The heads that an egress may choose among. -/
def State.heads (s : State) (kind e : Nat) : List Packet :=
  s.pkts.filter (fun p => p.joined && !p.departing && s.feeds p.queue kind e && (firstJoined (s.waiting p.queue) == some p))

/-- A head's place in the order of choice at `now`: region, bucket within the window, class, joining order (R218). -/
def State.rankHead (s : State) (now : Nat) (p : Packet) : List Nat :=
  let cls := s.rd R.GRN_QD_CTRL.class_ p.queue
  if p.sendBy + 20480 < now then [0, 0, cls, p.order]
  else if p.sendBy < now + 20480 then [1, p.sendBy / 10, cls, p.order]
  else [2, 0, cls, p.order]

/-- Lexicographic comparison of ranks. -/
def rankLt : List Nat → List Nat → Bool
  | a :: s, b :: t => decide (a < b) || (a == b && rankLt s t)
  | _, _ => false

/-- The best head by rank. -/
def State.bestHead (s : State) (now : Nat) : List Packet → Option Packet
  | [] => none
  | p :: t => match State.bestHead s now t with
    | some r => if rankLt (s.rankHead now r) (s.rankHead now p) then some r else some p
    | none => some p

/-- An egress starts no packet: paused before a resync, or any egress of a standby that has not passed K (R328). -/
def State.egressHeld (s : State) (kind e : Nat) : Bool :=
  s.pair.paused.contains (kind, e) || (s.role == 3 && decide (s.rd R.PAIR_STATUS.catch_stage 0 < 8))

/-- The head that the egress would choose at `now`; with preemption active, express heads come first (R218). -/
def State.pick (s : State) (kind e now : Nat) (preempt : Bool) : Option Packet :=
  let hs := if s.egressHeld kind e then [] else s.heads kind e
  let ex := hs.filter (fun p => s.on R.GRN_QD_CTRL.express p.queue)
  if preempt && !ex.isEmpty then s.bestHead now ex else s.bestHead now hs

/-- The Ethernet client program's mtu on a channel (Table 5.8). -/
def State.mtu (s : State) (c : Nat) : Nat := s.pw c 0 10

/-- A choice (R218 to R220): late and oversize heads are dealt with until one is sent; the packet begins to depart. -/
def State.choose (s : State) (kind e now : Nat) (preempt : Bool) : Nat → Option Packet × State
  | 0 => (none, s)
  | fuel + 1 =>
    match s.pick kind e now preempt with
    | none => (none, s)
    | some p =>
      let q := p.queue
      let isLate := decide (p.sendBy < now)
      let pol := s.rd R.GRN_QD_CTRL.late_pol q
      let dropLate := isLate && (pol == 0 || (pol == 2 && decide (p.sendBy + 10 * s.rd R.GRN_QD_TIME.late_tol q < now)))
      if dropLate then State.choose (s.dropPkt p 3) kind e now preempt fuel
      else if kind = 1 ∧ s.mtu e < (if p.ct && !p.whole then p.len else p.bytes.length) + 4 then
        State.choose (s.dropPkt p 9) kind e now preempt fuel
      else
        let s := if isLate then s.bump R.GRN_QD_LATE.late_sent q 1 else s
        let p := { p with departing := true, late := p.late || isLate }
        (some p, (s.setPkt p).showHead q)

/-- The departure of a packet ends: its cells are freed and the departure counts (R225). -/
def State.endDeparture (s : State) (id : Nat) : State :=
  match s.pkt id with
  | none => s
  | some p => (s.freePkt p).countQ p.queue 0 1

/-! Flow table (R125). -/

/-- The two buckets of a key. -/
def flowBuckets (k : Nat) : Nat × Nat :=
  let c := crc32key k
  let h1 := c % 2 ^ 13
  let h2 := c / 2 ^ 13 % 2 ^ 13
  (h1, if h2 = h1 then h1 ^^^ 1 else h2)

/-- The entry of a bucket that holds a key and reads well. -/
def State.flowIn (s : State) (b k : Nat) : Option Nat :=
  (upTo (fun i => 8 * b + i) 8).find? (fun e =>
    !s.flowBad.contains e && (match Tab.get none s.flows e with | some (k', _) => k' == k | none => false))

/-- The entry that holds a key. -/
def State.flowEntry (s : State) (k : Nat) : Option Nat :=
  let (a, b) := flowBuckets k
  match s.flowIn a k with
  | some e => some e
  | none => s.flowIn b k

/-- A lookup: the flow of a key. -/
def State.flowLookup (s : State) (k : Nat) : Option Nat :=
  match s.flowEntry k with
  | some e => (Tab.get none s.flows e).map (·.2)
  | none => none

end Sys2Proof.Machine
end

