-- ==== Sys2Proof/Machine/NetOps.lean ====
section
/-! DEFINITION. VTF channels, calendars, slot sets and tributary ends (R69, R141 to R147, R163 to R171), and the status words
of the Almanac programs. -/
namespace Sys2Proof.Machine

/-! VTF rates. -/

/-- A line rate in kb/s, rounded to the nearest. -/
def kbps (rate : Nat) : Nat := (rate / 2 ^ 16 + 500) / 1000

/-- rate_code of a line rate, width and modulation (Table 4.1): a rate is one of the table when it rounds to the table's
figure in kb/s. Assumption log entry 11, DEDUCED, unsafe. -/
def rateCodeOf (rate width : Nat) (pam4 : Bool) : Option Nat :=
  let k := kbps rate
  if k = 10560000 ∧ width = 1 ∧ !pam4 then some 0
  else if k = 27119066 ∧ width = 1 ∧ !pam4 then some 1
  else if k = 55881712 ∧ width = 1 ∧ pam4 then some 2
  else if k = 111763424 ∧ width = 1 ∧ pam4 then some 3
  else if k = 111763424 ∧ width = 4 ∧ pam4 then some 4
  else none

/-- rate_code of the channel whose lowest lane is `c`. -/
def State.rateCode (s : State) (c : Nat) : Option Nat :=
  rateCodeOf (s.lane c).rate (s.lane c).width (s.on R.LANE_SPEED.pam4 c)

/-- Slots of a rate code over the whole channel. -/
def slotsOf (rc : Nat) : Nat := if rc = 4 then 792 else rateS rc

/-- S of a channel: 0 when its rate is not one of Table 4.1. -/
def State.slots (s : State) (c : Nat) : Nat := match s.rateCode c with | some rc => slotsOf rc | none => 0

/-! Calendars. -/

/-- The index of a calendar entry: direction 0 TX and 1 RX (R163). -/
def calIndex (c dir copy col : Nat) : Nat := ((2 * c + dir) * 2 + copy) * 1024 + col

/-- A calendar entry. -/
def State.cal (s : State) (c dir copy col : Nat) : Nat := (Tab.get 0 s.cals (calIndex c dir copy col)).toNat

/-- A calendar entry replaced. -/
def State.setCal (s : State) (c dir copy col : Nat) (v : W32) : State :=
  { s with cals := Tab.put 0 s.cals (calIndex c dir copy col) v }

/-- The copy in force (R164). -/
def State.calSel (s : State) (c dir : Nat) : Nat := if dir = 0 then (s.chanX c).txSel else (s.chanX c).rxSel

/-- The entry names tributary `t`. -/
def calNames (e t : Nat) : Bool := e / 2 ^ 31 == 1 && e % 2 ^ 16 == t

/-- The columns of tributary `t` in a copy, in ascending order (R142, R145). -/
def State.columns (s : State) (c dir copy t : Nat) : List Nat :=
  (upTo id (s.slots c)).filter (fun col => calNames (s.cal c dir copy col) t)

/-- The slot set of tributary `t` on channel `c` (R142). -/
def State.slotSet (s : State) (c dir t : Nat) : List Nat := s.columns c dir (s.calSel c dir) t

/-- Some entry of any copy of either calendar of the channel is used (R170). -/
def State.calUsed (s : State) (c : Nat) : Bool :=
  s.cals.any (fun e => decide (4096 * c ≤ e.1 ∧ e.1 < 4096 * (c + 1)) && decide (2 ^ 31 ≤ e.2.toNat))

/-- The tributaries of a copy with their kind, each once, in ascending column order. -/
def State.tribsIn (s : State) (c dir copy : Nat) : List (Nat × Nat) :=
  (upTo id (s.slots c)).foldl (fun l col =>
    let e := s.cal c dir copy col
    let x := (e % 2 ^ 16, bitField e 30 1)
    if e / 2 ^ 31 = 1 ∧ ¬ l.contains x then l ++ [x] else l) []

/-- The client channel that is an end of tributary `t`: its CBR mapping program names it (Table 6.13). -/
def State.clientEnd (s : State) (t : Nat) : Option Nat :=
  (upTo id 96).find? (fun c => s.runs c 1 5 && s.pw c 1 9 == 1 && s.pw c 1 8 == t)

/-- The VTF channels with a slot set of `t` in force in either direction, ascending. -/
def State.vtfEnds (s : State) (t : Nat) : List Nat :=
  (upTo id 96).filter (fun c => !(s.slotSet c 0 t).isEmpty || !(s.slotSet c 1 t).isEmpty)

/-- The ends of CBR tributary `t`, by channel (Table 6.1). -/
def State.cbrEnds (s : State) (t : Nat) : List Nat :=
  (match s.clientEnd t with | some c => [c] | none => []) ++ s.vtfEnds t

/-- The channels that the end of `t` on channel `c` exchanges words with. -/
def State.otherEnds (s : State) (t c : Nat) : List Nat := (s.cbrEnds t).filter (· != c)

/-- The row and column of position `p` in a slot set (R145). -/
def posOf (cols : List Nat) (p : Nat) : Nat × Nat := (p / max 1 cols.length, cols.getD (p % max 1 cols.length) 0)

/-- Positions 1 to P − 1 that carry a valid word for a count (R152). -/
def validPos (p cnt j : Nat) : Bool := decide ((j - 1) * cnt / (p - 1) < j * cnt / (p - 1))

/-- A payload word put into the next frame of a VTF channel at a row and column (R71, R100). -/
def State.putPayload (s : State) (c row col v : Nat) : State :=
  let n := c + col / 198
  let x := s.vtf n
  s.setVtf n { x with txPayload := Tab.put 0 x.txPayload (256 * row + col % 198) v }

/-! Calendar-switch arithmetic. -/

/-- The frame is a calibration frame of the sender (R109). -/
def calibrationFrame (m : Mode) (g : Nat) : Bool :=
  decide (m = .sundial ∧ g % 400 = 399 ∧ g / 400 % 2 = 1)

/-- cal_cnt sent in the frame with absolute number `g` (R89, R169). -/
def State.calCnt (s : State) (c : Nat) : Nat :=
  match (s.chanX c).switchAt with
  | some g =>
    let left := g / 400 - s.frame / 400
    if 1 ≤ left ∧ left ≤ (s.chanX c).switchAnn then left else 0
  | none => 0

/-! Status words of the VTF program (Tables 4.15 and 6.12). -/

/-- Status words of the VTF program that show its calendars brought up to date. -/
def State.syncCal (s : State) (c : Nat) : State :=
  if !s.carriesVtf c then s
  else
    let x := s.chanX c
    (((((s.setPw c 0 26 x.txSel).setPw c 0 27 x.rxSel).setPw c 0 28 (s.calCnt c)).setPw c 0 29 x.genA).setPw c 0 30 x.genB)

/-- A 32-bit wrapping status count raised. -/
def State.bumpPw (s : State) (c slot w : Nat) : State := s.setPw c slot w (s.pw c slot w + 1)

/-! Payload delivery (R97). -/

/-- Lane `n` delivers payload: MF_SYNC, and on a bonded lane a formed bond. -/
def State.delivers (s : State) (n : Nat) : Bool :=
  (s.vtf n).mfSync && ((s.lane n).width != 4 || s.rd R.QUAD_BOND.bond (n / 4) == 4)

/-- Channel `c` delivers payload. -/
def State.chanDelivers (s : State) (c : Nat) : Bool := (s.chanLanes c).all (fun n => s.delivers n)

end Sys2Proof.Machine
end

