-- ==== Sys2Proof/Machine/BellOps.lean ====
section
/-! DEFINITION. Shared operations of the Bell Tower: quality levels, the standing of the DPLLs, the views that registers
show, and the timing fields that lanes send (R279 to R281, R303). -/
namespace Sys2Proof.Machine

/-! DPLL states: 0 FREERUN, 1 ACQUIRE, 2 LOCKED, 3 HOLDOVER, 4 SLAVE. -/

def State.dpllState (s : State) (d : Nat) : Nat := s.rd R.BELL_DPLL_STAT_d.state d
def State.dpllMode (s : State) (d : Nat) : Nat := s.rd R.BELL_DPLL_CFG_d.mode d
def State.dpllFenced (s : State) (d : Nat) : Bool := s.on R.BELL_DPLL_STAT_d.fence_cause d
/-- The selected candidate of DPLL `d`; 31 when there is none. -/
def State.selRef (s : State) (d : Nat) : Nat := s.rd R.BELL_DPLL_STAT_d.sel_ref d

/-- A latch of BELL_EVENT set and reported with the unit's status register (class 6, Table 13.7). -/
def State.bellEvent (s : State) (f : Fld) (unit detail : Nat) : State := (s.latch f 0).report 6 f.lo unit detail

/-- Table 11.2: the rank of a code; any code not listed is taken as DNU. -/
def qlRank : Nat → Nat
  | 0x2 => 1 | 0x4 => 2 | 0x8 => 3 | 0xB => 4 | 0x0 => 6 | _ => 5

/-- The lane behind candidate `n`, for the RCV and VTF candidates (Table 11.1). -/
def State.refLane (s : State) (n : Nat) : Nat :=
  if n = 17 then s.rd R.BELL_TIMESRC.vtf_lane 0 else s.rd R.BELL_RCV_SEL_k.lane (n - 8)

/-- The in-band QL of a lane: ESMC on an Ethernet lane, the latest valid TC3 on a VTF lane, else QL-FAILED (R280). -/
def State.laneQl (s : State) (n : Nat) : Nat :=
  let c := s.chan n
  if s.runs c 0 2 then s.pw c 0 27 else if s.carriesVtf c then Tab.get 0 s.bell.laneQl n else 0

/-- A code as Table 11.2 takes it: one that it does not list is DNU. -/
def qlCode (q : Nat) : Nat := if q ≠ 0xF ∧ qlRank q = 5 then 0xF else q

/-- The effective QL of candidate `n` (R280). -/
def State.effQl (s : State) (n : Nat) : Nat :=
  if s.rd R.BELL_REF_CFG_n.en n = 0 ∨ s.rd R.BELL_REF_STAT_n.state n = 1 then 0
  else qlCode (if s.rd R.BELL_REF_CFG_n.ql_src n = 0 then s.rd R.BELL_REF_CFG_n.ql n
    else if n = 16 then s.bell.twinQl
    else s.laneQl (s.refLane n))

/-- The output QL of DPLL0 (R280). From a failure of the selected candidate until the decision that follows it, the QL stays as it
was (Table 11.5): QL-FAILED is never sent (R279). -/
def State.outQl (s : State) : Nat :=
  let st := s.dpllState 0
  if st = 4 then s.bell.twinQl
  else if (st = 2 ∨ s.on R.BELL_DPLL_STAT_d.switching 0) ∧ s.selRef 0 < 18 then
    (if s.effQl (s.selRef 0) = 0 then s.rd R.BELL_STATUS.ql_out 0 else s.effQl (s.selRef 0))
  else s.rd R.BELL_CTRL.ql_hold 0

/-- TSTAT (R303). -/
def State.tstat (s : State) : Nat :=
  if s.dpllFenced 0 || s.dpllFenced 1 then 7
  else if s.role = 2 ∨ s.role = 3 then 6
  else
    let d := if s.dpllMode 1 ≠ 5 ∧ s.dpllMode 1 ≠ 4 then 1 else 0
    if s.dpllState d = 3 then (if s.on R.BELL_DPLL_STAT_d.hold_spec d then 4 else 5)
    else if s.dpllState 1 = 2 ∧ s.dpllMode 1 ≠ 5 then 3
    else if s.dpllState 0 = 2 then 2
    else if s.dpllState d = 1 then 1
    else 0

/-- Which DPLLs have selected candidate `n`. -/
def State.selBy (s : State) (n : Nat) : Nat := sumUpTo (fun d => if s.selRef d = n then 2 ^ d else 0) 3

/-- The views that follow a change of a candidate, a DPLL or a QL: ql_eff and sel_by, ql_out, tstat. A change of the QL
that ESMC sends owes an event PDU on each channel that sends ESMC (R133). -/
def State.bellShow (s : State) : State :=
  let s := iter (fun n s => (s.wr R.BELL_REF_STAT_n.ql_eff n (s.effQl n)).wr R.BELL_REF_STAT_n.sel_by n (s.selBy n)) 0 18 s
  (s.wr R.BELL_STATUS.ql_out 0 s.outQl).wr R.BELL_STATUS.tstat 0 s.tstat

/-! Candidates (R277, R278, R284). -/

/-- State of candidate `n` (BELL_REF_STAT_n). -/
def State.refState (s : State) (n : Nat) : Nat := s.rd R.BELL_REF_STAT_n.state n

/-- A candidate is time-capable for DPLL1: a REFIN paired with a pulse input, and VTF (Table 11.1). -/
def State.timeCapable (s : State) (n : Nat) : Bool :=
  n == 17 || (decide (n < 8) && (s.rd R.BELL_TIMESRC.pps0_ref 0 == n || s.rd R.BELL_TIMESRC.pps1_ref 0 == n))

/-- The time ability of a candidate fails (R284, R293, R294). -/
def State.failTime (s : State) (n : Nat) : State :=
  let x := s.refx n
  if x.timeState = 0 then s
  else
    let s := ((s.setRefx n { x with timeState := 1, timeBad := 0 }).wr R.BELL_REF_STAT_n.time_ok n 0).wr R.BELL_REF_STAT_n.cause n 4
    let s := if x.timeState = 1 then s
      else s.bellEvent R.BELL_EVENT.ref_fail n (s.reg (0x10104 + 16 * n)).toNat
    s.bellShow

/-- Candidate `n` fails with cause 1 ACTIVITY, 2 HARD or 3 CONSENSUS; its time ability fails with it (R278, R284). -/
def State.failRef (s : State) (n cause : Nat) : State :=
  if s.rd R.BELL_REF_CFG_n.en n = 0 ∨ s.refState n = 0 then s
  else
    let was := s.refState n
    let x := s.refx n
    let s := s.setRefx n { x with hardRun := 0, consRun := 0, timeBad := 0, timeState := if x.timeState = 0 then 0 else 1 }
    let s := ((s.wr R.BELL_REF_STAT_n.state n 1).wr R.BELL_REF_STAT_n.cause n cause).wr R.BELL_REF_STAT_n.wtr_left n 0
    let s := s.wr R.BELL_REF_STAT_n.time_ok n 0
    let s := if was = 1 then s else s.bellEvent R.BELL_EVENT.ref_fail n (s.reg (0x10104 + 16 * n)).toNat
    s.bellShow

/-- A write of en (R284): a candidate enabled begins FAILED with cause ACTIVITY; one disabled takes no part. -/
def State.refEnable (s : State) (n : Nat) (en : Bool) : State :=
  let was := s.on R.BELL_REF_CFG_n.en n
  let s := s.wr R.BELL_REF_CFG_n.en n (bit en)
  if en && !was then
    let s := s.setRefx n { RefX.init with first := true, timeFirst := true, timeState := 1 }
    ((s.wr R.BELL_REF_STAT_n.state n 1).wr R.BELL_REF_STAT_n.cause n 1).bellShow
  else if !en && was then
    let s := (s.setRefx n RefX.init).wr R.BELL_REF_STAT_n.state n 0
    (((s.wr R.BELL_REF_STAT_n.wtr_left n 0).wr R.BELL_REF_STAT_n.soft_alarm n 0).wr R.BELL_REF_STAT_n.time_ok n 0).bellShow
  else s

/-! DPLLs (R285 to R292). -/

/-- A DPLL enters HOLDOVER and selects nothing; `long` says that it was LOCKED for at least 61 s before (R290). -/
def State.holdover (s : State) (d : Nat) (long : Bool) : State :=
  let was := s.dpllState d
  let s := (s.wr R.BELL_DPLL_STAT_d.sel_ref d 31).wr R.BELL_DPLL_STAT_d.switching d 0
  if was = 3 then s
  else
    let had := s.on R.BELL_DPLL_STAT_d.hold_spec d
    let s := ((s.wr R.BELL_DPLL_STAT_d.state d 3).wr R.BELL_DPLL_STAT_d.hold_spec d (bit long)).wr R.BELL_DPLL_STAT_d.hold_min d 0
    let s := { s with bell := { s.bell with holdSec := listSet s.bell.holdSec d 0 } }
    let s := s.bellEvent R.BELL_EVENT.hold_on d (s.reg (0x10304 + 16 * d)).toNat
    if had && !long then s.bellEvent R.BELL_EVENT.hold_spec_lost d (s.reg (0x10304 + 16 * d)).toNat else s

/-- A DPLL enters FREERUN and selects nothing. -/
def State.freerun (s : State) (d : Nat) : State :=
  ((s.wr R.BELL_DPLL_STAT_d.state d 0).wr R.BELL_DPLL_STAT_d.sel_ref d 31).wr R.BELL_DPLL_STAT_d.switching d 0

/-- A mode of 3 or 4 forces HOLDOVER or FREERUN at once (R288), on a DPLL that is not fenced and whose mode is not ignored (R291). -/
def State.dpllForce (s : State) (d : Nat) (long : Bool) : State :=
  if d = 3 ∨ s.dpllFenced d = true ∨ (2 ≤ s.role ∧ d < 2) then s
  else match s.dpllMode d with
    | 3 => s.holdover d long
    | 4 => s.freerun d
    | _ => s

/-- A DPLL fenced with 1 OCXO, 2 PARITY or 3 HOST (R292): it holds its output at the last frequency of its history, as in HOLDOVER,
and selects nothing. -/
def State.fenceDpll (s : State) (d cause : Nat) (long : Bool) : State :=
  let s := if s.dpllFenced d then s else (s.wr R.BELL_DPLL_STAT_d.fence_cause d cause).holdover d long
  let s := s.wr R.BELL_DPLL_STAT_d.reset_done d 0
  (((s.reportFence 7 d cause true).internalFault true).wr R.PAIR_STATUS.dpll3_locked 0 (bit (s.dpllState 3 == 2))).bellShow

/-! Timing fields (Table 11.3). -/

/-- The REFIN that feeds DPLL1's time is paired with a pulse input and declared traceable. -/
def State.srcTrace (s : State) (n : Nat) : Bool :=
  if n = 17 then s.bell.rxTrace else decide (n < 8) && s.on R.BELL_REF_CFG_n.time_trace n

/-- The timing fields that every VTF lane sends: ql, hops, holdover, time_trace, freq_trace. While DPLL1 is in ACQUIRE or
SLAVE Table 11.3 gives hops no value: it is free. -/
def State.timeFields (s : State) : (Nat × Nat × Bool × Bool × Bool) × State :=
  let st := s.dpllState 1
  let host := s.dpllMode 1 == 5
  let sel := s.selRef 1
  let locked := st == 2 || s.on R.BELL_DPLL_STAT_d.switching 1
  let ql := s.outQl
  let trace :=
    if host then s.on R.BELL_CTRL.host_trace 0
    else if locked then s.srcTrace sel
    else st == 3 && s.on R.BELL_DPLL_STAT_d.hold_spec 1 && s.srcTrace s.bell.src1
  let hold := st == 3 || st == 0
  let (f, s') := s.fresh 8
  let hops :=
    if host then 0
    else if locked then (if sel = 17 then min 255 (s.bell.rxHops + 1) else 0)
    else if st = 3 then s.bell.hops
    else if st = 0 then 255
    else f
  let s' := if locked && !host then { s' with bell := { s'.bell with hops := hops, src1 := sel } } else s'
  ((ql, hops, hold, trace, decide (qlRank ql ≤ 4)), s')

end Sys2Proof.Machine
end

