-- ==== Sys2Proof/Machine/InjOps.lean ====
section
/-! DEFINITION. Sheaf packets on their way into a queue, and fault injection where the part itself carries the affected units
(R159 to R162, R192 to R195). -/
namespace Sys2Proof.Machine

/-- The instant that a carried deadline names: the multiple of 10 ns among the instants of R162. -/
def carriedInstant (deadline now : Nat) : Nat :=
  let u := 2 ^ 20
  let base := (now / 10) / u * u + deadline
  let t := 10 * base
  if now + 5242880 < t then t - 10 * u
  else if t + 5242880 ≤ now then t + 10 * u
  else t

/-- A complete sheaf packet: written to its flow's queue, or discarded and counted in sh_noq (R161). -/
def State.sheafWrite (s : State) (c now : Nat) (k : Sheaf) (err : Bool) : State :=
  if !s.on R.GRN_QD_CTRL.valid k.flow then s.bumpPw c 1 11
  else s.receivePkt k.flow c now (some (carriedInstant k.deadline now)) (k.bytes.take k.len) err k.late

/-! Injectors. TALLY_INJ_STAT_j state: 0 idle, 1 armed, 2 running, 3 stopped. -/

/-- The injector is armed or running. -/
def State.injBusy (s : State) (j : Nat) : Bool :=
  s.rd R.TALLY_INJ_STAT_j.state j == 1 || s.rd R.TALLY_INJ_STAT_j.state j == 2

/-- The first running injector on tributary `t` in a direction with an action that has units left to affect. -/
def State.injOn (s : State) (t dir action : Nat) : Option Nat :=
  (upTo id 16).find? (fun j => s.rd R.TALLY_INJ_STAT_j.state j == 2 && s.rd R.TALLY_INJ_CFG_j.kind j == 2
    && s.rd R.TALLY_INJ_CFG_j.target j == t && s.rd R.TALLY_INJ_CFG_j.dir j == dir
    && s.rd R.TALLY_INJ_CFG_j.action j == action && decide (0 < (s.inj j).left))

/-- An injector whose limit is reached stops once its last event has affected its units (R195). -/
def State.injSpent (s : State) (j : Nat) : State :=
  let lim := s.rd R.TALLY_INJ_LIMIT_j.limit j
  if lim ≠ 0 ∧ lim ≤ (s.inj j).events ∧ (s.inj j).left = 0 ∧ s.rd R.TALLY_INJ_STAT_j.state j = 2 then
    (s.wr R.TALLY_INJ_STAT_j.state j 3).wr R.TALLY_INJ_STAT_j.stop_cause j 2
  else s

/-- One unit affected: one less is left of the event. -/
def State.injUsed (s : State) (j : Nat) : State := (s.setInj j { s.inj j with left := (s.inj j).left - 1 }).injSpent j

/-- Words of a CBR frame with the first `len` inverted by a running corrupt injector (Table 7.10, action 6). -/
def State.injectWords (s : State) (t dir : Nat) (ws : List Nat) : List Nat × State :=
  match s.injOn t dir 6 with
  | some j =>
    let k := s.rd R.TALLY_INJ_PAT_j.len j
    ((ws.take k).map (fun w => (2 ^ 64 - 1) ^^^ w) ++ ws.drop k, s.injUsed j)
  | none => (ws, s)

/-- Payload bytes with `len` of them from `first` on inverted by a running corrupt injector. -/
def State.injectBytes (s : State) (t dir : Nat) (bs : List Nat) : List Nat × State :=
  match s.injOn t dir 6 with
  | some j =>
    let f := s.rd R.TALLY_INJ_PAT_j.first j
    let k := s.rd R.TALLY_INJ_PAT_j.len j
    (bs.take f ++ ((bs.drop f).take k).map (fun b => 255 ^^^ b) ++ bs.drop (f + k), s.injUsed j)
  | none => (bs, s)

/-- The release order of a full reorder window: reversed, or with the first moved to last (Table 7.10, action 5). -/
def reordered {α : Type} (first : Nat) (l : List α) : List α :=
  if first = 0 then l.reverse else l.drop 1 ++ l.take 1

/-- Held blocks sent toward their channels, and held packets written to their queues. -/
def State.releaseHeld (s : State) (t : Nat) (tx : List (Nat × List (Nat × Bool))) (rx : List (Nat × Nat × Sheaf × Bool)) :
    State :=
  let s := tx.foldl (fun s e => s.setTrib t e.1 { s.trib t e.1 with txBlocks := (s.trib t e.1).txBlocks ++ e.2 }) s
  rx.foldl (fun s e => s.sheafWrite e.1 e.2.1 e.2.2.1 e.2.2.2) s

/-- A reorder window released in arrival order (R193, R195). -/
def State.releaseWindow (s : State) (j : Nat) : State :=
  let x := s.inj j
  (s.setInj j { x with heldTx := [], heldRx := [], left := 0 }).releaseHeld (s.rd R.TALLY_INJ_CFG_j.target j) x.heldTx x.heldRx

/-- The injector stops with a cause, unless it is neither armed nor running; a reorder injector releases what it holds
(R195). -/
def State.stopInjector (s : State) (j cause : Nat) : State :=
  if s.injBusy j then
    ((s.wr R.TALLY_INJ_STAT_j.state j 3).wr R.TALLY_INJ_STAT_j.stop_cause j cause).releaseWindow j
  else s

/-- Every injector on a target of a kind stops with a cause (R195). -/
def State.stopInjectorsOn (s : State) (kind target cause : Nat) : State :=
  iter (fun j s =>
    if s.rd R.TALLY_INJ_CFG_j.kind j = kind ∧ s.rd R.TALLY_INJ_CFG_j.target j = target then s.stopInjector j cause else s)
    0 16 s

/-- Held blocks of a window on TX: one packet more, released in the injector's order when the window is full. -/
def State.reorderTx (s : State) (c j : Nat) (b : List (Nat × Bool)) : Option (List (Nat × Bool)) × State :=
  let x := s.inj j
  let held := x.heldTx ++ [(c, b)]
  let s := s.setInj j { x with heldTx := held, left := x.left - 1 }
  if x.left ≤ 1 then
    (some ((reordered (s.rd R.TALLY_INJ_PAT_j.first j) held).map (·.2)).flatten, (s.setInj j { s.inj j with heldTx := [] }).injSpent j)
  else (none, s)

/-- A whole packet received on trunk `t` (R161), as running injectors leave it: discarded, held, corrupted or written. -/
def State.sheafDone (s : State) (t c now : Nat) (k : Sheaf) (err : Bool) : State :=
  let s := s.countT t 1 1
  let s := if err then s.bumpPw c 1 12 else s
  match s.injOn t 1 4 with
  | some j => s.injUsed j
  | none =>
    let (bs, s) := s.injectBytes t 1 k.bytes
    let k := { k with bytes := bs }
    match s.injOn t 1 5 with
    | some j =>
      let x := s.inj j
      let held := x.heldRx ++ [(c, now, k, err)]
      let s := s.setInj j { x with heldRx := if x.left ≤ 1 then [] else held, left := x.left - 1 }
      if x.left ≤ 1 then (s.injSpent j).releaseHeld t [] (reordered (s.rd R.TALLY_INJ_PAT_j.first j) held) else s
    | none => s.sheafWrite c now k err

end Sys2Proof.Machine
end

