-- ==== Sys2Proof/Machine/ProtOps.lean ====
section
/-! DEFINITION. Path protection's shared operations: the paths of a group, its requests, its selector and its APS words
(R307 to R316). -/
namespace Sys2Proof.Machine

/-- The group exists. -/
def State.groupValid (s : State) (g : Nat) : Bool := s.on R.PAIR_PROT_g.valid g

/-- The groups that exist, ascending. -/
def State.groupsNow (s : State) : List Nat := s.validIn 0x24000 4096 4

/-- The group that names tributary `t`. -/
def State.groupOf (s : State) (t : Nat) : Option Nat :=
  s.groupsNow.find? (fun g => s.rd R.PAIR_PROT_g.trib_id g == t)

/-- The channels of a group's paths, W first (R307). -/
def State.groupPaths (s : State) (g : Nat) : List Nat :=
  (s.vtfEnds (s.rd R.PAIR_PROT_g.trib_id g)).filter (· != s.rd R.PAIR_PROT_CFG_g.p_channel g)

/-- RX slot-set ends of a tributary in the order of TALLY_DEF_TRIB_t. -/
def State.rxEnds (s : State) (t : Nat) : List Nat := (upTo id 96).filter (fun c => !(s.slotSet c 1 t).isEmpty)

/-- The six defect bits of the end of `t` on channel `c`: dTRL, dPLM, dCSF, ch_sf, sf, sd (TALLY_DEF_TRIB_t). -/
def State.endBits (s : State) (t c : Nat) : Nat :=
  match s.rxEnds t with
  | [] => 0
  | e0 :: _ => if e0 = c then s.rd R.TALLY_DEF_TRIB_t.end0 t else s.rd R.TALLY_DEF_TRIB_t.end1 t

/-- sf, sd and dCSF of a tributary end. -/
def State.endSf (s : State) (t c : Nat) : Bool := bitField (s.endBits t c) 4 1 == 1
def State.endSd (s : State) (t c : Nat) : Bool := bitField (s.endBits t c) 5 1 == 1
def State.endCsf (s : State) (t c : Nat) : Bool := bitField (s.endBits t c) 2 1 == 1

/-- Table 12.1: the path that a request selects, 0 W and 1 X. -/
def reqPath : Nat → Nat
  | 0x8 => 1 | 0x7 => 1 | 0x4 => 1 | 0x2 => 1 | 0x1 => 1 | _ => 0

/-- The local request of a group: the highest of those present (R311). -/
def Group.local (x : Group) : Nat :=
  if x.lo then 0xA
  else if x.sfX || x.lateX then 0x9
  else if x.fs then 0x8
  else if x.sfW || x.lateW then 0x7
  else if x.sdX then 0x6
  else if x.sdW then 0x5
  else if x.msX then 0x4
  else if x.msW then 0x3
  else if x.wtr then 0x2
  else if x.dnr then 0x1
  else 0

/-- The far end's request as it counts: NR on a group that is not bidirectional or is mismatched (R312). -/
def State.farReq (s : State) (g : Nat) : Nat :=
  if s.on R.PAIR_PROT_CFG_g.bidir g && !s.on R.PAIR_PROT_g.mismatch g then (s.group g).farReq else 0

/-- A ruling request is one of SF_X, SF_W, SD_X, SD_W. -/
def isFail (r : Nat) : Bool := r == 9 || r == 7 || r == 6 || r == 5

/-- A group's word has changed: both paths send it in the next three frames (R313). -/
def State.apsChanged (s : State) (g : Nat) : State :=
  let s := s.setGroup g { s.group g with seq := ((s.group g).seq + 1) % 256 }
  (s.groupPaths g).foldl (fun s c =>
    let x := s.chanX c
    s.setChanX c { x with apsNew := x.apsNew.filter (fun e => e.1 != g) ++ [(g, 3)] }) s

/-- The group's requests judged anew: manual switches fall to a failure, a fall from SF_W or SD_W on X leaves WTR or DNR, a
higher request cancels both; the selector follows the ruling request, and a change of path is reported (R311, R312,
R316). -/
def State.judgeGroup (s : State) (g : Nat) : State :=
  if !s.groupValid g then s
  else
    let old := s.rd R.PAIR_PROT_g.ruling g
    let oldSel := s.rd R.PAIR_PROT_g.sel g
    let oldReq := s.rd R.PAIR_PROT_g.local_req g
    let x := s.group g
    let first := max { x with wtr := false, dnr := false }.local (s.farReq g)
    let x := if isFail first then { x with msW := false, msX := false } else x
    let top := max { x with wtr := false, dnr := false }.local (s.farReq g)
    let x :=
      if 3 ≤ top then { x with wtr := false, dnr := false }
      else if (old = 7 ∨ old = 5) ∧ oldSel = 1 then
        if s.on R.PAIR_PROT_CFG_g.revert g then { x with wtr := s.on R.PAIR_PROT_CFG_g.wtr g, dnr := false }
        else { x with dnr := true, wtr := false }
      else x
    let s := s.setGroup g x
    let ruling := max x.local (s.farReq g)
    let sel := reqPath ruling
    let s := ((s.wr R.PAIR_PROT_g.local_req g x.local).wr R.PAIR_PROT_g.ruling g ruling).wr R.PAIR_PROT_g.sel g sel
    let s := if oldReq ≠ x.local ∨ oldSel ≠ sel then s.apsChanged g else s
    if oldSel ≠ sel then (s.latch R.PAIR_EVENT.prot_switch 0).report 7 0 g (s.reg (0x24000 + 4 * g)).toNat else s

/-- A mismatch of R312 found or gone, with its latch. -/
def State.setMismatch (s : State) (g : Nat) (m : Bool) : State :=
  let was := s.on R.PAIR_PROT_g.mismatch g
  let s := s.wr R.PAIR_PROT_g.mismatch g (bit m)
  (if m && !was then s.pairEvent R.PAIR_EVENT.aps_mismatch else s).judgeGroup g

/-- The APS word of a group as channel `c` sends it (Table 12.2). -/
def State.apsWord (s : State) (g c : Nat) : Nat :=
  let onX := match s.groupPaths g with | _ :: x :: _ => x == c | _ => false
  withCrc8 (s.rd R.PAIR_PROT_g.trib_id g * 2 ^ 40 + s.rd R.PAIR_PROT_g.local_req g * 2 ^ 36 + bit onX * 2 ^ 35
    + s.rd R.PAIR_PROT_g.sel g * 2 ^ 34 + s.rd R.PAIR_PROT_CFG_g.bidir g * 2 ^ 33 + s.rd R.PAIR_PROT_CFG_g.revert g * 2 ^ 32
    + (s.group g).seq * 2 ^ 24)

/-- The APS word that channel `c` sends in a frame: a changed group for three frames, oldest change first, else the groups
in rotation by ascending index, else 0 (R313). -/
def State.apsSend (s : State) (c : Nat) : Nat × State :=
  let x := s.chanX c
  match x.apsNew with
  | (g, k) :: t =>
    let x := if k ≤ 1 then { x with apsNew := t } else { x with apsNew := (g, k - 1) :: t }
    (s.apsWord g c, s.setChanX c x)
  | [] =>
    let gs := s.groupsNow.filter (fun g => (s.groupPaths g).contains c)
    match gs.find? (fun g => decide (x.apsLast < g)), gs with
    | some g, _ => (s.apsWord g c, s.setChanX c { x with apsLast := g })
    | none, g :: _ => (s.apsWord g c, s.setChanX c { x with apsLast := g })
    | none, [] => (0, s)

end Sys2Proof.Machine
end

