-- ==== Sys2Proof/Machine/MapOps.lean ====
section
/-! DEFINITION. The mapping units' shared operations (chapter 6): tributary headers, mappers and demappers, recentres, and the
sheaf on the transmit side. -/
namespace Sys2Proof.Machine

/-! Tributary headers (R146). -/

/-- A CBR tributary header. -/
def thCbr (t cnt phase : Nat) (csf : Bool) (age : Int) : Nat :=
  withCrc8 (t % 2 ^ 16 * 2 ^ 40 + bit csf * 2 ^ 38 + cnt % 2 ^ 14 * 2 ^ 24 + phase % 256 * 2 ^ 16 + patternOf 16 age)

/-- A trunk's tributary header with the position of the first sheaf header that begins in the frame. -/
def thTrunk (t ptr : Nat) : Nat := withCrc8 (t % 2 ^ 16 * 2 ^ 40 + 2 ^ 39 + ptr % 2 ^ 14)

/-- h of Table 6.4 in ns. -/
def State.hDelay (s : State) : Nat := if s.mode = .hearth then 960 else 480

/-- A source mapper predicts W* in ERRAND and SUNDIAL (Table 6.4). -/
def State.predicts (s : State) : Bool := decide (s.mode = .errand ∨ s.mode = .sundial)

/-- d of Table 6.4 in ns from the link delay. -/
def State.transitDelay (s : State) (link : Nat) : Nat :=
  let x := link + s.hDelay
  if s.predicts then (x + 19) / 20 * 20 else (x + 2499) / 2500 * 2500

/-- ŵ as a fraction: the increase of W* over the good THs kept, in 1/256 word, and the frames between them (R154). -/
def EndX.wHat (x : EndX) : Nat × Nat :=
  match x.hist.head?, x.hist.getLast? with
  | some (g1, w1), some (g0, w0) => (w1 - w0, g1 - g0)
  | _, _ => (0, 0)

/-- W* of the received timeline at frame `f` less `d` ns (R155), when enough of it is known. -/
def EndX.transitW (x : EndX) (f d : Nat) : Option Nat :=
  let (dw, df) := x.wHat
  if df = 0 then none
  else match x.hist.find? (fun e => decide (e.1 * 2500 + d ≤ f * 2500)) with
    | some (g, w) => some (w + (f * 2500 - d - g * 2500) * dw / (df * 2500))
    | none => none

/-- A recentre of the demapper of `t` on channel `c` (R156): it starts again, its output sends replacement content for 8
frames, and a transit mapper that it feeds recentres with it (R150). -/
def State.recentre (s : State) (t c : Nat) : State :=
  let x := s.trib t c
  let s := s.setTrib t c { x with hist := [], recvd := 0, goodRun := 0, buf := [], recentring := 8, natural := 0, nextWord := 0 }
  if (s.clientEnd t).isSome then s
  else (s.otherEnds t c).foldl (fun s e => s.setTrib t e { s.trib t e with recentreAt := none, words := [] }) s

/-- The mapper of `t` toward channel `c` starts: it recentres at its next frame (R150, R171). -/
def State.startMapper (s : State) (t c : Nat) : State :=
  s.setTrib t c { s.trib t c with recentreAt := none, words := [], txBlocks := [], csfAt := none }

/-- A replacement word (R184): its line bits continue a coding that the spec leaves to the client stream; the model leaves
them free. Assumption log entry 14, DESIGN CHOICE, safe. -/
def State.replacement (s : State) : Nat × State := s.fresh 64

/-- `n` replacement words. -/
def State.replacements (s : State) : Nat → List Nat × State
  | 0 => ([], s)
  | n + 1 => let (w, s) := s.replacement; let (ws, s) := State.replacements s n; (w :: ws, s)

/-- The words received on a client channel since they were last taken, 64 bits at a time in order (R148). -/
def State.clientWords (s : State) (c : Nat) : List Nat × State :=
  (s.chanLanes c).foldl (fun (acc : List Nat × State) n =>
    let (ws, s) := acc
    let x := s.lane n
    (ws ++ (x.beats.map (fun b => upTo (fun i => bitField b (64 * i) 64) 8)).flatten, s.setLane n { x with beats := [] }))
    ([], s)

/-- Words of `t` delivered to its end on a VTF channel: to the Almanac mapper that waits for them, or to the end's queue of 64 words
when the channel's program is the host's own (R172, R271). -/
def State.wordsTo (s : State) (t e : Nat) (ws : List Nat) : State :=
  if s.carriesVtf e then s.setTrib t e { s.trib t e with words := (s.trib t e).words ++ ws }
  else s.setXc t e { s.xcEnd t e with held := ((s.xcEnd t e).held ++ ws).take 64 }

/-- The client stream of `t` fed to the mappers of all its slot sets: each gets every word, the bridge of a protected
tributary included (R308). -/
def State.feedClient (s : State) (t cl : Nat) : State :=
  let (ws, s) := s.clientWords cl
  (s.vtfEnds t).foldl (fun s e => s.wordsTo t e ws) s

/-- TALLY_DEF_TRIB_t shows csf sent and presence. -/
def State.showTrib (s : State) (t : Nat) : State :=
  let es := s.cbrEnds t
  let s := s.wr R.TALLY_DEF_TRIB_t.csf_tx t (bit (es.any (fun c => (s.trib t c).csf)))
  s.wr R.TALLY_DEF_TRIB_t.present t (bit (!es.isEmpty || !(s.vtfEnds t).isEmpty))

/-! The sheaf, transmit side (R158 to R160, R217). -/

/-- The blocks of a packet that departs on a trunk: header, data, and a status block when it is sent cut-through. -/
def sheafBlocks (q cls : Nat) (p : Packet) (ct : Bool) : List (Nat × Bool) :=
  let len := if ct then p.len else p.bytes.length
  let bytes := if ct then (p.bytes.take len) ++ List.replicate (len - p.bytes.length) 0 else p.bytes
  let h := withCrc8 (q % 2 ^ 16 * 2 ^ 40 + len % 2 ^ 14 * 2 ^ 26 + p.sendBy / 10 % 2 ^ 20 * 2 ^ 6 + bit p.late * 2 ^ 5
    + bit (p.err && !ct) * 2 ^ 4 + bit ct * 2 ^ 3 + cls % 8)
  let st := withCrc8 (q % 2 ^ 16 * 2 ^ 40 + bit (p.err || (ct && p.bytes.length != len)))
  (h, true) :: (bytesToWords bytes).map (fun w => (w, false)) ++ (if ct then [(st, false)] else [])

/-- The next packet of trunk `t` turned into blocks (R158, R218), when there is one, as running injectors leave it (R193). -/
def State.nextSheaf (s : State) (t c now : Nat) : Nat → Option (List (Nat × Bool)) × State
  | 0 => (none, s)
  | fuel + 1 =>
    match s.choose 0 t now false (s.pkts.length + 1) with
    | (none, s) => (none, s)
    | (some p, s) =>
      let ct := decide (s.mode = .errand) && p.ct && s.pw c 1 8 == 1
      let cls := s.rd R.GRN_QD_CTRL.class_ p.queue
      let s := s.endDeparture p.id
      match s.injOn t 0 4 with
      | some j => State.nextSheaf (s.injUsed j) t c now fuel
      | none =>
        let (bs, s) := s.injectBytes t 0 p.bytes
        let blocks := sheafBlocks p.queue cls { p with bytes := bs } ct
        let s := s.countT t 0 1
        match s.injOn t 0 5 with
        | some j =>
          match s.reorderTx c j blocks with
          | (some b, s) => (some b, s)
          | (none, s) => State.nextSheaf s t c now fuel
        | none => (some blocks, s)

/-- The blocks of positions `p` to `P − 1` of a trunk's frame, with the position of the first header among them; filler
where no packet is ready. -/
def State.trunkBlocks (s : State) (t c now : Nat) (q : List (Nat × Bool)) (p : Nat) :
    Nat → (List Nat × Option Nat × Nat × List (Nat × Bool)) × State
  | 0 => (([], none, 0, q), s)
  | left + 1 =>
    let (q, s) := match q with
      | [] => match s.nextSheaf t c now (s.pkts.length + 1) with | (some b, s) => (b, s) | (none, s) => ([], s)
      | _ => (q, s)
    match q with
    | [] => (((List.replicate (left + 1) 0), none, left + 1, []), s)
    | (w, h) :: rest =>
      let ((ws, ptr, fill, q'), s) := State.trunkBlocks s t c now rest (p + 1) left
      ((w :: ws, if h then some p else ptr, fill, q'), s)

/-- A 64-bit status count raised. -/
def State.bumpPw64 (s : State) (c slot w k : Nat) : State :=
  let v := s.pw c slot w + 2 ^ 32 * s.pw c slot (w + 1) + k
  (s.setPw c slot w v).setPw c slot (w + 1) (v / 2 ^ 32)

/-- The positions of one trunk in the frame about to be sent (R158). -/
def State.fillTrunk (s : State) (c t : Nat) : State :=
  let cols := s.slotSet c 0 t
  let total := 20 * cols.length
  if total = 0 then s
  else
    let x := s.trib t c
    let ((ws, ptr, fill, q), s) := s.trunkBlocks t c (s.time / 2 ^ 16) x.txBlocks 1 (total - 1)
    let s := s.setTrib t c { s.trib t c with txBlocks := q }
    let words := thTrunk t (ptr.getD 0x3FFF) :: ws
    let s := (upTo id total).foldl (fun s p => let (r, col) := posOf cols p; s.putPayload c r col (words.getD p 0)) s
    s.bumpPw64 c 1 13 fill

/-- Every trunk of the TX calendar in force, on a channel that runs the packet trunk program. -/
def State.fillTrunks (s : State) (c : Nat) : State :=
  if !s.runs c 1 6 then s
  else (s.tribsIn c 0 (s.calSel c 0)).foldl (fun s e => if e.2 = 1 then s.fillTrunk c e.1 else s) s

end Sys2Proof.Machine
end

