-- ==== Sys2Proof/Machine/DefOps.lean ====
section
/-! DEFINITION. Defects and what follows from them (R175 to R186): raw conditions, masking, ch_sf and ch_sd, tributary ends, and
the conditions that protection groups see. -/
namespace Sys2Proof.Machine

/-! Fences of a channel. -/

/-- A thread of a Weaver is fenced, itself or with its Weaver (R250). -/
def State.threadFenced (s : State) (q t : Nat) : Bool :=
  s.on (R.WVR_THREAD_t.fence_cause q) t || s.on R.WVR_STATUS.fence_cause q

/-- The framing thread of a channel is fenced: the TX stream thread of a lane, its partner, or the service thread of the
slot 0 program (R250). -/
def State.framingFenced (s : State) (c : Nat) : Bool :=
  let q := c / 4
  (s.chanLanes c).any (fun n => s.threadFenced q (2 * (n % 4) + 1) ||
    (upTo (fun i => 8 + i) 8).any (fun t => s.rd (R.WVR_THREAD_t.role q) t == 2 && s.rd (R.WVR_THREAD_t.lane q) t == n
      && s.threadFenced q t)) ||
    (match s.prog c 0 with | some p => s.threadFenced q p.thread | none => false)

/-- A stream thread of the channel is fenced itself: cause THREAD of kind 2 (Table 13.17). A Weaver's fence acts on the Weaver (R368). -/
def State.chanThreadFenced (s : State) (c : Nat) : Bool :=
  (s.chanLanes c).any (fun n => s.on (R.WVR_THREAD_t.fence_cause (c / 4)) (2 * (n % 4))
    || s.on (R.WVR_THREAD_t.fence_cause (c / 4)) (2 * (n % 4) + 1))

/-- A lane or a stream thread of the channel is fenced (Table 13.17, kind 2). -/
def State.chanFenced (s : State) (c : Nat) : Bool := s.chanLaneFenced c || s.chanThreadFenced c

/-! Raw conditions. -/

/-- The channel is integrated: the Almanac defect integration program is attached in slot 2 (R175). -/
def State.integrates (s : State) (c : Nat) : Bool := s.runs c 2 7

/-- The channel's lanes carry 64B/66B blocks, as its program declares. -/
def State.hasBlocks (s : State) (c : Nat) : Bool :=
  match s.prog c 0 with
  | some p => p.align == .blocks
  | none => false

/-- No codeword lock, which on Ethernet is alignment-marker lock, or no block lock (R55, R56, R114). -/
def State.noBlocks (s : State) (n : Nat) : Bool :=
  !(s.align n).blLock ||
    (decide ((s.lane n).fec % 4 ≠ 0) && !(if s.isEthernet n then (s.align n).amLock else (s.align n).cwLock))

/-- The steward has reported the bit-slip lane aligned (R60). -/
def State.slipAligned (s : State) (n : Nat) : Bool :=
  match (s.align n).search with
  | .aligned _ => true
  | _ => false

/-- The raw condition of lane `n` for the lane-scoped defects of Table 7.1 that call for rdi on VTF (R177, R182). -/
def State.laneRaw (s : State) (n k : Nat) : Bool :=
  match k with
  | 0 => s.on R.LANE_STATE.los n
  | 1 => s.on R.LANE_STATE.lol n
  | 2 => s.noBlocks n
  | 4 => (s.vtf n).fasAt.isNone
  | 5 => (s.vtf n).fasAt.isSome && !(s.vtf n).mfSync
  | 6 => (s.vtf n).rxAis
  | 7 => (s.vtf n).idMis
  | _ => false

/-- The raw condition of the defect with bit `k` of TALLY_DEF_CHAN_c, on the kinds of channel that have it (Table 7.1); on a
bonded channel the OR over its lanes (R177). -/
def State.rawDef (s : State) (c k : Nat) : Bool :=
  let any := fun (f : Nat → Bool) => (s.chanLanes c).any f
  let vtf := s.carriesVtf c
  let eth := s.runs c 0 2
  let cpri := s.runs c 0 3
  match k with
  | 0 => any (fun n => s.on R.LANE_STATE.los n)
  | 1 => any (fun n => s.on R.LANE_STATE.lol n)
  | 2 => s.hasBlocks c && any s.noBlocks
  | 3 => vtf && any (fun n => (s.vtf n).fasAt.isNone)
  | 4 => vtf && s.on R.TALLY_DEF_CHAN_c.d_oof c
  | 5 => vtf && (any (fun n => (s.vtf n).fasAt.isSome && !(s.vtf n).mfSync) ||
      ((s.chanLanes c).all (fun n => (s.vtf n).mfSync) && decide ((s.lane c).width = 4) && !s.chanDelivers c))
  | 6 => vtf && any (fun n => (s.vtf n).rxAis)
  | 7 => vtf && any (fun n => (s.vtf n).idMis)
  | 8 => vtf && any (fun n => (s.vtf n).rateMis || (s.vtf n).calMis)
  | 9 => vtf && any (fun n => (s.bip n).sf)
  | 10 => vtf && any (fun n => (s.bip n).sd)
  | 11 => vtf && any (fun n => (s.vtf n).rxRdi)
  | 12 => eth && any (fun n => decide ((s.lane n).fec % 4 ≠ 0) && !(s.align n).amLock)
  | 13 => eth && any (fun n => (s.align n).hiBer)
  | 14 => eth && s.pw c 0 24 == 1
  | 15 => eth && s.pw c 0 25 == 1
  | 16 => cpri && (if s.hasBlocks c then any s.noBlocks else any (fun n => !s.slipAligned n))
  | 17 => cpri && s.pw c 0 12 != 2
  | 18 => cpri && bitField (s.pw c 0 14) 0 1 == 1
  | 19 => cpri && bitField (s.pw c 0 14) 1 1 == 1
  | 20 => cpri && bitField (s.pw c 0 14) 2 1 == 1
  | 21 => cpri && bitField (s.pw c 0 14) 3 1 == 1
  | 22 => cpri && bitField (s.pw c 0 14) 4 1 == 1
  | _ => false

/-- The raw condition of a tributary end's defect: 0 dTRL, 1 dPLM, 2 dCSF (Table 7.1). -/
def State.rawEnd (s : State) (t c k : Nat) : Bool :=
  let x := s.trib t c
  match k with
  | 0 => x.thKind == 1 || x.thKind == 2 || !s.chanDelivers c
  | 1 => x.thKind == 2
  | 2 => x.thKind == 0 && x.thCsf
  | _ => false

/-! Masking (R176). -/

/-- The rank of the defect with bit `k` (Table 7.1); dOOF has none and is given 0. -/
def defRank (k : Nat) : Nat := [1, 2, 3, 0, 6, 7, 8, 9, 10, 11, 12, 13, 4, 5, 13, 14, 3, 6].getD k 15

/-- A set defect of higher rank masks defect `k`. -/
def defMasked (w k : Nat) : Bool :=
  (upTo id 23).any (fun j => decide (j ≠ 3 ∧ k ≠ 3 ∧ defRank j < defRank k) && bitField w j 1 == 1)

/-- The bits of the ranked defects, in the order of their ranks. -/
def defOrder : List Nat := [0, 1, 2, 16, 12, 13, 4, 17, 5, 6, 7, 8, 9, 10, 11, 14, 15, 18, 19, 20, 21, 22]

/-- The defect bits with those masked at 0. -/
def defMask (w : Nat) : Nat :=
  (upTo id 23).foldl (fun v k => if defMasked v k then setBitField v k 1 0 else v) (w % 2 ^ 23)

/-- The defect bits after the mask of a defect of rank `r` has lifted: each lower defect that nothing else masks starts set if
its raw condition holds, except dSF and dSD. -/
def State.defUnmask (s : State) (c r w : Nat) : Nat :=
  defOrder.foldl (fun v k =>
    if r < defRank k ∧ !defMasked v k ∧ k ≠ 9 ∧ k ≠ 10 ∧ s.rawDef c k then setBitField v k 1 1 else v) w

/-! Consequences. -/

/-- The bits of the defects that raise ch_sf whatever the parameters say (R178). -/
def chSfBits : List Nat := [0, 1, 2, 16, 12, 13, 4, 5, 6, 8, 9]

/-- ch_sf of a channel with the defect bits `w` (R178). -/
def State.chSf (s : State) (c w : Nat) : Bool :=
  s.chanFenced c || s.framingFenced c || chSfBits.any (fun k => bitField w k 1 == 1) ||
    (bitField w 7 1 == 1 && s.pw c 2 36 == 1) || (bitField w 17 1 == 1 && s.pw c 2 37 == 1)

/-- A change of defects: event DEFECT of the Reeves (Table 10.12), and a report when def_evt_en is 1 (R197). -/
def State.reportDef (s : State) (c unit old new : Nat) : State :=
  let s := if old != new then s.reeveEvent 2 else s
  if s.integrates c && s.pw c 2 39 == 1 && s.stewardActs && old != new then
    s.report 1 0 unit (new + (old ^^^ new) * 2 ^ 32)
  else s

/-- One condition of a group's path: withdrawn at once, a request at once with no hold-off, and left to the end of the hold-off
otherwise (R311). -/
def condNow (now was immediate : Bool) : Bool := now && (was || immediate)

/-- sf and sd of the paths of tributary `t`'s group taken up, and its requests judged (R186, R311). -/
def State.groupCond (s : State) (t : Nat) : State :=
  match s.groupOf t with
  | none => s
  | some g =>
    match s.groupPaths g with
    | w :: x :: _ =>
      let y := s.group g
      let im := s.rd R.PAIR_PROT_CFG_g.hold_off g == 0
      let y' := { y with sfW := condNow (s.endSf t w) y.sfW im, sfX := condNow (s.endSf t x) y.sfX im,
                         sdW := condNow (s.endSd t w) y.sdW im, sdX := condNow (s.endSd t x) y.sdX im }
      if y = y' then s else (s.setGroup g y').judgeGroup g
    | _ => s

/-- The end of `t` on channel `c` given the defects `d` (bit 0 dTRL, 1 dPLM, 2 dCSF) under the masks of R176; sf and sd follow
(R178), the group sees them, and the tributary recentres when sf and dCSF are both 0 again (R156). -/
def State.setEnd (s : State) (t c d : Nat) : State :=
  let chsf := s.rd R.TALLY_DEF_CHAN_c.ch_sf c
  let chsd := s.rd R.TALLY_DEF_CHAN_c.ch_sd c
  let d := if chsf = 1 ∨ !s.integrates c then 0
    else if bitField d 1 1 = 1 then 2 else if bitField d 0 1 = 1 then 1 else bitField d 2 1 * 4
  let old := s.endBits t c
  let new := d + 8 * chsf + 16 * bit (chsf == 1 || d % 4 != 0) + 32 * chsd
  if old = new then s
  else
    let w := (s.reg (0x50000 + 4 * t)).toNat
    let s := match s.rxEnds t with
      | e0 :: _ => if e0 = c then s.wr R.TALLY_DEF_TRIB_t.end0 t new else s.wr R.TALLY_DEF_TRIB_t.end1 t new
      | [] => s
    let s := (s.reportDef c (0x10000 + t) w (s.reg (0x50000 + 4 * t)).toNat).groupCond t
    if (bitField old 4 1 = 1 ∨ bitField old 2 1 = 1) ∧ bitField new 4 1 = 0 ∧ bitField new 2 1 = 0 then s.recentre t c else s

/-- The defects of an end that start set when masks lift: all below `above` in the order dPLM, dTRL, dCSF. -/
def State.endUnmask (s : State) (t c above d : Nat) : Nat :=
  let r := fun k => bit (s.rawEnd t c k)
  match above with
  | 0 => r 1 * 2 + r 0 + r 2 * 4
  | 1 => d + r 0 + r 2 * 4
  | _ => d + r 2 * 4

/-- The tributary ends on a channel follow its ch_sf and ch_sd. -/
def State.refreshEnds (s : State) (c : Nat) : State :=
  (s.tribsIn c 1 (s.calSel c 1)).foldl (fun s e =>
    let old := s.endBits e.1 c
    s.setEnd e.1 c (if bitField old 3 1 = 1 ∧ s.rd R.TALLY_DEF_CHAN_c.ch_sf c = 0 then s.endUnmask e.1 c 0 0 else old % 8)) s

/-- The defect bits of a channel set to `d` under the masks of R176: TALLY_DEF_CHAN_c, its latches, the report, and the ends
that the channel carries. A masked dSF or dSD starts clear on every lane. -/
def State.putDefs (s : State) (c d : Nat) : State :=
  let d := if s.integrates c then defMask d else 0
  let s := if defMasked d 10 then (s.chanLanes c).foldl (fun s n =>
      let b := s.bip n
      s.setBip n { b with sd := false, sdRun := 0, sdLow := 0, sf := b.sf && !defMasked d 9,
                          sfRun := if defMasked d 9 then 0 else b.sfRun, sfLow := if defMasked d 9 then 0 else b.sfLow }) s
    else s
  let old := (s.reg (0x40100 + 4 * c)).toNat
  let new := d + 2 ^ 23 * bit (s.chanLaneFenced c || s.framingFenced c) + 2 ^ 24 * bit (s.chSf c d)
    + 2 ^ 25 * bitField d 10 1
  if old = new then s
  else
    let latch := (s.reg (0x40300 + 4 * c)).toNat
    let rose := new &&& (old ^^^ new)
    let s := (s.setReg (0x40100 + 4 * c) (BitVec.ofNat 32 new)).setReg (0x40300 + 4 * c) (BitVec.ofNat 32 (latch ||| rose))
    let s := if bitField rose 3 1 = 1 then s.countC c 4 1 else s
    (s.reportDef c c old new).refreshEnds c

/-- The defect bits of a channel. -/
def State.defs (s : State) (c : Nat) : Nat := (s.reg (0x40100 + 4 * c)).toNat % 2 ^ 23

/-- What follows from a fence, a lift or a parameter brought up to date on a channel (R178). -/
def State.refreshChan (s : State) (c : Nat) : State := s.putDefs c (s.defs c)

/-- Integration starts on a channel: every defect starts clear (R175). -/
def State.startDefects (s : State) (c : Nat) : State :=
  let s := (s.chanLanes c).foldl (fun s n =>
    s.setBip n { s.bip n with sfRun := 0, sdRun := 0, sfLow := 0, sdLow := 0, sf := false, sd := false }) s
  s.putDefs c 0

end Sys2Proof.Machine
end

