-- ==== Sys2Proof/Machine/LaneOps.lean ====
section
/-! DEFINITION. The operations over serial lanes that several families share: fences, the receiver,
the locks that alignment holds, and the admitted power (chapters 1 to 4, R402). -/
namespace Sys2Proof.Machine

/-! The control words of the framing units (R271, Table 10.11). -/

/-- A setting of unit `u` of lane `n`: the field of its control word that a program has written, or `d` while an Almanac program,
which sets the units by its parameters, has written it last (R92, R271). -/
def State.unitSet (s : State) (n u lo len d : Nat) : Nat :=
  match Tab.get none s.units (8 * n + u) with
  | some v => bitField v lo len
  | none => d

/-- N of the frame search (R93). -/
def State.fasN (s : State) (n : Nat) : Nat := s.unitSet n 2 0 4 (s.pw (s.chan n) 0 11)

/-- M of the frame search (R95). -/
def State.fasM (s : State) (n : Nat) : Nat := s.unitSet n 2 4 5 (s.pw (s.chan n) 0 12)

/-- The multiframe loss count (R96). -/
def State.mfM (s : State) (n : Nat) : Nat := s.unitSet n 2 9 5 (s.pw (s.chan n) 0 13)

/-- Framing units of lane `n` set by an Almanac program. -/
def State.unitsByAlmanac (s : State) (us : List Nat) (n : Nat) : State :=
  { s with units := us.foldl (fun t u => Tab.put none t (8 * n + u) none) s.units }

/-! The locks of bring-up step 5 and the alignments of step 6 (R54). -/

/-- Every candidate and alignment of the VTF framing units dropped (R95, R96, R54). -/
def State.dropFraming (s : State) (n : Nat) : State :=
  s.setVtf n { s.vtf n with fasAt := none, fasBad := 0, cands := [], mfSync := false, lastFiw := none, mfBad := 0,
                            calTarget := none, rxBip := none }

/-- pcs_state of an Ethernet channel (Table 5.8): 3 with hi_ber, 2 with FEC and alignment-marker lock, 1 with block lock without
FEC, over all its lanes. -/
def State.pcsState (s : State) (c : Nat) : Nat :=
  let ls := s.chanLanes c
  if ls.any (fun n => (s.align n).hiBer) then 3
  else if ls.all (fun n => decide ((s.lane n).fec % 4 ≠ 0) && (s.align n).amLock) then 2
  else if ls.all (fun n => decide ((s.lane n).fec % 4 = 0) && (s.align n).blLock) then 1
  else 0

/-- The status words that show alignment brought up to date: frame_state and mf_state of the VTF program (Table 4.15), over the
lanes of the channel the least advanced counts (R177), and pcs_state of the Ethernet client program (Table 5.8). -/
def State.syncAlign (s : State) (n : Nat) : State :=
  let c := s.chan n
  let ls := s.chanLanes c
  if s.carriesVtf c then
    let fs := if ls.all (fun l => (s.vtf l).fasAt.isSome) then 2 else if ls.all (fun l => (s.align l).blLock) then 1 else 0
    (s.setPw c 0 19 fs).setPw c 0 20 (bit (ls.all (fun l => (s.vtf l).mfSync)))
  else if s.isEthernet n then s.setPw c 0 23 (s.pcsState c)
  else s

/-- A local fault is present (R181): the raw condition of dLOS, dLOL, dLOB, dLOA or dHIBER, without integration. -/
def State.localFault (s : State) (c : Nat) : Bool :=
  (s.chanLanes c).any (fun n => s.on R.LANE_STATE.los n || s.on R.LANE_STATE.lol n || !(s.align n).blLock
    || (s.align n).hiBer || ((s.lane n).fec % 4 != 0 && !(s.align n).amLock))

/-- The channel shows an 802.3 link fault, or its lane is not ACTIVE (R132). -/
def State.linkFault (s : State) (c : Nat) : Bool :=
  s.laneState c != 2 || s.pw c 0 24 == 1 || s.pw c 0 25 == 1 || s.localFault c

/-- The QL of an Ethernet channel becomes QL-FAILED at once (R132). -/
def State.qlFail (s : State) (n : Nat) : State := if s.isEthernet n then (s.setPw (s.chan n) 0 27 0).bellShow else s

/-- A line condition of the lane that, when it holds, is an 802.3 link fault (R132). -/
def State.lineFault (s : State) (n : Nat) (holds : Bool) : State := if holds then s.qlFail n else s

/-- The bond of the lane's quad, lost when it was formed over this lane (R102). -/
def State.dropBond (s : State) (n : Nat) : State :=
  if s.rd R.QUAD_BOND.bond (n / 4) = 4 then s.wr R.QUAD_BOND.bond (n / 4) 0 else s

/-- The search of the steward ends; a lane it had reported aligned is reported lost once (R60). -/
def State.endSearch (s : State) (n : Nat) : State :=
  let a := s.align n
  let s := s.setAlign n { a with search := .idle }
  match a.search with
  | .aligned _ => if s.stewardActs then s.report 8 2 n 0 else s
  | _ => s

/-- The hyperframe machine of a CPRI channel returns to HF_HUNT (R137). -/
def State.hfHunt (s : State) (n : Nat) : State :=
  let c := s.chan n
  if s.runs c 0 3 then (s.setPw c 0 12 0).setChanX c { s.chanX c with hfGood := 0, hfBad := 0 } else s

/-- Codeword lock, block lock, word alignment and all that rests on them dropped (R54). -/
def State.dropLocks (s : State) (n : Nat) : State :=
  let a := s.align n
  let s := s.setAlign n { a with cwGood := 0, cwBad := 0, cwLock := false, blGood := 0, blSeen := 0, blBad := 0,
                                 blLock := false, amLock := false, hiBer := false, farEnd := false }
  ((((s.endSearch n).hfHunt n).dropFraming n).dropBond n).qlFail n |>.syncAlign n

/-- The receiver enters a state of Table 2.4. Leaving ADAPT and TRACK for SEEK or HOLD drops every lock (R54); an eye
scan in progress ends with result 2 (R46). -/
def State.setRx (s : State) (n v : Nat) : State :=
  let old := s.rxState n
  let s := if (old = 1 ∨ old = 2) ∧ (v = 0 ∨ v = 3) then s.dropLocks n else s
  let s := if (s.lane n).scanning ∧ v ≠ old then
      (s.wr R.LANE_EYE_SCAN.result n 2).setLane n { s.lane n with scanning := false } else s
  let s := if old = 2 ∧ v ≠ 2 then s.setLane n { s.lane n with windowBad := true } else s
  s.wr R.LANE_STATE.rx_state n v

/-- The present coefficient set (R40). -/
def State.coeffs (s : State) (n : Nat) : Coeffs :=
  { eq := s.reg (0x100044 + n * 0x1000), taps := upTo (fun k => s.rd (R.LANE_RX_FFE_k.tap n) k) 32 }

/-- A coefficient set put in force. -/
def State.setCoeffs (s : State) (n : Nat) (c : Coeffs) : State :=
  iter (fun k s => s.wr (R.LANE_RX_FFE_k.tap n) k (c.taps.getD k 0)) 0 32 (s.setReg (0x100044 + n * 0x1000) c.eq)

/-- The descriptor presets: CTLE from its starting code and the cursor tap at 1 (R29, R35). The spec gives the other
starting coefficients no value: they are free. Assumption log entry 7, DESIGN CHOICE, safe. -/
def State.presets (s : State) (n : Nat) : State :=
  let k0 := s.free
  let s := { s with free := s.free + 33 }
  s.setCoeffs n { eq := BitVec.ofNat 32 (s.rd R.LANE_RX_CFG.ctle_start n + Config.freeNat k0 % 32 * 16
                                         + Config.freeNat k0 / 32 % 256 * 2 ^ 16),
                  taps := upTo (fun k => if k = s.rd R.LANE_RX_CFG.cursor n then 256
                                         else Config.freeNat (k0 + 1 + k) % 1024) 32 }

/-- The snapshot put in force (R41). -/
def State.fromSnapshot (s : State) (n : Nat) : State :=
  s.setCoeffs n { eq := (s.lane n).snapEq, taps := upTo (fun k => s.rd (R.LANE_RX_FFE_k.snap n) k) 32 }

/-- The snapshot discarded (R42, R33). -/
def State.dropSnapshot (s : State) (n : Nat) : State := s.wr R.LANE_ADAPT_STAT.snap_valid n 0

/-- The set stored for a DORMANT exit discarded (R47). -/
def State.dropStored (s : State) (n : Nat) : State :=
  (s.wr R.LANE_PWR.stored_valid n 0).setLane n { s.lane n with stored := none }

/-! The quad's LC-PLL and power domain. -/

/-- All four lanes of the quad are DORMANT or OFF. -/
def State.quadResting (s : State) (q : Nat) : Bool :=
  (upTo (fun i => s.laneState (4 * q + i)) 4).all (fun v => v == 0 || v == 4)

/-- All four lanes of the quad are OFF. -/
def State.quadOff (s : State) (q : Nat) : Bool := (upTo (fun i => s.laneState (4 * q + i)) 4).all (· == 0)

/-- The quad's LC-PLL and power domain follow its lanes: the LC-PLL powers down while all four lanes are DORMANT or OFF
and pll_keep is 0 (R47), in P1, or while the cap loop gates idle units as in P1, whatever pll_keep says; the domain goes off when the last lane enters OFF,
and in P1 while every lane is OFF or DORMANT (R402, R394). -/
def State.quadFollow (s : State) (q : Nat) : State :=
  let rest := s.quadResting q
  let p1 := decide (s.pstate = 1) || s.mill.gated
  let s := if rest && (!s.on R.QUAD_PLL.pll_keep q || p1) then s.wr R.QUAD_PLL.pll_state q 0 else s
  if s.quadOff q || (rest && p1) then (s.wr R.QUAD_STATUS.pd_on q 0).wr R.QUAD_PLL.pll_state q 0 else s

/-- The quad's domain on and its LC-PLL started when it is off (R53, R402); no Reeve holds it off any more. -/
def State.quadStart (s : State) (q : Nat) : State :=
  let s := match Tab.get none s.mill.switched q with
    | some (f, _) => { s with mill := { s.mill with switched := Tab.put none s.mill.switched q (some (f, false)) } }
    | none => s
  let s := s.wr R.QUAD_STATUS.pd_on q 1
  if s.rd R.QUAD_PLL.pll_state q = 0 then s.wr R.QUAD_PLL.pll_state q 1 else s

/-- The quad's LC-PLL is locked. -/
def State.pllLocked (s : State) (q : Nat) : Bool := decide (s.rd R.QUAD_PLL.pll_state q = 2)

/-! Transitions. -/

/-- What every way out of service does to a lane: locks dropped, scan ended, transition and DORMANT exit abandoned,
injectors on it stopped with cause 4 (R54, R46, R195). -/
def State.leaveService (s : State) (n : Nat) : State :=
  let s := if (s.lane n).scanning then s.wr R.LANE_EYE_SCAN.result n 2 else s
  let s := s.dropLocks n
  let s := s.setLane n { s.lane n with move := .none, wake := .none, wakeMiss := false, pllWait := false, scanning := false }
  s.stopInjectorsOn 1 n 4

/-- CAL is left before its end: cal_step shows the last failed step, not the one that was running. -/
def State.endCalStep (s : State) (n : Nat) : State :=
  if s.laneState n = 1 then s.wr R.LANE_STATE.cal_step n (s.lane n).calFails else s

/-- The lane enters OFF as a LANE_RATE that disables it takes it there (Table 2.3): LANE_SPEED reads 0, the FEC unit runs
no code (R18), the lane is a channel of its own; its detectors are off and read as after reset. -/
def State.laneOff (s : State) (n : Nat) : State :=
  let s := s.leaveService n
  let s := s.endCalStep n
  let s := (s.setReg (0x100004 + n * 0x1000) 0).setLane n
    { s.lane n with rate := 0, width := 1, fec := 0, writes := [], tracked := false, calFails := 0 }
  let s := (s.wr R.LANE_STATE.tx_locked n 0).wr R.LANE_STATE.rx_state n 0
  let s := (s.wr R.LANE_STATE.los n 0).wr R.LANE_STATE.lol n 0
  let s := ((s.dropStored n).dropSnapshot n).setLaneState n 0
  s.quadFollow (n / 4)

/-- Step 1 of CAL begins, or CAL waits for the quad LC-PLL with cal_step at 0 (R36, R53). -/
def State.startCal (s : State) (n : Nat) : State :=
  if s.pllLocked (n / 4) then (s.setLane n { s.lane n with pllWait := false }).wr R.LANE_STATE.cal_step n 1
  else (s.setLane n { s.lane n with pllWait := true }).wr R.LANE_STATE.cal_step n 0

/-- The lane enters CAL (Table 2.3). -/
def State.enterCal (s : State) (n : Nat) : State :=
  let s := s.leaveService n
  let s := s.setLane n { s.lane n with calFails := 0, tracked := false, rxStopped := false }
  let s := (((s.wr R.LANE_DLY_TX.valid n 0).wr R.LANE_DLY_RX.valid n 0).wr R.LANE_STATE.tx_locked n 0).setLaneState n 1
  ((s.dropSnapshot n).dropStored n |>.quadStart (n / 4)).startCal n

/-! Lane and channel fences (R49, R368). -/

/-- The lane is fenced with a cause of Table 2.9. A further cause is reported, keeps fence_cause and clears
lane_reset_done (R369). A lane that is not populated stays OFF (R29). -/
def State.fenceLane (s : State) (n cause : Nat) : State :=
  if !s.populated n then s
  else if s.laneState n = 5 then
    ((s.wr R.LANE_STATE.lane_reset_done n 0).setLane n { s.lane n with rxStopped := (s.lane n).rxStopped || !(cause == 3 || cause == 5) }).reportFence 1 n cause true
  else
    let c := s.chan n
    let chanAlready := s.chanLaneFenced c
    let s := s.leaveService n
    let s := s.stopInjectorsOn 1 n 5
    let s := if cause = 1 then s else s.endCalStep n
    let keepsRx := cause == 3 || cause == 5
    let s := s.setLane n { s.lane n with rxStopped := !keepsRx, writes := [], rxQueue := [], beats := [] }
    let s := ((s.setLaneState n 5).wr R.LANE_STATE.fence_cause n cause).wr R.LANE_STATE.lane_reset_done n 0
    let s := ((s.wr R.LANE_STATE.los n 1).wr R.LANE_TEST.loop n 0).wr R.LANE_TEST.prbs_gen n 0
    let s := if keepsRx then s else (s.wr R.LANE_STATE.tx_locked n 0).wr R.LANE_TEST.prbs_sync n 0
    let s := (s.dropSnapshot n).dropStored n
    let s := (s.laneEvent n 9).reportFence 1 n cause true
    let s := if chanAlready then s else s.reportFence 2 c 1 true
    (s.refreshChan c).internalFault true

/-- Twin lane `k` is fenced (kind 11 of Table 13.17): it goes to electrical idle, the twin unit starts its reset, and injectors on it stop
(R195). -/
def State.fenceTwinLane (s : State) (k cause : Nat) : State :=
  let already := s.pair.twinFence.any (fun e => e.1 == k)
  let s := if already then s else { s with pair := { s.pair with twinFence := Tab.put 0 s.pair.twinFence k cause } }
  let s := s.wr R.PAIR_LINK.fenced 0 (setBitField (s.rd R.PAIR_LINK.fenced 0) k 1 1)
  let s := s.wr R.PAIR_LINK.up 0 (setBitField (s.rd R.PAIR_LINK.up 0) k 1 0)
  ((s.stopInjectorsOn 3 k 5).reportFence 11 k cause true).internalFault true

/-- A serial lane fenced by its number: lanes 0 to 95, and twin lanes from 96 on. -/
def State.fenceSerial (s : State) (n cause : Nat) : State := if n < 96 then s.fenceLane n cause else s.fenceTwinLane (n - 96) cause

/-! Admission of power (R402, Table 14.13), in microwatts. -/

/-- The ACTIVE figure of a line rate in 2^-16 b/s. -/
def activePower (rate : Nat) : Nat := max 100000 (9 * rate / (2 ^ 16 * 10 ^ 6))

/-- The figure of a lane in its present state; a lane that a LANE_WAKE is waking counts as ACTIVE. -/
def State.lanePower (s : State) (n : Nat) : Nat :=
  let rate := (s.lane n).rate
  if (s.lane n).move = .fromQuiet ∨ (s.lane n).move = .fromDormant then activePower rate
  else match s.laneState n with
  | 1 => activePower rate
  | 2 => activePower rate
  | 3 => activePower rate * 2 / 5
  | 4 => 20000
  | 5 => if rate = 0 then 20000 else activePower rate
  | _ => 0

/-- The figure of a quad domain in a mode. -/
def domainPower (m : Mode) : Nat := if m = .hearth then 800000 else 1500000

/-- A Granary bank counts as powered in GRN_BANK_b state LIVE or DRAIN. -/
def State.bankPower (s : State) (b : Nat) : Nat := if s.rd R.GRN_BANK_b.state b ≤ 1 then 250000 else 0

/-- P_adm: base, banks, quad domains, lanes and, in pair roles, twin lanes (Table 14.13). -/
def State.padm (s : State) : Nat :=
  14000000 + sumUpTo s.bankPower 96
    + sumUpTo (fun q => if s.on R.QUAD_STATUS.pd_on q then domainPower s.mode else 0) 24
    + sumUpTo s.lanePower 96 + (if s.role = 0 then 0 else 8 * 850000)

/-- The cap of a mode in watts (Table 1.8). -/
def Mode.cap : Mode → Nat
  | .muster => 120 | .harvest => 178 | .errand => 165 | .sundial => 178 | .hearth => 70 | .smithy => 178

/-- The cap in force under a mode: that of the mode, or cap_lim when it is not 0 and lower (R402), in watts. -/
def State.capW (s : State) (m : Mode) : Nat :=
  let lim := s.rd R.MILL_CTRL.cap_lim 0
  if lim ≠ 0 ∧ lim < m.cap then lim else m.cap

/-- An admitted power fits the cap in force. -/
def State.fitsCap (s : State) (p : Nat) : Bool := decide (p ≤ s.capW s.mode * 1000000)

/-- MILL_STATUS as it reads: with the cap in force and whether P_adm is above it (R402). -/
def State.millStatus (s : State) : Nat :=
  setBitField (setBitField (s.reg 0xC004).toNat 16 8 (s.capW s.mode)) 27 1 (bit (!s.fitsCap s.padm))

/-- A latch of MILL_EVENT set and reported (class 9): unit, and MILL_STATUS after the event (R405). It is the alert of the Millrace that
Table 10.12 names. -/
def State.millEvent (s : State) (f : Fld) (unit : Nat) : State :=
  let s := (s.latch f 0).reeveEvent 6
  s.report 9 f.lo unit s.millStatus

/-- The stream rate of a line rate under a FEC code (R18): 514/528 or 514/544 of it, times 264/257 with transcoding. -/
def streamRate (rate fec : Nat) : Nat :=
  let a := match fec % 4 with
    | 1 => rate * 514 / 528
    | 2 => rate * 514 / 544
    | _ => rate
  if fec / 4 % 2 = 1 then a * 264 / 257 else a

/-- The Weaver stream capacity in a mode, in 2^-16 b/s (R18). -/
def streamCapacity (m : Mode) : Nat := if m = .hearth then 409600000000 * 2 ^ 16 else 819200000000 * 2 ^ 16

/-- The sum of the stream rates of a quad with lane `n` under code `fec` (R18). -/
def State.quadRate (s : State) (q n fec : Nat) : Nat :=
  sumUpTo (fun i => let m := 4 * q + i
                    streamRate (s.lane m).rate (if m = n then fec else (s.lane m).fec)) 4

/-- A control word of the FEC unit of lane `n` written by the program in slot 0 (R18): in force from the lane's next beat, and
discarded whole when it would raise the quad above the capacity (R271). A new code starts its codeword search, and block lock
waits for it (R55). -/
def State.fecWrite (s : State) (n v : Nat) : State :=
  let old := (s.lane n).fec
  if s.quadRate (n / 4) n old < s.quadRate (n / 4) n v ∧ streamCapacity s.mode < s.quadRate (n / 4) n v then s
  else
    let s := ({ s with units := Tab.put none s.units (8 * n) (some v) } : State).setLane n { s.lane n with fec := v }
    if old % 4 = v % 4 then s
    else
      let s := s.setAlign n { s.align n with cwGood := 0, cwBad := 0, cwLock := false, blGood := 0, blSeen := 0, blBad := 0,
                                             blLock := false, amLock := false, hiBer := false }
      ((s.dropFraming n).dropBond n).syncAlign n

end Sys2Proof.Machine
end

