-- ==== Sys2Proof/Machine/LaneAct.lean ====
section
/-! DEFINITION. What writes to a lane's registers do (chapter 2 and R58 to R68), the stored writes of a DORMANT lane, and
the entry into ACTIVE that applies them. -/
namespace Sys2Proof.Machine

/-! The go fields. -/

/-- The FIR set that the registers hold. -/
def State.firWritten (s : State) (n : Nat) : Fir :=
  { main := s.rd R.LANE_TX_FIR_A.main n, pre1 := signedOf 7 (s.rd R.LANE_TX_FIR_A.pre1 n),
    pre2 := signedOf 7 (s.rd R.LANE_TX_FIR_A.pre2 n), post1 := signedOf 7 (s.rd R.LANE_TX_FIR_B.post1 n),
    post2 := signedOf 7 (s.rd R.LANE_TX_FIR_B.post2 n), post3 := signedOf 7 (s.rd R.LANE_TX_FIR_B.post3 n),
    swing := s.rd R.LANE_TX_CFG.swing n }

/-- The set is refused when the main tap is below 24 or the magnitudes sum to more than 63 (R30). -/
def Fir.legal (f : Fir) : Bool :=
  decide (24 ≤ f.main ∧
    f.main + f.pre1.natAbs + f.pre2.natAbs + f.post1.natAbs + f.post2.natAbs + f.post3.natAbs ≤ 63)

/-- fir_apply: the six taps and the swing take effect together, or the set is refused and fir_range_err is set (R30). -/
def State.firApply (s : State) (n : Nat) : State :=
  let f := s.firWritten n
  if f.legal then (s.setLane n { s.lane n with fir := f }).wr R.LANE_TX_CFG.fir_src n 1
  else s.laneEvent n 10

/-- guard_release, a LANE_RATE and a DORMANT exit with full adaptation release a freeze of R42. -/
def State.guardRelease (s : State) (n : Nat) : State :=
  (s.wr R.LANE_ADAPT_STAT.guard_frozen n 0).setLane n { s.lane n with reverts := [] }

/-- scan: a scan starts in TRACK, and ends at once with result 3 outside TRACK or while the part throttles (R46, R404).
A 1 written while a scan runs is discarded (R8). -/
def State.scanStart (s : State) (n : Nat) : State :=
  if (s.lane n).scanning then s
  else if s.laneState n = 2 ∧ s.rxState n = 2 ∧ ¬ s.on R.MILL_STATUS.throttle 0 then
    (s.wr R.LANE_EYE_SCAN.result n 0).setLane n { s.lane n with scanning := true }
  else s.wr R.LANE_EYE_SCAN.result n 3

/-- Bits in a unit of the shell word on this lane: 10 in 8B/10B, and otherwise the bits of a shell word (R58). -/
def State.unitLen (s : State) (n : Nat) : Nat :=
  match s.prog (s.chan n) 0 with
  | some p => if p.align = .chars8b10b then 10 else shellBits
  | none => shellBits
where
  shellBits : Nat :=
    if s.on R.LANE_SPEED.pam4 n then 128
    else match s.rd R.LANE_SPEED.os n with
      | 3 => 8 | 2 => 16 | 1 => 32 | _ => 64

/-- slip: the unit boundary moves one bit later, slip_cnt rises and pos_valid clears (R59); on a 64B/66B lane both locks
are lost and both searches restart one bit on (R57). The move is whole within the step, so slip reads 0 after it. -/
def State.slip (s : State) (n : Nat) : State :=
  let a := s.align n
  let s := (s.bump R.LANE_ALIGN.slip_cnt n 1).wr R.LANE_ALIGN.pos_valid n 0
  if (s.prog (s.chan n) 0).all (fun p => p.align = .blocks) then
    ((s.setAlign n { a with cwCand := a.cwCand + 1, cwGood := 0, cwBad := 0, cwLock := false, blCand := a.blCand + 1,
                            blGood := 0, blSeen := 0, blBad := 0, blLock := false }).dropFraming n).dropBond n
      |>.qlFail n |>.syncAlign n
  else s

/-- Any write to prbs_chk clears the error count and restarts synchronisation (R68). -/
def State.prbsRestart (s : State) (n : Nat) : State :=
  ((s.setReg (0x100168 + n * 0x1000) 0).wr R.LANE_TEST.prbs_sync n 0).setAlign n { s.align n with chkRun := 0 }

/-- A PRBS code that the lane accepts: 0 to 5, and 6 on a PAM4 lane only; any other value leaves its field (R67, R7). -/
def State.prbsCodeOk (s : State) (n v : Nat) : Bool := decide (v ≤ 5) || (v == 6 && s.on R.LANE_SPEED.pam4 n)

/-- A write of LANE_TEST in MUSTER or SMITHY (R63, R67, R68); elsewhere it is discarded. A change to or from near-end
serial returns the receiver to SEEK (R63); a change of loop ends a far-end loop (R64). While the part throttles it starts
no checker (R404). -/
def State.writeTest (s : State) (n loop gen chk : Nat) : State :=
  if !s.testMode then s
  else
    let old := s.rd R.LANE_TEST.loop n
    let s := s.wr R.LANE_TEST.loop n loop
    let s := if s.prbsCodeOk n gen then s.wr R.LANE_TEST.prbs_gen n gen else s
    let s := if s.prbsCodeOk n chk ∧ ¬ (chk ≠ 0 ∧ s.on R.MILL_STATUS.throttle 0) then s.wr R.LANE_TEST.prbs_chk n chk else s
    let s := s.prbsRestart n
    let s := if old ≠ loop then s.setAlign n { s.align n with farEnd := false } else s
    if old ≠ loop ∧ (old = 1 ∨ loop = 1) ∧ s.laneState n = 2 then s.setRx n 0 else s

/-- LANE_TEST cleared (R66). -/
def State.clearTest (s : State) (n : Nat) : State :=
  let was := s.rd R.LANE_TEST.loop n
  let s := (s.setReg (0x100164 + n * 0x1000) 0).setAlign n { s.align n with farEnd := false, chkRun := 0 }
  if was = 1 ∧ s.laneState n = 2 then s.setRx n 0 else s

/-- A write of LANE_LOS_CFG: codes above 36 are reserved and keep their field (R7); the register is unchanged unless
los_off is greater than los_on (R43). -/
def State.writeLosCfg (s : State) (n on_ off_ : Nat) : State :=
  let on' := if on_ ≤ 36 then on_ else s.rd R.LANE_LOS_CFG.los_on n
  let off' := if off_ ≤ 36 then off_ else s.rd R.LANE_LOS_CFG.los_off n
  if on' < off' then (s.wr R.LANE_LOS_CFG.los_on n on').wr R.LANE_LOS_CFG.los_off n off' else s

/-- A write of LANE_LOL_CFG: lol_on_ppm below 2 and lol_off_ppm of 0 are reserved; the register is unchanged unless
lol_off_ppm is less than lol_on_ppm (R44). -/
def State.writeLolCfg (s : State) (n on_ off_ : Nat) : State :=
  let on' := if 2 ≤ on_ then on_ else s.rd R.LANE_LOL_CFG.lol_on_ppm n
  let off' := if 1 ≤ off_ then off_ else s.rd R.LANE_LOL_CFG.lol_off_ppm n
  if off' < on' then (s.wr R.LANE_LOL_CFG.lol_on_ppm n on').wr R.LANE_LOL_CFG.lol_off_ppm n off' else s

/-- One rw field taken from a written value, unless the value is reserved for it. -/
def State.wrField (s : State) (f : Fld) (n v lo hi : Nat) : State :=
  let x := bitField v f.lo f.w
  if lo ≤ x ∧ x ≤ hi then s.wr f n x else s

/-- One FIR tap taken from a written value, unless it lies outside −32 to +31 (R30, R7). -/
def State.wrTap (s : State) (f : Fld) (n v : Nat) : State :=
  let x := bitField v f.lo f.w
  if x < 32 ∨ 96 ≤ x then s.wr f n x else s

/-- A full write of value `v` to the register at offset `off` of lane `n`, whose lane is not DORMANT: rw fields take their
bits unless reserved (R7), latches are cleared where a 1 is written, and go fields start (R8). lane_reset and fence_req
act through their own operations. -/
def State.laneWriteNow (s : State) (n off v : Nat) : State :=
  let a := 0x100000 + n * 0x1000 + off
  match off with
  | 0x000 =>
    ((s.wr R.LANE_CTRL.tx_squelch n (v / 16)).wr R.LANE_CTRL.rx_inv n (v / 8)).wr R.LANE_CTRL.tx_inv n (v / 4)
  | 0x00C => s.setReg a (s.reg a &&& ~~~ BitVec.ofNat 32 v)
  | 0x010 => s.wr R.LANE_EVENT_EN.event_en n v
  | 0x020 => ((s.wr R.LANE_TX_FIR_A.main n (v / 2 ^ 16)).wrTap R.LANE_TX_FIR_A.pre1 n v).wrTap R.LANE_TX_FIR_A.pre2 n v
  | 0x024 => ((s.wrTap R.LANE_TX_FIR_B.post3 n v).wrTap R.LANE_TX_FIR_B.post2 n v).wrTap R.LANE_TX_FIR_B.post1 n v
  | 0x028 =>
    let s := s.wr R.LANE_TX_CFG.swing n v
    if bitField v 8 1 = 1 then s.firApply n else s
  | 0x040 =>
    let s := ((s.wr R.LANE_RX_CFG.ctle_start n (v / 2 ^ 12)).wr R.LANE_RX_CFG.vga_adapt_en n (v / 2 ^ 11)).wr
      R.LANE_RX_CFG.dfe_adapt_en n (v / 2 ^ 10)
    let s := (s.wr R.LANE_RX_CFG.ffe_adapt_en n (v / 2 ^ 9)).wr R.LANE_RX_CFG.ctle_adapt_en n (v / 2 ^ 8)
    (s.wrField R.LANE_RX_CFG.cursor n v 4 12).wr R.LANE_RX_CFG.cdr_bw n v
  | 0x100 =>
    let s := ((s.wrField R.LANE_ADAPT_CFG.revert_max n v 1 15).wr R.LANE_ADAPT_CFG.snap_win n (v / 2 ^ 21)).wrField
      R.LANE_ADAPT_CFG.snap_ratio_k n v 10 30
    let s := ((s.wr R.LANE_ADAPT_CFG.env_ctle n (v / 2 ^ 12)).wr R.LANE_ADAPT_CFG.env_dfe n (v / 2 ^ 8)).wr
      R.LANE_ADAPT_CFG.env_ffe n (v / 2 ^ 4)
    let s := ((s.wr R.LANE_ADAPT_CFG.env_en n (v / 4)).wr R.LANE_ADAPT_CFG.pat_gate_en n (v / 2)).wr
      R.LANE_ADAPT_CFG.dens_gate_en n v
    if bitField v 30 1 = 1 then s.guardRelease n else s
  | 0x110 => s.writeLosCfg n (bitField v 0 6) (bitField v 8 6)
  | 0x114 => s.writeLolCfg n (bitField v 0 10) (bitField v 16 10)
  | 0x124 =>
    let s := s.wrField R.LANE_EYE_SCAN.ber_exp n v 3 12
    if bitField v 0 1 = 1 then s.scanStart n else s
  | 0x150 => s.wr R.LANE_PWR.wake_src n v
  | 0x160 => if bitField v 8 1 = 1 then s.slip n else s
  | 0x164 => s.writeTest n (bitField v 0 2) (bitField v 2 3) (bitField v 5 3)
  | _ => s

/-- A write to a lane's register as the shell takes it: on a DORMANT lane a latch clear takes effect at once and every
other write is stored until the lane next enters ACTIVE (R48). -/
def State.laneWrite (s : State) (n off v : Nat) : State :=
  if s.laneState n = 4 ∧ off ≠ 0x00C then
    s.setLane n { s.lane n with writes := (s.lane n).writes ++ [(off, BitVec.ofNat 32 v)] }
  else s.laneWriteNow n off v

/-- The stored writes take effect, in the order they were made (R48). -/
def State.applyStored (s : State) (n : Nat) : State :=
  (s.lane n).writes.foldl (fun s e => s.laneWriteNow n e.1 e.2.toNat) (s.setLane n { s.lane n with writes := [] })

/-- The lane enters ACTIVE with its receiver in a state, and takes its stored writes (Table 2.3, R48). Raw LOS that stands at 1 acts on
the receiver as one that asserts does (R35). -/
def State.enterActive (s : State) (n rx : Nat) : State :=
  let s := s.setLane n { s.lane n with move := .none }
  let s := ((s.setLaneState n 2).wr R.LANE_STATE.rx_state n rx).wr R.LANE_STATE.tx_locked n 1
  let s := if s.on R.LANE_STATE.los n then (s.setRx n 3).wr R.LANE_STATE.lol n 0 else s
  s.applyStored n

/-- lane_reset written (R49): a lane that is not FENCED first goes to OFF; a fenced lane's receiver stops; stored writes
are discarded. The reset ends with LANE_RESET_DONE. -/
def State.laneReset (s : State) (m n : Nat) : State :=
  let start := fun (s : State) => s.setLane n { s.lane n with resetting := true, rxStopped := true, writes := [] }
  if s.laneState n = 5 then start (s.dropStored n)
  else s.pairGate m (fun s => start (s.laneOff n))

/-- A calibration step fails: the first failure restarts CAL at step 1 and sets cal_retry, the second fences the lane with
cause CAL_FAIL (R36). -/
def State.calStepFails (s : State) (n : Nat) : State :=
  if (s.lane n).calFails = 0 then
    let s := s.setLane n { s.lane n with calFails := s.rd R.LANE_STATE.cal_step n }
    ((s.wr R.LANE_STATE.tx_locked n 0).laneEvent n 8).startCal n
  else s.fenceLane n 1

end Sys2Proof.Machine
end

