-- ==== Sys2Proof/Machine/LaneAlign.lean ====
section
/-! DEFINITION. The meanings of the alignment events of chapter 3 and R114: the RX queue, codeword and block lock, the
bit-slip search, loops and the PRBS checker. -/
namespace Sys2Proof.Machine

/-- The receiver of an ACTIVE lane is in ADAPT or TRACK, where alignment runs (R54). -/
def State.acquires (s : State) (n : Nat) : Bool :=
  s.laneState n == 2 && (s.rxState n == 1 || s.rxState n == 2)

/-- Block lock lost: the count, the alignments above it, and the hunt one bit on (R56, R95). -/
def State.loseBlockLock (s : State) (n : Nat) : State :=
  let a := s.align n
  let s := if a.blLock then s.countL n 7 1 else s
  (((s.setAlign n { a with blLock := false, blCand := (a.blCand + 1) % 66, blGood := 0, blSeen := 0, blBad := 0 }).hfHunt n).dropFraming n).dropBond
    n |>.syncAlign n

/-- The hunt for block lock started anew, or block lock disabled, by the unit's control word (R271). -/
def State.restartHunt (s : State) (n : Nat) : State :=
  let a := s.align n
  (((s.setAlign n { a with blLock := false, blGood := 0, blSeen := 0, blBad := 0 }).hfHunt n).dropFraming n).dropBond n
    |>.syncAlign n

/-! The RX queue. -/

/-- RX_WORD_ENQUEUE (R22, R23, R49): a shell word of an ACTIVE lane enters its queue of 64 entries. A word later than its
release cycle sets late_release and counts; on a pair it is an internal fault (R324). A fenced lane delivers no word. -/
def execRxWordEnqueue (n : Fin 96) (w : BitVec 512) (late : Bool) (s : State) : Res :=
  let x := s.lane n
  if s.laneState n ≠ 2 ∨ 64 ≤ x.rxQueue.length then .next s
  else
    let s := s.setLane n { x with rxQueue := x.rxQueue ++ [(w.toNat, late)] }
    if late then .next (((s.laneEvent n 11).countL n 8 1).internalFault false) else .next s

/-- BLOCK_RELEASE (R23): at its fixed epoch cycle the oldest block is released into CLK_CORE; a late one waits for the next
frame. -/
def execBlockRelease (n : Fin 96) (s : State) : Res :=
  let x := s.lane n
  match x.rxQueue with
  | (w, false) :: t => .next (s.setLane n { x with rxQueue := t, beats := x.beats ++ [w] })
  | _ => .next s

/-! Codeword and block lock. -/

/-- RS_CODEWORD_DECODE (R55): a codeword was decoded at the candidate boundary, with `syms` symbols corrected, or was
uncorrectable. Three correctable codewords at one candidate declare lock; eight uncorrectable ones in a row lose it, and
block lock with it. An Ethernet lane's codewords only count (R114). -/
def execRsCodewordDecode (n : Fin 96) (correctable : Bool) (syms : BitVec 5) (s : State) : Res :=
  let fec := (s.lane n).fec % 4
  if !s.acquires n ∨ fec = 0 then .next s
  else
    let s := s.countL n 2 1
    let s := if !correctable then s.countL n 4 1
      else if syms.toNat ≠ 0 then (s.countL n 3 1).countL n 5 syms.toNat else s
    let size := if fec = 1 then 5280 else 5440
    let a := s.align n
    if s.isEthernet n then .next s
    else if a.cwLock then
      if correctable then .next (s.setAlign n { a with cwBad := 0 })
      else if a.cwBad + 1 < 8 then .next (s.setAlign n { a with cwBad := a.cwBad + 1 })
      else
        let s := s.setAlign n { a with cwLock := false, cwBad := 0, cwGood := 0, cwCand := (a.cwCand + 1) % size }
        .next (s.loseBlockLock n)
    else if correctable then
      if a.cwGood + 1 < 3 then .next (s.setAlign n { a with cwGood := a.cwGood + 1 })
      else .next (s.setAlign n { a with cwLock := true, cwGood := 3, cwBad := 0 })
    else .next (s.setAlign n { a with cwGood := 0, cwCand := (a.cwCand + 1) % size })

/-- The block stream is there to be hunted: no FEC on the lane, or codeword lock, or alignment-marker lock (R55, R114). -/
def State.blockStream (s : State) (n : Nat) : Bool :=
  let a := s.align n
  (s.lane n).fec % 4 == 0 || (if s.isEthernet n then a.amLock else a.cwLock)

/-- The end of a window of 64 headers: 16 or more invalid ones lose block lock, otherwise the next window starts (R56). -/
def State.blockWindow (s : State) (n : Nat) : State :=
  let a := s.align n
  if a.blLock && a.blSeen == 64 then
    if 16 ≤ a.blBad then s.loseBlockLock n else s.setAlign n { a with blSeen := 0, blBad := 0 }
  else s

/-- SYNC_HEADER_CHECK (R56): one header at the candidate boundary. Hunting, 64 valid headers in a row declare block lock and
an invalid one moves the candidate; locked, invalid headers count towards the window. -/
def execSyncHeaderCheck (n : Fin 96) (hdr : BitVec 2) (s : State) : Res :=
  if !s.acquires n ∨ !s.blockStream n ∨ s.unitSet n 1 0 1 1 = 0 then .next s
  else
    let s := s.blockWindow n
    let a := s.align n
    let valid := hdr = 1 ∨ hdr = 2
    let s := if a.blLock ∧ ¬ valid then s.countL n 6 1 else s
    if a.blLock then .next (s.setAlign n { a with blSeen := a.blSeen + 1, blBad := a.blBad + bit (!decide valid) })
    else if valid then
      if a.blGood + 1 < 64 then .next (s.setAlign n { a with blGood := a.blGood + 1 })
      else .next ((s.setAlign n { a with blLock := true, blGood := 64, blSeen := 0, blBad := 0 }).syncAlign n)
    else .next (s.setAlign n { a with blGood := 0, blCand := (a.blCand + 1) % 66 })

/-- BLOCK_LOCK_WINDOW_END (R56, R114): a whole window is judged. On an Ethernet lane hi_ber takes the state that IEEE 802.3
gives it, which the spec leaves to that standard. -/
def execBlockLockWindowEnd (n : Fin 96) (hiBer : Bool) (s : State) : Res :=
  let s := if s.isEthernet n then (s.setAlign n { s.align n with hiBer := hiBer }).lineFault n hiBer else s
  .next ((s.blockWindow n).syncAlign n)

/-- ALIGNMENT_MARKER_LOCK (R114): an Ethernet lane with RS-FEC gains or loses alignment-marker lock; its loss is the loss of
block lock. -/
def execAlignmentMarkerLock (n : Fin 96) (locked hiBer : Bool) (s : State) : Res :=
  if !s.acquires n ∨ !s.isEthernet n ∨ (s.lane n).fec % 4 = 0 then .next s
  else
    let s := (s.setAlign n { s.align n with amLock := locked, hiBer := hiBer }).lineFault n hiBer
    if locked then .next (s.syncAlign n) else .next (s.loseBlockLock n)

/-! Word alignment. -/

/-- COMMA_DETECT (R58): a pattern found at offset `pos` of its unit. -/
def execCommaDetect (n : Fin 96) (pos : BitVec 7) (s : State) : Res :=
  if !s.acquires n then .next s
  else .next ((s.wr R.LANE_ALIGN.word_pos n (pos.toNat % s.unitLen n)).wr R.LANE_ALIGN.pos_valid n 1)

/-- PATTERN_WINDOW_EXPIRY (R58): 16,384 shell words without a pattern clear pos_valid. -/
def execPatternWindowExpiry (n : Fin 96) (s : State) : Res := .next (s.wr R.LANE_ALIGN.pos_valid n 0)

/-- SLIP (R59, R57): master `m` writes slip. A slip of the steward's own search counts towards the slips it has to make
(R60); one of any other master is performed like any other (R61). -/
def execSlip (m : Fin 8) (n : Fin 96) (s : State) : Res :=
  if !s.reaches m then .next s
  else
    let s := s.laneWrite n 0x160 0x100
    let a := s.align n
    match a.search with
    | .slips k =>
      if m.val = s.steward + 1 then
        .next (s.setAlign n { a with search := if k ≤ 1 then .await true else .slips (k - 1) })
      else .next s
    | _ => .next s

/-- The program of the lane's channel declares 8B/10B or raw alignment (R60). -/
def State.bitSlipLane (s : State) (n : Nat) : Bool :=
  (s.prog (s.chan n) 0).any (fun p => p.align ≠ .blocks)

/-- BITSLIP_SEARCH_START (R60): the steward starts the search on a lane in TRACK whose program declares 8B/10B or raw
alignment. -/
def execBitslipSearchStart (n : Fin 96) (s : State) : Res :=
  if s.stewardActs ∧ s.laneState n = 2 ∧ s.rxState n = 2 ∧ s.bitSlipLane n ∧ (s.align n).search = .idle then
    .next (s.setAlign n { s.align n with search := .await false })
  else .next s

/-- PATTERN_WAIT_TIMEOUT (R60): 10 ms without pos_valid: the first wait of an attempt reports no_pattern, the wait after
slips starts the attempt over. -/
def execPatternWaitTimeout (n : Fin 96) (s : State) : Res :=
  if !s.stewardActs ∨ s.on R.LANE_ALIGN.pos_valid n then .next s
  else
    match (s.align n).search with
    | .await false => .next (s.report 8 0 n 0)
    | .await true => .next (s.setAlign n { s.align n with search := .await false })
    | _ => .next s

/-- ALIGN_CONFIRM_READ (R60): a read of LANE_ALIGN by the search. With a pattern off the boundary in the first wait the
steward has word_pos slips to write; three good reads, 100 µs apart, report the lane aligned; a bad read starts over. -/
def execAlignConfirmRead (n : Fin 96) (s : State) : Res :=
  if !s.stewardActs then .next s
  else
    let a := s.align n
    let valid := s.on R.LANE_ALIGN.pos_valid n
    let p := s.rd R.LANE_ALIGN.word_pos n
    match a.search with
    | .await false =>
      if !valid then .next s
      else if p = 0 then .next (s.setAlign n { a with search := .confirm 1 })
      else .next (s.setAlign n { a with search := .slips p })
    | .await true =>
      if !valid then .next s
      else if p = 0 then .next (s.setAlign n { a with search := .confirm 1 })
      else .next (s.setAlign n { a with search := .await false })
    | .confirm k =>
      if valid ∧ p = 0 then
        if k < 2 then .next (s.setAlign n { a with search := .confirm (k + 1) })
        else .next ((s.setAlign n { a with search := .aligned 0 }).report 8 1 n (s.rd R.LANE_ALIGN.slip_cnt n))
      else .next (s.setAlign n { a with search := .await false })
    | _ => .next s

/-- ALIGN_MONITOR_READ (R60): the 1 ms read of an aligned lane; two in a row with a pattern off the boundary report
alignment lost and start the search again. -/
def execAlignMonitorRead (n : Fin 96) (s : State) : Res :=
  let a := s.align n
  match a.search with
  | .aligned bad =>
    if !s.stewardActs then .next s
    else if s.on R.LANE_ALIGN.pos_valid n ∧ s.rd R.LANE_ALIGN.word_pos n ≠ 0 then
      if bad = 0 then .next (s.setAlign n { a with search := .aligned 1 })
      else .next (((s.setAlign n { a with search := .await false }).hfHunt n).report 8 2 n 0)
    else .next (s.setAlign n { a with search := .aligned 0 })
  | _ => .next s

/-! Loops and PRBS. -/

/-- LANE_TEST_WRITE (R63, R67, R68): master `m` writes LANE_TEST; R24 refuses it in the pair roles. -/
def execLaneTestWrite (m : Fin 8) (n : Fin 96) (loop : BitVec 2) (gen chk : BitVec 3) (s : State) : Res :=
  .next (s.asMaster m (·.pairGate m (·.laneWrite n 0x164 (loop.toNat + 4 * gen.toNat + 32 * chk.toNat))))

/-- FAR_END_LOOP_START (R64): with loop 3 and the receiver in TRACK, the elastic queue is centred and RX words are
retransmitted. -/
def execFarEndLoopStart (n : Fin 96) (s : State) : Res :=
  if s.testMode ∧ s.laneState n = 2 ∧ s.rxState n = 2 ∧ s.rd R.LANE_TEST.loop n = 3 then
    .next (s.setAlign n { s.align n with farEnd := true })
  else .next s

/-- PRBS_CHK_WRITE (R68): master `m` writes prbs_chk; loop and prbs_gen keep their values. -/
def execPrbsChkWrite (m : Fin 8) (n : Fin 96) (chk : BitVec 3) (s : State) : Res :=
  .next (s.asMaster m (·.pairGate m (·.laneWrite n 0x164
    (s.rd R.LANE_TEST.loop n + 4 * s.rd R.LANE_TEST.prbs_gen n + 32 * chk.toNat))))

/-- PRBS_CHECK_WINDOW (R68, R65): `bits` consecutive received bits of which `mism` do not match the prediction. Without sync,
128 matching bits in a row gain it and nothing is counted; with sync every mismatch counts, and 256 in 1,024 bits lose
sync. No word reaches the checker of a lane whose receiver is stopped. -/
def execPrbsCheckWindow (n : Fin 96) (bits mism : BitVec 11) (s : State) : Res :=
  let runs := s.laneState n = 2 ∨ (s.laneState n = 5 ∧ ¬ (s.lane n).rxStopped)
  if ¬ runs ∨ s.rd R.LANE_TEST.prbs_chk n = 0 then .next s
  else
    let a := s.align n
    if s.on R.LANE_TEST.prbs_sync n then
      let s := s.bumpSat R.LANE_PRBS_ERR.errors n mism.toNat
      if bits.toNat = 1024 ∧ 256 ≤ mism.toNat then
        .next ((s.wr R.LANE_TEST.prbs_sync n 0).setAlign n { a with chkRun := 0 })
      else .next s
    else
      let run := if mism = 0 then a.chkRun + bits.toNat else 0
      if 128 ≤ run then .next ((s.wr R.LANE_TEST.prbs_sync n 1).setAlign n { a with chkRun := 0 })
      else .next (s.setAlign n { a with chkRun := run })

end Sys2Proof.Machine
end

