-- ==== Sys2Proof/Machine/Vtf.lean ====
section
/-! DEFINITION. The meanings of the transport-frame events (chapter 4, R168, R295, R314): sending a frame, the frame search,
frame and multiframe alignment, identity and bonding, and the overhead channels received. -/
namespace Sys2Proof.Machine

/-! Sending. -/

/-- The lane's TX carries frames: ACTIVE, or fenced with safe data (R49), with a VTF program whose framing works. -/
def State.sendsFrames (s : State) (n : Nat) : Bool :=
  let c := s.chan n
  s.running && s.carriesVtf c && !s.framingFenced c && (s.rateCode c).isSome &&
    (s.laneState n == 2 || (s.laneState n == 5 && s.on R.LANE_STATE.tx_locked n && (s.lane n).rate != 0))

/-- The reference instant of the frame in 2^-16 ns: the nominal instant minus δ (R77, R75), rounded down. -/
def State.refInstant (s : State) (rc : Nat) : Nat :=
  let k := s.frame * rateF rc % 5140
  let delta := match rc with
    | 0 => 0
    | 1 => k * 140 * 2500 * 65536 * 514 / (5140 * 528 * rateF rc)
    | _ => k * 300 * 2500 * 65536 * 514 / (5140 * 544 * rateF rc)
  s.time - delta

/-- A time in 2^-16 ns as the 96-bit timestamp of R85. -/
def stampOf (t : Nat) : Nat := t / (10 ^ 9 * 2 ^ 16) % 2 ^ 48 * 2 ^ 48 + t % (10 ^ 9 * 2 ^ 16)

/-- The 2^-16 ns count of a 96-bit timestamp. -/
def ofStamp (v : Nat) : Nat := v / 2 ^ 48 * (10 ^ 9 * 2 ^ 16) + v % 2 ^ 48

/-- A set defect of the channel that is lane `n`'s own (R182): any of an unbonded channel, and on a bond one whose raw condition
the lane holds, or that no lane holds any more or that is of the bond itself. -/
def State.ownDefect (s : State) (n k : Nat) : Bool :=
  let c := s.chan n
  bitField (s.defs c) k 1 == 1 &&
    ((s.lane n).width != 4 || s.laneRaw n k || !(s.chanLanes c).any (fun m => s.laneRaw m k))

/-- rdi of a lane: a defect of it with "yes" in the rdi column of Table 7.3 is set, or dTIM while tim_act is 1 (R182). -/
def State.rdi (s : State) (n : Nat) : Bool :=
  let c := s.chan n
  [0, 1, 2, 4, 5, 6].any (fun k => s.ownDefect n k) || (s.runs c 2 7 && s.pw c 2 36 == 1 && s.ownDefect n 7)

/-- The four words TC0 to TC3 of the timing message of this frame (R85 to R87), and what sending it changes. -/
def State.timingSend (s : State) (n rc : Nat) : List Nat × State :=
  let c := s.chan n
  let f := s.frame % 400
  let ((ql, hops, hold, tt, ft), s) := s.timeFields
  let tx := stampOf (s.refInstant rc)
  let mk := fun (type seq hi : Nat) =>
    let tc0 := tx % 2 ^ 64
    let tc1 := tx / 2 ^ 64 + hi % 2 ^ 32 * 2 ^ 32
    let tc2 := hi / 2 ^ 32
    let tc3 := type * 2 ^ 36 + ql % 16 * 2 ^ 32 + seq % 2 ^ 16 * 2 ^ 16 + hops % 256 * 2 ^ 8 + bit hold * 2 ^ 7
      + bit tt * 2 ^ 6 + bit ft * 2 ^ 5
    [tc0, tc1, tc2, tc3 + crc16 [tc0, tc1, tc2] tc3 * 2 ^ 48]
  let x := s.vtf n
  if s.pw c 0 14 = 0 then (mk 0 0 0, s)
  else if f = 0 ∨ f = 300 then (mk 1 0 0, s)
  else if f = 100 then
    (mk 2 x.dlySeq 0,
     s.setVtf n { x with dlySeq := (x.dlySeq + 1) % 2 ^ 16,
                         dlySent := (x.dlySeq, s.refInstant rc) :: x.dlySent.filter (fun e => e.1 != x.dlySeq) })
  else if f = 200 then
    match x.dlyReqs.find? (fun r => decide (r.tRx + 10000 * 2 ^ 16 ≤ s.time)) with
    | some r => (mk 3 r.seq (stampOf r.tRx), s.setVtf n { x with dlyReqs := x.dlyReqs.takeWhile (· != r) })
    | none => (mk 0 0 0, s)
  else (mk 0 0 0, s)

/-- The byte stream that advertises a TX copy (R167). -/
def State.advStream (s : State) (c dir copy : Nat) : List Nat :=
  let sl := s.slots c
  let rc := match s.rateCode c with | some r => r | none => 0
  [sl % 256, sl / 256, rc, 0, 0, 0, 0, 0] ++ (upTo (fun i => leBytes 4 (s.cal c dir copy i)) sl).flatten

/-- Segments of a copy (R167). -/
def segCount (slots : Nat) : Nat := (8 + 4 * slots + 55) / 56

/-- Segment `k` of a stream as the words CA1 to CA7 (R167). -/
def advWords (stream : List Nat) (k : Nat) : List Nat :=
  let bs := (stream.drop (56 * k)).take 56
  bytesToWords (bs ++ List.replicate (56 - bs.length) 0)

/-- The words CA0 to CA7 of this frame (R88). -/
def State.advSend (s : State) (c : Nat) : List Nat :=
  let f := s.frame % 400
  let copy := if f < 200 then 0 else 1
  let n := segCount (s.slots c)
  let k := f % 200 % n
  let x := s.chanX c
  let ca0 := k * 2 ^ 40 + n % 256 * 2 ^ 32 + (if copy = 0 then x.genA else x.genB) % 256 * 2 ^ 24 + copy * 2 ^ 23
    + bit (x.txSel == copy) * 2 ^ 22
  let body := advWords (s.advStream c 0 copy) k
  (ca0 + crc16ca ca0 body * 2 ^ 48) :: body

/-- The nonce of an MCC cell (Table 4.14). -/
def mccNonce (node lane wrap sfn subframe frameNo epoch : Nat) : Nat :=
  node * 2 ^ 78 + lane * 2 ^ 71 + wrap * 2 ^ 39 + sfn * 2 ^ 29 + subframe * 2 ^ 25 + frameNo * 2 ^ 16 + epoch

/-- The additional authenticated data of a cell: MC0 as sent, the body un-inverted, MC11[63:32] (R106). -/
def mccAad (mc0 : Nat) (body : List Nat) (wrap : Nat) : List Nat :=
  leBytes 8 mc0 ++ (body.map (leBytes 8)).flatten ++ leBytes 4 wrap

/-- The words MC0 to MC15 of a cell (Table 4.13) from its bytes and header fields; `tag` is 0 without authentication. -/
def mccCell (lane : Nat) (auth som eom : Bool) (bytes : List Nat) (epoch seq wrap : Nat) (tag : Nat → List Nat → Nat) :
    List Nat :=
  let body := bytesToWords (bytes ++ List.replicate (64 - bytes.length) 0)
  let esc := sumUpTo (fun i => if body.getD i 0 = fasWord then 2 ^ i else 0) 8
  let mc0 := esc * 2 ^ 56 + lane * 2 ^ 48 + bit auth * 2 ^ 47 + bit som * 2 ^ 46 + bit eom * 2 ^ 45
    + bytes.length * 2 ^ 32 + epoch % 2 ^ 16 * 2 ^ 16 + seq % 2 ^ 16
  let sent := body.map (fun v => if v = fasWord then 2 ^ 64 - 1 - v else v)
  let t := if auth then tag mc0 body else 0
  let ws := mc0 :: sent ++ [t / 2 ^ 64 % 2 ^ 64, t % 2 ^ 64]
  ws ++ [wrap % 2 ^ 32 * 2 ^ 32 + crc32mc ws (wrap % 2 ^ 32), 0, 0, 0, 0]

/-- The MCC message that the channel takes next from its Weaver's FIFO 3: the item's bytes, when its channel is this one
(R108, R251). -/
def State.mccTake (s : State) (c : Nat) : Option (List Nat) × State :=
  match (s.fifo (c / 4) 3).words with
  | [] => (none, s)
  | w :: _ =>
    if bitField w.toNat 21 7 ≠ c then (none, s)
    else match s.takeItem (c / 4) 3 with
      | (some (h :: ws), s) => (some (((ws.map (fun w => leBytes 4 w.toNat)).flatten).take (h.toNat % 2 ^ 13)), s)
      | (_, s) => (none, s)

/-- The key that lane `n` sends its cells under: the current entry of the channel's slot (R384). -/
def State.mccKey (s : State) (n : Nat) : Option KeyEntry := (Tab.get KeySlot.init s.skeys (s.pw (s.chan n) 0 17)).cur

/-- One MCC cell of lane `n` in this frame, authenticated when mcc_auth is 1 (R104 to R106); without a current key the tag is
free. -/
def State.mccCellOf (s : State) (n : Nat) (som eom : Bool) (bytes : List Nat) : List Nat × State :=
  let c := s.chan n
  let x := s.vtf n
  let auth := s.pw c 0 16 == 1
  let p := FramePos.ofG s.frame
  match auth, s.mccKey n with
  | true, some k =>
    (mccCell n true som eom bytes k.epoch x.mccSeq x.mccWrap (fun mc0 body =>
      (Config.gcmTag k.key (mccNonce (s.pw c 0 8) n x.mccWrap p.sfn p.subframe p.frameNo k.epoch)
        (mccAad mc0 body x.mccWrap)).toNat), s)
  | true, none =>
    let (f, s) := s.fresh 128
    (mccCell n true som eom bytes 0 x.mccSeq x.mccWrap (fun _ _ => f), s)
  | false, _ => (mccCell n false som eom bytes 0 x.mccSeq x.mccWrap (fun _ _ => 0), s)

/-- The MCC cell of this frame on lane `n` (R104 to R106), and what sending it changes: an empty cell when there is nothing to
send, when mcc_en is 0 and on the lanes 1 to 3 of a bond. -/
def State.mccSend (s : State) (n : Nat) : List Nat × State :=
  let c := s.chan n
  if n ≠ c ∨ s.pw c 0 15 = 0 then s.mccCellOf n false false []
  else
    let x := s.vtf n
    let (x, s) :=
      if x.mccTx.isEmpty then
        match s.mccTake c with
        | (some bs, s) => ({ x with mccTx := bs, mccStart := true }, s)
        | (none, s) => (x, s)
      else (x, s)
    let s := s.setVtf n x
    if x.mccTx.isEmpty then s.mccCellOf n false false []
    else
      let rest := x.mccTx.drop 64
      let (ws, s) := s.mccCellOf n x.mccStart rest.isEmpty (x.mccTx.take 64)
      (ws, (s.setVtf n { x with mccTx := rest, mccStart := false, mccSeq := (x.mccSeq + 1) % 2 ^ 16 }).countC c 9 1)

/-- VTF_FRAME_SEND (R69 to R91, R313): lane `n` sends the frame of the present number. -/
def execVtfFrameSend (n : Fin 96) (s : State) : Res :=
  let c := s.chan n
  match s.rateCode c with
  | none => .next s
  | some rc =>
    if !s.sendsFrames n then .next s
    else
      let p := FramePos.ofG s.frame
      let k := if rc = 4 then n - c else 0
      let cal := calibrationFrame s.mode s.frame
      let s := if n.val = c ∧ !cal then s.fillTrunks c else s
      let ais := s.laneState n == 5 || (s.testMode && s.runs c 2 7 && s.pw c 2 38 == 1)
      let x := s.vtf n
      let plain := (upTo (fun row => upTo (fun col =>
        if ais then 2 ^ 64 - 1 else if cal then 0 else Tab.get 0 x.txPayload (256 * row + col)) (rateS rc)) 20).flatten
      let payload := if s.unitSet n 4 0 1 1 = 1 then
          scrambleWords (scrambleSeed p.sfn p.subframe p.frameNo (s.unitSet n 4 1 2 k)) plain else plain
      let fiw : Fiw := { nodeId := s.pw c 0 8, laneInBond := k, bonded := rc == 4, calSel := (s.chanX c).txSel,
                         rateCode := rc, subframe := p.subframe, sfn := p.sfn, calCnt := s.calCnt c, calf := cal,
                         frameNo := p.frameNo }
      let mwr := bit ais * 2 ^ 13 + bit (s.rdi n) * 2 ^ 12 + (match x.rei with | some r => min r 8 | none => 0) * 2 ^ 8
        + x.txBip
      let epoch := (s.mccKey n).map (·.epoch)
      let s := s.setVtf n { x with txBip := bip8 payload, rei := none, txPayload := [],
                                   mccEpoch := epoch,
                                   mccWrap := if epoch = x.mccEpoch then x.mccWrap + bit (decide (s.frame % 4096000 = 0)) else 0 }
      let (aps, s) := if k = 0 then s.apsSend c else (0, s)
      let (tc, s) := s.timingSend n rc
      let ca := s.advSend c
      let (mc, s) := s.mccSend n
      let overhead := [fasWord, fiw.word, mwr, aps] ++ tc ++ ca ++ mc ++ List.replicate 8 0
      .next ((s.emit (.vtfFrame n overhead payload)).syncCal c)

/-! The bond (R101, R102). -/

/-- Frames in the cycle of frame positions, and the index of a position in it. -/
def posCycle : Nat := 4096000
def FramePos.index (p : FramePos) : Nat := p.sfn * 4000 + p.subframe * 400 + p.frameNo

/-- The arrival on lane `n`, referred to the frame position that lane `m` last received. -/
def State.alignedArrival (s : State) (m n : Nat) : Int :=
  let d := ((s.vtf n).expect.index + posCycle - (s.vtf m).expect.index) % posCycle
  let d : Int := if d < posCycle / 2 then d else (d : Int) - posCycle
  (s.vtf n).tRx - d * (2500 * 65536)

/-- The skew of the quad's lanes in blocks of 0.625 ns, rounded up (R101). -/
def State.skew (s : State) (c : Nat) : Nat :=
  let as := upTo (fun i => s.alignedArrival c (c + i)) 4
  let hi := as.foldl max (s.alignedArrival c c)
  let lo := as.foldl min (s.alignedArrival c c)
  ((hi - lo).toNat + 40959) / 40960

/-- The identities of the four lanes allow a bond. -/
def State.bondIds (s : State) (c : Nat) : Bool :=
  let ls := upTo (fun i => c + i) 4
  ls.all (fun n => (s.vtf n).fiwBonded && (s.vtf n).fiwRate == 4 && (s.vtf n).fiwNode == (s.vtf c).fiwNode)
    && (upTo id 4).all (fun k => ls.any (fun n => (s.vtf n).fiwLane == k))

/-- The bond of a VTF-400 channel formed, kept or lost, and the skew shown. -/
def State.judgeBond (s : State) (c : Nat) : State :=
  if (s.lane c).width ≠ 4 then s
  else
    let sync := (upTo (fun i => c + i) 4).all (fun n => (s.vtf n).mfSync)
    let skew := s.skew c
    let s := if sync then s.wr R.QUAD_BOND.skew (c / 4) (min skew 127) else s
    s.wr R.QUAD_BOND.bond (c / 4) (if sync && s.bondIds c && decide (skew ≤ 64) then 4 else 0)

/-! Frame and multiframe alignment. -/

/-- The RX copy in force (R89): a tributary that only the new copy holds starts with a recentre of its demapper (R171). -/
def State.setRxSel (s : State) (c sel : Nat) : State :=
  let old := s.tribsIn c 1 (s.chanX c).rxSel
  let new := s.tribsIn c 1 sel
  let s := (s.setChanX c { s.chanX c with rxSel := sel }).syncCal c
  new.foldl (fun s e => if old.contains e then s else s.recentre e.1 c) s

/-- MF_SYNC entered with the frame identity of the present frame (R94, R96): the copy in force is its cal_sel (R89), and the
first frame is not checked for BIP-8 (R82). -/
def State.enterSync (s : State) (n : Nat) (f : Fiw) : State :=
  let c := s.chan n
  let p : FramePos := ⟨f.sfn, f.subframe, f.frameNo⟩
  let s := s.setVtf n { s.vtf n with mfSync := true, expect := p.succ, mfBad := 0, rxBip := none, lastFiw := some p }
  let s := s.setBip n { s.bip n with count := 0, whole := false }
  if n = c then s.setRxSel c f.calSel else s

/-- MF_SYNC left (R96): a pending calendar target and the capture bias go with it (R89, R295), the BIP-8 window is incomplete
(R180), and a bond over the lane is lost (R102). -/
def State.leaveSync (s : State) (n : Nat) : State :=
  let s := s.setVtf n { s.vtf n with mfSync := false, calTarget := none, rxBip := none, mfBad := 0, calDiffs := [], bias := 0,
                                     lastFiw := none, rateMis := false, idMis := false, calMis := false }
  ((s.setBip n { s.bip n with whole := false }).dropBond n).syncAlign n

/-- The identity checks of R98 on a valid FIW, and what it shows kept. -/
def State.checkIdentity (s : State) (n : Nat) (f : Fiw) : State :=
  let c := s.chan n
  let bonded := (s.lane n).width == 4
  let nodeMis := s.pw c 0 10 == 1 && f.nodeId != s.pw c 0 9
  let laneMis := if bonded then !f.bonded else f.bonded || f.laneInBond != 0
  let x := s.vtf n
  s.setVtf n { x with fiwNode := f.nodeId, fiwLane := f.laneInBond, fiwBonded := f.bonded, fiwRate := f.rateCode,
                      rateMis := s.rateCode c != some f.rateCode, idMis := nodeMis || laneMis }

/-- Blocks in a frame of lane `n`. -/
def State.frameBlocks (s : State) (n : Nat) : Nat :=
  match s.rateCode (s.chan n) with | some rc => 20 * rateB rc | none => 4000

/-- FAS_SEARCH_MATCH (R92 to R95): block `p` of the received stream equals FAS and block `p + 1` holds `fiw`. A candidate
whose next position has passed was missed; one that expects `p` hits or is dropped; a match that none expects, or that is
not the successor, makes a new candidate while fewer than four are tracked. At N hits in HUNT the lane is frame-aligned
and in MF_SYNC at once. -/
def execFasSearchMatch (n : Fin 96) (p : BitVec 64) (fiw : BitVec 64) (s : State) : Res :=
  let c := s.chan n
  let x := s.vtf n
  match fiwOf fiw.toNat with
  | none => .next s
  | some f =>
    if !s.acquires n ∨ !s.carriesVtf c ∨ !(s.align n).blLock ∨ x.fasAt = some p.toNat then .next s
    else
      let pos : FramePos := ⟨f.sfn, f.subframe, f.frameNo⟩
      let len := s.frameBlocks n
      let live := x.cands.filter (fun k => decide (p.toNat ≤ k.next))
      let hit := live.find? (fun k => k.next == p.toNat && decide (k.pos.succ = pos))
      let rest := live.filter (fun k => k.next != p.toNat)
      match hit with
      | some k =>
        let k' : Cand := { count := k.count + 1, next := p.toNat + len, pos := pos }
        if x.fasAt = none ∧ s.fasN n ≤ k'.count then
          let s := s.setVtf n { x with fasAt := some (p.toNat + len), fasBad := 0, cands := [] }
          let s := (s.enterSync n f).checkIdentity n f
          .next ((s.syncAlign n).judgeBond c)
        else
          .next (s.setVtf n { x with cands := live.map (fun j => if j.next = p.toNat then k' else j) })
      | none =>
        if rest.length < 4 then
          .next (s.setVtf n { x with cands := rest ++ [{ count := 1, next := p.toNat + len, pos := pos }] })
        else .next ((s.setVtf n { x with cands := rest, candOvf := x.candOvf + 1 }).bumpPw c 0 21)

/-- EXPECTED_FAS_CHECK (R95): the block at the expected FAS position was correct or errored. M errored ones in a row lose
frame alignment, or move it to the best shadow candidate of N or more hits; MF_SYNC is lost with it (R96). -/
def execExpectedFasCheck (n : Fin 96) (good : Bool) (s : State) : Res :=
  let x := s.vtf n
  match x.fasAt with
  | none => .next s
  | some p =>
    let next := some (p + s.frameBlocks n)
    if good then .next (s.setVtf n { x with fasAt := next, fasBad := 0 })
    else if x.fasBad + 1 < s.fasM n then .next (s.setVtf n { x with fasAt := next, fasBad := x.fasBad + 1 })
    else
      let live := x.cands.filter (fun k => decide (p < k.next))
      let best := live.foldl (fun b k => match b with
        | some (j : Cand) => if j.count < k.count then some k else b
        | none => if s.fasN n ≤ k.count then some k else none) (none : Option Cand)
      match best with
      | some k =>
        let s := s.setVtf n { x with fasAt := some k.next, fasBad := 0, cands := [] }
        let s := s.leaveSync n
        .next ((s.setVtf n { s.vtf n with lastFiw := some k.pos }).syncAlign n)
      | none => .next (((s.setVtf n { x with fasAt := none, fasBad := 0, cands := live }).leaveSync n).syncAlign n)

/-- The calendar fields of a valid FIW on a channel's lowest lane (R89): a disagreement is followed and counts as a calendar
mismatch; an announcement sets the target. -/
def State.fiwCalendar (s : State) (n : Nat) (f : Fiw) : State :=
  let c := s.chan n
  if n ≠ c then s
  else
    let mis := f.calSel != (s.chanX c).rxSel
    let s := if mis then s.setRxSel c f.calSel else s
    let x := s.vtf n
    s.setVtf n { x with calMis := x.calMis || mis,
                        calTarget := if f.calCnt = 0 then x.calTarget
                                     else some (400 - f.frameNo + 400 * (f.calCnt - 1)) }

/-- The receiver's calendar switch: the other copy comes in force (R89). -/
def State.rxSwitch (s : State) (c : Nat) : State :=
  (s.setVtf c { s.vtf c with calTarget := none }).setRxSel c (1 - (s.chanX c).rxSel)

/-- FIW_RECEIVE (R96, R98, R101, R89, R109): the word in row 0 block 1 of a frame of a frame-aligned lane, with the frame's
arrival at the RX reference point. -/
def execFiwReceive (n : Fin 96) (v : BitVec 64) (arrival : BitVec 96) (s : State) : Res :=
  let c := s.chan n
  let x := s.vtf n
  if x.fasAt = none ∨ !s.carriesVtf c then .next s
  else
    let fiw := fiwOf v.toNat
    let s := if fiw.isNone then s.countC c 5 1 else s
    let x := { x with tRx := ((arrival.toNat : Int) - s.rd R.LANE_DLY_RX.delay n * 256 - x.bias).toNat }
    if x.mfSync then
      let here := x.expect
      let scheduled := here.frameNo == 399 && here.subframe % 2 == 1
      let cal := match fiw with | some f => f.calf | none => scheduled && x.fiwSundial
      let sundial := match fiw with | some f => if scheduled then f.calf else x.fiwSundial | none => x.fiwSundial
      let s := s.setVtf n { x with expect := here.succ, rxCal := cal, fiwSundial := sundial,
                                   calTarget := x.calTarget.map (· - 1) }
      let s := s.countC c 0 1
      let s := if n.val = c ∧ (s.vtf n).calTarget = some 0 then s.rxSwitch c else s
      let good := match fiw with | some f => decide ((⟨f.sfn, f.subframe, f.frameNo⟩ : FramePos) = here) | none => false
      let s := match fiw with | some f => (s.checkIdentity n f).fiwCalendar n f | none => s
      let s :=
        if good then s.setVtf n { s.vtf n with mfBad := 0 }
        else if (s.vtf n).mfBad + 1 < s.mfM n then s.setVtf n { s.vtf n with mfBad := (s.vtf n).mfBad + 1 }
        else s.leaveSync n
      .next (s.judgeBond c)
    else
      match fiw with
      | none => .next (s.setVtf n { x with lastFiw := none })
      | some f =>
        let p : FramePos := ⟨f.sfn, f.subframe, f.frameNo⟩
        let s := s.setVtf n x
        let s := s.checkIdentity n f
        if x.lastFiw.any (fun l => decide (l.succ = p)) then .next (((s.enterSync n f).syncAlign n).judgeBond c)
        else .next (s.setVtf n { s.vtf n with lastFiw := some p })

/-- RX_CALENDAR_SWITCH (R89): the announced target frame 0 is reached in MF_SYNC, whether or not its FIW is valid. -/
def execRxCalendarSwitch (n : Fin 96) (s : State) : Res :=
  let c := s.chan n
  if (s.vtf c).mfSync ∧ ((s.vtf c).calTarget = some 0 ∨ (s.vtf c).calTarget = some 1) then .next (s.rxSwitch c)
  else .next s

/-! Overhead received. -/

/-- MWR_RECEIVE (R82, R180): the maintenance word of a frame, and the BIP-8 of the payload received in that frame. The
previous frame's parity is compared with bip8; the violations are counted and sent back as rei. -/
def execMwrReceive (n : Fin 96) (v : BitVec 64) (payloadBip : BitVec 8) (s : State) : Res :=
  let c := s.chan n
  let x := s.vtf n
  if !x.mfSync then .next s
  else
    let w := v.toNat
    let x' := { x with rxRei := bitField w 8 4, rxRdi := bitField w 12 1 == 1, rxAis := bitField w 13 1 == 1,
                       rxBip := some payloadBip.toNat }
    let s := s.countC c 2 (bitField w 8 4)
    match (if s.unitSet n 3 0 1 1 = 1 then x.rxBip else none) with
    | none => .next (s.setVtf n x')
    | some b =>
      let viol := popcount 8 (b ^^^ w % 256)
      let s := s.countC c 1 viol
      let s := if viol = 0 then s else s.countC c 3 1
      let s := s.setBip n { s.bip n with count := (s.bip n).count + viol }
      .next (s.setVtf n { x' with rei := some viol, lastViol := viol, checked := true })

/-- One path-delay measurement (R294): taken into the mean of the last 16, or rejected when it lies more than 2 ns from it;
after 16 rejections in a row the mean restarts with the next. -/
def State.takeDelay (s : State) (d : Int) : State :=
  let b := s.bell
  let n := b.delays.length
  let total := b.delays.foldl (· + ·) 0
  if n = 0 ∨ 16 ≤ b.rejects then { s with bell := { b with delays := [d], rejects := 0 } }
  else if (d * n - total).natAbs ≤ 2 * 65536 * n then
    { s with bell := { b with delays := (d :: b.delays).take 16, rejects := 0 } }
  else ({ s with bell := { b with rejects := b.rejects + 1 } } : State).bellEvent R.BELL_EVENT.dly_reject 17
    (s.reg 0x10214).toNat

/-- asym_n in 2^-16 ns (BELL_ASYM_n). -/
def State.asym (s : State) (n : Nat) : Int := signedOf 24 (s.rd R.BELL_ASYM_n.asym n) * 256

/-- An observation of the VTF time source (R294): θ judged against DPLL1's filtered offset; the third in a row more than
100 ns away fails the candidate's time. The frame lag is recorded. -/
def State.observe (s : State) (n tTx : Nat) (filtered : Int) : State :=
  let b := s.bell
  let x := s.vtf n
  let lag := ((s.frame % posCycle + posCycle + posCycle - x.expect.index + 1) % posCycle)
  let lag : Int := if lag < posCycle / 2 then lag else (lag : Int) - posCycle
  let s := s.wr R.BELL_VTF_LAG.vtf_lag 0 (patternOf 32 lag)
  match b.delays with
  | [] => s
  | ds =>
    let d := ds.foldl (· + ·) 0 / (ds.length : Int)
    let theta := (x.tRx : Int) - tTx - (d + s.asym n)
    let r := s.refx 17
    let bad := decide (100 * 65536 < (theta - filtered).natAbs)
    let run := if bad then r.timeBad + 1 else 0
    let s := { s with bell := { s.bell with theta := theta } }
    if 3 ≤ run then s.failTime 17 else s.setRefx 17 { r with timeBad := run }

/-- TIMING_MESSAGE_RECEIVE (R85 to R87, R294): one timing message, with DPLL1's filtered offset in 2^-16 ns. A message that
fails its CRC-16 is counted; ts_en at 0 and reserved types are ignored. -/
def execTimingMessageReceive (n : Fin 96) (tc0 tc1 tc2 tc3 : BitVec 64) (filtered : BitVec 64) (s : State) : Res :=
  let c := s.chan n
  let x := s.vtf n
  if !x.mfSync ∨ s.pw c 0 14 = 0 then .next s
  else
    let h := tc3.toNat
    if bitField h 48 16 ≠ crc16 [tc0.toNat, tc1.toNat, tc2.toNat] h then .next (s.countC c 6 1)
    else
      let type := bitField h 36 4
      if 3 < type then .next s
      else
        let s := { s with bell := { s.bell with laneQl := Tab.put 0 s.bell.laneQl n (bitField h 32 4) } }
        let tTx := ofStamp (tc0.toNat + tc1.toNat % 2 ^ 32 * 2 ^ 64)
        let t2 := ofStamp (tc1.toNat / 2 ^ 32 + tc2.toNat * 2 ^ 32)
        let src := s.rd R.BELL_TIMESRC.vtf_lane 0 == n.val
        if type = 1 then
          if !src then .next s.bellShow
          else
            let s := { s with bell := { s.bell with rxHops := bitField h 8 8, rxTrace := bitField h 6 1 == 1 } }
            .next (s.observe n tTx (signedOf 64 filtered.toNat)).bellShow
        else if type = 2 then
          .next (s.setVtf n { x with dlyReqs := ({ seq := bitField h 16 16, tRx := x.tRx } :: x.dlyReqs).take 2 }).bellShow
        else if type = 3 then
          match x.dlySent.find? (fun e => e.1 == bitField h 16 16) with
          | none => .next s.bellShow
          | some (q, t1) =>
            let s := s.setVtf n { x with dlySent := x.dlySent.filter (fun e => e.1 != q) }
            if src then .next (s.takeDelay ((((t2 : Int) - t1) + ((x.tRx : Int) - tTx)) / 2)).bellShow
            else .next s.bellShow
        else .next s.bellShow

/-- Lexicographic comparison of the replay keys of R107. -/
def keyLt : List Nat → List Nat → Bool
  | a :: s, b :: t => decide (a < b) || (a == b && keyLt s t)
  | _, _ => false

/-- A message assembled from MCC cells goes to the Weaver's MCC receive FIFO with its header word (R108, R251). A message
for which the FIFO has no room is discarded, as R365 has it for items. -/
def State.mccDeliver (s : State) (c : Nat) (bytes : List Nat) : State :=
  let h : W32 := BitVec.ofNat 32 (3 * 2 ^ 28 + c * 2 ^ 21 + bytes.length)
  match s.pushItem (c / 4) 2 (h :: bytesToW32 bytes) with
  | some s => s
  | none => s.wr (R.WVR_FIFO_STAT_f.overflow (c / 4)) 2 1

/-- An accepted non-empty cell assembled into its message (R108). -/
def State.mccAssemble (s : State) (n : Nat) (som eom : Bool) (seq : Nat) (bytes : List Nat) : State :=
  let c := s.chan n
  let x := s.vtf n
  let gap := x.mccRxSeq.any (fun p => (p + 1) % 2 ^ 16 != seq)
  let x := { x with mccRxSeq := some seq }
  let errs := bit (gap && x.mccRx.isSome)
  let part := if gap then none else x.mccRx
  let (part, errs) :=
    match part, som with
    | some _, true => (some bytes, errs + 1)
    | some p, false => (some (p ++ bytes), errs)
    | none, true => (some bytes, errs)
    | none, false => (none, errs + 1)
  let (part, errs) := match part with
    | some p => if 4096 < p.length then (none, errs + 1) else (some p, errs)
    | none => (none, errs)
  let s := s.setVtf n { x with mccRx := if eom then none else part, mccMsgErr := x.mccMsgErr + errs }
  let s := s.setPw c 0 25 (s.pw c 0 25 + errs)
  match part with
  | some p => if eom then s.mccDeliver c p else s
  | none => s

/-- MCC_CELL_RECEIVE (R107, R108): the words MC0 to MC11 of a cell received in a frame of expected position, judged by the
ordered checks. A cell accepted with the next epoch makes that epoch the receiver's current one, and the older one then fails;
the slot itself changes at SKEY_PROMOTE's boundary (R384). Assumption log entry 32, DEDUCED, unsafe. -/
def execMccCellReceive (n : Fin 96) (mc : List (BitVec 64)) (s : State) : Res :=
  let c := s.chan n
  let x := s.vtf n
  if !x.mfSync ∨ !s.carriesVtf c then .next s
  else
    let w := fun i => (mc.getD i 0).toNat
    let mc0 := w 0
    let wrap := w 11 / 2 ^ 32
    let raw := upTo (fun i => w (1 + i)) 8
    let body := upTo (fun i => if bitField mc0 (56 + i) 1 = 1 then 2 ^ 64 - 1 - w (1 + i) else w (1 + i)) 8
    let auth := bitField mc0 47 1 == 1
    let epoch := bitField mc0 16 16
    let need := s.pw c 0 16 == 1
    let slot := Tab.get KeySlot.init s.skeys (s.pw c 0 17)
    let moved := slot.next.any (fun k => x.mccRxEpoch == some k.epoch)
    let entry : Option KeyEntry := match (if moved then none else slot.cur.filter (fun k => k.epoch == epoch)) with
      | some k => some k
      | none => slot.next.filter (fun k => k.epoch == epoch)
    let at_ := x.expect.index + posCycle - 1
    let pos : FramePos := { sfn := at_ / 4000 % 1024, subframe := at_ / 400 % 10, frameNo := at_ % 400 }
    let key := [epoch, wrap, pos.sfn, pos.subframe, pos.frameNo]
    let tagOk := match entry with
      | some k => (Config.gcmTag k.key (mccNonce x.fiwNode (bitField mc0 48 7) wrap pos.sfn pos.subframe pos.frameNo epoch)
                    (mccAad mc0 body wrap)).toNat == w 9 * 2 ^ 64 + w 10
      | none => false
    if crc32mc (mc0 :: raw ++ [w 9, w 10]) wrap ≠ w 11 % 2 ^ 32 then
      .next ((s.setVtf n { x with mccCrcErr := x.mccCrcErr + 1 }).bumpPw c 0 22)
    else if need ∧ (!auth ∨ entry.isNone ∨ !tagOk) then
      .next ((s.setVtf n { x with mccAuthErr := x.mccAuthErr + 1 }).bumpPw c 0 23)
    else if need ∧ x.mccLast.any (fun l => !keyLt l key) then
      .next ((s.setVtf n { x with mccReplay := x.mccReplay + 1 }).bumpPw c 0 24)
    else
      let s := if need then s.setVtf n { x with mccLast := some key } else s
      let s := if need ∧ slot.next.any (fun k => k.epoch == epoch) ∧ ¬ slot.cur.any (fun k => k.epoch == epoch) then
          s.setVtf n { s.vtf n with mccRxEpoch := some epoch } else s
      let len := bitField mc0 32 8
      if len = 0 then .next s
      else
        let s := s.countC c 8 1
        .next (s.mccAssemble n (bitField mc0 46 1 == 1) (bitField mc0 45 1 == 1) (mc0 % 2 ^ 16)
          (((body.map (leBytes 8)).flatten).take len))

/-- CAL_ADV_SEGMENT_RECEIVE (R168, R179, R88): the words CA0 to CA7 of a frame. A segment that fails its CRC-16 is counted; a
good one is compared with the same bytes of the receiver's own copy. A difference in the copy in force is a calendar
mismatch; one in the other copy sets cal_adv_diff, until a full cycle of that copy matches. -/
def execCalAdvSegmentReceive (n : Fin 96) (ca : List (BitVec 64)) (s : State) : Res :=
  let c := s.chan n
  let x := s.vtf n
  if !x.mfSync ∨ !s.carriesVtf c then .next s
  else
    let w := fun i => (ca.getD i 0).toNat
    let body := upTo (fun i => w (1 + i)) 7
    if bitField (w 0) 48 16 ≠ crc16ca (w 0) body then .next (s.countC c 7 1)
    else
      let copy := bitField (w 0) 23 1
      let k := bitField (w 0) 40 8
      let total := segCount (s.slots c)
      let same := decide (body = advWords (s.advStream c 1 copy) k ∧ bitField (w 0) 32 8 = total)
      let y := s.chanX c
      let run := if same then (if copy = 0 then y.advRunA else y.advRunB) + 1 else 0
      let y := if copy = 0 then { y with advRunA := run } else { y with advRunB := run }
      let s := s.setChanX c y
      if copy = y.rxSel then
        if !same then .next (s.setVtf c { s.vtf c with calMis := true })
        else if total ≤ run then .next (s.setVtf c { s.vtf c with calMis := false })
        else .next s
      else if !same then .next (s.setPw c 0 31 1)
      else if total ≤ run then .next (s.setPw c 0 31 0)
      else .next s

/-- APS_WORD_RECEIVE (R314, R312): a word of row 1 block 1, taken by a bond's lane 0 only (R84). An accepted word that
changed pushes an item into FIFO 4, and the group is judged with it. `recent` says that a word of the group was accepted
within the last 50 ms. -/
def execApsWordReceive (n : Fin 96) (v : BitVec 64) (recent : Bool) (s : State) : Res :=
  let c := s.chan n
  let w := v.toNat
  let req := bitField w 36 4
  if !(s.vtf n).mfSync ∨ (s.vtf n).fiwLane ≠ 0 ∨ !crc8Ok w ∨ w % 2 ^ 24 ≠ 0 ∨ 0xA < req then .next s
  else match s.groupOf (bitField w 40 16) with
    | none => .next s
    | some g =>
      let x := s.group g
      let seq := bitField w 24 8
      let newer := !recent || x.rxSeq.all (fun l => decide (1 ≤ (seq + 256 - l) % 256 ∧ (seq + 256 - l) % 256 ≤ 127))
      if !(s.groupPaths g).contains c ∨ !newer then .next s
      else
        let onX := match s.groupPaths g with | _ :: p :: _ => p == c | _ => false
        let sel := bitField w 34 1
        let bidir := bitField w 33 1 == 1
        let revert := bitField w 32 1 == 1
        let changed := x.rxSeq.isNone || x.farReq != req || x.farSel != sel || x.farBidir != bidir || x.farRevert != revert
        let s := s.setGroup g { x with rxSeq := some seq, farReq := req, farSel := sel, farBidir := bidir,
                                       farRevert := revert, farPath := (bitField w 35 1 == 1) == onX }
        let s := (s.wr R.PAIR_PROT_g.far_valid g 1).wr R.PAIR_PROT_g.far_req g req
        let s := if changed then
            match s.pushItem (c / 4) 4 [BitVec.ofNat 32 (4 * 2 ^ 28 + c * 2 ^ 21), BitVec.ofNat 32 w,
                                        BitVec.ofNat 32 (w / 2 ^ 32)] with
            | some s => s
            | none => s.wr (R.WVR_FIFO_STAT_f.overflow (c / 4)) 4 1
          else s
        let mis := bidir != s.on R.PAIR_PROT_CFG_g.bidir g || revert != s.on R.PAIR_PROT_CFG_g.revert g || !(s.group g).farPath
        .next (s.setMismatch g mis)

/-- CALIBRATION_FRAME_RECEIVE (R295): the difference between the single-FAS capture and the block-averaged instant of a
calibration frame, in 2^-16 ns; the bias is the mean of the last 16. -/
def execCalibrationFrameReceive (n : Fin 96) (diff : BitVec 32) (s : State) : Res :=
  let x := s.vtf n
  if !x.mfSync then .next s
  else
    let ds := (signedOf 32 diff.toNat :: x.calDiffs).take 16
    .next (s.setVtf n { x with calDiffs := ds, bias := ds.foldl (· + ·) 0 / (ds.length : Int) })

end Sys2Proof.Machine
end

