-- ==== Sys2Proof/Machine/Bell.lean ====
section
/-! DEFINITION. The meanings of the Bell Tower's events (R277 to R305): candidates, selection, the DPLLs, pulses and time of day.
What the Bell Tower measures (offsets, phases, instants) comes with the command. -/
namespace Sys2Proof.Machine

/-! Candidates. -/

/-- REF_ENABLE_WRITE (R284, R24): master `m` writes en of a candidate. -/
def execRefEnableWrite (m : Fin 8) (n : Fin 18) (en : Bool) (s : State) : Res :=
  .next (s.asMaster m (fun s => s.pairGate m (·.refEnable n en)))

/-- REF_ACTIVITY_LOSS (R278, R291): candidate `n` fails at once with cause ACTIVITY. When TWIN goes while DPLL3 serves, DPLL0, DPLL1
and DPLL3 enter HOLDOVER; `long`: DPLL3 was LOCKED for at least 61 s. -/
def execRefActivityLoss (n : Fin 18) (long : Bool) (s : State) : Res :=
  let s := s.failRef n 1
  .next (if n.val = 16 ∧ 2 ≤ s.role then
    ((((s.holdover 0 long).holdover 1 long).holdover 3 long).wr R.PAIR_STATUS.dpll3_locked 0 0).bellShow
  else s)

/-- REF_FAILURE_CLEAR (R278, R284): the failure of a candidate, or of its time ability, has cleared: QUALIFYING the first time after
en was set, WTR every other time. -/
def execRefFailureClear (n : Fin 18) (time : Bool) (s : State) : Res :=
  let x := s.refx n
  if time then
    if x.timeState = 1 ∧ s.timeCapable n then
      .next (s.setRefx n { x with timeState := if x.timeFirst then 2 else 3, timeFirst := false })
    else .next s
  else if s.refState n = 1 then
    let s := s.setRefx n { x with first := false }
    let left := if x.first then s.rd R.BELL_QUAL.qual_s 0 else s.rd R.BELL_QUAL.wtr_s 0
    .next (((s.wr R.BELL_REF_STAT_n.state n (if x.first then 2 else 3)).wr R.BELL_REF_STAT_n.wtr_left n left).bellShow)
  else .next s

/-- A value put into an ascending list. -/
def insertAsc (v : Int) : List Int → List Int
  | [] => [v]
  | h :: t => if v ≤ h then v :: h :: t else h :: insertAsc v t

/-- Twice the median of a list; `none` of an empty one. Between two middle values the median is their mean. -/
def median2 (l : List Int) : Option Int :=
  let s := l.foldl (fun s v => insertAsc v s) []
  match s[(l.length - 1) / 2]?, s[l.length / 2]? with
  | some a, some b => some (a + b)
  | _, _ => none

/-- The offset of candidate `n` in 0.1 ppb (BELL_REF_FREQ_n). -/
def State.refOfs (s : State) (n : Nat) : Int := signedOf 32 (s.rd R.BELL_REF_FREQ_n.ofs n)

/-- The drift monitor's judgement of a new offset (R282). -/
def State.drift (s : State) (n : Nat) (ofs : Int) : State :=
  let soft : Int := 10 * s.rd R.BELL_REF_THR_n.soft n
  let hard : Int := 10 * s.rd R.BELL_REF_THR_n.hard n
  let a : Int := ofs.natAbs
  let s := s.wr R.BELL_REF_FREQ_n.ofs n (patternOf 32 ofs)
  let was := s.on R.BELL_REF_STAT_n.soft_alarm n
  let s := if soft < a then
      let s := s.wr R.BELL_REF_STAT_n.soft_alarm n 1
      if was then s else s.bellEvent R.BELL_EVENT.soft_drift n (s.reg (0x10104 + 16 * n)).toNat
    else if 10 * a ≤ 9 * soft then s.wr R.BELL_REF_STAT_n.soft_alarm n 0 else s
  let run := if hard < a then (s.refx n).hardRun + 1 else 0
  let s := s.setRefx n { s.refx n with hardRun := run }
  if 3 ≤ run then s.failRef n 2 else s

/-- The consensus monitor's judgement of candidate `n`, against the offsets of the others QUALIFIED as they stood in `old` (R283): ten
updates a second, beyond the bound for cons_s seconds. -/
def State.consensus (s old : State) (n : Nat) (ofs : Int) : State :=
  let others := (upTo id 18).filter (fun k => k != n && old.refState k == 4)
  let bad := match median2 (others.map old.refOfs) with
    | some m2 => s.on R.BELL_CONS.cons_en 0 && decide (2 ≤ others.length)
        && decide (20 * s.rd R.BELL_CONS.cons_ppb 0 < (2 * ofs - m2).natAbs)
    | none => false
  let run := if bad then (s.refx n).consRun + 1 else 0
  let s := s.setRefx n { s.refx n with consRun := run }
  if bad && decide (10 * s.rd R.BELL_CONS.cons_s 0 ≤ run) && s.refState n != 1 then
    (s.bellEvent R.BELL_EVENT.cons_dq n (s.reg (0x10104 + 16 * n)).toNat).failRef n 3
  else s

/-- FREQ_MEASUREMENT_UPDATE (R282, R283): the offsets measured, in 0.1 ppb. A DISABLED or FAILED candidate keeps its register. -/
def execFreqMeasurementUpdate (ofs : List (Fin 18 × BitVec 32)) (s : State) : Res :=
  let old := s
  let live := ofs.filter (fun e => decide (2 ≤ old.refState e.1))
  let s := live.foldl (fun s e => s.drift e.1 e.2.toInt) s
  .next (live.foldl (fun s e => s.consensus old e.1 e.2.toInt) s)

/-- QUALIFICATION_TIMER_END (R284): QUALIFYING or WTR has ended without failure. -/
def execQualificationTimerEnd (n : Fin 18) (time : Bool) (s : State) : Res :=
  let x := s.refx n
  let done := fun (s : State) => (s.bellEvent R.BELL_EVENT.ref_qual n (s.reg (0x10104 + 16 * n)).toNat).bellShow
  if time then
    if x.timeState = 2 ∨ x.timeState = 3 then
      .next (done ((s.setRefx n { x with timeState := 4 }).wr R.BELL_REF_STAT_n.time_ok n 1))
    else .next s
  else if s.refState n = 2 ∨ s.refState n = 3 then
    .next (done ((s.wr R.BELL_REF_STAT_n.state n 4).wr R.BELL_REF_STAT_n.wtr_left n 0))
  else .next s

/-! Selection. -/

/-- Candidate `n` can be chosen by DPLL `d` (R285). -/
def State.canChoose (s : State) (d n : Nat) : Bool :=
  s.refState n == 4 && bitField (s.rd R.BELL_REF_CFG_n.dpll_mask n) d 1 == 1
    && decide (qlRank (s.effQl n) ≤ s.rd R.BELL_DPLL_CFG_d.ql_min d)
    && (d != 1 || (s.timeCapable n && s.on R.BELL_REF_STAT_n.time_ok n))

/-- The place of a candidate in the order: QL rank, priority, number. -/
def State.refKey (s : State) (n : Nat) : List Nat := [qlRank (s.effQl n), s.rd R.BELL_REF_CFG_n.prio n, n]

/-- The first of a list in the order. -/
def State.firstRef (s : State) : List Nat → Option Nat
  | [] => none
  | n :: t => match State.firstRef s t with
    | some k => if rankLt (s.refKey n) (s.refKey k) then some n else some k
    | none => some n

/-- The candidate that DPLL `d` should select under its mode (R285). -/
def State.wantedRef (s : State) (d : Nat) : Option Nat :=
  let cs := (upTo id 18).filter (s.canChoose d)
  let best := s.firstRef cs
  match s.dpllMode d with
  | 0 => best
  | 1 => (match best with
      | some b => let k := s.selRef d
                  if cs.contains k ∧ qlRank (s.effQl k) ≤ qlRank (s.effQl b) then some k else best
      | none => none)
  | 2 => let f := s.rd R.BELL_DPLL_CFG_d.force_ref d
         if cs.contains f then some f else none
  | _ => none

/-- DPLL `d` decides for candidate `n`: a decision is final, and the latch switch is set. DPLL0 and DPLL2 go through the alignment
window when they leave another candidate; a DPLL that had none begins ACQUIRE (R285, R286, R288). -/
def State.decideRef (s : State) (d n : Nat) : State :=
  let old := s.selRef d
  let st := s.dpllState d
  let s := s.wr R.BELL_DPLL_STAT_d.sel_ref d n
  let s := if st = 1 ∨ st = 2 then (if old < 18 ∧ d ≠ 1 then s.wr R.BELL_DPLL_STAT_d.switching d 1 else s)
    else s.wr R.BELL_DPLL_STAT_d.state d 1
  s.bellEvent R.BELL_EVENT.switch d (s.reg (0x10304 + 16 * d)).toNat

/-- A judgement of DPLL0, DPLL1 or DPLL2; `long`: it was LOCKED for at least 61 s until now (R285, R288, R291). -/
def State.judgeDpll (s : State) (d : Nat) (long : Bool) : State :=
  if s.dpllFenced d then s
  else if 2 ≤ s.role ∧ d < 2 then
    if s.dpllState 3 = 2 ∨ s.dpllState d = 4 then
      ((s.wr R.BELL_DPLL_STAT_d.state d 4).wr R.BELL_DPLL_STAT_d.sel_ref d 31).wr R.BELL_DPLL_STAT_d.switching d 0
    else s
  else
    let s := if s.dpllState d = 4 then s.holdover d long else s
    match s.dpllMode d with
    | 3 => s.holdover d long
    | 4 => s.freerun d
    | 5 => (s.wr R.BELL_DPLL_STAT_d.sel_ref d 31).wr R.BELL_DPLL_STAT_d.switching d 0
    | _ =>
      if s.on R.BELL_DPLL_STAT_d.switching d then s
      else match s.wantedRef d with
        | some n => if s.selRef d = n ∧ (s.dpllState d = 1 ∨ s.dpllState d = 2) then s else s.decideRef d n
        | none =>
          if s.dpllState d = 1 ∨ s.dpllState d = 2 then s.holdover d (long && s.dpllState d == 2)
          else if s.dpllMode d = 2 then s.holdover d false else s

/-- DPLL3 runs in the pair roles STANDBY and CATCHUP only, and locks to TWIN (R288, R291). -/
def State.judgeDpll3 (s : State) (long : Bool) : State :=
  if s.dpllFenced 3 then s
  else if s.role < 2 then ((s.wr R.BELL_DPLL_STAT_d.state 3 0).wr R.BELL_DPLL_STAT_d.sel_ref 3 31).wr R.PAIR_STATUS.dpll3_locked 0 0
  else if s.on R.PAIR_STATUS.link_up 0 then
    (if s.selRef 3 = 16 then s else s.decideRef 3 16)
  else (s.holdover 3 long).wr R.PAIR_STATUS.dpll3_locked 0 0

/-- SELECTION_JUDGEMENT (R285, R280, R303): DPLL `d` judges its selection. -/
def execSelectionJudgement (d : Fin 4) (long : Bool) (s : State) : Res :=
  .next ((if d.val = 3 then s.judgeDpll3 long else s.judgeDpll d long).bellShow)

/-- ALIGNMENT_WINDOW_END (R286, R287): the window ends; a new candidate that has failed within it leaves HOLDOVER. -/
def execAlignmentWindowEnd (d : Fin 4) (long : Bool) (s : State) : Res :=
  if s.on R.BELL_DPLL_STAT_d.switching d then
    if s.refState (s.selRef d) = 4 then .next ((s.wr R.BELL_DPLL_STAT_d.switching d 0).bellShow)
    else .next ((s.holdover d long).bellShow)
  else .next s

/-- DPLL_LOCK (R288): a DPLL in ACQUIRE has stayed within its lock bound for long enough. -/
def execDpllLock (d : Fin 4) (s : State) : Res :=
  if s.dpllState d = 1 ∧ ¬ s.dpllFenced d ∧ ¬ s.on R.BELL_DPLL_STAT_d.switching d then
    let s := s.wr R.BELL_DPLL_STAT_d.state d 2
    .next ((if d.val = 3 then s.wr R.PAIR_STATUS.dpll3_locked 0 1 else s).bellShow)
  else .next s

/-- HOLDOVER_SPEC_EXPIRY (R290): hold_h hours of HOLDOVER have passed. -/
def execHoldoverSpecExpiry (d : Fin 4) (s : State) : Res :=
  if s.dpllState d = 3 ∧ s.on R.BELL_DPLL_STAT_d.hold_spec d then
    let s := s.wr R.BELL_DPLL_STAT_d.hold_spec d 0
    .next ((s.bellEvent R.BELL_EVENT.hold_spec_lost d (s.reg (0x10304 + 16 * d)).toNat).bellShow)
  else .next s

/-! Fences of the DPLLs (R292). -/

/-- A write of dpll_reset: the loop state is reset within 1 ms. -/
def State.dpllReset (s : State) (d : Nat) : State :=
  if s.bell.resetting.contains d then s else { s with bell := { s.bell with resetting := d :: s.bell.resetting } }

/-- DPLL_FENCE_REQ: master `m` writes fence_req. -/
def execDpllFenceReq (m : Fin 8) (d : Fin 4) (long : Bool) (s : State) : Res := .next (s.asMaster m (·.fenceDpll d 3 long))

/-- DPLL_RESET: master `m` writes dpll_reset. -/
def execDpllReset (m : Fin 8) (d : Fin 4) (s : State) : Res := .next (s.asMaster m (·.dpllReset d))

/-- DPLL_RESET_DONE: the loop state has been reset: the phase and frequency errors begin at 0, and a DPLL that was tracking begins
ACQUIRE anew. reset_done is set for a fence to be lifted. -/
def execDpllResetDone (d : Fin 4) (s : State) : Res :=
  if s.bell.resetting.contains d.val then
    let s := { s with bell := { s.bell with resetting := s.bell.resetting.filter (· ≠ d.val) } }
    let s := (s.wr R.BELL_DPLL_PHASE_d.phase d 0).wr R.BELL_DPLL_FREQ_d.freq d 0
    let s := if s.dpllState d = 2 then s.wr R.BELL_DPLL_STAT_d.state d 1 else s
    .next ((if s.dpllFenced d then s.wr R.BELL_DPLL_STAT_d.reset_done d 1 else s).bellShow)
  else .next s

/-- DPLL_PARITY: a parity error in the loop state. -/
def execDpllParity (d : Fin 4) (long : Bool) (s : State) : Res := .next (s.fenceDpll d 2 long)

/-- CLK_BELL runs on its backup, and all four DPLLs are fenced with OCXO (R292). `long` says for each whether it was LOCKED for at least
61 s. -/
def State.oscLoss (s : State) (long : BitVec 4) : State :=
  let s := ({ s with bell := { s.bell with backup := true } } : State).wr R.BELL_STATUS.ocxo_ok 0 0
  let s := s.latch R.BELL_EVENT.ocxo_fault 0
  iter (fun d s => s.fenceDpll d 1 (long.getLsbD d)) 0 4 s

/-- OSC_IN_LOSS (R292): OSC_IN has had no edge for 1 µs. -/
def execOscInLoss (long : BitVec 4) (s : State) : Res := .next (s.oscLoss long)

/-- OSC_IN_RETURN (R292): edges have returned. -/
def execOscInReturn (s : State) : Res :=
  .next (({ s with bell := { s.bell with backup := false } } : State).wr R.BELL_STATUS.ocxo_ok 0 1)

/-! Frame phase and slews. -/

/-- FRAME_PHASE_SATURATION (R296): steering has been held at fp_pull for more than 1 s. -/
def execFramePhaseSaturation (s : State) : Res :=
  if s.mode = .muster then .next s else .next (s.bellEvent R.BELL_EVENT.fp_sat 0 (s.reg 0x10304).toNat)

/-- SLEW_COMPLETE (R297): the slew has been applied: step_done is set and its PHASE_STEP completes. -/
def execSlewComplete (s : State) : Res :=
  match s.bell.slew with
  | none => .next s
  | some k =>
    let s := { s with time := ((s.time : Int) + k.left).toNat, bell := { s.bell with slew := none } }
    .next ((s.bellEvent R.BELL_EVENT.step_done 1 (s.reg 0x10314).toNat).ok k.head 0)

/-! Pulses. -/

/-- The REFIN candidate paired with PPS_INk. -/
def State.ppsRef (s : State) (k : Nat) : Option Nat :=
  let r := if k = 0 then s.rd R.BELL_TIMESRC.pps0_ref 0 else s.rd R.BELL_TIMESRC.pps1_ref 0
  if r < 8 then some r else none

/-- A time in the T layout put into the three words of BELL_PPSIN_TS_k_w. -/
def State.putPpsTs (s : State) (k t : Nat) : State :=
  iter (fun w s => s.setReg (0x10480 + 16 * k + 4 * w) (BitVec.ofNat 32 (stampOf t / 2 ^ (32 * w)))) 0 3 s

/-- PPS_IN_EDGE (R293, R299, R302): an edge on PPS_INk at instant `t` (2^-16 ns), `dev` from the filtered time of its reference (2^-16
ns). PPS_IN0 takes its second from the time-of-day message when tod_rx_en is 1; a missing message sets tod_err, and the second is
then that of the part's own time nearest the edge. -/
def execPpsInEdge (k : Fin 2) (t : BitVec 80) (dev : BitVec 64) (s : State) : Res :=
  let t := t.toNat
  let prev := if k.val = 0 then s.bell.edge0 else s.bell.edge1
  let gap := t - prev.getD t
  let ok := prev.isSome && decide ((10 ^ 9 - 1000) * 2 ^ 16 ≤ gap ∧ gap ≤ (10 ^ 9 + 1000) * 2 ^ 16)
  let old := s.rd R.BELL_STATUS.pps_in_ok 0
  let s := (s.putPpsTs k t).wr R.BELL_STATUS.pps_in_ok 0 (setBitField old k 1 (bit ok))
  let l := if k.val = 0 then s.bell.pps0 else s.bell.pps1
  let l := if ok then (gap :: l).take 8 else l
  let own := (t + 5 * 10 ^ 8 * 2 ^ 16) / (10 ^ 9 * 2 ^ 16)
  let listens := decide (k.val = 0) && s.on R.BELL_CTRL.tod_rx_en 0
  let s := if listens && s.bell.tod.isNone then s.latch R.BELL_EVENT.tod_err 0 else s
  let sec := if listens then s.bell.tod.getD own else own
  let b := s.bell
  let s := { s with bell := if k.val = 0 then { b with pps0 := l, edge0 := some t, base0 := some t, sec0 := sec, tod := none }
                            else { b with pps1 := l, edge1 := some t, base1 := some t, sec1 := sec } }
  match s.ppsRef k with
  | none => .next s
  | some n =>
    let x := s.refx n
    let run := if 100 * 2 ^ 16 < dev.toInt.natAbs then x.timeBad + 1 else 0
    .next (if 3 ≤ run then s.failTime n else s.setRefx n { x with timeBad := run })

/-- The mean of the last intervals of an input (R300). -/
def meanOf (l : List Nat) : Nat := l.foldl (· + ·) 0 / max 1 l.length

/-- PPS_IN_MISSING (R293, R299, R300): an expected edge is missing; an output that follows the input keeps the last mean interval. -/
def execPpsInMissing (k : Fin 2) (s : State) : Res :=
  let old := s.rd R.BELL_STATUS.pps_in_ok 0
  let s := (s.wr R.BELL_STATUS.pps_in_ok 0 (setBitField old k 1 0)).latch R.BELL_EVENT.pps_in_lost 0
  let b := s.bell
  let s := { s with bell := if k.val = 0 then { b with base0 := b.base0.map (· + meanOf b.pps0) }
                            else { b with base1 := b.base1.map (· + meanOf b.pps1) } }
  .next (match s.ppsRef k with | some n => s.failTime n | none => s)

/-- The period of a pulse rate in 2^-16 ns. -/
def ppsPeriod (rate : Nat) : Nat := (match rate with | 0 => 10 ^ 9 | 1 => 10 ^ 7 | _ => 10 ^ 6) * 2 ^ 16

/-- The instant of pulse `j` of an output under the settings `cfg` and `ofs` (R300), in 2^-16 ns: the whole second, radio frame or
multiframe `j` of time, or the pulse after the last edge of an input. -/
def State.ppsInstant (s : State) (cfg ofs j : Nat) : Option Int :=
  let off : Int := signedOf 32 ofs * 2 ^ 16 + bitField cfg 24 8 * 2 ^ 8
  let rate := bitField cfg 4 2
  match bitField cfg 2 2 with
  | 0 => some (j * ppsPeriod rate + (if rate = 0 then 0 else s.rd R.BELL_FRAME_OFS.frame_ofs 0 * 2 ^ 16 : Nat) + off)
  | 1 => s.bell.base0.map (fun t => (t : Int) + meanOf s.bell.pps0 + off)
  | _ => s.bell.base1.map (fun t => (t : Int) + meanOf s.bell.pps1 + off)

/-- PPS_OUT_PULSE (R300): pulse `j` of PPS_OUTk. New settings act from the first pulse at least 1 ms after their write; until then
the settings before them place the pulses. -/
def execPpsOutPulse (k : Fin 4) (j : BitVec 64) (s : State) : Res :=
  let cfg := (s.reg (0x10440 + 8 * k)).toNat
  let ofs := (s.reg (0x10444 + 8 * k)).toNat
  let (cfg, ofs, s) := match Tab.get none s.bell.ppsOld k with
    | none => (cfg, ofs, s)
    | some (c0, o0, w) =>
      match s.ppsInstant cfg ofs j.toNat with
      | some t =>
        if ((w + 10 ^ 6 * 2 ^ 16 : Nat) : Int) ≤ t then
          (cfg, ofs, { s with bell := { s.bell with ppsOld := Tab.put none s.bell.ppsOld k none } })
        else (c0, o0, s)
      | none => (c0, o0, s)
  if cfg % 2 = 1 then
    match s.ppsInstant cfg ofs j.toNat with
    | some t => .next (s.emit (.ppsOut k t (10 * bitField cfg 8 16)))
    | none => .next s
  else .next s

/-- The settings of a pulse output changed: those in force stay until a pulse at least 1 ms later (R300). -/
def State.ppsChange (s : State) (k : Nat) (f : State → State) : State :=
  let old := match Tab.get none s.bell.ppsOld k with
    | some (c, o, _) => (c, o)
    | none => ((s.reg (0x10440 + 8 * k)).toNat, (s.reg (0x10444 + 8 * k)).toNat)
  f { s with bell := { s.bell with ppsOld := Tab.put none s.bell.ppsOld k (some (old.1, old.2, s.time)) } }

/-- A write of BELL_PPS_CFG_k: an illegal combination leaves the register unchanged (R300); reserved values leave their field. -/
def State.ppsCfgWrite (s : State) (k v : Nat) : State :=
  let src := if bitField v 2 2 = 3 then s.rd R.BELL_PPS_CFG_k.src k else bitField v 2 2
  let rate := if bitField v 4 2 = 3 then s.rd R.BELL_PPS_CFG_k.rate k else bitField v 4 2
  let width := if 50000 < bitField v 8 16 then s.rd R.BELL_PPS_CFG_k.width k else bitField v 8 16
  if (src ≠ 0 ∧ rate ≠ 0) ∨ width = 0 ∨ ppsPeriod rate ≤ 2 * 10 * width * 2 ^ 16 then s
  else s.ppsChange k (fun s => s.setReg (0x10440 + 8 * k)
    (BitVec.ofNat 32 (bitField v 24 8 * 2 ^ 24 + width * 2 ^ 8 + rate * 16 + src * 4 + v % 2)))

/-- PPS_CFG_WRITE (R300): master `m` writes BELL_PPS_CFG_k. -/
def execPpsCfgWrite (m : Fin 8) (k : Fin 4) (v : BitVec 32) (s : State) : Res :=
  .next (s.asMaster m (fun s => s.pairGate m (·.ppsCfgWrite k v.toNat)))

/-- A write of BELL_PPS_OFS_k: an offset beyond half a period either way leaves the register unchanged (R300). -/
def State.ppsOfsWrite (s : State) (k v : Nat) : State :=
  if 2 * (signedOf 32 v).natAbs * 2 ^ 16 ≤ ppsPeriod (s.rd R.BELL_PPS_CFG_k.rate k) then
    s.ppsChange k (fun s => s.wr R.BELL_PPS_OFS_k.ofs_ns k v)
  else s

/-! Time of day (Table 11.9). -/

/-- The bytes of a time-of-day message that names a second. -/
def todBytes (sec ql hops : Nat) (trace freq hold : Bool) : List Nat :=
  let body := 1 :: leBytes 6 sec ++ [ql, bit trace + 2 * bit freq + 4 * bit hold, hops, 0, 0]
  let c := crc16Bytes body
  0xA5 :: 0x5A :: body ++ [c / 256, c % 256]

/-- TOD_MESSAGE_SEND (R281, R302): the message after a tick names the next whole second. -/
def execTodMessageSend (s : State) : Res :=
  if s.on R.BELL_CTRL.tod_tx_en 0 then
    let (f, s) := s.timeFields
    let (ql, hops, hold, trace, freq) := f
    .next (s.emit (.tod (todBytes (s.time / (10 ^ 9 * 2 ^ 16) + 1) ql hops trace freq hold)))
  else .next s

/-- TOD_MESSAGE_RECEIVE (R302): sixteen bytes received on TOD_RXD, complete in time for the next PPS_IN0 edge (`inTime`). A wrong
start, type or CRC-16 sets tod_err. -/
def execTodMessageReceive (bytes : List (BitVec 8)) (inTime : Bool) (s : State) : Res :=
  let bs := bytes.map (·.toNat)
  if !s.on R.BELL_CTRL.tod_rx_en 0 then .next s
  else if bs.length = 16 ∧ bs.take 3 = [0xA5, 0x5A, 1]
      ∧ crc16Bytes ((bs.drop 2).take 12) = 256 * bs.getD 14 0 + bs.getD 15 0 then
    if inTime then .next { s with bell := { s.bell with tod := some (ofLeBytes ((bs.drop 3).take 6)) } } else .next s
  else .next (s.latch R.BELL_EVENT.tod_err 0)

/-! Register writes of their own. -/

/-- A write of frame_ofs: in MUSTER only (R305). -/
def State.frameOfsWrite (s : State) (v : Nat) : State :=
  if s.mode = .muster then s.wr R.BELL_FRAME_OFS.frame_ofs 0 v else s.latch R.BELL_EVENT.ofs_wr_drop 0

/-- BELL_FRAME_OFS_WRITE (R305): master `m` writes frame_ofs. -/
def execBellFrameOfsWrite (m : Fin 8) (v : BitVec 32) (s : State) : Res :=
  .next (s.asMaster m (fun s => s.pairGate m (·.frameOfsWrite v.toNat)))

/-- A write of freq_hz: outside 1 to 800,000,000 the register is unchanged (R301). -/
def State.clkoutWrite (s : State) (k v : Nat) : State :=
  let f := v % 2 ^ 30
  if 1 ≤ f ∧ f ≤ 800000000 then s.wr R.BELL_CLKOUT_FREQ_k.freq_hz k f else s

/-- CLKOUT_FREQ_WRITE (R301): master `m` writes BELL_CLKOUT_FREQ_k. -/
def execClkoutFreqWrite (m : Fin 8) (k : Fin 8) (v : BitVec 32) (s : State) : Res :=
  .next (s.asMaster m (fun s => s.pairGate m (·.clkoutWrite k v.toNat)))

end Sys2Proof.Machine
end

