-- ==== Sys2Proof/Machine/GrnBanks.lean ====
section
/-! DEFINITION. Banks and queues of the Granary under errors (R200 to R212, R222 to R227): decode classes, repair, retirement,
fenced queues and flushes. GRN_BANK_b state: 0 LIVE, 1 DRAIN, 2 GATED, 3 RETIRED. -/
namespace Sys2Proof.Machine

/-! DEC-TED-A words. -/

/-- The number of a class in GRN_ECC_LAST. -/
def eccNum : EccClass → Nat
  | .clean => 0 | .ce1 => 0 | .ce2 => 1 | .ue => 2 | .ae => 3

/-- A UE or an AE. -/
def eccBad (c : EccClass) : Bool := c == .ue || c == .ae

/-- A word read is counted, and recorded in GRN_ECC_LAST and GRN_ECC_SYN: a UE or AE always, a CE while ecc_ue is 0; a UE or AE
sets ecc_ue and is an internal fault of the part (R202, R227). Memory: 0 bank, 1 link memory, 2 descriptors or flow table. -/
def State.eccRead (s : State) (mem addr : Nat) (f : EccFind) : State :=
  if f.cls = .clean then s
  else
    let bad := eccBad f.cls
    let s := if bad then s.countD 3 1 else s.countD 2 1
    let s := if bad ∨ s.rd R.GRN_EVENT.ecc_ue 0 = 0 then
        ((((s.wr R.GRN_ECC_LAST.class_ 0 (eccNum f.cls)).wr R.GRN_ECC_LAST.mem 0 mem).wr R.GRN_ECC_LAST.addr 0 addr).setReg
          0x800024 (BitVec.ofNat 32 f.syn.toNat))
      else s
    if bad then (s.latch R.GRN_EVENT.ecc_ue 0).internalFault false else s

/-! Retirement (R209). -/

/-- A bank is to be retired with a cause; the first cause stands. A bank already in DRAIN toward GATED goes on toward RETIRED. -/
def State.askRetire (s : State) (b cause : Nat) : State :=
  let x := s.bank b
  if s.bankState b = 3 ∨ x.asked ≠ 0 then s
  else if s.bankState b = 1 then
    if x.gate then
      (((s.setBank b { x with asked := cause, gate := false }).wr R.GRN_BANK_b.retire_cause b cause).latch R.GRN_EVENT.bank_drain 0)
    else s
  else s.setBank b { x with asked := cause }

/-- A bank enters DRAIN toward RETIRED with its cause, or toward GATED. -/
def State.drainBank (s : State) (b cause : Nat) : State :=
  let s := s.setBank b { s.bank b with asked := cause, drainFrom := s.frame, gate := decide (cause = 0) }
  let s := s.wr R.GRN_BANK_b.state b 1
  let s := if cause = 0 then s else (s.wr R.GRN_BANK_b.retire_cause b cause).latch R.GRN_EVENT.bank_drain 0
  s.degradedRecompute

/-- The lowest-numbered GATED bank is powered and LIVE (R212); its pass starts at row 0 (R204). -/
def State.powerGated (s : State) : State :=
  match (upTo id 96).find? (fun b => s.bankState b == 2) with
  | some b => (s.setBank b { s.bank b with scrubRow := 0 }).wr R.GRN_BANK_b.state b 0
  | none => s

/-- DRAIN has ended: what still lies in the bank is dropped with cause DRAIN, and the bank becomes GATED, or RETIRED and fenced;
in HEARTH a GATED bank takes the place of a retired one (R209, R212). -/
def State.endDrain (s : State) (b : Nat) : State :=
  let s := (s.pkts.filter (fun p => p.cells.contains b)).foldl (fun s p => s.dropPkt p 6) s
  let x := s.bank b
  if x.gate then (s.wr R.GRN_BANK_b.state b 2).degradedRecompute
  else
    let s := (s.setBank b { x with asked := 0, tracker := [], copy := none, scanning := false }).wr R.GRN_BANK_b.state b 3
    let s := s.wr R.GRN_BANK_b.bank_reset_done b 0
    let s := (s.grnEvent R.GRN_EVENT.bank_retired b (s.reg (0x800100 + 4 * b)).toNat).reportFence 5 b
      (s.rd R.GRN_BANK_b.retire_cause b) true
    (if s.mode = .hearth then s.powerGated else s).degradedRecompute

/-! The repair tracker (R205). -/

/-- A tracker with room for one entry more: the oldest entry that has not qualified goes when it is full; none goes when every
entry has qualified. -/
def trackRoom (l : List Track) : Option (List Track) :=
  if l.length < 8 then some l
  else match l.find? (fun e => !e.qualified) with
    | some e => some (l.erase e)
    | none => none

/-- A CE, UE or AE of a logical row entered in the tracker, with the qualifying rules of R205; `scrub` says that the scrub found
it. A row that qualifies while all spares are used retires the bank (R209). -/
def State.track (s : State) (b row pos : Nat) (cls : EccClass) (scrub : Bool) : State :=
  let x := s.bank b
  let old := x.tracker.find? (fun e => e.row == row)
  let was := match old with | some e => e.qualified | none => false
  let again := match old with | some e => scrub && e.pos == pos && e.pass + 1 == x.pass && e.pass != 0 | none => false
  let q := cls == .ce2 || eccBad cls || again
  let pass := if scrub then x.pass else match old with | some e => e.pass | none => 0
  let e : Track := { row := row, pos := pos, pass := pass, qualified := was || q }
  let l := match old with
    | some _ => some (x.tracker.map (fun t => if t.row = row then e else t))
    | none => (trackRoom x.tracker).map (· ++ [e])
  match l with
  | none => s
  | some l =>
    let s := s.setBank b { x with tracker := l, scanRows := x.scanRows + bit (x.scanning && q && !was) }
    if q && !was && decide (32 ≤ x.map.length) then s.askRetire b 1 else s

/-- A word of a bank's physical row read: counted, tracked, and its UEs and AEs of the last second judged (R201 to R209). A free
spare row has no logical row to track. -/
def State.bankEcc (s : State) (b phys word : Nat) (f : EccFind) (scrub : Bool) : State :=
  if f.cls = .clean then s
  else
    let s := s.eccRead 0 (b * 2 ^ 18 + phys * 8 + word) f
    let x := s.bank b
    let logical := if phys < 16384 then some phys else (x.map.find? (fun e => e.2 == phys - 16384)).map (·.1)
    let s := match logical with
      | some r => if r < 16384 then s.track b r (128 * word + f.bitPos.toNat) f.cls scrub else s
      | none => s
    if eccBad f.cls then
      let now := s.time / 2 ^ 16
      let ts := now :: ((s.bank b).ueTimes.filter (fun t => decide (now < t + 10 ^ 9)))
      let s := s.setBank b { s.bank b with ueTimes := ts }
      if s.rd R.GRN_CTRL.ue_burst 0 < ts.length then s.askRetire b 2 else s
    else s

/-! March tests (R210, R226). -/

/-- The map that a march test builds: each failing row gets the lowest spare that neither fails nor is taken; a failing spare is
marked used by itself. `none` when 33 or more rows fail. -/
def marchMap (failing : List Nat) : Option (List (Nat × Nat)) :=
  if 33 ≤ failing.length then none
  else
    let bad := (failing.filter (fun r => decide (16384 ≤ r))).map (fun r => (r, r - 16384))
    some ((failing.filter (fun r => decide (r < 16384))).foldl (fun m r =>
      match (upTo id 32).find? (fun k => !(m.any (fun e => e.2 == k))) with
      | some k => m ++ [(r, k)]
      | none => m) bad)

/-- A rebuilt map put in force. -/
def State.putMap (s : State) (b : Nat) (m : List (Nat × Nat)) : State :=
  (s.setBank b { s.bank b with map := m, tracker := [], copy := none }).wr R.GRN_BANK_b.spares_used b m.length

/-- A fenced bank returns to LIVE (R210, R226). -/
def State.bankLive (s : State) (b : Nat) : State :=
  let cause := s.rd R.GRN_BANK_b.retire_cause b
  let s := s.setBank b { s.bank b with scrubRow := 0, asked := 0, ueTimes := [] }
  let s := ((s.wr R.GRN_BANK_b.state b 0).wr R.GRN_BANK_b.retire_cause b 0).wr R.GRN_BANK_b.bank_reset_done b 0
  (s.reportFence 5 b cause false).degradedRecompute

/-! Queues under faults. -/

/-- The queue is fenced: 1 DESC_UE, 2 LINK_UE (R224). -/
def State.fenceQueue (s : State) (q cause : Nat) : State :=
  if s.on R.GRN_QD_CTRL.fenced q then { s with qFlushed := s.qFlushed.filter (· ≠ q) }.reportFence 6 q cause true
  else
    let s := { s with qFlushed := s.qFlushed.filter (· ≠ q) }
    let s := ((s.wr R.GRN_QD_CTRL.fenced q 1).wr R.GRN_QD_STAT.fence_cause q cause).showHead q
    (s.grnEvent R.GRN_EVENT.queue_fenced q (s.reg (0x40001C + 64 * q)).toNat).reportFence 6 q cause true

/-- The packets that a queue holds dropped with a cause. -/
def State.dropAll (s : State) (q cause : Nat) : State :=
  (s.pkts.filter (fun p => p.queue == q)).foldl (fun s p => s.dropPkt p cause) s

/-- A flush at its flush point (R223, Table 8.7): what has not begun to depart is discarded; a departing packet completes. On a
fenced queue the descriptor is restored and the fence may be lifted (R224). -/
def State.flushQueue (s : State) (q : Nat) : State :=
  let s := (s.pkts.filter (fun p => p.queue == q && !p.begun)).foldl (fun s p => s.dropPkt p 4) s
  if s.on R.GRN_QD_CTRL.fenced q ∧ ¬ s.qFlushed.contains q then { s with qFlushed := q :: s.qFlushed } else s

/-! The repair record (R207). -/

/-- The copy of the repair record in force: of those that can be read, the one with the higher sequence number. -/
def State.repairRec (s : State) : Option RepairRec :=
  match s.repairA, s.repairB with
  | some a, some b => if a.seq < b.seq then some b else some a
  | some a, none => some a
  | none, b => b

/-- What the record holds of the present banks. -/
def State.repairNow (s : State) : List (Nat × Nat × List (Nat × Nat)) :=
  ((upTo id 96).map (fun b =>
    (b, (if s.bankState b = 3 then s.rd R.GRN_BANK_b.retire_cause b else 0), (s.bank b).map))).filter
      (fun e => e.2.1 != 0 || !e.2.2.isEmpty)

/-- The copy not in force is written and comes into force. -/
def State.writeRepairRec (s : State) : State :=
  let seq := match s.repairRec with | some r => r.seq + 1 | none => 1
  let r : RepairRec := { seq := seq, banks := s.repairNow }
  let aInForce := match s.repairA, s.repairB with
    | some a, some b => decide (b.seq ≤ a.seq)
    | some _, none => true
    | none, _ => false
  if aInForce then { s with repairB := some r } else { s with repairA := some r }

/-- A closing queue whose occupancy is 0 stops existing, and the steward reports it (Table 8.6). -/
def State.closeQueue (s : State) (q : Nat) : State :=
  if s.on R.GRN_QD_CTRL.closing q ∧ s.rd R.GRN_QD_OCC.occ_cells q = 0 then
    let s := ((s.wr R.GRN_QD_CTRL.valid q 0).wr R.GRN_QD_CTRL.closing q 0).degradedRecompute
    if s.stewardActs then s.report 8 9 q 0 else s
  else s

end Sys2Proof.Machine
end

