-- ==== Sys2Proof/Machine/ProgOps.lean ====
section
/-! DEFINITION. The operations over Weavers, Reeves and programs that several families share: fences (R250, R360), the steward's
move (R11), memories (R236, R237), parameter blocks (R246, R247) and the Almanac's catalogue (R248). -/
namespace Sys2Proof.Machine

/-! Reeves and the steward. -/

/-- Reeve `r` is fenced, as a Reeve or as master RVEr (R11). -/
def State.reeveFenced (s : State) (r : Nat) : Bool := s.on R.RVE_STATUS.fence_cause r || s.masterFenced (1 + r)

/-- Unit `u` is in TINKER: Weavers 0 to 23, then Reeves (LANT_STATUS). -/
def State.tinkers (s : State) (u : Nat) : Bool := bitField (s.rd R.LANT_STATUS.tinker 0) u 1 == 1

/-- Reeve `r` can take the steward duties (R11). -/
def State.canSteward (s : State) (r : Nat) : Bool :=
  !s.reeveFenced r && !s.tinkers (24 + r) && !(s.eng (384 + r)).halted && !(s.eng (384 + r)).resetting && !(s.eng (384 + r)).own

/-- RVE_STATUS of a Reeve shown: state and pc. The steward firmware with no work waits and reads 1. -/
def State.showReeve (s : State) (r : Nat) : State :=
  let x := s.eng (384 + r)
  let st := if s.reeveFenced r then 3 else if x.halted then 2 else if x.stall.isSome || !x.own then 1 else 0
  (s.wr R.RVE_STATUS.state r st).wr R.RVE_STATUS.pc r x.pc

/-- The bit-slip searches begin anew under a new steward: from the beginning on every lane in TRACK that has not been reported
aligned (R60). -/
def State.restartSearches (s : State) : State :=
  iter (fun n s =>
    match (s.align n).search with
    | .aligned _ => s
    | .idle => s
    | _ => s.setAlign n { s.align n with search := if s.rxState n = 2 then .await false else .idle }) 0 96 s

/-- Reeve `r` holds the duties. -/
def State.giveSteward (s : State) (r : Nat) : State :=
  let s := iter (fun k s => s.wr R.RVE_STATUS.steward k (bit (k == r))) 0 4 s
  let s := ((s.wr R.MTX_STATUS.steward 0 r).latch R.RVE_EVENT.steward_taken r).releaseFault .noSteward
  { s with stewardOn := true }.restartSearches

/-- The duties leave the steward and pass to the lowest-numbered Reeve that can take them; without one, no command is executed
and FAULT_N is asserted (R11). The report names the first command resumed by a sequence number that the spec does not
define for commands: it is free (assumption log entry 15, DESIGN CHOICE, safe). -/
def State.moveSteward (s : State) : State :=
  match (upTo id 4).find? s.canSteward with
  | some r =>
    let (v, s) := (s.giveSteward r).fresh 64
    s.report 8 10 r v
  | none =>
    let s := iter (fun k s => s.wr R.RVE_STATUS.steward k 0) 0 4 s
    { s with stewardOn := false }.assertFault .noSteward

/-- The Reeve holds the duties. -/
def State.isSteward (s : State) (r : Nat) : Bool := s.stewardOn && s.steward == r

/-- A Reeve stops: its stall and its run end. -/
def State.stopReeve (s : State) (r : Nat) : State :=
  (s.setEng (384 + r) { s.eng (384 + r) with stall := none, stallNew := false, running := false, due := [] }).showReeve r

/-- Reeve `r` is fenced with a cause of Table 9.11; a further cause is reported and clears rve_reset_done (R369). -/
def State.fenceReeve (s : State) (r cause : Nat) : State :=
  let s := if s.on R.RVE_STATUS.fence_cause r then s else s.wr R.RVE_STATUS.fence_cause r cause
  let s := ((s.wr R.RVE_STATUS.rve_reset_done r 0).latch R.RVE_EVENT.fence r).stopReeve r
  let s := (s.reportFence 8 r cause true).internalFault true
  if s.isSteward r then s.moveSteward else s

/-- The outstanding transactions of master `m` abandoned (R360, Table 13.13): a write is dropped; a read ends in an error to the master, and
a Reeve's stall ends with all ones and fault bit 0 (R272). -/
def State.abandon (s : State) (m : Nat) : State :=
  let mine := s.hung.filter (fun h => h.m == m)
  let s := { s with hung := s.hung.filter (fun h => h.m != m) }
  if m = 0 ∨ m = 5 ∨ m = 6 then
    mine.foldl (fun (s : State) h => if h.write then s else s.emit (.busError m h.addr)) s
  else if 1 ≤ m ∧ m ≤ 4 then
    let x := s.eng (383 + m)
    match x.stall with
    | some (.bus rd _ _ double) =>
      let v := if double then 2 ^ 64 - 1 else 2 ^ 32 - 1
      let g := match rd with
        | some r => if r = 0 then x.g else Tab.put 0 x.g r v
        | none => x.g
      s.setEng (383 + m) { x with g := g, fault := x.fault ||| 1, stall := none }
    | _ => s
  else s

/-- Master `m` is fenced (R360): 1 WATCHDOG, 2 PARITY; a Reeve's master stops its Reeve; HOST and DMA raise class 15. -/
def State.fenceMaster (s : State) (m cause : Nat) : State :=
  let s := if s.masterFenced m then s
    else (s.wr R.MTX_MSTAT_m.fence_cause m cause).wr R.MTX_MSTAT_m.fenced m 1
  let s := ((s.abandon m).reportFence 9 m cause true).internalFault true
  let s := if m = 0 ∨ m = 7 then (if m = 7 then s.latch R.HOST_EVENT.dma_fenced 0 else s).signal 15 else s
  if 1 ≤ m ∧ m ≤ 4 then
    let s := (s.wr R.RVE_STATUS.rve_reset_done (m - 1) 0).stopReeve (m - 1)
    if s.isSteward (m - 1) then s.moveSteward else s
  else s

/-! Weaver threads. -/

/-- The lane that a thread serves: a stream thread's own lane, or the lane that a partner is lent to. -/
def State.threadLane (s : State) (q t : Nat) : Nat :=
  if t < 8 then 4 * q + t / 2 else s.rd (R.WVR_THREAD_t.lane q) t

/-- The thread serves a direction of a lane as a stream thread or as a partner. -/
def State.isStream (s : State) (q t : Nat) : Bool := decide (t < 8) || s.rd (R.WVR_THREAD_t.role q) t == 2

/-- The channel of a thread: that of its lane, or of the handler that a service thread runs. -/
def State.threadChan (s : State) (q t : Nat) : Nat :=
  if s.isStream q t then s.chan (s.threadLane q t)
  else match (s.eng (16 * q + t)).todo with
    | h :: _ => h.chan
    | [] => 4 * q

/-- The channels that a thread's fence concerns: those of its lane, or of the programs whose frame handlers it runs. -/
def State.threadChans (s : State) (q t : Nat) : List Nat :=
  if s.isStream q t then [s.chan (s.threadLane q t)]
  else (upTo (fun i => 4 * q + i) 4).filter (fun c => (upTo id 4).any (fun k =>
    match s.prog c k with | some p => p.thread == t | none => false))

/-- A thread stops at once. -/
def State.stopThread (s : State) (q t : Nat) : State :=
  s.setEng (16 * q + t) { s.eng (16 * q + t) with running := false, due := [], todo := [] }

/-- Channels of a quad brought up to date after a fence or a lift on it; a channel whose first stream thread is fenced, or whose last
underlying fence has gone, is reported as kind 2 (Table 13.17, R369). -/
def State.followFence (s : State) (q : Nat) (was : List (Bool × Bool)) : State :=
  iter (fun i s =>
    let c := 4 * q + i
    let before := was.getD i (false, false)
    let s := if s.chanThreadFenced c && !before.2 then s.reportFence 2 c 2 true
      else if before.1 && !s.chanFenced c then s.reportFence 2 c 2 false else s
    s.refreshChan c) 0 4 s

/-- Which channels of a quad are fenced, and which with cause THREAD. -/
def State.quadFenced (s : State) (q : Nat) : List (Bool × Bool) :=
  upTo (fun i => (s.chanFenced (4 * q + i), s.chanThreadFenced (4 * q + i))) 4

/-- Thread `t` of Weaver `q` is fenced with a cause of Table 9.11 (R250, R369). -/
def State.fenceThread (s : State) (q t cause : Nat) : State :=
  let was := s.quadFenced q
  let s := if s.on (R.WVR_THREAD_t.fence_cause q) t then s else s.wr (R.WVR_THREAD_t.fence_cause q) t cause
  let s := (s.wr (R.WVR_THREAD_t.thread_reset_done q) t 0).stopThread q t
  let s := s.wr R.WVR_STATUS.threads_fenced q (setBitField (s.rd R.WVR_STATUS.threads_fenced q) t 1 1)
  let s := (s.latch R.WVR_EVENT.thread_fence q).reportFence 3 (16 * q + t) cause true
  (s.followFence q was).internalFault true

/-- Weaver `q` is fenced with a cause of Table 9.11: all its threads stop (R250, R369). -/
def State.fenceWeaver (s : State) (q cause : Nat) : State :=
  let was := s.quadFenced q
  let s := if s.on R.WVR_STATUS.fence_cause q then s else s.wr R.WVR_STATUS.fence_cause q cause
  let s := iter (fun t s => s.stopThread q t) 0 16 (s.wr R.WVR_STATUS.wvr_reset_done q 0)
  let s := (s.latch R.WVR_EVENT.fence q).reportFence 4 q cause true
  (s.followFence q was).internalFault true

/-! Memories of Weavers and Reeves (R236, R237, R269). -/

/-- Where the private region of a thread lies; a partner sees that of its stream thread (R234). -/
def State.privateBase (s : State) (q t : Nat) : Nat :=
  let u := if t < 8 ∨ s.rd (R.WVR_THREAD_t.role q) t ≠ 2 then t
    else 2 * (s.rd (R.WVR_THREAD_t.lane q) t % 4) + (t % 2)
  0x1800000 + q * 0x20000 + u * 0x1000

/-- `n` bytes of the shared region of Weaver `q` at an offset; the first 8 KiB are the parameter blocks (R246). -/
def State.sharedRead (s : State) (q off n : Nat) : Nat :=
  if off < 0x2000 then
    let w := fun (k : Nat) => (Tab.get 0 s.pblk (2048 * q + k)).toNat
    if n = 8 then w (off / 8 * 2) + 2 ^ 32 * w (off / 8 * 2 + 1) else w (off / 4)
  else s.bytes (0x1810000 + q * 0x20000 + off) n

/-- `n` bytes of the shared region set. -/
def State.sharedWrite (s : State) (q off n v : Nat) : State :=
  if off < 0x2000 then
    let put := fun (s : State) (k v : Nat) => { s with pblk := Tab.put 0 s.pblk (2048 * q + k) (BitVec.ofNat 32 v) }
    if n = 8 then put (put s (off / 8 * 2) v) (off / 8 * 2 + 1) (v / 2 ^ 32) else put s (off / 4) v
  else s.setBytes (0x1810000 + q * 0x20000 + off) n v

/-- A word of a Weaver's memory read with a decode class (Table 9.5): 0 instruction memory, 1 private, 2 shared. A UE or AE is
recorded and fences thread `t`. -/
def State.weaverEcc (s : State) (q t mem word : Nat) (c : EccClass) : State :=
  if c = .clean then s
  else if eccBad c then
    let s := (s.countD 3 1).latch R.WVR_EVENT.ecc_ue q
    let s := ((s.wr R.WVR_ECC_LAST.class_ q (bit (c == .ae))).wr R.WVR_ECC_LAST.mem q mem).wr R.WVR_ECC_LAST.addr q word
    s.fenceThread q t (if mem = 0 then 1 else 2)
  else s.countD 2 1

/-- A word of a Reeve's memory read with a decode class: 1 instruction memory, 2 data memory. A UE or AE fences the Reeve. -/
def State.reeveEcc (s : State) (r mem : Nat) (c : EccClass) : State :=
  if c = .clean then s
  else if eccBad c then
    (((s.countD 3 1).latch R.RVE_EVENT.ecc_ue r).wr R.RVE_STATUS.ue_mem r mem).fenceReeve r mem
  else s.countD 2 1

/-! The Almanac (Tables 9.10, 4.15, 5.8 to 5.10, 6.12 to 6.14, 7.12). -/

/-- Ranges and defaults of an Almanac program's parameters, from word 8 on: minimum, maximum, default. A default taken from the
channel stands as 0 here. -/
def almanacParams : Nat → List (Nat × Nat × Nat)
  | 1 => [(0, 262143, 0), (0, 262143, 0), (0, 1, 0), (2, 8, 3), (2, 16, 5), (2, 16, 4), (0, 1, 1), (0, 1, 1), (0, 1, 0),
      (0, 255, 0), (1, 7, 2)]
  | 2 => [(0, 5, 0), (0, 2, 0), (64, 9600, 2000), (0, 1, 1), (0, 1, 0), (0, 1, 1), (0, 3, 0), (1, 128, 10), (0, 1, 1),
      (0, 1, 1), (0, 1, 1), (0, 1, 0), (0, 1, 1), (0, 0xFFFF, 0), (0, 0xFFFFFFFF, 0)]
  | 3 => [(1, 10, 1), (2, 8, 2), (2, 16, 4), (0, 1, 1)]
  | 4 => [(0, 0xFFFF, 6), (0, 65535, 0), (0, 1, 1), (0, 2, 0), (0, 65535, 0)]
  | 5 => [(0, 65535, 0), (0, 1, 0), (0, 20000000, 0)]
  | 6 => [(0, 1, 1)]
  | 7 => [(0, 1000, 10), (0, 100000, 100), (0, 1000, 0), (0, 100000, 100), (0, 1000, 10), (0, 100000, 100),
      (0, 1000, 10), (0, 100000, 100), (1, 4000, 100), (1, 4000, 400), (1, 4000, 400), (1, 4000, 400),
      (1, 150, 4), (1, 150, 4), (1, 16, 3), (1, 16, 3), (1, 16, 5), (1, 16, 5), (1, 16, 3), (1, 16, 2),
      (1, 32000, 101), (1, 32000, 7509), (1, 16, 3), (1, 16, 1), (1, 100, 10), (1, 100, 10), (0, 100000, 100),
      (0, 100000, 1000), (0, 1, 1), (0, 1, 0), (0, 1, 0), (0, 1, 1)]
  | _ => []

/-- Status words of an Almanac program. -/
def almanacStatus : Nat → Nat
  | 1 => 17 | 2 => 10 | 3 => 7 | 4 => 1 | 5 => 7 | 6 => 6 | _ => 0

/-- Status words whose default is not 0: esmc_ql_rx (Table 5.8). -/
def almanacStatusInit (id w : Nat) : Nat := if id = 2 ∧ w = 27 then 0xF else 0

/-- Home slot of an Almanac program. -/
def almanacSlot : Nat → Option Nat
  | 1 => some 0 | 2 => some 0 | 3 => some 0 | 4 => some 1 | 5 => some 1 | 6 => some 1 | 7 => some 2 | _ => none

/-- Worst cases of an Almanac program in bundles: rx_beat, tx_beat, frame. -/
def almanacCost : Nat → Nat × Nat × Nat
  | 1 => (6, 6, 420) | 2 => (5, 5, 260) | 3 => (3, 2, 120) | 4 => (2, 0, 80) | 5 => (1, 1, 360) | 6 => (1, 1, 300)
  | _ => (0, 0, 240)

/-- The PHY type of a channel (Table 5.1), by lanes, line rate and modulation. -/
def State.phyOf (s : State) (c : Nat) : Option Nat :=
  let k := kbps (s.lane c).rate
  let w := (s.lane c).width
  let pam := s.on R.LANE_SPEED.pam4 c
  if k = 10312500 ∧ w = 1 ∧ !pam then some 0
  else if k = 25781250 ∧ w = 1 ∧ !pam then some 1
  else if k = 53125000 ∧ w = 1 ∧ pam then some 2
  else if k = 106250000 ∧ pam then (match w with | 1 => some 3 | 2 => some 4 | _ => some 5)
  else none

/-- The fec codes that a PHY type allows. -/
def phyFec (phy fec : Nat) : Bool :=
  match phy with
  | 0 => fec == 0
  | 1 => decide (fec ≤ 1)
  | _ => fec == 2

/-- The CPRI option of a channel (Table 5.6), by its line rate; CPRI lanes are single and NRZ. -/
def State.cpriOf (s : State) (c : Nat) : Option Nat :=
  if (s.lane c).width ≠ 1 ∨ s.on R.LANE_SPEED.pam4 c then none
  else match kbps (s.lane c).rate with
    | 614400 => some 1 | 1228800 => some 2 | 2457600 => some 3 | 3072000 => some 4 | 4915200 => some 5
    | 6144000 => some 6 | 9830400 => some 7 | 10137600 => some 8 | 12165120 => some 9 | 24330240 => some 10
    | _ => none

/-! Parameter blocks. -/

/-- The range of word `w` of a program's block, when it is a parameter. -/
def Prog.range (p : Prog) (w : Nat) : Option (Nat × Nat × Nat) := if w < 8 then none else p.ranges[w - 8]?

/-- A value of parameter word `w` passes its range and its program's own check (R140, R247). -/
def State.paramOk (s : State) (c : Nat) (p : Prog) (w v : Nat) : Bool :=
  match p.range w with
  | none => false
  | some (lo, hi, _) =>
    decide (lo ≤ v ∧ v ≤ hi) &&
      (match p.id, w with
        | 2, 8 => s.phyOf c == some v
        | 2, 9 => (match s.phyOf c with | some k => phyFec k v | none => false)
        | 3, 8 => s.cpriOf c == some v
        | _, _ => true)

/-- The index of a block's word held pending, replaced by a new value behind the others. -/
def State.pendParam (s : State) (c slot w : Nat) (v : W32) (h : Option CmdHead) : State :=
  let i := blockWord c slot w
  let s := { s with pblkPending := s.pblkPending ++ [(i, v, h)] }
  s.setPw c slot 3 (setBitField (s.pw c slot 3) 31 1 1)

/-- The FEC unit's control word of an Almanac program in slot 0 (R18): the code of its rate in Table 4.1 or of its fec parameter,
which with RS-FEC has the transcoding of IEEE 802.3 (R111), and none on a CPRI channel. -/
def State.almanacFec (s : State) (c : Nat) : Option Nat :=
  if s.carriesVtf c then (s.rateCode c).map (fun rc => match rc with | 0 => 0 | 1 => 1 | _ => 2)
  else if s.runs c 0 2 then some (if s.pw c 0 9 = 0 then 0 else s.pw c 0 9 % 4 + 4)
  else if s.runs c 0 3 then some 0
  else none

/-- The FEC units of a channel's lanes set by its Almanac program in slot 0 (R18). -/
def State.progFec (s : State) (c : Nat) : State :=
  match s.almanacFec c with
  | some v => (s.chanLanes c).foldl (fun s n => s.fecWrite n v) s
  | none => s

/-- What follows when parameters of a program take effect: the FEC code of an Ethernet channel is that of fec (R18), the preemption procedure starts anew on a write of preempt_en or
pre_verify (R120), the defect parameters are judged (R175), the TX calendar views follow. -/
def State.afterParams (s : State) (c slot : Nat) (ws : List Nat) : State :=
  let s := if slot = 0 ∧ s.carriesVtf c ∧ (ws.contains 11 ∨ ws.contains 12 ∨ ws.contains 13) then
      (s.chanLanes c).foldl (fun s n => s.unitsByAlmanac [2] n) s else s
  let s := if slot = 0 ∧ s.runs c 0 2 ∧ (ws.contains 8 ∨ ws.contains 9) then s.progFec c else s
  if slot = 0 ∧ s.runs c 0 2 ∧ (ws.contains 12 ∨ ws.contains 13) then
    (s.setChanX c { s.chanX c with verifies := 0 }).setPw c 0 26
      (if s.pw c 0 12 = 0 then 0 else if s.pw c 0 13 = 0 then 2 else 1)
  else if slot = 2 then s.refreshChan c
  else s

/-- The pending values of a block take effect together, in the order written, or are refused and set param_err; each command
that wrote one completes once, with the new gen (R247), and one of whose values is refused at the boundary changes nothing
(R418). -/
def State.applyParams (s : State) (c slot : Nat) : State :=
  match s.prog c slot with
  | none => s
  | some p =>
    let base := blockWord c slot 0
    let mine := s.pblkPending.filter (fun e => decide (base ≤ e.1 ∧ e.1 < base + 128))
    if mine.isEmpty then s
    else
      let s := { s with pblkPending := s.pblkPending.filter (fun e => !decide (base ≤ e.1 ∧ e.1 < base + 128)) }
      let bad := mine.filter (fun e => !s.paramOk c p (e.1 - base) e.2.1.toNat)
      let badHeads := (bad.filterMap (fun e => e.2.2)).eraseDups
      let good := mine.filter (fun e => s.paramOk c p (e.1 - base) e.2.1.toNat &&
        (match e.2.2 with | some h => !badHeads.contains h | none => true))
      let s := match bad with
        | e :: _ => s.setPw c slot 3 (setBitField (setBitField (s.pw c slot 3) 0 8 (e.1 - base)) 30 1 1)
        | [] => s
      let s := good.foldl (fun (s : State) e => s.setPw c slot (e.1 - base) e.2.1.toNat) s
      let s := s.setPw c slot 3 (setBitField (s.pw c slot 3) 31 1 0)
      let s := s.setPw c slot 2 (s.pw c slot 2 + 1)
      let s := s.afterParams c slot (good.map (fun e => e.1 - base))
      let s := badHeads.foldl (fun (s : State) h => s.fail h .illegalState) s
      ((good.filterMap (fun e => e.2.2)).eraseDups).foldl (fun (s : State) h => s.ok h (s.pw c slot 2)) s

end Sys2Proof.Machine
end

