-- ==== Sys2Proof/Machine/VsiCode.lean ====
section
/-! DEFINITION. Program images and the verifier (R240, R241, R253 to R262, R269, R270, R272): fields of a syllable, the rules of
Table 9.7 and the worst cases they bound. A rule about paths is defined over the list of all paths of an entry. -/
namespace Sys2Proof.Machine

/-! Syllables (Tables 10.1 and 10.2). -/

/-- Fields of a syllable. -/
def sOp (w : Nat) : Nat := bitField w 26 6
def sRd (w : Nat) : Nat := bitField w 21 5
def sRa (w : Nat) : Nat := bitField w 16 5
def sRb (w : Nat) : Nat := bitField w 11 5
def sPg (w : Nat) : Nat := bitField w 8 3
def sFn (w : Nat) : Nat := bitField w 0 8
def sImm (w : Nat) : Nat := bitField w 0 16
def sPos (w : Nat) : Nat := bitField w 7 9
def sWidth (w : Nat) : Nat := bitField w 1 6 + 1

/-- The slot of an opcode: 0 F, 1 A, 2 Q, 3 C (R254). -/
def slotOfOp (op : Nat) : Nat := op / 16

/-- Profile of an opcode: 1 stream, 2 control, 0 base (Table 10.2). -/
def profileOf (op : Nat) : Nat :=
  if [0x01, 0x02, 0x03, 0x25, 0x26, 0x27, 0x28, 0x29, 0x36].contains op then 1
  else if [0x2B, 0x2C, 0x2D, 0x2E, 0x2F, 0x3B, 0x3C, 0x3D, 0x3E, 0x3F].contains op then 2
  else 0

/-- The fields rd, ra, rb that a port operation uses and the latency of its result, 0 when it has none; `none` when the port does
not list the operation (Table 10.9). -/
def portUse (port op : Nat) : Option (Bool × Bool × Bool × Nat) :=
  match port with
  | 0 => if op ≤ 2 then some (true, false, false, 1) else none
  | 1 => if op ≤ 1 then some (true, true, false, 4) else none
  | 2 => match op with
    | 0 => some (false, true, true, 0) | 1 => some (true, false, false, 1) | _ => none
  | 3 => match op with
    | 0 => some (true, true, true, 2) | 1 => some (false, true, true, 0) | 2 => some (false, true, true, 0)
    | 3 => some (false, true, true, 0) | 4 => some (false, true, true, 0) | _ => none
  | 4 => match op with
    | 0 => some (false, true, true, 0) | 1 => some (true, false, false, 1) | 2 => some (false, true, false, 0)
    | 3 => some (false, false, false, 0) | _ => none
  | 5 => match op with
    | 0 => some (false, true, true, 0) | 1 => some (true, true, false, 1) | 2 => some (true, true, false, 1) | _ => none
  | 6 => if op = 0 ∨ op = 2 ∨ op = 4 then some (false, false, true, 0)
    else if op = 1 ∨ op = 3 ∨ (8 ≤ op ∧ op ≤ 12) then some (true, false, false, 1) else none
  | 7 => if op ≤ 3 then some (true, true, false, 2) else none
  | 8 => if op = 0 then some (false, true, true, 0) else none
  | 9 => match op with
    | 0 => some (true, true, false, 1) | 1 => some (false, true, true, 0) | 2 => some (true, true, false, 1) | _ => none
  | 10 => match op with
    | 0 => some (true, true, false, 2) | 1 => some (false, true, true, 0) | _ => none
  | _ => none

/-- The encoding of a syllable is not reserved (R255 and the conditions of Tables 10.4, 10.6 to 10.8, 10.13). A port that does
not exist is left to rule MEM_RANGE. -/
def sylOk (w : Nat) : Bool :=
  let op := sOp w
  let rd := sRd w
  let ra := sRa w
  let rb := sRb w
  let pg := sPg w
  let fn := sFn w
  let pred := decide (rd / 8 = 0 ∧ rd ≠ 0)
  match op with
  | 0x00 => w == 0
  | 0x01 => true
  | 0x02 => w % 2 == 0
  | 0x03 => ra == 0 && rb == 0 && decide (fn ≤ 6)
  | 0x04 => decide (sPos w ≤ 63 ∧ sPos w + sWidth w ≤ 64)
  | 0x05 => w % 2 == 0 && decide (sPos w ≤ 63 ∧ sPos w + sWidth w ≤ 64)
  | 0x06 => rb == 0 && decide (fn ≤ 5)
  | 0x07 => decide (fn % 4 ≠ 3 ∧ fn / 32 = 0)
  | 0x10 => w == 0x40000000
  | 0x11 => decide (fn ≤ 13)
  | 0x12 => true | 0x13 => true | 0x14 => true | 0x15 => true
  | 0x16 => decide (ra < 4)
  | 0x17 => rb == 0
  | 0x18 => decide (fn ≤ 2)
  | 0x19 => pred && decide (fn ≤ 5)
  | 0x1A => decide (rd % 8 ≠ 0 ∧ rd / 8 ≤ 3)
  | 0x1B => fn == 0
  | 0x1C => pred && decide (fn ≤ 2 ∧ ra < 16 ∧ rb < 16)
  | 0x20 => w == 0x80000000
  | 0x21 => true | 0x22 => true | 0x23 => true | 0x24 => true
  | 0x25 => true | 0x26 => true | 0x27 => true | 0x28 => true
  | 0x29 => if 10 < fn / 16 then true
    else match portUse (fn / 16) (fn % 16) with
      | some (d, a, b, _) => (d || rd == 0) && (a || ra == 0) && (b || rb == 0)
      | none => false
  | 0x2B => true | 0x2C => true | 0x2D => true | 0x2E => true
  | 0x2F => decide (fn ≤ 5)
  | 0x30 => w == 0xC0000000
  | 0x31 => bitField w 20 6 == 0 && bitField w 14 2 == 0
  | 0x32 => bitField w 20 6 == 0 && bitField w 14 2 == 0
  | 0x33 => rd == 0 && ra == 0 && rb == 0 && fn == 0
  | 0x34 => sImm w != 0 && bitField w 16 10 != 0
  | 0x35 => bitField w 21 5 != 0
  | 0x36 => w == 0xD8000000
  | 0x37 => rd == 0 && ra == 0 && rb == 0 && pg == 0
  | 0x3B => ra == 0 && rb == 0 && fn == 0
  | 0x3C => decide (fn ≤ 2)
  | 0x3D => decide (fn ≤ 3)
  | 0x3E => decide (fn ≤ 2)
  | 0x3F => decide (fn ≤ 3)
  | _ => false

/-- The instruction's row says "guarded" (R258). -/
def guardedOp (op : Nat) : Bool :=
  [0x03, 0x06, 0x07, 0x11, 0x17, 0x18, 0x19, 0x1C, 0x29, 0x33, 0x2F, 0x3B, 0x3C, 0x3D, 0x3E, 0x3F].contains op

/-- The places that a syllable reads: registers 0 to 31, predicates as 32 to 39. -/
def sylReads (w : Nat) : List Nat :=
  let op := sOp w
  let g := if guardedOp op ∨ op = 0x1B then [32 + sPg w] else []
  g ++ match op with
    | 0x01 => [sRa w] | 0x02 => [sRd w, sRa w] | 0x04 => [sRa w] | 0x05 => [sRd w, sRa w] | 0x06 => [sRa w]
    | 0x07 => [sRa w, sRb w] | 0x11 => [sRa w, sRb w] | 0x12 => [sRa w] | 0x13 => [sRa w] | 0x14 => [sRa w]
    | 0x15 => [sRa w] | 0x16 => [sRd w] | 0x17 => [sRa w] | 0x18 => [sRa w, sRb w] | 0x19 => [sRa w, sRb w]
    | 0x1A => [sRa w] | 0x1B => [sRa w, sRb w] | 0x1C => [32 + sRa w % 8, 32 + sRb w % 8]
    | 0x21 => [sRa w] | 0x22 => [sRa w] | 0x23 => [sRd w, sRa w] | 0x24 => [sRd w, sRa w]
    | 0x25 => [sRa w] | 0x26 => [sRa w] | 0x27 => [sRd w, sRa w] | 0x28 => [sRd w, sRa w]
    | 0x29 => [sRa w, sRb w] | 0x2B => [sRa w] | 0x2C => [sRd w, sRa w] | 0x2D => [sRa w] | 0x2E => [sRd w, sRa w]
    | 0x2F => [sRa w, sRb w] | 0x31 => [32 + bitField w 16 3] | 0x32 => [32 + bitField w 16 3] | 0x35 => [sRa w]
    | 0x3C => [sRa w] | 0x3D => [sRa w] | 0x3E => [sRa w] | 0x3F => [sRa w]
    | _ => []

/-- The place that a syllable writes, with the latency of the result. Register 0 takes no result. -/
def sylWrites (w : Nat) : List (Nat × Nat) :=
  let op := sOp w
  let r := fun (l : Nat) => if sRd w = 0 then [] else [(sRd w, l)]
  if [0x01, 0x03, 0x04, 0x05, 0x06, 0x11, 0x12, 0x13, 0x14, 0x15, 0x16, 0x17, 0x1B].contains op then r 1
  else match op with
    | 0x07 => r 2
    | 0x18 => r 3
    | 0x19 => [(32 + sRd w % 8, 1)]
    | 0x1A => [(32 + sRd w % 8, 1)]
    | 0x1C => [(32 + sRd w % 8, 1)]
    | 0x21 => r 2 | 0x22 => r 2
    | 0x25 => r 20 | 0x26 => r 20
    | 0x29 => match portUse (sFn w / 16) (sFn w % 16) with
      | some (true, _, _, l) => r l
      | _ => []
    | _ => []

/-- A shared-region access. -/
def sylShared (w : Nat) : Bool := decide (0x25 ≤ sOp w ∧ sOp w ≤ 0x28)

/-! Images (Table 9.6). -/

/-- A 32-bit field of an image. -/
def imgW (img : List Nat) (o : Nat) : Nat := ofLeBytes ((img.drop o).take 4)

/-- The header of an image. -/
structure Header where
  target : Nat
  id : Nat
  version : Nat
  n : Nat
  entries : List Nat
  nParam : Nat
  nStatus : Nat
  sigKey : Nat
  deriving DecidableEq, Repr

/-- The header of an image, when rule BAD_HEADER does not reject it (R241, R256). -/
def headerOf (img : List Nat) (target : Nat) : Option Header :=
  let h : Header := { target := imgW img 8, id := imgW img 12 % 2 ^ 16, version := imgW img 12 / 2 ^ 16, n := imgW img 16,
                      entries := [imgW img 20, imgW img 24, imgW img 28, imgW img 32, imgW img 36],
                      nParam := imgW img 40 % 256, nStatus := imgW img 40 / 256 % 256, sigKey := imgW img 44 % 256 }
  let size := 0x40 + 16 * h.n + 12 * h.nParam + (if h.sigKey = 0xFF then 0 else 96)
  let has := fun (k : Nat) => h.entries.getD k 0 != 0xFFFFFFFF
  let reeve := has 0 && has 3 && !has 1 && !has 2 && !has 4
  if 0x40 ≤ img.length ∧ img.length ≤ 2 ^ 20 ∧ imgW img 0 = 0x56534931 ∧ imgW img 4 = 1 ∧ h.target = target ∧
      imgW img 40 / 2 ^ 16 = 0 ∧ imgW img 44 / 2 ^ 8 = 0 ∧ (upTo (fun i => imgW img (48 + 4 * i)) 4).all (· == 0) ∧
      1 ≤ h.n ∧ h.n ≤ (if target = 1 then 4096 else 16384) ∧ img.length = size ∧ (target = 0 ∨ reeve) then some h
  else none

/-- Syllable `k` of bundle `i` of an image. -/
def syl (img : List Nat) (i k : Nat) : Nat := imgW img (0x40 + 16 * i + 4 * k)

/-- Minimum, maximum and default of the parameters of an image. -/
def imageRanges (img : List Nat) (h : Header) : List (Nat × Nat × Nat) :=
  upTo (fun i => (imgW img (0x40 + 16 * h.n + 12 * i), imgW img (0x40 + 16 * h.n + 12 * i + 4),
                  imgW img (0x40 + 16 * h.n + 12 * i + 8))) h.nParam

/-! Paths. -/

/-- Where a path stands: bundle, active reps as first bundle, last bundle and runs left, return stack, bundles so far, newest
first. -/
structure Path where
  pc : Nat
  loops : List (Nat × Nat × Nat)
  rs : List Nat
  seen : List Nat
  deriving DecidableEq, Repr

/-- How a path ends. -/
inductive PathEnd where
  /-- At a yield that takes effect, at the last bundle of the code of an entry without one, or at a fault of the code. -/
  | yields | falls | target | loop
  deriving DecidableEq, Repr

/-- The bundle after `j` once the reps that end at `j` have closed, with the reps that go on (R261). -/
def closeLoops : List (Nat × Nat × Nat) → Nat → Nat × List (Nat × Nat × Nat)
  | [], j => (j + 1, [])
  | (a, b, k) :: t, j => if b ≠ j then (j + 1, (a, b, k) :: t) else if 1 < k then (a, (a, b, k - 1) :: t) else closeLoops t j

/-- A body that ends after a body that encloses it. -/
def nestBad (loops : List (Nat × Nat × Nat)) (last : Nat) : Bool := loops.any (fun l => decide (l.2.1 < last))

/-- A branch that leaves or enters a rep body other than through its close. -/
def crosses (loops : List (Nat × Nat × Nat)) (t : Nat) : Bool :=
  match loops with
  | (a, b, _) :: _ => decide (t < a ∨ b < t)
  | [] => false

/-- Every path from a place on, as its bundles, oldest first, and its end. -/
def paths (img : List Nat) (n : Nat) : Nat → Path → List (List Nat × PathEnd)
  | 0, p => [(p.seen.reverse, .loop)]
  | fuel + 1, p =>
    if n ≤ p.pc then [(p.seen.reverse, .falls)]
    else
      let w := syl img p.pc 3
      let seen := p.pc :: p.seen
      let stop := fun (e : PathEnd) => [(seen.reverse, e)]
      let (next, left) := closeLoops p.loops p.pc
      let on := fun (_ : Unit) => paths img n fuel { p with pc := next, loops := left, seen := seen }
      let closes : Bool := match p.loops with | (_, b, _) :: _ => b == p.pc | [] => false
      let t := bitField w 0 14
      match sOp w with
      | 0x31 =>
        if closes ∨ t ≤ p.pc ∨ crosses p.loops t then stop .loop
        else paths img n fuel { p with pc := t, seen := seen } ++ on ()
      | 0x32 =>
        if closes ∨ t ≤ p.pc ∨ 4 ≤ p.rs.length then stop .loop
        else paths img n fuel { p with pc := t, rs := (p.pc + 1) :: p.rs, seen := seen } ++ on ()
      | 0x33 =>
        if closes then stop .loop
        else match p.rs with
          | [] => stop .target
          | r :: rs => paths img n fuel { p with pc := r, rs := rs, seen := seen } ++ (if sPg w = 0 then [] else on ())
      | 0x34 =>
        let b := p.pc + bitField w 16 10
        if 4 ≤ p.loops.length ∨ nestBad p.loops b ∨ closes then stop .loop
        else paths img n fuel { p with pc := p.pc + 1, loops := (p.pc + 1, b, sImm w) :: p.loops, seen := seen }
      | 0x35 =>
        let b := p.pc + bitField w 21 5
        if sImm w = 0 ∨ 4 ≤ p.loops.length ∨ nestBad p.loops b ∨ closes then stop .loop
        else paths img n fuel { p with pc := p.pc + 1, loops := (p.pc + 1, b, sImm w) :: p.loops, seen := seen }
      | 0x36 => if closes ∧ !left.isEmpty then on () else if !closes ∧ !p.loops.isEmpty then stop .falls else stop .yields
      | 0x3B => stop .yields
      | _ => on ()

/-- All paths of an entry. Every path ends within the bundles that four nested reps of the longest code can issue. -/
def entryPaths (img : List Nat) (h : Header) (e : Nat) : List (List Nat × PathEnd) :=
  let a := h.entries.getD e 0xFFFFFFFF
  if a = 0xFFFFFFFF then [] else paths img h.n (2 ^ 80) { pc := a, loops := [], rs := [], seen := [] }

/-- The longest path of an entry in bundles; 0 when the entry is absent. -/
def worstCase (img : List Nat) (h : Header) (e : Nat) : Nat :=
  (entryPaths img h e).foldl (fun m p => max m p.1.length) 0

/-! Rules (Table 9.7). -/

/-- The index of the first bundle of a path whose read comes before a result is visible, whose write falls due in a cycle in which
another does, or whose result outlasts the entry (R257, R259). -/
def pathHazard (img : List Nat) (p : List Nat) : Bool :=
  let writes := (p.zipIdx.map (fun e => (upTo (fun k => (sylWrites (syl img e.1 k)).map (fun w => (w.1, e.2, w.2))) 4).flatten)).flatten
  let early := p.zipIdx.any (fun e => (upTo (fun k => sylReads (syl img e.1 k)) 4).flatten.any (fun r =>
    writes.any (fun w => w.1 == r && decide (w.2.1 < e.2 ∧ e.2 < w.2.1 + w.2.2))))
  let clash := writes.zipIdx.any (fun a => writes.zipIdx.any (fun b =>
    a.2 != b.2 && a.1.1 == b.1.1 && a.1.2.1 + a.1.2.2 == b.1.2.1 + b.1.2.2))
  let late := writes.any (fun w => decide (p.length < w.2.1 + w.2.2))
  early || clash || late

/-- The cycles of a path in which it accesses the shared region. -/
def pathShared (img : List Nat) (p : List Nat) : List Nat :=
  (p.zipIdx.filter (fun e => (upTo (fun k => syl img e.1 k) 4).any sylShared)).map (·.2)

/-- Accesses fewer than 16 bundles apart (R259). -/
def tooClose : List Nat → Bool
  | a :: b :: t => decide (b < a + 16) || tooClose (b :: t)
  | _ => false

/-- The budgets of a mode (Table 9.4): beat and service, in bundles. -/
structure Budget where
  beat : Nat
  service : Nat
  deriving DecidableEq, Repr

/-- The code of the first rule that an image breaks after the header, signature and unsigned rules, in the order of Table 9.7: 0
when it breaks none. `target` is 0 for a Weaver and 1 for a Reeve. -/
def verifyCode (img : List Nat) (h : Header) (b : Budget) : Nat :=
  let all := fun (f : Nat → Nat → Bool) => (upTo (fun i => (upTo (fun k => f (syl img i k) k) 4).all id) h.n).all id
  let region := fun (w : Nat) =>
    if h.target = 1 then 262144 else if sylShared w then 65536 else 4096
  let memOp := fun (w : Nat) => decide (0x21 ≤ sOp w ∧ sOp w ≤ 0x28)
  let entries := h.entries.filter (· ≠ 0xFFFFFFFF)
  let ps := upTo (fun e => entryPaths img h e) 5
  let each := fun (f : Nat → List Nat × PathEnd → Bool) => ps.zipIdx.any (fun l => l.1.any (f l.2))
  let yieldAt := fun (i : Nat) => sOp (syl img i 3) == 0x36
  if !all (fun w _ => profileOf (sOp w) != (if h.target = 0 then 2 else 1)) then 0x07
  else if !all (fun w _ => sylOk w) then 0x05
  else if !all (fun w k => slotOfOp (sOp w) == k) then 0x06
  else if entries.any (fun e => decide (h.n ≤ e))
      || !all (fun w _ => !(sOp w == 0x31 || sOp w == 0x32) || decide (bitField w 0 14 < h.n))
      || each (fun _ p => p.2 == .target) then 0x08
  else if h.target = 0 && each (fun e p =>
      if e = 1 ∨ e = 2 then p.2 != .yields && p.2 != .loop
      else p.2 == .falls && p.1.any yieldAt) then 0x0C
  else if each (fun _ p => p.2 == .loop) then 0x09
  else if h.target = 0 && each (fun e p => pathHazard img p.1 ||
      (if e = 1 ∨ e = 2 then !(pathShared img p.1).isEmpty else tooClose (pathShared img p.1))) then 0x0A
  else if !all (fun w _ => !(memOp w && sRa w == 0) || decide (signedOf 16 (sImm w) ≥ 0 ∧ sImm w < region w))
      || !all (fun w _ => !(sOp w == 0x29) || decide (sFn w / 16 ≤ 10)) then 0x0D
  else if h.target = 0 && (decide (120 < h.nParam + h.nStatus)
      || (imageRanges img h).any (fun r => decide (r.2.1 < r.1 ∨ r.2.2 < r.1 ∨ r.2.1 < r.2.2))) then 0x0E
  else if h.target = 0 && (decide (b.beat < worstCase img h 1 ∨ b.beat < worstCase img h 2 ∨ b.service < worstCase img h 0
      ∨ b.service < worstCase img h 3 ∨ b.service < worstCase img h 4)) then 0x0B
  else 0

end Sys2Proof.Machine
end

