-- ==== Sys2Proof/Machine/AttachOps.lean ====
section
/-! DEFINITION. Attaching and detaching programs: budgets, partner lending, packing and parameter defaults (R234, R243, R244,
R180). -/
namespace Sys2Proof.Machine

/-! Budgets (Table 9.4). -/

/-- The budgets of a mode. -/
def Mode.budget : Mode → Budget
  | .errand => ⟨14, 3968⟩
  | .hearth => ⟨7, 1984⟩
  | _ => ⟨7, 3968⟩

/-- The number of service threads, from thread 8 on, that a mode can lend. -/
def Mode.lendable : Mode → Nat
  | .errand => 4 | .hearth => 6 | _ => 0

/-- A rate above 56.25 Gb/s. -/
def fastRate (rate : Nat) : Bool := decide (56250000000 * 2 ^ 16 < rate)

/-- The lanes of quad `q` that take partners in a mode, ascending (R234). -/
def State.pairedLanes (s : State) (m : Mode) (q : Nat) : List Nat :=
  if m.lendable = 0 then [] else (upTo (fun i => 4 * q + i) 4).filter (fun n => fastRate (s.lane n).rate)

/-- The partner lending fits the mode. -/
def State.lends (s : State) (m : Mode) (q : Nat) : Bool := decide (2 * (s.pairedLanes m q).length ≤ m.lendable)

/-- Programs on a channel, in slot order. -/
def State.progsOn (s : State) (c : Nat) : List Prog := (upTo id 4).filterMap (fun k => s.prog c k)

/-- Programs of a quad with their channel and slot, in attach order. -/
def State.progsIn (s : State) (q : Nat) : List (Nat × Nat × Prog) :=
  let l := ((upTo id 16).map (fun i => (4 * q + i / 4, i % 4))).filterMap (fun e => (s.prog e.1 e.2).map (fun p => (e.1, e.2, p)))
  (upTo id s.progNext).filterMap (fun o => l.find? (fun e => e.2.2.order == o))

/-- The beat handlers of a channel fit a mode (R243, step 5). -/
def State.beatsFit (s : State) (m : Mode) (c : Nat) : Bool :=
  let ps := s.progsOn c
  decide ((ps.map (·.wcRx)).foldl (· + ·) 0 ≤ m.budget.beat ∧ (ps.map (·.wcTx)).foldl (· + ·) 0 ≤ m.budget.beat)

/-- A program's frame handler fits a service thread beside those already on it: worst cases, and shared accesses at least 16
bundles apart (R243, R259). -/
def threadFits (m : Mode) (on_ : List Prog) (p : Prog) : Bool :=
  decide ((on_.map (·.wcFrame)).foldl (· + ·) 0 + p.wcFrame ≤ m.budget.service) &&
    (match p.edge, (on_.filterMap (·.edge)).getLast? with
      | some (a, _), some (_, b) => decide (16 ≤ a + b)
      | _, _ => true)

/-- Every program of a quad assigned, in attach order, to the first service thread of those not lent in a mode that has room for
it; `none` when one fits nowhere (R243, R244). -/
def State.packQuad (s : State) (m : Mode) (q : Nat) : Option (List (Nat × Nat × Prog)) :=
  let free := (upTo (fun i => 8 + i) 8).filter (fun t => decide (8 + 2 * (s.pairedLanes m q).length ≤ t))
  (s.progsIn q).foldl (fun acc e =>
    match acc with
    | none => none
    | some done =>
      match free.find? (fun t => threadFits m ((done.filter (fun d => d.2.2.thread == t)).map (fun d => d.2.2)) e.2.2) with
      | some t => some (done ++ [(e.1, e.2.1, { e.2.2 with thread := t })])
      | none => none) (some [])

/-- Every program of a quad fits a mode, its partner lending included (R244). -/
def State.quadFits (s : State) (m : Mode) (q : Nat) : Bool :=
  s.lends m q && (upTo (fun i => 4 * q + i) 4).all (s.beatsFit m) && (s.packQuad m q).isSome

/-- Roles and commitments of a quad's threads shown (WVR_THREAD_t). -/
def State.showThreads (s : State) (q : Nat) : State :=
  let lent := s.pairedLanes s.mode q
  iter (fun t s =>
    let put := fun (s : State) (role lane n : Nat) =>
      ((s.wr (R.WVR_THREAD_t.role q) t role).wr (R.WVR_THREAD_t.lane q) t lane).wr (R.WVR_THREAD_t.committed q) t n
    let beats := fun (n d : Nat) => ((s.progsOn (s.chan n)).map (fun p => if d = 0 then p.wcRx else p.wcTx)).foldl (· + ·) 0
    if t < 8 then
      let n := 4 * q + t / 2
      if (s.progsOn (s.chan n)).isEmpty then put s 0 0 0 else put s 1 n (beats n (t % 2))
    else match lent[(t - 8) / 2]? with
      | some n => put s 2 n (beats n (t % 2))
      | none =>
        let ps := (s.progsIn q).filter (fun e => e.2.2.thread == t)
        if ps.isEmpty then put s 0 0 0 else put s 3 0 ((ps.map (fun e => e.2.2.wcFrame)).foldl (· + ·) 0)) 0 16 s

/-- The quad's frame handlers assigned for the mode in force, and its threads shown. -/
def State.repack (s : State) (q : Nat) : State :=
  let s := match s.packQuad s.mode q with
    | some l => l.foldl (fun (s : State) (e : Nat × Nat × Prog) => s.setProg e.1 e.2.1 (some e.2.2)) s
    | none => s
  s.showThreads q

/-! Instruction memory (R243, step 4). -/

/-- Code of host images in Weaver `q`: first bundle and length. -/
def State.codeIn (s : State) (q : Nat) : List (Nat × Nat) :=
  ((s.progsIn q).filter (fun e => decide (0 < e.2.2.imageLen))).map (fun e => (e.2.2.codeBase, e.2.2.codeLen))

/-- Where an image's code goes: with an identical image that is resident, else at the lowest bundle with room. The spec leaves
the place open (assumption log entry 16, DESIGN CHOICE, unsafe). -/
def State.placeCode (s : State) (q : Nat) (img : List Nat) (n : Nat) : Option Nat :=
  match (s.progsIn q).find? (fun e => decide (0 < e.2.2.imageLen) && e.2.2.image == img) with
  | some e => some e.2.2.codeBase
  | none =>
    let used := s.codeIn q
    let ok := fun (b : Nat) => decide (b + n ≤ 16384) && used.all (fun u => decide (b + n ≤ u.1 ∨ u.1 + u.2 ≤ b))
    (0 :: used.map (fun u => u.1 + u.2)).foldl (fun best b =>
      if ok b then (match best with | some a => some (min a b) | none => some b) else best) none

/-- Bytes put into memory from an address on. -/
def State.putBytes (s : State) (a : Nat) : List Nat → State
  | [] => s
  | b :: t => State.putBytes (s.setByte a (BitVec.ofNat 8 b)) (a + 1) t

/-! Attaching. -/

/-- The default BIP-8 thresholds of a channel: sd_thr and sf_thr (Table 7.2, R180). -/
def State.bipDefaults (s : State) (c : Nat) : Nat × Nat :=
  match s.rateCode c with
  | some 0 => (9, 896) | some 1 => (25, 2278) | some 2 => (50, 4307) | _ => (101, 7509)

/-- An Almanac program as it would be attached. -/
def State.almanac (s : State) (c id : Nat) : Prog :=
  let (rx, tx, fr) := almanacCost id
  let rs := almanacParams id
  let put := fun (l : List (Nat × Nat × Nat)) (i v : Nat) =>
    match l[i]? with | some (a, b, _) => listSet l i (a, b, v) | none => l
  let rs := match id with
    | 2 => (match s.phyOf c with | some k => put (put rs 0 k) 1 (if 2 ≤ k then 2 else 0) | none => rs)
    | 3 => (match s.cpriOf c with | some k => put rs 0 k | none => rs)
    | 7 => put (put rs 20 (s.bipDefaults c).1) 21 (s.bipDefaults c).2
    | _ => rs
  let chars := id == 3 && (match s.cpriOf c with | some k => decide (k ≤ 7) | none => false)
  { id := id, version := s.rd R.GLB_REV.rom_build 0, unsigned := false, align := if chars then .chars8b10b else .blocks,
    wcRx := rx, wcTx := tx, wcFrame := fr, wcInit := 0, wcDetach := 0, nParam := rs.length, nStatus := almanacStatus id,
    entries := [], codeBase := 0, codeLen := 0, imageAddr := 0, imageLen := 0, thread := 8, order := s.progNext,
    ranges := rs, image := [], edge := none }

/-- The parameter block of a slot filled with the header, the defaults and the initial status (R243, R246). -/
def State.fillBlock (s : State) (c slot : Nat) (p : Prog) : State :=
  let s := iter (fun w s => s.setPw c slot w 0) 0 128 s
  let s := s.setPw c slot 0 (p.version * 2 ^ 16 + p.id)
  let s := s.setPw c slot 1 (p.nStatus * 2 ^ 16 + p.nParam * 2 ^ 8 + bit p.unsigned)
  let s := p.ranges.zipIdx.foldl (fun s e => s.setPw c slot (8 + e.2) e.1.2.2) s
  if p.imageLen = 0 then
    iter (fun k s => s.setPw c slot (8 + p.nParam + k) (almanacStatusInit p.id (8 + p.nParam + k))) 0 p.nStatus s
  else s

/-- A program's init or detach entry waits for the next run of its service thread (R232). -/
def State.queueEntry (s : State) (c slot k : Nat) (p : Prog) : State :=
  match p.entries[k]? with
  | some e =>
    if e = 0xFFFFFFFF then s
    else
      let i := 16 * (c / 4) + p.thread
      s.setEng i { s.eng i with extra := (s.eng i).extra ++ [⟨c, slot, p.codeBase + e⟩] }
  | none => s

/-- What a program's start means for the units of its channel (R18, R54, R120, R132, R137, R175). -/
def State.startProgram (s : State) (c slot : Nat) (p : Prog) : State :=
  let s := if p.imageLen = 0 ∧ slot = 0 then (s.chanLanes c).foldl (fun s n => s.unitsByAlmanac [1, 2, 3, 4] n) s else s
  let s := if p.imageLen = 0 then
      match p.id with
      | 1 => ((s.chanLanes c).foldl (fun s n => s.dropFraming n) (s.progFec c)).syncAlign c |>.syncCal c
      | 2 =>
        let s := (s.setChanX c { s.chanX c with txHeld := none, rxFrag := none, inserts := [] }).afterParams c 0 [8, 9, 12, 13]
        (s.lineFault c (s.linkFault c)).syncAlign c
      | 3 => (s.progFec c).hfHunt c
      | 7 => s.startDefects c
      | _ => s
    else s
  s.queueEntry c slot 0 p

/-- The program attached at its boundary: code, block, thread, init (R243). -/
def State.attachNow (s : State) (c slot : Nat) (p : Prog) : State :=
  let q := c / 4
  let p := { p with order := s.progNext }
  let s := { s with progNext := s.progNext + 1 }
  let s := if p.imageLen = 0 then s
    else s.putBytes (0x1000000 + q * 0x40000 + 16 * p.codeBase) ((p.image.drop 0x40).take (16 * p.codeLen))
  let s := ((s.setProg c slot (some p)).fillBlock c slot p).repack q
  let s := match s.prog c slot with | some p => s.startProgram c slot p | none => s
  if p.unsigned then s.report 8 4 c (p.id + slot * 2 ^ 16) else s

/-- Tributaries that end in the program of a slot (R171). -/
def State.tribsOf (s : State) (c slot : Nat) : List Nat :=
  if slot = 0 then ((s.tribsIn c 0 (s.calSel c 0)) ++ (s.tribsIn c 1 (s.calSel c 1))).map (·.1)
  else if s.runs c 1 5 ∧ slot = 1 then [s.pw c 1 8]
  else if slot = 1 then ((s.tribsIn c 0 (s.calSel c 0)).filter (fun e => e.2 == 1)).map (·.1)
  else []

/-- The program of a slot detached at its boundary: handlers stop, detach runs, its threads, share and block are freed, injectors on
its tributaries stop with cause 4 (R244, R195). -/
def State.detachNow (s : State) (c slot : Nat) : State :=
  match s.prog c slot with
  | none => s
  | some p =>
    let s := (s.tribsOf c slot).foldl (fun s t => s.stopInjectorsOn 2 t 4) s
    let s := s.queueEntry c slot 4 p
    let base := blockWord c slot 0
    let mine := fun (e : Nat × W32 × Option CmdHead) => decide (base ≤ e.1 ∧ e.1 < base + 128)
    let s := (((s.pblkPending.filter mine).filterMap (fun e => e.2.2)).eraseDups).foldl (fun (s : State) h => s.fail h .illegalState) s
    let s := { s with pblkPending := s.pblkPending.filter (fun e => !mine e) }
    let s := iter (fun w s => s.setPw c slot w 0) 0 128 (s.setProg c slot none)
    let s := s.repack (c / 4)
    if slot = 2 then s.refreshChan c else s

/-! Restart after a fence (R250). -/

/-- The programs of a channel restart: their private state is cleared and init runs again; the defects start clear (R250, R175). -/
def State.restartPrograms (s : State) (c : Nat) : State :=
  (upTo id 4).foldl (fun s k => match s.prog c k with | some p => s.startProgram c k p | none => s) s

end Sys2Proof.Machine
end

