-- ==== Sys2Proof/Machine/LedgOps.lean ====
section
/-! DEFINITION. The Ledger's operations (R330 to R337): what a generation saves, its opening and commit, the journal. -/
namespace Sys2Proof.Machine

/-! What a generation holds of the registers (R331). -/

/-- The fields of the register at `a` that are control state: the rw fields of LANE_, BELL_, TALLY_ and GRN_, queue and trunk
configuration, and protection groups. -/
def ctlMask (a : Nat) : Nat :=
  if 0x24000 ≤ a ∧ a < 0x28000 then 0x8000FFFF
  else if 0x28000 ≤ a ∧ a < 0x2C000 then 2 ^ 32 - 1
  else if 0x400000 ≤ a ∧ a < 0x800000 then
    (match a % 64 with
      | 0 => 2 ^ 32 - 1 - 2 ^ R.GRN_QD_CTRL.fenced.lo
      | 4 => 2 ^ 32 - 1
      | 8 => 2 ^ 32 - 1
      | 12 => 2 ^ 32 - 1
      | _ => 0)
  else if 0x840000 ≤ a ∧ a < 0x880000 then 2 ^ 31
  else if (0x100000 ≤ a ∧ a < 0x160000) ∨ (0x10000 ≤ a ∧ a < 0x20000) ∨ (0x40000 ≤ a ∧ a < 0x50000) ∨ (0x800000 ≤ a ∧ a < 0x840000) then
    (match regRow a with | some r => r.mask .rw | none => 0)
  else 0

/-- A register's control fields taken from a saved value. -/
def State.loadReg (s : State) (a : Nat) (v : W32) : State :=
  let m := BitVec.ofNat 32 (ctlMask a)
  s.setReg a ((s.reg a &&& ~~~ m) ||| (v &&& m))

/-- The control state at present (R331). -/
def State.saveCtl (s : State) : Ctl :=
  { regs := (s.regs.filter (fun e => ctlMask e.1 != 0)).map (fun e => (e.1, e.2 &&& BitVec.ofNat 32 (ctlMask e.1))),
    progs := s.progs, progNext := s.progNext, pblk := s.pblk, cals := s.cals,
    copies := s.chans.map (fun e => (e.1, e.2.txSel, e.2.rxSel, e.2.genA, e.2.genB)),
    flows := s.flows, groups := s.groups, mode := s.mode,
    lanes := ((upTo id 96).filter (fun n => s.chan n == n && (s.lane n).rate != 0)).map
      (fun n => ⟨n, (s.lane n).rate, (s.lane n).width, s.on R.LANE_SPEED.role n, s.on R.LANE_SPEED.pam4 n, s.laneState n⟩),
    changes := s.changes }

/-- The Ledger's registers follow its contents (LEDG_STATUS). -/
def State.showLedg (s : State) : State :=
  let l := s.ledg
  let s := s.wr R.LEDG_STATUS.journal_level 0 l.journal.length
  let s := s.wr R.LEDG_STATUS.open_ 0 (bit l.open_.isSome)
  s.wr R.LEDG_STATUS.committed 0 (bit l.slot0.isSome + 2 * bit l.slot1.isSome)

/-- The Ledger replaced. -/
def State.setLedg (s : State) (l : LedgX) : State := { s with ledg := l }.showLedg

/-- The multiframe boundary at or before the present frame. -/
def State.lastBoundary (s : State) : Nat := s.frame - s.frame % 400

/-- The slot that does not hold the last committed generation is opened, its commit record invalidated first; a generation already open
is discarded (R276, R332). -/
def State.openGen (s : State) (own : Bool) : State :=
  let l := s.ledg
  let slot := 1 - l.lastSlot
  let g : Gen := { num := l.lastNum + 1, journalSeq := l.nextSeq, frame := s.lastBoundary, ctl := if own then none else some s.saveCtl }
  s.setLedg (if slot = 0 then { l with slot0 := none, open_ := some (0, g) } else { l with slot1 := none, open_ := some (1, g) })

/-- A generation in its slot, committed: PAIR_GEN shows it, journal entries that it contains are freed, and a CHECKPOINT that waited
completes (R332 to R334). -/
def State.putGen (s : State) (slot : Nat) (g : Gen) : State :=
  let l := s.ledg
  let l := if slot = 0 then { l with slot0 := some g } else { l with slot1 := some g }
  let s := s.setLedg { l with open_ := none, lastNum := g.num, lastSlot := slot,
                              journal := l.journal.filter (fun e => decide (g.journalSeq ≤ e.seq)), waiting := none }
  let s := (s.wr R.PAIR_GEN_LO.gen_lo 0 g.num).wr R.PAIR_GEN_HI.gen_hi 0 (g.num / 2 ^ 32)
  let s := s.pairEvent R.PAIR_EVENT.ckpt_commit
  match l.waiting with
  | some h => s.ok h (g.num % 2 ^ 48)
  | none => s

/-- The open generation committed by this part; in the active it is then sent to the standby (R335). -/
def State.commitGen (s : State) : State :=
  match s.ledg.open_ with
  | none => s
  | some (slot, g) =>
    let s := s.putGen slot g
    if s.role = 1 then s.emit (.twinGen g.num) else s

/-- An entry appended to the journal, and sent to the standby by the active; with 2,048 waiting the steward starts a generation at once
(R334). -/
def State.append (s : State) (frame : Nat) (c : Option Change) : State :=
  let l := s.ledg
  let s := s.setLedg { l with journal := l.journal ++ [⟨l.nextSeq, frame, c⟩], nextSeq := l.nextSeq + 1 }
  let s := match c with
    | some c => if s.role = 1 then s.emit (.twinEntry l.nextSeq frame c) else s
    | none => s
  if 2048 ≤ s.ledg.journal.length ∧ s.ledg.open_.isNone ∧ s.role ≤ 1 then s.openGen false else s

/-- The first multiframe boundary at or after frame `g`, with subframe 0 if so asked. -/
def boundaryFrom (g : Nat) (sub0 : Bool) : Nat := if sub0 then (g + 3999) / 4000 * 4000 else (g + 399) / 400 * 400

/-- The frame at which a due change takes effect, as far as it is known. -/
def State.dueFrame (s : State) : Due → Nat
  | .multiframe g sub0 => boundaryFrom g sub0
  | _ => s.frame + 1

/-- A command's change accepted for its boundary; a change of the data plane is journalled first (R334, R418). -/
def State.sched (s : State) (h : Option CmdHead) (j : Bool) (d : Due) (c : Change) : State :=
  (if j then s.append (s.dueFrame d) (some c) else s).later h d c

end Sys2Proof.Machine
end

