-- ==== Sys2Proof/Machine/ChgProg.lean ====
section
/-! DEFINITION. Program commands as changes (R140, R243 to R247, Table 9.8): their checks and what they do at their boundary. -/
namespace Sys2Proof.Machine

/-- The channel exists: its lowest lane is named, and is populated (R13, R29). -/
def State.chanOk (s : State) (c : Nat) : Bool := decide (c < 96) && s.populated c && s.chan c == c

/-- The Weaver of a channel, or a stream thread of the channel, is fenced (Table 9.8). -/
def State.progFenced (s : State) (c : Nat) : Bool :=
  s.on R.WVR_STATUS.fence_cause (c / 4) ||
    (s.chanLanes c).any (fun n => s.on (R.WVR_THREAD_t.fence_cause (n / 4)) (2 * (n % 4))
      || s.on (R.WVR_THREAD_t.fence_cause (n / 4)) (2 * (n % 4) + 1))

/-- The catalogue allows an Almanac program on the channel (Table 9.10). The kind of a channel is what its rate, width and modulation
make it. -/
def State.kindOk (s : State) (c id : Nat) : Bool :=
  match id with
  | 1 => (s.rateCode c).isSome
  | 2 => (s.phyOf c).isSome
  | 3 => (s.cpriOf c).isSome
  | 4 => (s.phyOf c).isSome
  | 5 => (s.cpriOf c).isSome || (s.phyOf c).isSome
  | 6 => (s.rateCode c).isSome
  | _ => true

/-- The state with a program in a slot, for the checks of budgets and packing. -/
def State.asAttached (s : State) (c slot : Nat) (p : Prog) : State :=
  { s.setProg c slot (some { p with order := s.progNext }) with progNext := s.progNext + 1 }

/-- Stream and service budgets hold on the channel's quad (R243, step 5). -/
def State.budgetOk (s : State) (c : Nat) : Bool := s.beatsFit s.mode c && (s.packQuad s.mode (c / 4)).isSome

/-- The checks of ATTACH that need no image (Table 9.8). -/
def State.slotChecks (s : State) (c slot : Nat) (replace : Bool) : List Check :=
  [(!s.chanOk c, .badArg, 8), (decide (3 < slot), .badArg, 9),
   (s.progFenced c, .fenced, 0xFF),
   ((s.prog c slot).isSome && !replace, .illegalState, 0xFF)]

/-- The checks of an Almanac program's number. -/
def State.almanacChecks (s : State) (c slot id : Nat) : List Check :=
  [((almanacSlot id).isNone, .badArg, 12),
   (almanacSlot id != some slot, .badArg, 9),
   (!s.kindOk c id, .badArg, 8)]

/-- The checks of ATTACH with the program known. -/
def State.attachChecks (s : State) (c slot : Nat) (replace : Bool) (p : Prog) : List Check :=
  s.slotChecks c slot replace ++ (if p.imageLen = 0 then s.almanacChecks c slot p.id else [])
    ++ [(!(s.asAttached c slot p).budgetOk c, .noResource, 0xFF)]

/-- The checks of DETACH (Table 9.8). -/
def State.detachChecks (s : State) (c slot : Nat) : List Check :=
  [(!s.chanOk c, .badArg, 8), (decide (3 < slot), .badArg, 9),
   (s.progFenced c, .fenced, 0xFF),
   ((s.prog c slot).isNone, .illegalState, 0xFF)]

/-- The checks of PARAM_WRITE (R420): the words are not checked on an empty slot. -/
def State.paramChecks (s : State) (c slot first : Nat) (vs : List W32) : List Check :=
  [(!s.chanOk c, .badArg, 8), (decide (3 < slot), .badArg, 9),
   (decide (vs.length = 0 ∨ 12 < vs.length), .badArg, 10), (decide (first < 8 ∨ 128 < first + vs.length), .badArg, 11),
   (decide (c < 96 ∧ slot ≤ 3) && (s.prog c slot).isNone, .illegalState, 0xFF)]
  ++ (match s.prog c slot with
      | none => []
      | some p => (decide (8 + p.nParam < first + vs.length), .badArg, 11) ::
          vs.zipIdx.map (fun e => (!s.paramOk c p (first + e.2) e.1.toNat, Code.badArg, 16 + 4 * e.2)))

/-- An attachment at its boundary: the old detach first, the new init second (R244). -/
def State.doAttach (s : State) (c slot : Nat) (p : Prog) : State := (s.detachNow c slot).attachNow c slot p

/-- The values of a PARAM_WRITE held pending behind those already held (R247). -/
def State.pendParams (s : State) (h : Option CmdHead) (c slot first : Nat) (vs : List W32) : State :=
  vs.zipIdx.foldl (fun (s : State) e => s.pendParam c slot (first + e.2) e.1 h) s

/-- The boundary at which parameter values of a channel take effect (R247). -/
def State.paramDue (s : State) (c : Nat) : Due :=
  if s.carriesVtf c && !(s.chanLanes c).all (fun n => (s.vtf n).mfSync) then .frame else s.nextMultiframe

/-- The program that a verified host image makes (R241 to R243), with the alignment that it declares: an image has no field for
that, so it comes with the image (assumption log entry 20, DESIGN CHOICE, safe). -/
def State.imageProg (s : State) (img : List Nat) (h : Header) (addr base : Nat) (al : AlignKind) : Prog :=
  let ends := (entryPaths img h 3).map (fun e => (e.1.length, pathShared img e.1))
  let shared := ends.filter (fun e => !e.2.isEmpty)
  let fewest := fun (l : List Nat) => l.foldl min (l.headD 0)
  { id := h.id, version := h.version, unsigned := h.sigKey == 0xFF, align := al, wcRx := worstCase img h 1, wcTx := worstCase img h 2,
    wcFrame := worstCase img h 3, wcInit := worstCase img h 0, wcDetach := worstCase img h 4, nParam := h.nParam, nStatus := h.nStatus,
    entries := h.entries, codeBase := base, codeLen := h.n, imageAddr := addr, imageLen := img.length, thread := 8, order := s.progNext,
    ranges := imageRanges img h, image := img,
    edge := if shared.isEmpty then none
      else some (fewest (shared.map (fun e => e.2.headD 0)), fewest (shared.map (fun e => e.1 - 1 - e.2.getLastD 0))) }

end Sys2Proof.Machine
end

