-- ==== Sys2Proof/Machine/ChgCal.lean ====
section
/-! DEFINITION. Calendar commands as changes (R142, R151, R163 to R170, R307). -/
namespace Sys2Proof.Machine

/-- A VTF channel for the calendar commands (R166). -/
def State.vtfChannel (s : State) (c : Nat) : Bool :=
  s.chanOk c && (s.rateCode c).isSome &&
    (match s.prog c 0 with | some p => p.id == 1 || decide (0 < p.imageLen) | none => false)

/-- The entries of a section that an image holds, and what follows them. -/
def takeWords : Nat → List W32 → Option (List W32 × List W32)
  | 0, l => some ([], l)
  | _ + 1, [] => none
  | n + 1, w :: t => (takeWords n t).map (fun r => (w :: r.1, r.2))

/-- The sections of a calendar image (R165): `none` when the image ends before they do. -/
def parseSecs : Nat → List W32 → Option (List CalSec)
  | 0, _ => some []
  | _ + 1, [] => none
  | n + 1, w :: t =>
    match takeWords (w.toNat % 2 ^ 16) t with
    | none => none
    | some (es, rest) =>
      (parseSecs n rest).map (fun l =>
        { rsv := bitField w.toNat 16 7, dir := w.toNat / 2 ^ 31, chan := bitField w.toNat 24 7, copy := bitField w.toNat 23 1,
          count := w.toNat % 2 ^ 16, entries := es } :: l)

/-- The section headers of an image that a read names: the entries' places are there but not looked at (R165). -/
def parseCal (img : List W32) : Option (List CalSec) :=
  match img with
  | w0 :: w1 :: t => if w0.toNat < 2 ^ 16 ∧ w1 = 0 then parseSecs w0.toNat t else none
  | _ => none

/-- Two sections name the same channel, direction and copy. -/
def secTwice : List CalSec → Bool
  | [] => false
  | a :: t => t.any (fun b => a.chan == b.chan && a.dir == b.dir && a.copy == b.copy) || secTwice t

/-- A section's header or entries break a rule of every calendar image: a channel that is not VTF, a count other than S, a reserved
field. -/
def State.secBad (s : State) (x : CalSec) (entries : Bool) : Bool :=
  !s.vtfChannel x.chan || x.count != s.slots x.chan || x.rsv != 0
    || (entries && x.entries.any (fun e => bitField e.toNat 16 14 != 0))

/-- The checks of a stage (R166). A fault in the image gives the offset of the argument that names it (assumption log entry 33, DEDUCED, unsafe). -/
def State.stageChecks (s : State) (secs : List CalSec) : List Check :=
  [(secs.any (fun x => s.secBad x true || x.copy == s.calSel x.chan x.dir), .badArg, 16),
   (secTwice secs, .badArg, 16),
   (secs.any (fun x => x.dir == 0 && (s.chanX x.chan).switchAt.isSome), .illegalState, 0xFF),
   (secs.any (fun x => x.dir == 1 && (s.chanLanes x.chan).any (fun n => (s.vtf n).calTarget.isSome)), .illegalState, 0xFF)]

/-- One section takes effect: a staged TX copy's gen rises, a staged RX copy's comparison restarts (R166, R168). -/
def State.stageSec (s : State) (x : CalSec) : State :=
  let s := x.entries.zipIdx.foldl (fun (s : State) e => s.setCal x.chan x.dir x.copy e.2 e.1) s
  let y := s.chanX x.chan
  let y := if x.dir = 0 then
      (if x.copy = 0 then { y with genA := (y.genA + 1) % 256 } else { y with genB := (y.genB + 1) % 256 })
    else (if x.copy = 0 then { y with advRunA := 0 } else { y with advRunB := 0 })
  (s.setChanX x.chan y).syncCal x.chan

/-- cal_ann of a channel: the parameter of the Almanac VTF program (Table 6.12). A host program's own is not named by the spec; the
table's default stands for it (assumption log entry 21, DEDUCED, unsafe). -/
def State.calAnn (s : State) (c : Nat) : Nat := if s.runs c 0 1 then s.pw c 0 18 else 2

/-- The TX copy that would be in force on a channel after a switch of `chans`, switches already scheduled included. -/
def State.copyAfter (s : State) (chans : List Nat) (c : Nat) : Nat :=
  let x := s.chanX c
  if chans.contains c || x.switchAt.isSome then 1 - x.txSel else x.txSel

/-- Entries of the TX copies after the switch, by channel: tributary and kind. -/
def State.txAfter (s : State) (chans : List Nat) : List (Nat × Nat × Nat) :=
  ((upTo id 96).map (fun c => if s.slots c = 0 then [] else (s.tribsIn c 0 (s.copyAfter chans c)).map (fun e => (c, e.1, e.2)))).flatten

/-- The ends of a CBR tributary after the switch: its client channel, and the VTF channels of its slot sets. -/
def State.endsAfter (s : State) (chans : List Nat) (t : Nat) : Nat :=
  (match s.clientEnd t with | some _ => 1 | none => 0)
    + ((upTo id 96).filter (fun c => !(s.columns c 0 (s.copyAfter chans c) t).isEmpty)).length

/-- w_max of a line rate in 2^-16 b/s: the words of 64 bits in 2.5 µs, rounded up (R151). -/
def wMax (rate : Nat) : Nat := (rate * 25 + 64 * 2 ^ 16 * 10 ^ 7 - 1) / (64 * 2 ^ 16 * 10 ^ 7)

/-- A slot set of `n` slots is large enough for a line rate in a mode (R151). -/
def slotsEnough (m : Mode) (rate n : Nat) : Bool :=
  let w := wMax rate
  let k := if m = .sundial then max 2 ((w + 399) / 400) else 2
  decide (w + k + 1 ≤ 20 * n)

/-- The checks of CALENDAR_COMMIT (R170, R307). -/
def State.commitChecks (s : State) (chans : List Nat) : List Check :=
  let es := s.txAfter chans
  let clash := es.any (fun a => es.any (fun b => a.2.1 == b.2.1 && a.2.2 != b.2.2))
  let cbr := ((es.filter (fun e => e.2.2 == 0)).map (fun e => e.2.1)).eraseDups
  let trunks := ((es.filter (fun e => e.2.2 == 1)).map (fun e => e.2.1)).eraseDups
  let small := es.any (fun e => e.2.2 == 0 && (match s.clientEnd e.2.1 with
    | some c => c != e.1 && !slotsEnough s.mode (s.lane c).rate (s.columns e.1 0 (s.copyAfter chans e.1) e.2.1).length
    | none => false))
  [(chans.isEmpty, .badArg, 16),
   (chans.any (fun c => !s.vtfChannel c), .badArg, 16),
   (clash, .badArg, 16),
   (cbr.any (fun t => decide (3 < s.endsAfter chans t)), .badArg, 16),
   (cbr.any (fun t => decide (3 ≤ s.endsAfter chans t) && (s.groupOf t).isNone), .badArg, 16),
   (small, .badArg, 16),
   (trunks.any (fun t => !s.on R.GRN_TRUNK_t.valid t), .badArg, 16),
   (chans.any (fun c => (s.chanX c).switchAt.isSome), .illegalState, 0xFF)]

/-- The switch frame of a commit accepted now (R169). -/
def State.switchFrame (s : State) (chans : List Nat) : Nat :=
  let a := chans.foldl (fun m c => max m (s.calAnn c)) 0
  boundaryFrom (400 * (s.frame / 400 + a + 1)) (decide (s.mode = .sundial))

/-- A switch scheduled on its channels (R169). -/
def State.doSwitch (s : State) (chans : List Nat) (at_ : Nat) : State :=
  chans.foldl (fun (s : State) c =>
    (s.setChanX c { s.chanX c with switchAt := some at_, switchAnn := s.calAnn c }).syncCal c) s

/-- The channels of a mask over 96 channels. -/
def maskList (m n : Nat) : List Nat := (upTo id n).filter (fun i => bitField m i 1 == 1)

/-- sfn and subframe of a boundary, as results give them. -/
def boundaryResult (g : Nat) : Nat := g / 4000 % 1024 + g / 400 % 10 * 2 ^ 10

end Sys2Proof.Machine
end

