-- ==== Sys2Proof/Machine/ChgGrn.lean ====
section
/-! DEFINITION. Queue and trunk commands as changes (Table 8.6, R126, R222), and protection groups (Table 12.3, R307 to R315). -/
namespace Sys2Proof.Machine

/-! The flow table (R125, R126). -/

/-- The lowest free entry of a bucket. -/
def freeIn (flows : Tab (Option (Nat × Nat))) (b : Nat) : Option Nat :=
  (upTo (fun i => 8 * b + i) 8).find? (fun e => (Tab.get none flows e).isNone)

/-- A key with its flow put into bucket `b`, or, when that is full, an entry of it moved to its other bucket, up to `fuel` moves more. -/
def placeIn (flows : Tab (Option (Nat × Nat))) (key0 k f b : Nat) : Nat → Option (Tab (Option (Nat × Nat)))
  | 0 => (freeIn flows b).map (fun e => Tab.put none flows e (some (k, f)))
  | fuel + 1 =>
    match freeIn flows b with
    | some e => some (Tab.put none flows e (some (k, f)))
    | none =>
      let e := 8 * b + Config.flowVictim key0 fuel % 8
      match Tab.get none flows e with
      | none => none
      | some (k', f') =>
        let (x, y) := flowBuckets k'
        placeIn (Tab.put none flows e (some (k, f))) key0 k' f' (if x = b then y else x) fuel

/-- The table with a new key: in a free entry of either bucket, else after up to 128 moves; `none` when no placement is found (R126). -/
def placeFlow (flows : Tab (Option (Nat × Nat))) (k f : Nat) : Option (Tab (Option (Nat × Nat))) :=
  let (a, b) := flowBuckets k
  match freeIn flows a, freeIn flows b with
  | some e, _ => some (Tab.put none flows e (some (k, f)))
  | none, some e => some (Tab.put none flows e (some (k, f)))
  | none, none => placeIn flows k k f a 128

/-- A key is in the table, also where its entry reads badly: the steward has its own copy (R126, R202). -/
def State.keyHeld (s : State) (k : Nat) : Bool := s.flows.any (fun e => match e.2 with | some (k', _) => k' == k | none => false)

/-- The key of a flow removed (R126). -/
def State.dropKey (s : State) (q : Nat) : State :=
  { s with flows := s.flows.filter (fun e => match e.2 with | some (_, f) => f != q | none => true) }

/-- The first byte of a flow key that breaks Table 5.3. -/
def keyBad (k : Nat) : Option Nat :=
  if k % 256 ≠ 0 then some 32
  else if k / 256 % 256 ≠ 0 then some 33
  else if 2 ≤ bitField k 16 2 then some 34
  else if bitField k 55 2 = 3 then some 38
  else if 96 ≤ k / 2 ^ 57 then some 39
  else none

/-! Queues. -/

/-- Cells reserved: min_cells over valid queues and the cells of the groups (Table 8.6, R309). -/
def State.reserved (s : State) : Nat :=
  (s.queuesNow.map (fun q => s.rd R.GRN_QD_MIN.min_cells q)).foldl (· + ·) 0
    + (s.groupsNow.map (fun g => (s.group g).cells)).foldl (· + ·) 0

/-- The egress exists: a trunk, or a channel of an Ethernet PHY type (Table 8.6, R111). -/
def State.egressOk (s : State) (kind e : Nat) : Bool :=
  if kind = 0 then s.on R.GRN_TRUNK_t.valid e else s.chanOk e && (s.phyOf e).isSome

/-- The checks of QUEUE_CREATE, queue. -/
def State.createChecks (s : State) (q : Nat) (a : QueueArgs) : List Check :=
  [(!s.egressOk a.kind a.egress, .badArg, 12),
   (a.latePol == 3, .badArg, 14),
   (decide (a.maxCells < a.minCells), .badArg, 24),
   (decide (a.maxCells = 0 ∨ 393216 < a.maxCells), .badArg, 28),
   ((a.key.bind keyBad).isSome, .badArg, ((a.key.bind keyBad).getD 32)),
   (s.on R.GRN_QD_CTRL.valid q, .illegalState, 0xFF),
   ((match a.key with | some k => s.keyHeld k | none => false), .illegalState, 0xFF),
   (decide (s.cellLimit < s.reserved + a.minCells), .noResource, 0xFF),
   ((match a.key with | some k => (placeFlow s.flows k q).isNone | none => false), .noResource, 0xFF)]

/-- The fields that create and modify share. -/
def State.queueTiming (s : State) (q : Nat) (a : QueueArgs) : State :=
  let s := ((s.wr R.GRN_QD_CTRL.express q (bit a.express)).wr R.GRN_QD_CTRL.late_pol q a.latePol).wr R.GRN_QD_CTRL.dl_src q (bit a.dlSrc)
  (s.wr R.GRN_QD_TIME.budget q a.budget).wr R.GRN_QD_TIME.late_tol q a.lateTol

/-- A queue made valid, empty, with its key installed (Table 8.6). -/
def State.doCreate (s : State) (q : Nat) (a : QueueArgs) : State :=
  let s := s.clearRegs (0x400000 + 64 * q) 64
  let s := (((s.wr R.GRN_QD_CTRL.valid q 1).wr R.GRN_QD_CTRL.egress_kind q a.kind).wr R.GRN_QD_CTRL.egress q a.egress).wr
    R.GRN_QD_CTRL.class_ q a.cls
  let s := ((s.queueTiming q a).wr R.GRN_QD_MIN.min_cells q a.minCells).wr R.GRN_QD_MAX.max_cells q a.maxCells
  let s := match a.key with
    | some k => (match placeFlow s.flows k q with | some t => { s with flows := t } | none => s)
    | none => s
  s.degradedRecompute

/-- The queue is valid and not closing. -/
def State.queueOpen (s : State) (q : Nat) : Bool := s.on R.GRN_QD_CTRL.valid q && !s.on R.GRN_QD_CTRL.closing q

/-- The checks of QUEUE_CREATE, modify. -/
def State.modifyChecks (s : State) (q : Nat) (a : QueueArgs) : List Check :=
  [(a.latePol == 3, .badArg, 14), (!s.queueOpen q, .illegalState, 0xFF)]

/-- The checks of QUEUE_DELETE, queue. -/
def State.deleteChecks (s : State) (q : Nat) : List Check := [(!s.queueOpen q, .illegalState, 0xFF)]

/-- A queue closing: its key goes and its packets are flushed; it goes at once when that leaves it empty (Table 8.6). -/
def State.doDelete (s : State) (q : Nat) : State := (((s.wr R.GRN_QD_CTRL.closing q 1).dropKey q).flushQueue q).closeQueue q

/-- The checks of QUEUE_FLUSH. -/
def State.flushChecks (s : State) (q : Nat) : List Check := [(!s.on R.GRN_QD_CTRL.valid q, .illegalState, 0xFF)]

/-! Trunks. -/

/-- The checks of QUEUE_CREATE, trunk. -/
def State.trunkChecks (s : State) (t : Nat) : List Check :=
  [(s.on R.GRN_TRUNK_t.valid t, .illegalState, 0xFF), (decide (4096 ≤ s.trunksNow.length), .noResource, 0xFF)]

/-- A calendar copy names trunk `t`. -/
def State.calNamesTrunk (s : State) (t : Nat) : Bool :=
  s.cals.any (fun e => e.2.toNat / 2 ^ 30 == 3 && e.2.toNat % 2 ^ 16 == t)

/-- The checks of QUEUE_DELETE, trunk. A trunk that does not exist is taken as a state that refuses the command (assumption log
entry 23, DEDUCED, unsafe). -/
def State.untrunkChecks (s : State) (t : Nat) : List Check :=
  [(!s.on R.GRN_TRUNK_t.valid t, .illegalState, 0xFF),
   (s.queuesNow.any (fun q => s.rd R.GRN_QD_CTRL.egress_kind q == 0 && s.rd R.GRN_QD_CTRL.egress q == t), .illegalState, 0xFF),
   (s.calNamesTrunk t, .illegalState, 0xFF)]

/-! Protection groups. -/

/-- Cells that a group reserves, rounded up (R309): the client line rate is taken as that of the lane of channel p, and the skew counts
2 µs (assumption log entry 24, DEDUCED, unsafe). -/
def State.skewCells (s : State) (a : ProtArgs) : Nat :=
  let unit := 2 ^ 16 * 10 ^ 6 * 2048
  ((s.lane a.pChan).rate * (2 * a.skew) + unit - 1) / unit

/-- `t` is not a CBR tributary: the Granary holds it as a trunk, or a calendar copy names it as one. -/
def State.notCbr (s : State) (t : Nat) : Bool := s.on R.GRN_TRUNK_t.valid t || s.calNamesTrunk t

/-- The checks of PROT_REQUEST CONFIG (Table 12.3). -/
def State.configChecks (s : State) (g : Nat) (a : ProtArgs) : List Check :=
  [(decide (4096 ≤ g), .badArg, 10),
   (s.notCbr a.trib, .badArg, 12),
   (decide (95 < a.pChan), .badArg, 14),
   (decide (100 < a.holdOff), .badArg, 16),
   (decide (127 < a.wtr), .badArg, 17),
   (decide (a.skew < 5 ∨ 250 < a.skew), .badArg, 18),
   ((match s.groupOf a.trib with | some k => k != g | none => false), .illegalState, 0xFF),
   (decide (s.cellLimit < s.reserved - (if s.groupValid g then (s.group g).cells else 0) + s.skewCells a), .noResource, 0xFF)]

/-- A group created or modified (R307, R315): one that keeps its tributary keeps its requests and its selector. -/
def State.doConfig (s : State) (g : Nat) (a : ProtArgs) : State :=
  let keep := s.groupValid g && s.rd R.PAIR_PROT_g.trib_id g == a.trib
  let s := if keep then s else (s.setGroup g Group.init).setReg (0x24000 + 4 * g) (BitVec.ofNat 32 (2 ^ 31 + a.trib))
  let s := s.setReg (0x28000 + 4 * g)
    (BitVec.ofNat 32 (bit a.revert * 2 ^ 31 + bit a.bidir * 2 ^ 30 + a.pChan * 2 ^ 23 + a.skew * 2 ^ 15 + a.holdOff * 2 ^ 8 + a.wtr))
  let s := s.setGroup g { s.group g with cells := s.skewCells a }
  (s.groupCond a.trib).judgeGroup g

/-- The checks of LO, FS, MS_W, MS_X, CLEAR (1 to 5) and DELETE (6). -/
def State.protChecks (s : State) (op g : Nat) : List Check :=
  let t := s.rd R.PAIR_PROT_g.trib_id g
  let ruling := s.rd R.PAIR_PROT_g.ruling g
  let req := match op with | 1 => 0xA | 2 => 8 | 3 => 3 | 4 => 4 | _ => 0xF
  let paths := s.groupPaths g
  [(decide (4096 ≤ g) || !s.groupValid g, .badArg, 10),
   (decide (op ≤ 4 ∧ req < ruling), .illegalState, 0xFF),
   (op == 3 && (match paths with | w :: _ => s.endSf t w | [] => false), .illegalState, 0xFF),
   (op == 4 && (match paths with | _ :: x :: _ => s.endSf t x | _ => false), .illegalState, 0xFF),
   (op == 6 && decide (3 ≤ (s.cbrEnds t).length), .illegalState, 0xFF)]

/-- An operation of Table 12.3 takes effect. -/
def State.doProt (s : State) (op g : Nat) : State :=
  let x := s.group g
  match op with
  | 1 => (s.setGroup g { x with lo := true }).judgeGroup g
  | 2 => (s.setGroup g { x with fs := true }).judgeGroup g
  | 3 => (s.setGroup g { x with msW := true }).judgeGroup g
  | 4 => (s.setGroup g { x with msX := true }).judgeGroup g
  | 5 => (s.setGroup g { x with lo := false, fs := false, msW := false, msX := false, wtr := false }).judgeGroup g
  | _ => ((s.setGroup g Group.init).setReg (0x24000 + 4 * g) 0).setReg (0x28000 + 4 * g) 0

end Sys2Proof.Machine
end

