-- ==== Sys2Proof/Machine/ChgLane.lean ====
section
/-! DEFINITION. Lane commands as changes (R33, R34, R47, R420): their checks, their start and the end of a lane's transition. -/
namespace Sys2Proof.Machine

/-- The lanes of a channel of a width whose lowest lane is given. -/
def laneSpan (lane width : Nat) : List Nat := upTo (fun i => lane + i) width

/-- A line rate in 2^-16 b/s that Table 2.1 gives for a modulation. -/
def rateLegal (pam4 : Bool) (rate : Nat) : Bool :=
  if pam4 then decide (53125000000 * 2 ^ 16 ≤ rate ∧ rate ≤ 112500000000 * 2 ^ 16)
  else decide (614400000 * 2 ^ 16 ≤ rate ∧ rate ≤ 56250000000 * 2 ^ 16)

/-- LANE_SPEED.os of a rate: the oversampling of Table 2.1. -/
def overSample (pam4 : Bool) (rate : Nat) : Nat :=
  if pam4 then 0
  else if rate < 1228800000 * 2 ^ 16 then 3
  else if rate < 2457600000 * 2 ^ 16 then 2
  else if rate < 4915200000 * 2 ^ 16 then 1
  else 0

/-- The lane is moving between states (R34). -/
def State.moving (s : State) (n : Nat) : Bool := decide ((s.lane n).move ≠ .none)

/-- A change of power that raises P_adm above the cap (R402). -/
def State.overCap (s after : State) : Bool := decide (s.padm < after.padm) && !s.fitsCap after.padm

/-- The sum of the line rates of the lanes that are not DORMANT (R26). -/
def State.hearthSum (s : State) : Nat := sumUpTo (fun n => if s.laneState n = 4 then 0 else (s.lane n).rate) 96

/-- The sum of the stream rates of a quad (R18). -/
def State.quadStream (s : State) (q : Nat) : Nat :=
  sumUpTo (fun i => streamRate (s.lane (4 * q + i)).rate (s.lane (4 * q + i)).fec) 4

/-- The lane rates and the aggregate of a mode hold in this state (Table 1.8). -/
def State.modeRates (s : State) (m : Mode) (q : Nat) : Bool :=
  (m != .errand || decide (((upTo (fun i => 4 * q + i) 4).filter (fun n => fastRate (s.lane n).rate)).length ≤ 2))
    && (m != .hearth || decide (s.hearthSum ≤ 2400000000000 * 2 ^ 16))

/-- The lane rates, partner lending, budgets and aggregate of a mode hold in this state (Table 1.8, R244). -/
def State.ratesFit (s : State) (m : Mode) (q : Nat) : Bool := s.quadFits m q && s.modeRates m q

/-- The state as a LANE_RATE would leave rates, widths, lane states and power domain, for its checks. -/
def State.asRated (s : State) (lane width rate : Nat) : State :=
  let s := (s.chanLanes lane).foldl (fun (s : State) n => (s.setLane n { s.lane n with rate := 0, width := 1 }).setLaneState n 0) s
  let s := (laneSpan lane width).foldl (fun (s : State) n => (s.setLane n { s.lane n with rate := rate, width := width }).setLaneState n 1) s
  s.wr R.QUAD_STATUS.pd_on (lane / 4) 1

/-- A LANE_RATE that keeps rate, modulation and width on a lane in service (R34). -/
def State.sameRate (s : State) (lane width : Nat) (pam4 : Bool) (rate : Nat) : Bool :=
  decide ((s.lane lane).rate = rate ∧ (s.lane lane).width = width ∧ s.on R.LANE_SPEED.pam4 lane = pam4) &&
    (s.laneState lane == 2 || s.laneState lane == 3 || s.laneState lane == 4)

/-- The checks of LANE_RATE (R13, R29, R33, R34, R170, R402, R420). One that breaks the stream capacity of R18 completes with NO_RESOURCE
whatever that does to partners and budgets (R25). -/
def State.laneRateChecks (s : State) (lane width : Nat) (pam4 : Bool) (rate : Nat) : List Check :=
  let lanes := laneSpan lane width
  let present := s.chanLanes lane
  let joining := lanes.filter (fun n => !present.contains n)
  let same := s.sameRate lane width pam4 rate
  let up := decide (rate ≠ 0) && !same
  let after := s.asRated lane width rate
  let tooMuch := decide (streamCapacity s.mode < after.quadStream (lane / 4))
  [(decide (96 ≤ lane), .badArg, 8),
   (!(width == 1 || width == 2 || width == 4), .badArg, 10),
   (decide (lane % max 1 width ≠ 0), .badArg, 8),
   (decide (rate ≠ 0) && !rateLegal pam4 rate, .badArg, 16),
   ((lanes ++ present).any (fun n => !s.populated n), .badArg, 8),
   (decide (s.chan lane ≠ lane), .badArg, 8),
   ((lanes ++ present).any (fun n => s.laneState n == 5), .fenced, 0xFF),
   (up && s.aon.serdesLost, .illegalState, 0xFF),
   (s.calUsed lane && !same && !(rate == 0 && s.laneState lane == 0), .illegalState, 0xFF),
   (decide (rate ≠ 0) && joining.any (fun n => s.laneState n != 0), .illegalState, 0xFF),
   (up && !after.modeRates s.mode (lane / 4), .illegalState, 0xFF),
   (up && !tooMuch && !after.quadFits s.mode (lane / 4), .illegalState, 0xFF),
   (up && s.overCap after, .illegalState, 0xFF),
   (decide (rate ≠ 0) && s.laneState lane == 1, .busy, 0xFF),
   (up && tooMuch, .noResource, 0xFF)]

/-- The role of a lane set, with the taps and swing of the descriptor (R30). -/
def State.setRole (s : State) (n : Nat) (role : Bool) : State := (s.wr R.LANE_SPEED.role n (bit role)).loadFir n

/-- One lane of a channel at a new rate: it starts CAL (R33, R30, R42). -/
def State.startLane (s : State) (n width : Nat) (role pam4 : Bool) (rate : Nat) : State :=
  let s := s.leaveService n
  let s := s.setLane n { s.lane n with rate := rate, width := width, writes := [] }
  let s := ((s.wr R.LANE_SPEED.rate_kbps n (rate / (2 ^ 16 * 1000))).wr R.LANE_SPEED.pam4 n (bit pam4)).wr
    R.LANE_SPEED.os n (overSample pam4 rate)
  ((s.setRole n role).guardRelease n).enterCal n

/-- A LANE_RATE at its boundary (R33, R34); the program in slot 0 sets the FEC code of the new rate (R18). -/
def State.doLaneRate (s : State) (lane width : Nat) (role pam4 : Bool) (rate : Nat) : State :=
  let present := s.chanLanes lane
  let lanes := laneSpan lane width
  if rate = 0 then present.foldl (fun s n => if s.laneState n = 0 then s else s.laneOff n) s
  else if s.sameRate lane width pam4 rate then
    if s.on R.LANE_SPEED.role lane = role then s else lanes.foldl (fun s n => (s.setRole n role).guardRelease n) s
  else
    let s := (present.filter (fun n => !lanes.contains n)).foldl (fun s n => if s.laneState n = 0 then s else s.laneOff n) s
    let s := lanes.foldl (fun s n => s.startLane n width role pam4 rate) s
    ((s.progFec lane).refreshChan lane).showThreads (lane / 4)

/-- The checks of LANE_SLEEP (R34). -/
def State.laneSleepChecks (s : State) (lane : Nat) (dormant : Bool) : List Check :=
  [(decide (96 ≤ lane), .badArg, 8),
   ((s.chanLanes lane).any (fun n => !s.populated n), .badArg, 8),
   (decide (s.chan lane ≠ lane), .badArg, 8),
   ((s.chanLanes lane).any (fun n => s.laneState n == 5), .fenced, 0xFF),
   (decide (s.laneState lane ≤ 1), .illegalState, 0xFF),
   (!dormant && s.laneState lane == 4, .illegalState, 0xFF)]

/-- The lanes of a channel as ACTIVE, for the checks of LANE_WAKE. -/
def State.asAwake (s : State) (lane : Nat) : State :=
  ((s.chanLanes lane).foldl (fun (s : State) n => s.setLaneState n 2) s).wr R.QUAD_STATUS.pd_on (lane / 4) 1

/-- The checks of LANE_WAKE (R34, R402, R26). -/
def State.laneWakeChecks (s : State) (lane : Nat) : List Check :=
  let after := s.asAwake lane
  [(decide (96 ≤ lane), .badArg, 8),
   ((s.chanLanes lane).any (fun n => !s.populated n), .badArg, 8),
   (decide (s.chan lane ≠ lane), .badArg, 8),
   ((s.chanLanes lane).any (fun n => s.laneState n == 5), .fenced, 0xFF),
   (decide (s.laneState lane ≤ 1), .illegalState, 0xFF),
   (decide (s.mode = .hearth ∧ s.laneState lane = 4 ∧ 2400000000000 * 2 ^ 16 < after.hearthSum), .illegalState, 0xFF),
   (s.laneState lane != 2 && s.overCap after, .illegalState, 0xFF)]

/-- A lane's entry into QUIET or DORMANT begins (Table 2.3). -/
def State.startSleep (s : State) (n : Nat) (dormant : Bool) : State :=
  let st := s.laneState n
  if dormant ∧ (st = 2 ∨ st = 3) then s.setLane n { s.lane n with move := .toDormant }
  else if ¬ dormant ∧ st = 2 then s.setLane n { s.lane n with move := .toQuiet }
  else s

/-- A lane's exit from QUIET or DORMANT begins; a DORMANT exit starts with step 1 in its wake form, or waits for the quad LC-PLL
(R47). -/
def State.startWake (s : State) (n : Nat) : State :=
  let x := s.lane n
  if s.laneState n = 3 then s.setLane n { x with move := .fromQuiet }
  else if s.laneState n = 4 then
    let s := s.quadStart (n / 4)
    s.setLane n { x with move := .fromDormant, wakeMiss := false, wake := if s.pllLocked (n / 4) then .trim 1 else .pll }
  else s

/-- A LANE_SLEEP or LANE_WAKE takes effect: the transitions begin, and the command completes when they have ended; a lane that is
there already completes it at once (R34). -/
def State.doLanePower (s : State) (h : Option CmdHead) (lane : Nat) (wake dormant : Bool) : State :=
  let lanes := s.chanLanes lane
  let s := lanes.foldl (fun s n => if wake then s.startWake n else s.startSleep n dormant) s
  if lanes.any s.moving then s.later h (.lane lane) (.laneDone lane wake)
  else s.okOpt h (if wake then s.rd R.LANE_PWR.last_exit lane else 0)

/-- The lane has entered DORMANT: the present set is stored when the receiver has reached TRACK since the last CAL began (R47). -/
def State.enterDormant (s : State) (n : Nat) : State :=
  let x := s.lane n
  let s := if x.tracked then (s.setLane n { s.lane n with stored := some (s.coeffs n) }).wr R.LANE_PWR.stored_valid n 1 else s.dropStored n
  let s := ((s.leaveService n).wr R.LANE_STATE.tx_locked n 0).setLaneState n 4
  s.quadFollow (n / 4)

/-- A lane's transition of Table 2.3 ends, after a duration in 10 µs for an exit (LANE_PWR.last_exit). -/
def State.endMove (s : State) (n dur : Nat) : State :=
  match (s.lane n).move with
  | .none => s
  | .toQuiet => (s.leaveService n).setLaneState n 3
  | .toDormant => s.enterDormant n
  | .fromQuiet => (s.enterActive n 2).wr R.LANE_PWR.last_exit n (min dur 0xFFFF)
  | .fromDormant =>
    if (s.lane n).wake = .restored ∨ (s.lane n).wake = .full then
      (s.enterActive n 0).wr R.LANE_PWR.last_exit n (min dur 0xFFFF)
    else s

/-- The changes that wait for the lanes of channel `c`, taken out. -/
def State.takeLane (s : State) (c : Nat) : List Pend × State :=
  (s.changes.filter (fun e => e.due == .lane c), { s with changes := s.changes.filter (fun e => e.due != .lane c) })

end Sys2Proof.Machine
end

