-- ==== Sys2Proof/Machine/ChgMode.lean ====
section
/-! DEFINITION. Changes of major mode and of device power state (R25, R26, R212, R394 to R396, R402, R415 to R417). -/
namespace Sys2Proof.Machine

/-! The major mode. -/

/-- The 24 lowest-numbered banks that are not RETIRED (R212). -/
def State.hearthBanks (s : State) : List Nat := ((upTo id 96).filter (fun b => s.bankState b != 3)).take 24

/-- The lanes that enter DORMANT at a boundary into HEARTH: ACTIVE or QUIET, on a channel with slot 0 empty (R417). -/
def State.hearthSleepers (s : State) : List Nat :=
  (upTo id 96).filter (fun n => (s.laneState n == 2 || s.laneState n == 3) && (s.prog (s.chan n) 0).isNone)

/-- The state as a mode leaves it, for the checks of Table 15.5. -/
def State.asMode (s : State) (m : Mode) : State :=
  let s := { s with mode := m }
  if m = .hearth then
    let s := s.hearthSleepers.foldl (fun (s : State) n => s.setLaneState n 4) s
    let keep := s.hearthBanks
    iter (fun b s => if s.bankState b ≤ 1 ∧ ¬ keep.contains b then s.wr R.GRN_BANK_b.state b 2 else s) 0 96 s
  else iter (fun b s => if s.bankState b = 2 then s.wr R.GRN_BANK_b.state b 0 else s) 0 96 s

/-- A MODE_SET waits for its boundary. -/
def State.modePending (s : State) : Bool := s.changes.any (fun e => match e.change with | .modeSet _ => true | _ => false)

/-- The checks 2 to 8 of Table 15.5 (R416 repeats them at the boundary). -/
def State.modeFits (s : State) (m : Mode) : Bool :=
  let after := s.asMode m
  decide (s.pstate ≤ 1)
    && (s.role == 0 || (s.role == 1 && (m == .harvest || m == .errand || m == .sundial)))
    && (upTo id 24).all (fun q => after.ratesFit m q && decide (after.quadStream q ≤ streamCapacity m))
    && (m != .sundial || !(upTo id 96).any (fun c => (s.chanX c).switchAt.isSome))
    && (m != .hearth || (decide (24 ≤ s.hearthBanks.length) && decide (s.reserved ≤ 90112)))
    && decide (after.padm ≤ after.capW m * 1000000)

/-- The checks of MODE_SET at acceptance (Table 15.5). -/
def State.modeChecks (s : State) (t : Nat) : List Check :=
  [(decide (5 < t), .badArg, 8),
   ((match Mode.ofNum t with | some m => !s.modeFits m | none => false), .illegalState, 0xFF),
   (s.modePending, .busy, 0xFF)]

/-- The banks at a boundary into HEARTH: those beyond the 24 enter DRAIN towards GATED; at one out of it every GATED bank is LIVE, and
one still on its way there stays (R212). -/
def State.modeBanks (s : State) (m : Mode) : State :=
  if m = .hearth then
    let keep := s.hearthBanks
    iter (fun b s => if s.bankState b = 0 ∧ ¬ keep.contains b then s.drainBank b 0 else s) 0 96 s
  else if s.mode = .hearth then
    iter (fun b s =>
      if s.bankState b = 2 ∨ (s.bankState b = 1 ∧ (s.bank b).gate) then
        (s.setBank b { s.bank b with gate := false, scrubRow := 0 }).wr R.GRN_BANK_b.state b 0
      else s) 0 96 s
  else s

/-- A mode change at its boundary (R417). -/
def State.doMode (s : State) (m : Mode) : State :=
  let old := s.mode
  let s := s.modeBanks m
  let s := if old = .muster ∨ old = .smithy then iter (fun n s => s.clearTest n) 0 96 s else s
  let s := if old = .smithy then iter (fun j s => s.stopInjector j 3) 0 16 s else s
  let s := { s with mode := m }
  let s := if m = .hearth then s.hearthSleepers.foldl (fun (s : State) n => s.startSleep n true) s else s
  (iter (fun q s => if (s.progsIn q).isEmpty then s else s.repack q) 0 24 s).degradedRecompute

/-- The first boundary at which a MODE_SET accepted now can act: 100 µs ahead, in subframe 0 when either mode is SUNDIAL (R416). -/
def State.modeDue (s : State) (m : Mode) : Due := .multiframe (s.frame + 40) (s.mode == .sundial || m == .sundial)

/-! Device power states. -/

/-- The debug level NONE (R388): the targets' fences stay. -/
def State.debugNone (s : State) : State :=
  let was := s.on R.LANT_STATUS.level 0
  let s := (s.wr R.LANT_STATUS.level 0 0).wr R.LANT_STATUS.tinker 0 0
  if was then s.lantEvent R.LANT_EVENT.level_change 0 else s

/-- A POWER_STATE is in progress. -/
def State.powerPending (s : State) : Bool := s.changes.any (fun e => match e.change with | .power _ => true | _ => false)

/-- The state as P0 would leave it, for the check of R402. -/
def State.asP0 (s : State) : State :=
  let s := s.mill.rested.foldl (fun (s : State) e => if s.laneState e.1 = 4 then s.setLaneState e.1 e.2 else s) s
  let s := if s.pstate = 2 then iter (fun b s => if s.bankState b = 2 then s.wr R.GRN_BANK_b.state b 0 else s) 0 96 s else s
  iter (fun q s => if s.quadOff q then s else s.wr R.QUAD_STATUS.pd_on q 1) 0 24 s

/-- A transition of Table 14.11 that R395 allows. -/
def State.powerLegal (s : State) (p : Nat) : Bool :=
  let cur := s.pstate
  if p ≤ 1 then decide (cur ≤ 1) || (p == 0 && cur == 2)
  else s.mode == .muster && s.role == 0 && decide (cur < p)

/-- A change of power state would raise P_adm above the cap (R402): the change to P0. -/
def State.powerOver (s : State) (p : Nat) : Bool := p == 0 && s.overCap s.asP0

/-- The checks of POWER_STATE to another state than the present one (R395, R402). -/
def State.powerChecks (s : State) (p : Nat) : List Check :=
  [(decide (3 < p), .badArg, 8), (!s.powerLegal p, .illegalState, 0xFF), (s.powerOver p, .illegalState, 0xFF), (s.powerPending, .busy, 0xFF)]

/-- The part sets out for P2: lanes that are not OFF go to DORMANT, stored packets are dropped with cause FLUSH, the debug level is NONE
(R394, R395, R388). -/
def State.restPart (s : State) : State :=
  let lanes := (upTo id 96).filter (fun n => s.laneState n == 2 || s.laneState n == 3)
  let s := { s with mill := { s.mill with rested := lanes.map (fun n => (n, s.laneState n)) } }
  let s := lanes.foldl (fun (s : State) n => s.startSleep n true) s
  (s.pkts.foldl (fun (s : State) p => s.dropPkt p 4) s).debugNone

/-- The part sets out from P2: lanes wake, the banks that rested are LIVE. -/
def State.wakePart (s : State) : State :=
  let s := s.mill.rested.foldl (fun (s : State) e => s.startWake e.1) s
  (iter (fun b s => if s.bankState b = 2 then (s.setBank b { s.bank b with scrubRow := 0 }).wr R.GRN_BANK_b.state b 0 else s) 0 96 s).degradedRecompute

/-- A power state is set out for: P1 is reached at its boundary, P0 and P2 when POWER_STATE_REACHED ends them (Table 14.11). -/
def State.doPower (s : State) (h : Option CmdHead) (p : Nat) : State :=
  match p with
  | 1 => (iter (fun q s => s.quadFollow q) 0 24 (s.wr R.MILL_STATUS.pstate 0 1)).okOpt h 0
  | 0 => (if s.pstate = 2 then s.wakePart else s).later h .event (.power 0)
  | 2 => s.restPart.later h .event (.power 2)
  | _ => { s.okOpt h 0 with aon := { s.aon with goingP3 := true } }

/-- The lanes have reached what a transition to P2 or from it needs; a lane that was QUIET before P2 goes back there once it is
ACTIVE, and one that came out of CAL on the way to P2 goes to DORMANT. -/
def State.powerLanes (s : State) (p : Nat) : State :=
  if p = 2 then
    ((upTo id 96).filter (fun n => s.laneState n == 2 || s.laneState n == 3)).foldl (fun (s : State) n =>
      if s.moving n then s
      else
        let s := { s with mill := { s.mill with rested := s.mill.rested.filter (fun (e : Nat × Nat) => e.1 != n) ++ [(n, s.laneState n)] } }
        s.startSleep n true) s
  else if s.pstate = 2 then
    s.mill.rested.foldl (fun (s : State) e => if s.laneState e.1 = 2 ∧ e.2 = 3 ∧ ¬ s.moving e.1 then s.startSleep e.1 false else s) s
  else s

/-- Every lane is where the transition takes it. -/
def State.powerDone (s : State) (p : Nat) : Bool :=
  if p = 2 then (upTo id 96).all (fun n => !(s.laneState n == 1 || s.laneState n == 2 || s.laneState n == 3))
  else s.pstate != 2 || s.mill.rested.all (fun e => s.laneState e.1 == e.2 || s.laneState e.1 == 5 || s.laneState e.1 == 0)

/-- A transition of Table 14.11 has ended: into P2 the banks are GATED; out of P2 every program restarts (R395); into P0 the quad
domains of lanes that are not OFF are on. -/
def State.powerReached (s : State) (p : Nat) : State :=
  if p = 2 then
    let s := iter (fun b s => if s.bankState b = 0 ∨ (s.bankState b = 1 ∧ (s.bank b).asked = 0) then
      (s.setBank b { s.bank b with gate := false }).wr R.GRN_BANK_b.state b 2 else s) 0 96 s
    (s.wr R.MILL_STATUS.pstate 0 2).degradedRecompute
  else
    let s := if s.pstate = 2 then iter (fun c s => s.restartPrograms c) 0 96 { s with mill := { s.mill with rested := [] } } else s
    let s := iter (fun q s => if s.quadOff q then s else s.wr R.QUAD_STATUS.pd_on q 1) 0 24 s
    s.wr R.MILL_STATUS.pstate 0 0

end Sys2Proof.Machine
end

