-- ==== Sys2Proof/Machine/RegWrite.lean ====
section
/-! DEFINITION. Writes of rw fields: the values that each field takes (R7) and the rules of registers that hold more than one. -/
namespace Sys2Proof.Machine

/-- A code that an interface may send as a QL (Table 11.2). -/
def qlSent (x : Nat) : Bool := x == 2 || x == 4 || x == 8 || x == 0xB || x == 0xF

/-- `x` is a legal value of the rw field at bit `lo` of the register at offset `off` of lane `n`. -/
def State.laneFieldOk (s : State) (n off lo x : Nat) : Bool :=
  match off, lo with
  | 0x020, 16 => true
  | 0x020, _ => decide (x < 32 ∨ 96 ≤ x)
  | 0x024, _ => decide (x < 32 ∨ 96 ≤ x)
  | 0x040, 2 => decide (4 ≤ x ∧ x ≤ 12)
  | 0x100, 26 => decide (1 ≤ x)
  | 0x100, 16 => decide (10 ≤ x ∧ x ≤ 30)
  | 0x110, _ => decide (x ≤ 36)
  | 0x114, 16 => decide (1 ≤ x)
  | 0x114, _ => decide (2 ≤ x)
  | 0x124, _ => decide (3 ≤ x ∧ x ≤ 12)
  | 0x164, 0 => true
  | 0x164, _ => s.prbsCodeOk n x
  | _, _ => true

/-- `x` is a legal value of the rw field at bit `lo` of the BELL_ register at an offset. -/
def bellFieldOk (off lo x : Nat) : Bool :=
  if off = 0 then
    (match lo with
      | 16 => decide (1 ≤ x ∧ x ≤ 24)
      | 8 => decide (1 ≤ x ∧ x ≤ 200)
      | 0 => qlSent x
      | _ => true)
  else if off = 0x20 then (if lo = 0 then decide (x ≤ 95) else decide (x ≤ 7 ∨ x = 15))
  else if off = 0x24 then lo != 0 || decide (1 ≤ x)
  else if off = 0x28 then lo == 31 || decide (1 ≤ x)
  else if 0x100 ≤ off ∧ off < 0x220 then
    (match off % 16, lo with
      | 0, 24 => qlSent x || x == 0
      | 0, 23 => x == 0 || decide (8 ≤ (off - 0x100) / 16)
      | 12, 16 => decide (2 ≤ x)
      | 12, _ => decide (1 ≤ x ∧ x ≤ 65534)
      | _, _ => true)
  else if 0x300 ≤ off ∧ off < 0x340 then
    (match lo with
      | 24 => decide (1 ≤ x ∧ x ≤ 4)
      | 16 => decide (x ≤ 17)
      | 0 => decide (x ≤ 4) || (x == 5 && off == 0x310)
      | _ => decide (x ≤ 21))
  else if 0x340 ≤ off ∧ off < 0x360 then decide (x ≤ 95)
  else if 0x400 ≤ off ∧ off < 0x440 then (off % 8 != 0 || lo != 1 || decide (x ≤ 2))
  else if 0x440 ≤ off ∧ off < 0x460 then
    (match off % 8, lo with
      | 0, 8 => decide (1 ≤ x ∧ x ≤ 50000)
      | 0, 4 => decide (x ≤ 2)
      | 0, 2 => decide (x ≤ 2)
      | _, _ => true)
  else true

/-- `x` is a legal value of the rw field at bit `lo` of the register at an internal address: a reserved value leaves its field (R7). -/
def State.fieldOk (s : State) (a lo x : Nat) : Bool :=
  if 0x100000 ≤ a ∧ a < 0x160000 then s.laneFieldOk (a / 0x1000 % 256) (a % 0x1000) lo x
  else if 0x10000 ≤ a ∧ a < 0x20000 then bellFieldOk (a - 0x10000) lo x
  else if a = 0x800000 then (match lo with | 16 => decide (1 ≤ x ∧ x ≤ 100) | 8 => decide (1 ≤ x) | _ => true)
  else if 0x400000 ≤ a ∧ a < 0x800000 then lo != 22 || decide (x ≤ 2)
  else if a = 0x20000 then (match lo with | 16 => decide (1 ≤ x) | 8 => decide (10 ≤ x ∧ x ≤ 100) | _ => true)
  else if 0x1000 ≤ a ∧ a < 0x1080 then lo != 16 || decide (16 ≤ x)
  else if a = 0x2000 then lo != 0 || decide (1 ≤ x)
  else if 0x2100 ≤ a ∧ a < 0x21C0 ∧ a % 0x20 = 8 then lo != 1 || decide (4 ≤ x ∧ x ≤ 12)
  else if a = 0x4008 then (match lo with | 16 => decide (x ≤ 3) | 4 => decide (x ≤ 10) | _ => true)
  else if a = 0x8000 then lo != 0 || decide (x ≤ 2)
  else if a = 0x40010 then decide (x ≤ 267775)
  else if a = 0xC000 then (match lo with | 24 => decide (x ≤ 178) | 16 => decide (95 ≤ x ∧ x ≤ 112) | _ => true)
  else true

/-- The rw fields of a register, as low bit and width. -/
def rwFields (a : Nat) : List (Nat × Nat) :=
  match regRow a with
  | some r => (r.fields.filter (fun f => f.2.2 == .rw)).map (fun f => (f.1, f.2.1))
  | none => []

/-- The register has an rw field. -/
def hasRw (a : Nat) : Bool := !(rwFields a).isEmpty

/-- Some rw field of the register would be given a reserved value. -/
def State.hasReserved (s : State) (a v : Nat) : Bool := (rwFields a).any (fun f => !s.fieldOk a f.1 (bitField v f.1 f.2))

/-- The rw fields of a register take their bits of a value, each unless it is reserved; fields outside `mask` are left. -/
def State.writeRw (s : State) (a v mask : Nat) : State :=
  (rwFields a).foldl (fun (s : State) f =>
    if s.fieldOk a f.1 (bitField v f.1 f.2) ∧ bitField mask f.1 1 = 1 then
      s.setReg a (BitVec.ofNat 32 (setBitField (s.reg a).toNat f.1 f.2 (bitField v f.1 f.2)))
    else s) s

/-- A mask of every bit. -/
def allBits : Nat := 2 ^ 32 - 1

/-- A write to a BELL_ register, by REF_CONFIG or in full over the bus: rw fields under their rules, latches cleared, go fields started
(R282, R284, R292, R300, R301, R305). Whether a DPLL that is fenced was LOCKED for 61 s is not recorded: it is free. A mode of 3 or 4 acts at once (R288). -/
def State.bellWrite (s : State) (off v : Nat) : State :=
  let a := 0x10000 + off
  if off = 0x008 then s.setReg a (s.reg a &&& ~~~ BitVec.ofNat 32 v)
  else if off = 0x00C then s.frameOfsWrite v
  else if 0x100 ≤ off ∧ off < 0x220 ∧ off % 16 = 0 then
    ((s.writeRw a v 0x7FFFFFFF).refEnable ((off - 0x100) / 16) (decide (2 ^ 31 ≤ v % 2 ^ 32))).bellShow
  else if 0x100 ≤ off ∧ off < 0x220 ∧ off % 16 = 12 then
    let t := s.writeRw a v allBits
    if (t.reg a).toNat % 2 ^ 16 < (t.reg a).toNat / 2 ^ 16 then t else s
  else if 0x300 ≤ off ∧ off < 0x340 ∧ off % 16 = 0 then
    let d := (off - 0x300) / 16
    let s := s.writeRw a v allBits
    let (f, s) := s.fresh 1
    let s := s.dpllForce d (f == 1)
    let s := if bitField v 28 1 = 1 then s.fenceDpll d 3 (f == 1) else s
    (if bitField v 29 1 = 1 then s.dpllReset d else s).bellShow
  else if 0x400 ≤ off ∧ off < 0x440 ∧ off % 8 = 4 then s.clkoutWrite ((off - 0x400) / 8) v
  else if 0x440 ≤ off ∧ off < 0x460 then
    (if off % 8 = 0 then s.ppsCfgWrite ((off - 0x440) / 8) v else s.ppsOfsWrite ((off - 0x440) / 8) v)
  else (s.writeRw a v allBits).bellShow

/-! REF_CONFIG and REG_CONFIG (R420, R423). -/

/-- The checks of REF_CONFIG. -/
def State.refChecks (s : State) (writes : List (Nat × W32)) : List Check :=
  (decide (writes.length = 0 ∨ 6 < writes.length), .badArg, 8) ::
  (writes.zipIdx.map (fun e =>
    [(decide (e.1.1 % 4 ≠ 0 ∨ 0x97C < e.1.1) || !hasRw (0x10000 + e.1.1), Code.badArg, 16 + 8 * e.2),
     (s.hasReserved (0x10000 + e.1.1) e.1.2.toNat, Code.badArg, 20 + 8 * e.2),
     (e.1.1 == 0x00C && s.mode != .muster, Code.illegalState, 0xFF)])).flatten

/-- The go bits that a REG_CONFIG entry may set. -/
def regGo (a : Nat) : Nat :=
  if 0x100000 ≤ a ∧ a < 0x160000 then
    (if a % 0x1000 = 0x028 then 2 ^ 8 else if a % 0x1000 = 0x100 then 2 ^ 30 else 0)
  else 0

/-- An address that REG_CONFIG may name (R423). -/
def regLegal (a : Nat) : Bool :=
  hasRw a && (decide (0x100000 ≤ a ∧ a < 0x160000) || decide (0x200000 ≤ a ∧ a < 0x380000 ∧ a % 0x10000 = 0)
    || a == 0x800000 || decide (0x400000 ≤ a ∧ a < 0x800000))

/-- The rw mask of a register. -/
def rwMask (a : Nat) : Nat := match regRow a with | some r => r.mask .rw | none => 0

/-- A lane register's own rule holds for the registers as they stand: los_off above los_on, lol_off below lol_on, a FIR set in range
where fir_apply is set (R43, R44, R30). -/
def State.laneRule (s : State) (n off v : Nat) : Bool :=
  match off with
  | 0x110 => decide (bitField v 0 6 < bitField v 8 6)
  | 0x114 => decide (bitField v 16 10 < bitField v 0 10)
  | 0x028 => bitField v 8 1 == 0 || (s.firWritten n).legal
  | _ => true

/-- One REG_CONFIG entry written (R423): a lane register as R48 states, QUAD_PLL, GRN_CTRL and queue descriptors their rw fields. -/
def State.regEntry (s : State) (a v : Nat) : State :=
  if 0x100000 ≤ a ∧ a < 0x160000 then s.laneWrite ((a - 0x100000) / 0x1000) (a % 0x1000) v
  else if 0x200000 ≤ a ∧ a < 0x380000 then (s.writeRw a v allBits).quadFollow ((a - 0x200000) / 0x10000)
  else s.writeRw a v allBits

/-- The checks of one entry against the registers that the entries before it leave. -/
def State.entryChecks (s : State) (i a v : Nat) : List Check :=
  let lane := decide (0x100000 ≤ a ∧ a < 0x160000)
  let n := (a - 0x100000) / 0x1000
  let q := (a - 0x400000) / 64
  [(!regLegal a, .badArg, 16 + 8 * i),
   (lane && !s.populated n, .badArg, 16 + 8 * i),
   (v &&& (allBits ^^^ (rwMask a ||| regGo a)) != 0, .badArg, 20 + 8 * i),
   (s.hasReserved a v, .badArg, 20 + 8 * i),
   (lane && !(s.writeRw a v allBits).laneRule n (a % 0x1000) v, .badArg, 20 + 8 * i),
   (lane && s.laneState n == 5, .fenced, 0xFF),
   (decide (0x400000 ≤ a ∧ a < 0x800000) && s.on R.GRN_QD_CTRL.fenced q, .fenced, 0xFF)]

/-- The checks of the entries of REG_CONFIG, in order. -/
def State.entriesChecks (s : State) : Nat → List (Nat × W32) → List Check
  | _, [] => []
  | i, (a, v) :: t => s.entryChecks i a v.toNat ++ State.entriesChecks (s.writeRw a v.toNat allBits) (i + 1) t

/-- The checks of REG_CONFIG (R423). -/
def State.regChecks (s : State) (writes : List (Nat × W32)) : List Check :=
  (decide (writes.length = 0 ∨ 6 < writes.length), .badArg, 8) :: s.entriesChecks 0 writes

end Sys2Proof.Machine
end

