-- ==== Sys2Proof/Machine/WeaverCtl.lean ====
section
/-! DEFINITION. The meanings of the events of Weavers and their register FIFOs (R230 to R237, R247, R250, R365 to R367). -/
namespace Sys2Proof.Machine

/-! Runs. -/

/-- sb_state of a lane (Table 10.5): frame_state, mf_state, codeword or alignment-marker lock, block lock, calibration frame, bond
formed. -/
def State.sbState (s : State) (n : Nat) : Nat :=
  let a := s.align n
  let x := s.vtf n
  (if x.fasAt.isSome then 2 else if a.blLock then 1 else 0) + 4 * bit x.mfSync + 8 * bit (a.cwLock || a.amLock)
    + 16 * bit a.blLock + 32 * bit x.rxCal + 64 * bit (s.rd R.QUAD_BOND.bond (n / 4) == 4)

/-- sb_pos of a lane: the position of the frame being received, the one before the next expected (Table 10.5). -/
def State.sbPos (s : State) (n : Nat) : Nat :=
  if !s.carriesVtf (s.chan n) then 0
  else
    let e := (s.vtf n).expect
    let i := (e.sfn * 4000 + e.subframe * 400 + e.frameNo + 4096000 - 1) % 4096000
    i / 4000 * 2 ^ 13 + i / 400 % 10 * 2 ^ 9 + i % 400

/-- Handlers of kind `k` (1 rx_beat, 2 tx_beat) of the programs on a channel, in slot order (R232). Almanac programs act by the
commands of chapters 4 to 7. -/
def State.beatHandlers (s : State) (c k : Nat) : List Handler :=
  (upTo id 4).filterMap (fun slot =>
    match s.prog c slot with
    | some p => match p.entries[k]? with
      | some e => if e = 0xFFFFFFFF then none else some ⟨c, slot, p.codeBase + e⟩
      | none => none
    | none => none)

/-- The thread is neither fenced nor halted nor running, the part runs, and its Weaver is not gated in P2 (R394). -/
def State.threadFree (s : State) (q t : Nat) : Bool :=
  s.running && s.pstate != 2 && !s.threadFenced q t && !(s.eng (16 * q + t)).running && !(s.eng (16 * q + t)).halted

/-- BEAT_HANDLER_START (R231 to R234, R264): a beat is presented to stream thread or partner `t` with the side-band that the
fixed-function units fill. RX takes the lane's oldest released beat; TX starts with an empty window. -/
def execBeatHandlerStart (q : Fin 24) (t : Fin 16) (first : BitVec 7) (row : BitVec 5) (col : BitVec 8) (epoch : BitVec 12)
    (s : State) : Res :=
  let n := s.threadLane q t
  let c := s.chan n
  let k := 1 + t.val % 2
  let hs := s.beatHandlers c k
  let x := s.lane n
  match hs with
  | [] => .next s
  | h :: _ =>
    if !s.isStream q t ∨ !s.threadFree q t ∨ (k = 1 ∧ x.beats.isEmpty) then .next s
    else
      let s := if k = 1 then s.setLane n { x with beats := x.beats.drop 1 } else s
      let sb : Side := { first := first.toNat, row := row.toNat, col := col.toNat, pos := s.sbPos n, state := s.sbState n,
                         epoch := epoch.toNat }
      let i := 16 * q.val + t.val
      .next (s.setEng i { s.eng i with w := if k = 1 then x.beats.headD 0 else 0, sb := sb, running := true, used := 0,
                                       todo := hs, pc := h.entry, loops := [] })

/-- Frame handlers that service thread `t` runs, in attach order (R232). -/
def State.frameHandlers (s : State) (q t : Nat) : List Handler :=
  (s.progsIn q).filterMap (fun e =>
    if e.2.2.thread = t then
      match e.2.2.entries[3]? with
      | some a => if a = 0xFFFFFFFF then none else some ⟨e.1, e.2.1, e.2.2.codeBase + a⟩
      | none => none
    else none)

/-- SERVICE_THREAD_START (R232): at epoch cycle 16 of a frame, service thread `t` starts: init and detach entries that wait, then
its frame handlers. -/
def execServiceThreadStart (q : Fin 24) (t : Fin 16) (s : State) : Res :=
  let i := 16 * q.val + t.val
  let x := s.eng i
  match x.extra ++ s.frameHandlers q t with
  | [] => .next s
  | h :: hs =>
    if s.isStream q t ∨ !s.threadFree q t then .next s
    else .next (s.setEng i { x with w := 0, sb := ⟨0, 0, 0, 0, 0, 0⟩, running := true, used := 0, todo := h :: hs,
                                    extra := [], pc := h.entry, loops := [] })

/-- THREAD_OVERRUN (R235): the budget of a thread has ended before its yield. -/
def execThreadOverrun (q : Fin 24) (t : Fin 16) (s : State) : Res :=
  let x := s.eng (16 * q.val + t.val)
  let b := if s.isStream q t then s.mode.budget.beat else s.mode.budget.service
  if x.running ∧ b ≤ x.used then .next (s.fenceThread q t 3) else .next s

/-- BUNDLE_REWRITE (R237, Table 9.5): a fetch by thread `t` finds bundle `first` uncorrectable: the thread is fenced with IMEM_UE,
and the steward rewrites the bundle from the program's source and reports it. -/
def execBundleRewrite (q : Fin 24) (t : Fin 16) (first : BitVec 14) (ae : Bool) (s : State) : Res :=
  let s := s.weaverEcc q t 0 (2 * first.toNat) (if ae then .ae else .ue)
  .next (if s.stewardActs then (s.latch R.WVR_EVENT.imem_rewritten q).report 8 5 q first.toNat else s)

/-- WEAVER_PARITY (R250): a parity error in the thread-binding or budget state. -/
def execWeaverParity (q : Fin 24) (s : State) : Res := .next (s.fenceWeaver q 7)

/-! Resets and fences. -/

/-- A write of thread_reset: an unfenced thread is first fenced with cause HOST, which R24 refuses in the pair roles (R250). -/
def State.threadReset (s : State) (m q t : Nat) : State :=
  let go := fun (s : State) => s.setEng (16 * q + t) { s.eng (16 * q + t) with resetting := true }
  if s.on (R.WVR_THREAD_t.fence_cause q) t then go s else s.pairGate m (fun s => go (s.fenceThread q t 4))

/-- A write of wvr_reset (R250). -/
def State.wvrReset (s : State) (m q : Nat) : State :=
  let go := fun (s : State) => if s.wvrResetting.contains q then s else { s with wvrResetting := q :: s.wvrResetting }
  if s.on R.WVR_STATUS.fence_cause q then go s else s.pairGate m (fun s => go (s.fenceWeaver q 4))

/-- Thread `t` reset: its state and its private region cleared. -/
def State.clearThread (s : State) (q t : Nat) : State :=
  (s.setEng (16 * q + t) Eng.init).clearMem (0x1800000 + q * 0x20000 + t * 0x1000) 0x1000

/-- THREAD_RESET (R250): master `m` writes thread_reset. -/
def execThreadReset (m : Fin 8) (q : Fin 24) (t : Fin 16) (s : State) : Res := .next (s.asMaster m (·.threadReset m q t))

/-- THREAD_RESET_DONE (R250): the reset completes. -/
def execThreadResetDone (q : Fin 24) (t : Fin 16) (s : State) : Res :=
  if (s.eng (16 * q.val + t.val)).resetting then
    .next ((s.clearThread q t).wr (R.WVR_THREAD_t.thread_reset_done q) t 1)
  else .next s

/-- THREAD_FENCE_REQ (R250): master `m` writes fence_req of a thread. -/
def execThreadFenceReq (m : Fin 8) (q : Fin 24) (t : Fin 16) (s : State) : Res := .next (s.asMaster m (·.fenceThread q t 4))

/-- WVR_RESET (R250): master `m` writes wvr_reset. -/
def execWvrReset (m : Fin 8) (q : Fin 24) (s : State) : Res := .next (s.asMaster m (·.wvrReset m q))

/-- WVR_RESET_DONE (R250): all threads are reset and all private regions cleared. -/
def execWvrResetDone (q : Fin 24) (s : State) : Res :=
  if s.wvrResetting.contains q.val then
    let s := iter (fun t s => s.clearThread q t) 0 16 { s with wvrResetting := s.wvrResetting.filter (· ≠ q.val) }
    .next (s.wr R.WVR_STATUS.wvr_reset_done q 1)
  else .next s

/-- WVR_FENCE_REQ (R250): master `m` writes fence_req of a Weaver. -/
def execWvrFenceReq (m : Fin 8) (q : Fin 24) (s : State) : Res := .next (s.asMaster m (·.fenceWeaver q 4))

/-! Register FIFOs. -/

/-- A FIFO that masters read; the others are written. -/
def readFifo (f : Nat) : Bool := f % 2 == 0

/-- A full read of a FIFO's data register (R365): a read FIFO gives its next word, or its last one with underrun; a write FIFO
gives the last word written. -/
def State.fifoRead (s : State) (q f : Nat) : Nat × State :=
  let x := s.fifo q f
  if !readFifo f then (x.last.toNat, s)
  else match x.words with
    | w :: t => (w.toNat, s.setFifo q f { x with words := t, last := w })
    | [] => (x.last.toNat, s.wr (R.WVR_FIFO_STAT_f.underrun q) f 1)

/-- FIFO_DATA_READ (R365): master `m` reads WVR_FIFO_DATA_f. -/
def execFifoDataRead (m : Fin 8) (q : Fin 24) (f : Fin 5) (s : State) : Res :=
  .next (s.asReader m (0x201100 + q * 0x10000 + 0x10 * f) (fun s =>
    let (v, s) := s.fifoRead q f
    s.emit (.busRead m (0x201100 + q * 0x10000 + 0x10 * f) v)))

/-- A full write to a write FIFO's data register (R365); on a pair only the active takes items from its own masters, and copies
each complete item to the standby, which takes them through master PAIR (R131, R367). A write to a read FIFO is discarded. -/
def State.fifoWrite (s : State) (m q f v : Nat) : State :=
  if readFifo f then s
  else if s.role ≠ 0 ∧ s.role ≠ 1 ∧ m ≠ 6 then s.latch R.MTX_MSTAT_m.pair_wr_drop m
  else
    let s := s.pushWord q f (BitVec.ofNat 32 v)
    let x := s.fifo q f
    if s.role = 1 ∧ x.left = 0 ∧ !x.drop then
      let rec last : Nat → List W32 → List W32
        | 0, l => l
        | k + 1, l => match l with
          | [] => []
          | w :: _ => if itemLen f w = l.length then l else last k (l.drop (itemLen f w))
      s.emit (.insertItem q f (last x.words.length x.words))
    else s

/-- A write to a FIFO's register: master PAIR brings the active's copies (R131, R358). -/
def State.asFifo (s : State) (m : Nat) (f : State → State) : State :=
  if m = 6 then (if s.reaches 6 then f s else s) else s.asMaster m f

/-- FIFO_DATA_WRITE (R365, R131): master `m` writes WVR_FIFO_DATA_f. -/
def execFifoDataWrite (m : Fin 8) (q : Fin 24) (f : Fin 5) (v : BitVec 32) (s : State) : Res :=
  .next (s.asFifo m (·.fifoWrite m q f v.toNat))

/-- A write of flush (R366, R367): at once, or for FIFOs 1 and 3 on a pair at the next multiframe boundary of both twins, accepted
by the active alone. -/
def State.fifoFlushReq (s : State) (m q f : Nat) : State :=
  if readFifo f ∨ s.role = 0 then s.flushFifo q f
  else if s.role = 1 ∨ m = 6 then
    if s.on (R.WVR_FIFO_CTRL_f.flush q) f then s
    else (s.wr (R.WVR_FIFO_CTRL_f.flush q) f 1).later none s.nextMultiframe (.fifoFlush q f)
  else s.latch R.MTX_MSTAT_m.pair_wr_drop m

/-- FIFO_FLUSH (R366): master `m` writes flush of WVR_FIFO_CTRL_f. -/
def execFifoFlush (m : Fin 8) (q : Fin 24) (f : Fin 5) (s : State) : Res := .next (s.asFifo m (·.fifoFlushReq m q f))

/-! Parameter words. -/

/-- A full write to word `w` of the parameter block of a slot (R247): a parameter is held pending; a 1 to param_err clears it;
anything else is discarded and sets mem_wr_drop. R24 comes first in the pair roles. -/
def State.blockWrite (s : State) (m c slot w v : Nat) : State :=
  if w = 3 ∧ bitField v 30 1 = 1 then s.setPw c slot 3 (setBitField (s.pw c slot 3) 30 1 0)
  else if s.role ≠ 0 then s.latch R.MTX_MSTAT_m.pair_wr_drop m
  else match s.prog c slot with
    | some p => if (p.range w).isSome then s.pendParam c slot w (BitVec.ofNat 32 v) none else s.latch R.MTX_MSTAT_m.mem_wr_drop m
    | none => s.latch R.MTX_MSTAT_m.mem_wr_drop m

end Sys2Proof.Machine
end

