-- ==== Sys2Proof/Machine/Change.lean ====
section
/-! DEFINITION. Changes judged and applied: at acceptance against the state that the changes accepted before leave, and at their
boundary in the order of acceptance (R245, R418, R421). -/
namespace Sys2Proof.Machine

/-! Lifts that wait for a boundary (R224, R250). -/

/-- The checks of a lift of a Weaver thread (kind 3), a Weaver (4) or a queue (6): fenced, and reset since the latest cause (R369). -/
def State.liftChecks (s : State) (kind u : Nat) : List Check :=
  match kind with
  | 3 => [(decide (384 ≤ u), .badArg, 12),
      (!s.on (R.WVR_THREAD_t.fence_cause (u / 16)) (u % 16) || !s.on (R.WVR_THREAD_t.thread_reset_done (u / 16)) (u % 16), .illegalState, 0xFF)]
  | 4 => [(decide (24 ≤ u), .badArg, 12),
      (!s.on R.WVR_STATUS.fence_cause u || !s.on R.WVR_STATUS.wvr_reset_done u, .illegalState, 0xFF)]
  | _ => [(decide (65536 ≤ u), .badArg, 12),
      (!s.on R.GRN_QD_CTRL.fenced u || !s.qFlushed.contains u, .illegalState, 0xFF)]

/-- A thread back in service: its programs restart (R250). -/
def State.liftThread (s : State) (q t : Nat) : State :=
  let was := s.quadFenced q
  let cause := s.rd (R.WVR_THREAD_t.fence_cause q) t
  let s := (s.wr (R.WVR_THREAD_t.fence_cause q) t 0).wr (R.WVR_THREAD_t.thread_reset_done q) t 0
  let s := s.wr R.WVR_STATUS.threads_fenced q (setBitField (s.rd R.WVR_STATUS.threads_fenced q) t 1 0)
  let s := (s.reportFence 3 (16 * q + t) cause false).followFence q was
  (s.threadChans q t).foldl (fun (s : State) c => s.restartPrograms c) s

/-- A Weaver back in service: all programs of the quad restart (R250). -/
def State.liftWeaver (s : State) (q : Nat) : State :=
  let was := s.quadFenced q
  let cause := s.rd R.WVR_STATUS.fence_cause q
  let s := (s.wr R.WVR_STATUS.fence_cause q 0).wr R.WVR_STATUS.wvr_reset_done q 0
  let s := (s.reportFence 4 q cause false).followFence q was
  iter (fun i s => s.restartPrograms (4 * q + i)) 0 4 s

/-- A queue back in service (R224). -/
def State.liftQueue (s : State) (q : Nat) : State :=
  let cause := s.rd R.GRN_QD_STAT.fence_cause q
  let s := { s with qFlushed := s.qFlushed.filter (· ≠ q) }
  (((s.wr R.GRN_QD_CTRL.fenced q 0).wr R.GRN_QD_STAT.fence_cause q 0).showHead q).reportFence 6 q cause false

/-! Symmetric keys (R384). -/

/-- A key slot. -/
def State.skey (s : State) (k : Nat) : KeySlot := Tab.get KeySlot.init s.skeys k

/-- A key slot replaced. -/
def State.setSkey (s : State) (k : Nat) (x : KeySlot) : State := { s with skeys := Tab.put KeySlot.init s.skeys k x }

/-! Every change. -/

/-- What a change is judged by, at acceptance and again at its boundary. -/
def State.changeChecks (s : State) : Change → List Check
  | .laneRate lane width _ pam4 rate => s.laneRateChecks lane width pam4 rate
  | .laneSleep lane dormant => s.laneSleepChecks lane dormant
  | .laneWake lane => s.laneWakeChecks lane
  | .laneDone _ _ => []
  | .attach c slot replace p => s.attachChecks c slot replace p
  | .detach c slot => s.detachChecks c slot
  | .params c slot first vs => s.paramChecks c slot first vs
  | .calStage secs => s.stageChecks secs
  | .calSwitch _ _ => []
  | .queueCreate q a => s.createChecks q a
  | .queueModify q a => s.modifyChecks q a
  | .queueDelete q => s.deleteChecks q
  | .queueFlush q => s.flushChecks q
  | .trunkCreate t => s.trunkChecks t
  | .trunkDelete t => s.untrunkChecks t
  | .protConfig g a => s.configChecks g a
  | .protReq op g => s.protChecks op g
  | .modeSet m => [(!s.modeFits m, .illegalState, 0xFF)]
  | .power p => [(!s.powerLegal p || s.powerOver p, .illegalState, 0xFF)]
  | .bell writes => s.refChecks writes
  | .regs writes => s.regChecks writes
  | .lift kind unit => s.liftChecks kind unit
  | .regWrite _ _ _ => []
  | .skeyInstall _ _ _ => []
  | .skeyPromote _ => []
  | .skeyErase _ => []
  | .fifoFlush _ _ => []
  | .retest => []
  | .pairLeave => [(s.role == 0, .illegalState, 0xFF)]
  | .reeveBack _ => []

/-- A change takes effect, and completes its command when it has one. -/
def State.putChange (s : State) (h : Option CmdHead) : Change → State
  | .laneRate lane width role pam4 rate => (s.doLaneRate lane width role pam4 rate).okOpt h 0
  | .laneSleep lane dormant => s.doLanePower h lane false dormant
  | .laneWake lane => s.doLanePower h lane true false
  | .laneDone _ _ => s
  | .attach c slot _ p => (s.doAttach c slot p).okOpt h 0
  | .detach c slot => (s.detachNow c slot).okOpt h 0
  | .params c slot first vs => (s.pendParams h c slot first vs).applyParams c slot
  | .calStage secs => (secs.foldl (fun (s : State) x => s.stageSec x) s).okOpt h 0
  | .calSwitch chans at_ => s.doSwitch chans at_
  | .queueCreate q a => (s.doCreate q a).okOpt h 0
  | .queueModify q a => (s.queueTiming q a).okOpt h 0
  | .queueDelete q => (s.doDelete q).okOpt h 0
  | .queueFlush q => (s.flushQueue q).okOpt h 0
  | .trunkCreate t => (s.wr R.GRN_TRUNK_t.valid t 1).okOpt h 0
  | .trunkDelete t => (s.setReg (0x840000 + 4 * t) 0).okOpt h 0
  | .protConfig g a => (s.doConfig g a).okOpt h 0
  | .protReq op g => (s.doProt op g).okOpt h 0
  | .modeSet m => (s.doMode m).okOpt h (boundaryResult s.frame)
  | .power p => s.doPower h p
  | .bell writes => (writes.foldl (fun (s : State) e => s.bellWrite e.1 e.2.toNat) s).okOpt h 0
  | .regs writes => (writes.foldl (fun (s : State) e => s.regEntry e.1 e.2.toNat) s).okOpt h 0
  | .regWrite addr v mask => s.writeRw addr v mask
  | .skeyInstall k epoch key => s.setSkey k { s.skey k with next := some ⟨epoch, key⟩ }
  | .skeyPromote k => s.setSkey k { cur := (s.skey k).next, next := none }
  | .skeyErase k => s.setSkey k KeySlot.init
  | .fifoFlush q f => s.flushFifo q f
  | .retest => s
  | .lift kind u =>
    (match kind with
      | 3 => s.liftThread (u / 16) (u % 16)
      | 4 => s.liftWeaver u
      | _ => s.liftQueue u).okOpt h 0
  | .pairLeave => (s.toSolo (s.role == 1)).okOpt h 0
  | .reeveBack _ => s

/-- A change judged again where it falls due, and applied or refused: a MODE_SET that no longer fits with ILLEGAL_STATE (R416), every
other command with the code that the state then gives (R418, R421). -/
def State.applyChange (s : State) (h : Option CmdHead) (c : Change) : State :=
  match firstCheck (s.changeChecks c) with
  | some (code, off) => (match h with | some h => s.complete h code 0 off 0 | none => s)
  | none => s.putChange h c

/-- The state as the changes already accepted for the boundary of `d` or an earlier one leave it (R418). -/
def State.ahead (s : State) (d : Due) : State :=
  (s.changes.filter (fun e => (match e.due with | .multiframe _ _ => true | .frame => true | _ => false)
      && decide (s.dueFrame e.due ≤ s.dueFrame d))).foldl (fun (s : State) e => s.applyChange none e.change) s

/-- A command judged for a change, and scheduled for its boundary when it is accepted: `j` marks a journalled command, `p2` one that P2
refuses (Table 15.7). -/
def State.judgeChange (s : State) (h : CmdHead) (j p2 : Bool) (d : Due) (extra : List Check) (c : Change) : State :=
  s.judge h (s.common h j p2 ++ extra ++ (s.ahead d).changeChecks c) (fun s => s.sched (some h) j d c)

/-! Lane commands (R34). -/

/-- A lane command accepted: LANE_TEST is cleared by a LANE_RATE (R66), which acts at once in MUSTER and at its boundary elsewhere (R25,
R33); LANE_SLEEP and LANE_WAKE act at once in SOLO, and on a pair at the journalled boundary (R24). -/
def State.acceptLane (s : State) (h : CmdHead) (c : Change) : State :=
  match c with
  | .laneRate lane width _ _ _ =>
    let s := ((laneSpan lane width).filter (fun n => decide (n < 96))).foldl (fun (s : State) n => s.clearTest n) s
    if s.mode = .muster then (s.append s.frame (some c)).putChange (some h) c else s.sched (some h) true s.rateBoundary c
  | _ => if s.role = 0 then (s.append s.frame (some c)).putChange (some h) c else s.sched (some h) true s.nextMultiframe c

/-- The state that a lane command is judged against: the present one where it acts at once. -/
def State.laneAhead (s : State) (c : Change) : State :=
  match c with
  | .laneRate _ _ _ _ _ => if s.mode = .muster then s else s.ahead s.rateBoundary
  | _ => if s.role = 0 then s else s.ahead s.nextMultiframe

/-- A lane command judged; one that meets a lane in transition waits until that ends (R34). -/
def State.judgeLane (s : State) (h : CmdHead) (lane : Nat) (c : Change) : State :=
  if s.stewardActs && decide (lane < 96) && (s.chanLanes (s.chan lane)).any s.moving then s.later (some h) (.lane (s.chan lane)) c
  else s.judge h (s.common h true true ++ (s.laneAhead c).changeChecks c) (fun s => s.acceptLane h c)

/-- One thing that waited for the transitions of a channel. -/
def State.settleOne (s : State) (e : Pend) : State :=
  match e.change, e.head with
  | .laneDone lane wake, h =>
    if (s.chanLanes lane).any (fun n => s.laneState n == 5) then s.failOpt h .fenced
    else s.okOpt h (if wake then s.rd R.LANE_PWR.last_exit lane else 0)
  | .laneRate lane width role pam4 rate, some h => s.judgeLane h lane (.laneRate lane width role pam4 rate)
  | .laneSleep lane dormant, some h => s.judgeLane h lane (.laneSleep lane dormant)
  | .laneWake lane, some h => s.judgeLane h lane (.laneWake lane)
  | .laneSleep lane dormant, none => s.applyChange none (.laneSleep lane dormant)
  | _, _ => s

/-- The commands that wait for the lanes of channel `c` go on when no lane of it is in transition any more, and a steward acts (R11). -/
def State.settleLanes (s : State) (c : Nat) : State :=
  if (s.chanLanes c).any s.moving || !s.stewardActs then s
  else
    let (l, s) := s.takeLane c
    l.foldl (fun (s : State) e => s.settleOne e) s

/-- Every channel with something waiting is settled. -/
def State.settleAll (s : State) : State :=
  ((s.changes.filterMap (fun e => match e.due with | .lane n => some n | _ => none)).eraseDups).foldl (fun (s : State) c => s.settleLanes c) s

/-! Boundaries. -/

/-- The pending changes that satisfy `p`, taken out and applied in the order of acceptance. Those of commands wait on while no Reeve holds
the steward duties, when no command is executed (R11). -/
def State.applyDue (s : State) (p : Pend → Bool) : State :=
  let p := fun (e : Pend) => p e && (e.head.isNone || s.stewardActs)
  let l := s.changes.filter p
  l.foldl (fun (s : State) e => s.applyChange e.head e.change) { s with changes := s.changes.filter (fun e => !p e) }

end Sys2Proof.Machine
end

