-- ==== Sys2Proof/Machine/Client.lean ====
section
/-! DEFINITION. The meanings of the client-channel events (chapter 5): the Ethernet MAC with its fault signalling and
preemption, receive classification, inserted frames, ESMC, and CPRI hyperframes. -/
namespace Sys2Proof.Machine

/-- Byte `i` of a frame, 0 beyond its end. -/
def byteAt (bs : List Nat) (i : Nat) : Nat := bs.getD i 0

/-- Two bytes of a frame, most significant first. -/
def be16At (bs : List Nat) (i : Nat) : Nat := 256 * byteAt bs i + byteAt bs (i + 1)

/-- What classification reads of a frame (R121): VLAN tag, EtherType, where its payload begins, and for UDP the form (1 over
IPv4, 2 over IPv6), the destination port and where the UDP payload begins. -/
structure Parsed where
  vlan : Bool
  vid : Nat
  etype : Nat
  off : Nat
  encap : Nat
  port : Nat
  udp : Nat
  deriving DecidableEq, Repr

/-- A TPID that tag parsing recognises. -/
def isTpid (v : Nat) : Bool := v == 0x8100 || v == 0x88A8

/-- Tag and UDP parsing (R121): up to two tags in either order; IPv4 only with a header length of 5 and unfragmented; IPv6
only when Next Header is UDP. -/
def parseFrame (bs : List Nat) : Parsed :=
  let tag1 := isTpid (be16At bs 12)
  let tag2 := tag1 && isTpid (be16At bs 16)
  let off := if tag2 then 22 else if tag1 then 18 else 14
  let etype := be16At bs (off - 2)
  let v4 := etype == 0x0800 && byteAt bs off == 0x45 && be16At bs (off + 6) % 2 ^ 14 == 0 && byteAt bs (off + 9) == 17
  let v6 := etype == 0x86DD && byteAt bs off / 16 == 6 && byteAt bs (off + 6) == 17
  { vlan := tag1, vid := if tag1 then be16At bs 14 % 2 ^ 12 else 0, etype := etype, off := off,
    encap := if v4 then 1 else if v6 then 2 else 0,
    port := if v4 then be16At bs (off + 22) else if v6 then be16At bs (off + 42) else 0,
    udp := if v4 then off + 28 else if v6 then off + 48 else 0 }

/-- The flow key of Table 5.3. -/
def flowKey (c : Nat) (p : Parsed) (type id kind : Nat) : Nat :=
  c * 2 ^ 57 + p.encap * 2 ^ 55 + bit p.vlan * 2 ^ 54 + p.vid * 2 ^ 42 + type % 256 * 2 ^ 34 + id % 2 ^ 16 * 2 ^ 18
    + kind * 2 ^ 16

/-- A frame captured with its timestamp (Table 5.4); one whose item does not fit is discarded and counted (R129). -/
def State.capture (s : State) (c cause : Nat) (bs : List Nat) (ts : Nat) : State :=
  let h := 1 * 2 ^ 28 + c * 2 ^ 21 + cause * 2 ^ 17 + bs.length
  let item := [BitVec.ofNat 32 h, BitVec.ofNat 32 ts, BitVec.ofNat 32 (ts / 2 ^ 32), BitVec.ofNat 32 (ts / 2 ^ 64)] ++ bytesToW32 bs
  match s.pushItem (c / 4) 0 item with
  | some s => s
  | none => s.bumpPw c 0 31

/-- A transmit timestamp captured with the tag of its insert item (Table 5.4, type 2). -/
def State.captureTx (s : State) (c tag ts : Nat) : State :=
  let item : List W32 := [BitVec.ofNat 32 (2 * 2 ^ 28 + c * 2 ^ 21), BitVec.ofNat 32 ts, BitVec.ofNat 32 (ts / 2 ^ 32),
                          BitVec.ofNat 32 (ts / 2 ^ 64), BitVec.ofNat 32 tag]
  match s.pushItem (c / 4) 0 item with
  | some s => s
  | none => s.bumpPw c 0 31

/-- The default action of a channel (R121, R123): 0 discards, 1 goes to dflt_flow, 2 captures; without the eCPRI program it
discards. -/
def State.defaultAction (s : State) (c : Nat) (bs : List Nat) (ts : Nat) : State :=
  let s := s.countC c 25 1
  if !s.runs c 1 4 then s
  else match s.pw c 1 11 with
    | 1 => s.receivePkt (s.pw c 1 12) c (ofStamp ts / 2 ^ 16) none bs false false
    | 2 => s.capture c 2 bs ts
    | _ => s

/-- A VLAN lookup; a miss takes the default action (R121). -/
def State.vlanLookup (s : State) (c : Nat) (p : Parsed) (bs : List Nat) (ts : Nat) : State :=
  match s.flowLookup (flowKey c p 0 0 1) with
  | some q => s.receivePkt q c (ofStamp ts / 2 ^ 16) none bs false false
  | none => s.defaultAction c bs ts

/-- A recognised eCPRI frame whose common header begins at `o` (R122, R123). -/
def State.ecpri (s : State) (c : Nat) (p : Parsed) (o : Nat) (bs : List Nat) (ts : Nat) : State :=
  let s := s.countC c 24 1
  let type := byteAt bs (o + 1)
  if bs.length < o + 4 + be16At bs (o + 2) then (s.bumpPw c 1 13).defaultAction c bs ts
  else if type = 0 ∨ type = 2 then
    match s.flowLookup (flowKey c p type (be16At bs (o + 4)) 0) with
    | some q => s.receivePkt q c (ofStamp ts / 2 ^ 16) none bs false false
    | none => s.vlanLookup c p bs ts
  else if type = 5 ∧ s.pw c 1 10 = 1 then s.capture c 1 bs ts
  else s.vlanLookup c p bs ts

/-! ESMC. -/

/-- The payload of an ESMC frame judged (R132): a valid information or event PDU gives its SSM code to the Bell Tower, and an
enhanced SSM code that follows is captured. The places of the fields are those of G.8264. Assumption log entry 13, PRESUMED, unsafe. -/
def State.esmcReceive (s : State) (c : Nat) (bs : List Nat) (o : Nat) : State :=
  let valid := be16At bs (o + 4) == 1 && byteAt bs (o + 6) / 16 == 1 && byteAt bs (o + 10) == 1
    && be16At bs (o + 11) == 4
  if !valid then s.bumpPw c 0 30
  else
    let s := s.countC c 28 1
    let s := s.setPw c 0 29 0
    let s := if byteAt bs (o + 14) = 2 then s.setPw c 0 28 (byteAt bs (o + 17)) else s
    (s.setPw c 0 27 (if s.linkFault c then 0 else byteAt bs (o + 13) % 16)).bellShow

/-- ESMC_PDU_RECEIVE (R132): an ESMC frame on a channel with esmc_rx_en at 1. -/
def execEsmcPduReceive (c : Fin 96) (bytes : List (BitVec 8)) (s : State) : Res :=
  let bs := bytes.map (·.toNat)
  if !s.runs c 0 2 ∨ s.pw c 0 18 = 0 ∨ s.laneState c ≠ 2 then .next s
  else .next (s.esmcReceive c bs (parseFrame bs).off)

/-- ESMC_TIMEOUT (R132): 5 s without a valid PDU. -/
def execEsmcTimeout (c : Fin 96) (s : State) : Res :=
  if !s.runs c 0 2 ∨ s.pw c 0 18 = 0 then .next s
  else .next ((s.setPw c 0 27 0).setPw c 0 29 1).bellShow

/-- The QL that ESMC sends on a channel (R133): do-not-use on a lane whose recovered clock DPLL0 has selected. -/
def State.esmcQl (s : State) (c : Nat) : Nat :=
  let sel := s.selRef 0
  let fed := decide (8 ≤ sel ∧ sel < 16) && (s.chanLanes c).contains (s.refLane sel)
  if s.pw c 0 20 = 1 ∧ fed then 0xF else s.outQl

/-- An ESMC PDU: 46 bytes of payload after the header, padded to 60 (R133, with the field places of G.8264). -/
def esmcPdu (srcHi srcLo ql : Nat) (event : Bool) : List Nat :=
  [0x01, 0x80, 0xC2, 0x00, 0x00, 0x02, srcHi / 256 % 256, srcHi % 256, srcLo / 2 ^ 24 % 256, srcLo / 2 ^ 16 % 256,
   srcLo / 2 ^ 8 % 256, srcLo % 256, 0x88, 0x09, 0x0A, 0x00, 0x19, 0xA7, 0x00, 0x01, 0x10 + 8 * bit event, 0, 0, 0,
   0x01, 0x00, 0x04, ql % 16] ++ List.replicate 32 0

/-- PDUs of the last second (R133). -/
def State.esmcRecent (s : State) (c : Nat) : List Nat :=
  (s.chanX c).esmcTimes.filter (fun t => decide (s.time < t + 10 ^ 9 * 2 ^ 16))

/-- A PDU sent, unless it would be the eleventh within 1 s. -/
def State.esmcSend (s : State) (c : Nat) (event : Bool) : State :=
  let ts := s.esmcRecent c
  if 10 ≤ ts.length then s
  else
    let ql := s.esmcQl c
    let s := s.setChanX c { s.chanX c with esmcTimes := s.time :: ts, esmcSent := ql,
                                           esmcInfo := (s.chanX c).esmcInfo && event }
    (s.emit (.ethFrame c (esmcPdu (s.pw c 0 21) (s.pw c 0 22) ql event) false)).countC c 29 1

/-- ESMC_INFO_SEND (R133): the information PDU owed since the last tick. -/
def execEsmcInfoSend (c : Fin 96) (s : State) : Res :=
  if s.runs c 0 2 ∧ s.pw c 0 19 = 1 ∧ s.laneState c = 2 ∧ (s.chanX c).esmcInfo then .next (s.esmcSend c false) else .next s

/-- ESMC_EVENT_SEND (R133): an event PDU after a change of the QL sent. -/
def execEsmcEventSend (c : Fin 96) (s : State) : Res :=
  if s.runs c 0 2 ∧ s.pw c 0 19 = 1 ∧ s.laneState c = 2 ∧ s.esmcQl c ≠ (s.chanX c).esmcSent then .next (s.esmcSend c true)
  else .next s

/-! Receive MAC. -/

/-- An eCPRI frame with a recognised common header (Table 5.2 step 5, R122). -/
def State.isEcpri (s : State) (c : Nat) (p : Parsed) (bs : List Nat) : Bool :=
  s.runs c 1 4 && (p.etype == 0xAEFE || (p.encap != 0 && s.pw c 1 9 != 0 && p.port == s.pw c 1 9))
    && bitField (s.pw c 1 8) (byteAt bs (if p.encap = 0 then p.off else p.udp) / 16) 1 == 1

/-- A frame that passed the receive MAC, through the steps of Table 5.2. -/
def State.classify (s : State) (c : Nat) (bs : List Nat) (ts : Nat) : State :=
  let p := parseFrame bs
  let cbr := s.runs c 1 5
  let slow := p.etype == 0x8809
  let esmc := slow && byteAt bs p.off == 0x0A && byteAt bs (p.off + 1) == 0x00 && byteAt bs (p.off + 2) == 0x19
    && byteAt bs (p.off + 3) == 0xA7
  let ptp := p.etype == 0x88F7 || (s.pw c 0 17 == 1 && p.encap != 0 && (p.port == 319 || p.port == 320))
  let o := if p.encap = 0 then p.off else p.udp
  if p.etype = 0x8808 then s.countC c 20 1
  else if esmc then (if s.pw c 0 18 = 1 then s.esmcReceive c bs p.off else s)
  else if slow then (if cbr then s else s.defaultAction c bs ts)
  else if ptp then (if s.pw c 0 16 = 1 then s.capture c 0 bs ts else if cbr then s.countC c 25 1 else s.defaultAction c bs ts)
  else if cbr then s
  else if s.isEcpri c p bs then s.ecpri c p o bs ts
  else s.vlanLookup c p bs ts

/-- The queue that steps 5 and 6 of Table 5.2 send a frame to, by its headers. -/
def State.frameQueue (s : State) (c : Nat) (bs : List Nat) : Option Nat :=
  let p := parseFrame bs
  let o := if p.encap = 0 then p.off else p.udp
  let type := byteAt bs (o + 1)
  let dflt := if s.runs c 1 4 && s.pw c 1 11 == 1 then some (s.pw c 1 12) else none
  let vlan := match s.flowLookup (flowKey c p 0 0 1) with | some q => some q | none => dflt
  if s.isEcpri c p bs then
    if bs.length < o + 4 + be16At bs (o + 2) then dflt
    else if type = 0 ∨ type = 2 then
      match s.flowLookup (flowKey c p type (be16At bs (o + 4)) 0) with | some q => some q | none => vlan
    else vlan
  else vlan

/-- A frame whose FCS failed after its departure had begun, in ERRAND: completed and marked errored (R117). -/
def State.cutThroughBad (s : State) (c : Nat) (bs : List Nat) (ts : Nat) : State :=
  match s.frameQueue c bs with
  | some q => s.receivePkt q c (ofStamp ts / 2 ^ 16) none bs true false
  | none => s

/-- A complete frame at the receive MAC (R115, R117): SFD, length, FCS, then classification. -/
def State.macReceive (s : State) (c : Nat) (sfd fcs departed : Bool) (bs : List Nat) (ts : Nat) : State :=
  if !sfd then s.countC c 19 1
  else if bs.length + 4 < 64 then s.countC c 17 1
  else if s.mtu c < bs.length + 4 then s.countC c 18 1
  else if !fcs then
    let s := s.countC c 16 1
    if s.mode = .errand && departed then s.cutThroughBad c bs ts else s
  else ((s.countC c 12 1).countC c 13 bs.length).classify c bs ts

/-- The receive MAC of an Ethernet channel works: its lanes are ACTIVE and delivered. -/
def State.macUp (s : State) (c : Nat) : Bool :=
  s.runs c 0 2 && (s.chanLanes c).all (fun n => s.laneState n == 2 && (s.align n).blLock && !(s.align n).hiBer)

/-- ETH_FRAME_RECEIVE (R115, R121, R117): a frame with its SFD, FCS result and timestamp (R128); `departed` says that, leaving
cut-through, its first cells had departed before its FCS was seen. -/
def execEthFrameReceive (c : Fin 96) (sfd fcs departed : Bool) (bytes : List (BitVec 8)) (ts : BitVec 96) (s : State) : Res :=
  if s.macUp c then .next (s.macReceive c sfd fcs departed (bytes.map (·.toNat)) ts.toNat) else .next s

/-! Transmit MAC. -/

/-- Transmit preemption is active (R120). -/
def State.preempts (s : State) (c : Nat) : Bool :=
  s.pw c 0 12 == 1 && (s.pw c 0 13 == 0 || s.pw c 0 26 == 2)

/-- A frame sent: padded to 60 bytes before the FCS, which is inverted on a bad one, and counted (R116). -/
def State.sendFrame (s : State) (c : Nat) (f : Frame) : State :=
  let s := s.emit (.ethFrame c (f.bytes ++ List.replicate (60 - f.bytes.length) 0) f.bad)
  let s := (s.countC c 14 1).countC c 15 f.bytes.length
  if f.bad then s.countC c 23 1 else s

/-- The choice of a frame to send on a channel at `now` (R116, R218). -/
def State.chooseFrame (s : State) (c now : Nat) : Option Frame × State :=
  match s.choose 1 c now (s.preempts c) (s.pkts.length + 1) with
  | (none, s) => (none, s)
  | (some p, s) =>
    (some { bytes := p.bytes, express := s.on R.GRN_QD_CTRL.express p.queue, bad := p.err }, s.endDeparture p.id)

/-- ETH_FRAME_SEND (R116, R118, R120): what the transmit MAC sends next, at `now` in ns. With lf_rf_en, a local fault sends
remote fault and a received remote fault sends idle. An express frame goes ahead of a frame set aside; the rest of a frame
set aside follows; `cut` asks for a preemptable frame to stop after that many bytes, which happens only where preemption
allows it. -/
def execEthFrameSend (c : Fin 96) (now : BitVec 64) (cut : Option (BitVec 14)) (s : State) : Res :=
  if !s.runs c 0 2 ∨ s.laneState c ≠ 2 then .next s
  else if s.pw c 0 11 = 1 ∧ (s.localFault c ∨ s.pw c 0 24 = 1) then .next (s.emit (.ethFault c))
  else if s.pw c 0 11 = 1 ∧ s.pw c 0 25 = 1 then .next (s.emit (.ethIdle c))
  else
    let express := (s.heads 1 c).any (fun p => s.on R.GRN_QD_CTRL.express p.queue)
    match (s.chanX c).txHeld with
    | some (f, k) =>
      if express then
        match s.chooseFrame c now.toNat with
        | (some g, s) => .next (s.sendFrame c g)
        | (none, s) => .next s
      else
        let s := s.setChanX c { s.chanX c with txHeld := none }
        let s := s.emit (.ethFrame c (f.bytes.drop k) f.bad)
        let s := (s.countC c 14 1).countC c 15 f.bytes.length
        .next (if f.bad then s.countC c 23 1 else s)
    | none =>
      match s.chooseFrame c now.toNat with
      | (none, s) => .next (s.emit (.ethIdle c))
      | (some f, s) =>
        let min := (s.pw c 0 14 + 1) * 64
        match cut with
        | some k =>
          if s.preempts c ∧ ¬ f.express ∧ min ≤ k.toNat ∧ k.toNat + min ≤ f.bytes.length + 4 then
            let s := s.emit (.ethFrame c (f.bytes.take k.toNat) false)
            .next (s.setChanX c { s.chanX c with txHeld := some (f, k.toNat) })
          else .next (s.sendFrame c f)
        | none => .next (s.sendFrame c f)

/-- FAULT_ORDERED_SET_RECEIVE (R118, R132): which fault ordered sets are being received. Their reception is reported whatever
lf_rf_en says; a link fault makes the lane's QL QL-FAILED at once. -/
def execFaultOrderedSetReceive (c : Fin 96) (lf rf : Bool) (s : State) : Res :=
  if !s.runs c 0 2 then .next s
  else
    let s := (s.setPw c 0 24 (bit lf)).setPw c 0 25 (bit rf)
    let s := if lf || rf then (s.setPw c 0 27 0).bellShow else s
    if s.pw c 0 11 = 1 ∧ s.laneState c = 2 then
      if lf then .next (s.emit (.ethFault c)) else if rf then .next (s.emit (.ethIdle c)) else .next s
    else .next s

/-- PREEMPT_FRAGMENT_RECEIVE (R119): a fragment of a preemptable frame: first, continuation or last, with its SMD frame count
and fragment count; `ok` says that its check sequence was right. A fragment that breaks the sequence is discarded and
counted together with its frame; a completed frame goes to the receive MAC. -/
def execPreemptFragmentReceive (c : Fin 96) (first last ok : Bool) (smd frag : BitVec 2) (bytes : List (BitVec 8))
    (ts : BitVec 96) (s : State) : Res :=
  if !s.macUp c ∨ s.pw c 0 12 = 0 then .next s
  else
    let bs := bytes.map (·.toNat)
    let x := s.chanX c
    let done := fun (s : State) (all : List Nat) => s.macReceive c true ok false all ts.toNat
    if first then
      let s := if x.rxFrag.isSome then s.countC c 22 1 else s
      if last then .next (done (s.setChanX c { x with rxFrag := none }) bs)
      else if ok then .next (s.setChanX c { x with rxFrag := some (bs, smd.toNat, 0) })
      else .next ((s.setChanX c { x with rxFrag := none }).countC c 22 1)
    else
      let gone := (s.setChanX c { x with rxFrag := none }).countC c 22 1
      match x.rxFrag with
      | none => .next (s.countC c 22 1)
      | some (have_, m, k) =>
        if m ≠ smd.toNat ∨ k ≠ frag.toNat then .next gone
        else if last then .next (done (s.setChanX c { x with rxFrag := none }) (have_ ++ bs))
        else if ok then .next (s.setChanX c { x with rxFrag := some (have_ ++ bs, m, (k + 1) % 4) })
        else .next gone

/-- VERIFY_MPACKET_RECEIVE (R119): answered with a respond mPacket, whatever pre_verify says. -/
def execVerifyMpacketReceive (c : Fin 96) (s : State) : Res :=
  if s.macUp c ∧ s.pw c 0 12 = 1 then .next (s.emit (.mPacket c true)) else .next s

/-- VERIFY_MPACKET_SEND (R120): verify_ms has passed while the procedure runs: another verify, or failure after three that
went unanswered. -/
def execVerifyMpacketSend (c : Fin 96) (s : State) : Res :=
  if !s.runs c 0 2 ∨ s.pw c 0 12 = 0 ∨ s.pw c 0 13 = 0 ∨ s.pw c 0 26 ≠ 1 ∨ s.laneState c ≠ 2 then .next s
  else
    let x := s.chanX c
    if 3 ≤ x.verifies then .next (s.setPw c 0 26 3)
    else .next ((s.setChanX c { x with verifies := x.verifies + 1 }).emit (.mPacket c false))

/-- RESPOND_MPACKET_RECEIVE (R120): the first respond while verifying declares success. -/
def execRespondMpacketReceive (c : Fin 96) (s : State) : Res :=
  if s.macUp c ∧ s.pw c 0 12 = 1 ∧ s.pw c 0 13 = 1 ∧ s.pw c 0 26 = 1 ∧ 0 < (s.chanX c).verifies then
    .next ((s.setPw c 0 26 2).setChanX c { s.chanX c with verifies := 0 })
  else .next s

/-! Inserted frames. -/

/-- A list of bytes overwritten from position `i` on. -/
def overwrite (bs : List Nat) (i : Nat) (vs : List Nat) : List Nat := bs.take i ++ vs ++ bs.drop (i + vs.length)

/-- `n` big-endian bytes of a number. -/
def beBytes : Nat → Nat → List Nat
  | 0, _ => []
  | n + 1, v => v / 256 ^ n % 256 :: beBytes n v

/-- The UDP port of eCPRI on a channel; 0 when there is none (Table 5.9). -/
def State.ecpriPort (s : State) (c : Nat) : Nat := if s.runs c 1 4 then s.pw c 1 9 else 0

/-- The frame of a one_step item with its transmit timestamp written in (R130), or `none` for a frame that one_step does not
allow; `port` is the UDP port of eCPRI. The places of the fields are those of IEEE 1588-2019 and eCPRI 2.0. Assumption log entry 13, PRESUMED, unsafe. -/
def oneStepFrame (port : Nat) (bs : List Nat) (ts : Nat) : Option (List Nat) :=
  let p := parseFrame bs
  let stamp := beBytes 6 (ts / 2 ^ 48) ++ beBytes 4 (ts / 2 ^ 16 % 2 ^ 32)
  let add := fun (bs : List Nat) (i : Nat) =>
    overwrite bs i (beBytes 8 ((ofBeBytes ((bs.drop i).take 8) + ts % 2 ^ 16) % 2 ^ 64))
  let sync := fun (o : Nat) => byteAt bs o % 16 == 0
  let o := if p.encap = 1 then p.udp else p.off
  if (p.etype = 0x88F7 ∨ (p.encap = 1 ∧ p.port = 319)) ∧ sync o then
    let b := add (overwrite bs (o + 34) stamp) (o + 8)
    some (if p.encap = 1 then overwrite b (p.off + 26) [0, 0] else b)
  else
    let o := if p.encap = 0 then p.off else p.udp
    if (p.etype = 0xAEFE ∨ (p.encap ≠ 0 ∧ port ≠ 0 ∧ p.port = port)) ∧ byteAt bs (o + 1) = 5 then
      some (add (overwrite bs (o + 6) stamp) (o + 16))
    else none

/-- An insert item read from its words, when it is one that may be sent (Table 5.5, R130): operation 1, a length in range,
and one_step only on a frame that allows it. -/
def State.parseInsert (s : State) (c : Nat) (ws : List W32) : Option Insert :=
  match ws with
  | h :: t :: rest =>
    let w := h.toNat
    let len := w % 2 ^ 14
    let bs := ((rest.map (fun v => leBytes 4 v.toNat)).flatten).take len
    let one := bitField w 20 1 == 1
    if w / 2 ^ 28 ≠ 1 ∨ len < 60 ∨ s.mtu c < len + 4 ∨ (one ∧ (oneStepFrame (s.ecpriPort c) bs 0).isNone) then none
    else some { oneStep := one, twoStep := bitField w 19 1 == 1, tag := t.toNat % 2 ^ 16, bytes := bs }
  | _ => none

/-- The next insert item of a channel: in SOLO from the Weaver's FIFO 1 when it names the channel, and in the pair roles from
the items released at the multiframe boundary (R130, R131). An item that may not be sent is discarded and counted. -/
def State.nextInsert (s : State) (c : Nat) : Option Insert × State :=
  if s.role ≠ 0 then
    match (s.chanX c).inserts with
    | i :: t => (some i, s.setChanX c { s.chanX c with inserts := t })
    | [] => (none, s)
  else match (s.fifo (c / 4) 1).words with
    | [] => (none, s)
    | w :: _ =>
      if bitField w.toNat 21 7 ≠ c then (none, s)
      else match s.takeItem (c / 4) 1 with
        | (some ws, s) =>
          match s.parseInsert c ws with
          | some i => (some i, s)
          | none => (none, s.bumpPw c 0 32)
        | (none, s) => (none, s)

/-- INSERT_FRAME_SEND (R130): at a frame boundary with no frame in progress, the next insert item leaves as an express frame,
ahead of every queued frame, with the transmit timestamp `ts`. -/
def execInsertFrameSend (c : Fin 96) (ts : BitVec 96) (s : State) : Res :=
  if !s.runs c 0 2 ∨ s.laneState c ≠ 2 then .next s
  else match s.nextInsert c with
    | (none, s) => .next s
    | (some i, s) =>
      let bs := if i.oneStep then (oneStepFrame (s.ecpriPort c) i.bytes ts.toNat).getD i.bytes else i.bytes
      let s := s.sendFrame c { bytes := bs, express := true, bad := false }
      .next (if i.twoStep then s.captureTx c i.tag ts.toNat else s)

/-! CPRI. -/

/-- Word alignment or block lock of a CPRI lane (R137). -/
def State.cpriAligned (s : State) (c : Nat) : Bool :=
  s.laneState c == 2 && s.rxState c == 2 &&
    (if s.bitSlipLane c then (match (s.align c).search with | .aligned _ => true | _ => false) else (s.align c).blLock)

/-- A bit of Z.130.0 with the value and run it has held over good hyperframes. -/
def l1Step (r : Nat × Nat) (v : Nat) : Nat × Nat := if r.1 = v then (v, r.2 + 1) else (v, 1)

/-- CPRI_HYPERFRAME_RECEIVE (R137 to R139): a hyperframe interval with its start at the expected position or not, its HFN,
its Z.130.0 byte, the time its start crossed the ball, and the BFN. -/
def execCpriHyperframeReceive (c : Fin 96) (start atExpected : Bool) (hfn : BitVec 8) (l1 : BitVec 8) (bfn : BitVec 12)
    (ts : BitVec 96) (s : State) : Res :=
  if !s.runs c 0 3 then .next s
  else if !s.cpriAligned c then .next (s.hfHunt c)
  else
    let x := s.chanX c
    let st := s.pw c 0 12
    let h := hfn.toNat
    let good := start && atExpected && h == (x.hfPrev + 1) % 150
    if st = 0 then
      if start then .next ((s.setChanX c { x with hfGood := 1, hfBad := 0, hfPrev := h }).setPw c 0 12 1) else .next s
    else if st = 1 then
      if !good then .next (s.hfHunt c)
      else if x.hfGood + 1 < s.pw c 0 9 then .next (s.setChanX c { x with hfGood := x.hfGood + 1, hfPrev := h })
      else .next (((s.setChanX c { x with hfGood := x.hfGood + 1, hfBad := 0, hfPrev := h,
                                          l1Run := List.replicate 5 (0, 0) }).setPw c 0 12 2).setPw c 0 13 h)
    else
      let s := s.countC c 27 1
      if !good then
        let s := s.countC c 26 1
        if x.hfBad + 1 < s.pw c 0 10 then
          .next (s.setChanX c { x with hfBad := x.hfBad + 1, hfPrev := (x.hfPrev + 1) % 150,
                                       l1Run := List.replicate 5 (0, 0) })
        else .next (s.hfHunt c)
      else
        let runs := upTo (fun i => l1Step (x.l1Run.getD i (0, 0)) (bitField l1.toNat i 1)) 5
        let old := s.pw c 0 14
        let acc := sumUpTo (fun i =>
          let r := runs.getD i (0, 0)
          (if 3 ≤ r.2 then r.1 else bitField old i 1) * 2 ^ i) 5
        let s := s.setChanX c { x with hfBad := 0, hfPrev := h, l1Run := runs }
        let s := (s.setPw c 0 13 h).setPw c 0 14 acc
        if h = 0 ∧ s.pw c 0 11 = 1 then
          let t := ts.toNat
          .next ((((s.setPw c 0 15 t).setPw c 0 16 (t / 2 ^ 32)).setPw c 0 17 (t / 2 ^ 64)).setPw c 0 18 bfn.toNat)
        else .next s

end Sys2Proof.Machine
end

