-- ==== Sys2Proof/Machine/Defects.lean ====
section
/-! DEFINITION. The meanings of the defect, snapshot and injector events (R175 to R197). -/
namespace Sys2Proof.Machine

/-! Defects. -/

/-- The end of tributary `t` with number `e`: its channel (TALLY_DEF_TRIB_t). -/
def State.endChan (s : State) (t e : Nat) : Option Nat := (s.rxEnds t)[e]?

/-- DEFECT_SET (R175, R176): the set rule of a defect is met. It sets when its channel is integrated, its raw condition holds
and nothing masks it; what it masks reads 0. -/
def execDefectSet (d : DefectOf) (s : State) : Res :=
  match d with
  | .chan c k =>
    let w := s.defs c
    if s.integrates c ∧ s.rawDef c k ∧ ¬ defMasked w k then .next (s.putDefs c (setBitField w k 1 1)) else .next s
  | .trib t e k =>
    match s.endChan t.toNat e with
    | none => .next s
    | some c => if s.rawEnd t.toNat c k then .next (s.setEnd t.toNat c (s.endBits t.toNat c % 8 ||| 2 ^ k.val)) else .next s

/-- DEFECT_CLEAR (R175, R176): the clear rule of a set defect is met, its raw condition being absent. It clears, and each defect it masked starts set if its raw
condition holds. -/
def execDefectClear (d : DefectOf) (s : State) : Res :=
  match d with
  | .chan c k =>
    let w := s.defs c
    if bitField w k 1 = 1 ∧ ¬ s.rawDef c k then
      let w := setBitField w k 1 0
      .next (s.putDefs c (if k.val = 3 then w else s.defUnmask c (defRank k) w))
    else .next s
  | .trib t e k =>
    match s.endChan t.toNat e with
    | none => .next s
    | some c =>
      let t := t.toNat
      let d := s.endBits t c % 8
      if bitField d k 1 = 0 ∨ s.rawEnd t c k then .next s
      else .next (s.setEnd t c (match k.val with
        | 1 => s.endUnmask t c 1 0
        | 0 => s.endUnmask t c 2 0
        | _ => 0))

/-- A run of windows after one more: longer when the condition holds, 0 otherwise (R175). -/
def nextRun (hold : Bool) (run : Nat) : Nat := if hold then run + 1 else 0

/-- BIP_WINDOW_END (R180): the 4,000 frames of a window of lane `n` end. A complete window is judged against the thresholds and
counted; an incomplete one resets the runs. While dSF or dSD is masked its integration is held at its start (R176). -/
def execBipWindowEnd (n : Fin 96) (s : State) : Res :=
  let c := s.chan n
  let x := s.bip n
  let next := { x with count := 0, whole := (s.vtf n).mfSync }
  if !s.integrates c ∨ !s.carriesVtf c then .next (s.setBip n next)
  else if !x.whole then .next (s.setBip n { next with sfRun := 0, sdRun := 0, sfLow := 0, sdLow := 0 })
  else
    let pw := fun k => s.pw c 2 k
    let hiF := decide (pw 29 ≤ x.count)
    let hiD := decide (pw 28 ≤ x.count)
    let loF := decide (x.count ≤ pw 29 / 10)
    let loD := decide (x.count ≤ pw 28 / 10)
    let s := (s.countC c 30 (bit hiD)).countC c 31 (bit hiF)
    let w := s.defs c
    let y := if defMasked w 9 then { next with sfRun := 0, sfLow := 0, sf := false }
      else
        let r := nextRun hiF x.sfRun
        let l := nextRun loF x.sfLow
        { next with sfRun := r, sfLow := l, sf := if x.sf then decide (l < pw 33) else decide (pw 31 ≤ r) }
    let y := if defMasked w 10 then { y with sdRun := 0, sdLow := 0, sd := false }
      else
        let r := nextRun hiD x.sdRun
        let l := nextRun loD x.sdLow
        { y with sdRun := r, sdLow := l, sd := if x.sd then decide (l < pw 32) else decide (pw 30 ≤ r) }
    let s := s.setBip n y
    let any := fun (f : Nat → Bool) => (s.chanLanes c).any f
    let f := any (fun m => (s.bip m).sf)
    let w' := setBitField w 9 1 (bit (f && !defMasked w 9))
    let w' := if bitField w 9 1 = 1 ∧ !f then s.defUnmask c 11 w' else w'
    let d := any (fun m => (s.bip m).sd) && !defMasked w' 10
    let w'' := setBitField w' 10 1 (bit d)
    let w'' := if bitField w 10 1 = 1 ∧ !d then s.defUnmask c 12 w'' else w''
    .next (s.putDefs c w'')

/-! Snapshots. -/

/-- Counter indices of each group (Table 7.5). -/
def groupBase (g : Nat) : Nat := [0, 1536, 4608, 5632, 136704].getD g 0
def groupSize (g : Nat) : Nat := [1536, 3072, 1024, 131072, 131072].getD g 0

/-- SNAPSHOT_IMAGE_WRITE (R189, R351): the ring engine takes the next posted snapshot descriptor, whose buffer has `bufLen`
bytes, for the oldest tick that waits: the image is written, or status 2 says that the buffer is too short and the tick
counts as missed; the descriptor is completed and class 14 is signalled. -/
def execSnapshotImageWrite (bufLen : BitVec 32) (s : State) : Res :=
  match s.tallyX.due with
  | [] => .next s
  | k :: rest =>
    if s.masterFenced 7 ∨ s.rd R.HOST_RING_CFG_x.active 5 = 0 then .next s
    else
      let short := decide (bufLen.toNat < 64 + 8 * k.counts.length)
      let s := s.emit (.snapshot (if short then 2 else 1) k.groups k.seq k.time k.flags s.tallyX.missed
        (if short then [] else k.counts))
      let s := { s with tallyX := { s.tallyX with due := rest, missed := if short then min (s.tallyX.missed + 1) (2 ^ 32 - 1) else 0 } }
      let s := s.wr R.TALLY_STATUS.dma_busy 0 (bit (!rest.isEmpty))
      let s := if short then s.countD 1 1 |>.latch R.TALLY_EVENT.snap_miss 0 else s.latch R.TALLY_EVENT.snap_done 0
      .next ((s.devAdvance 5).signal 14)

/-- The live counter named by live_idx. -/
def State.liveCount (s : State) : Nat := Tab.get 0 s.tally (s.rd R.TALLY_LIVE_IDX.live_idx 0)

/-- The words of a multi-word value whose word 0 lies at `a` captured for master `m`, in place of an earlier capture of it (R363). -/
def State.holdWords (s : State) (m a : Nat) (words : List W32) : State :=
  { s with captures := ⟨m, a, words⟩ :: s.captures.filter (fun c => !(c.m == m && c.addr == a)) }

/-- A read of TALLY_LIVE_LO by master `m`: the low word, the high word being copied to TALLY_LIVE_HI and held for `m` (R191, R363). -/
def State.liveRead (s : State) (m : Nat) : Nat × State :=
  let c := s.liveCount
  (c % 2 ^ 32, (s.wr R.TALLY_LIVE_HI.cnt_hi 0 (c / 2 ^ 32)).holdWords m 0x40014 [BitVec.ofNat 32 c, BitVec.ofNat 32 (c / 2 ^ 32)])

/-- TALLY_LIVE_READ (R191, R363): master `m` reads TALLY_LIVE_LO. -/
def execTallyLiveRead (m : Fin 8) (s : State) : Res :=
  .next (s.asReader m 0x40014 (fun s => let (v, s) := s.liveRead m; s.emit (.busRead m 0x40014 v)))

/-! Injectors. -/

/-- The injectors of a mask. -/
def injsOf (mask : Nat) : List Nat := (upTo id 16).filter (fun j => bitField mask j 1 == 1)

/-- One INJECT_ARM at its start boundary (R192, R418): every named injector starts, or, when one of them has stopped meanwhile, none does
and the command completes with the code of its cause. -/
def State.startArm (s : State) (a : Arm) : State :=
  let js := injsOf a.mask
  if js.all (fun j => s.rd R.TALLY_INJ_STAT_j.state j == 1) then
    let s := js.foldl (fun (s : State) j =>
      (s.wr R.TALLY_INJ_STAT_j.state j 2).setInj j { s.inj j with events := 0, left := 0 }) s
    s.ok a.head (a.at_ / 4000 % 1024 + a.at_ / 400 % 10 * 2 ^ 10)
  else
    let fenced := js.any (fun j => s.rd R.TALLY_INJ_STAT_j.state j == 3 && s.rd R.TALLY_INJ_STAT_j.stop_cause j == 5)
    let s := js.foldl (fun (s : State) j => if s.rd R.TALLY_INJ_STAT_j.state j = 1 then s.wr R.TALLY_INJ_STAT_j.state j 0 else s) s
    s.fail a.head (if fenced then .fenced else .illegalState)

/-- INJECTOR_START (R192): the armed injectors whose boundary has come start together, and their INJECT_ARM completes. -/
def execInjectorStart (s : State) : Res :=
  let due := s.tallyX.arms.filter (fun a => decide (a.at_ ≤ s.frame))
  let s := { s with tallyX := { s.tallyX with arms := s.tallyX.arms.filter (fun a => !decide (a.at_ ≤ s.frame)) } }
  .next (due.foldl (fun (s : State) a => s.startArm a) s)

/-- Units that an event affects, in the unit of Table 7.10's event column. -/
def injUnits (action len : Nat) : Nat := if action = 2 ∨ action = 6 then 1 else len

/-- INJECTOR_EVENT (R193, R195): injector `j` reaches an event position. Its target sees the action: a line or twin lane at
its balls, a tributary in the packets or frames that pass next; every affected unit counts, and the limit stops it. -/
def execInjectorEvent (j : Fin 16) (s : State) : Res :=
  let lim := s.rd R.TALLY_INJ_LIMIT_j.limit j
  if s.rd R.TALLY_INJ_STAT_j.state j ≠ 2 ∨ (lim ≠ 0 ∧ lim ≤ (s.inj j).events) then .next s
  else
    let k := injUnits (s.rd R.TALLY_INJ_CFG_j.action j) (s.rd R.TALLY_INJ_PAT_j.len j)
    let x := s.inj j
    let s := s.countD (16 + j) k
    let s := if s.rd R.TALLY_INJ_CFG_j.kind j = 1 then s.countL (s.rd R.TALLY_INJ_CFG_j.target j) 9 k else s
    let s := if s.rd R.TALLY_INJ_CFG_j.kind j = 2 then s.setInj j { x with events := x.events + 1, left := x.left + k }
      else (s.setInj j { x with events := x.events + 1 }).emit
        (.injected j (s.reg (0x40800 + 32 * j)).toNat (s.reg (0x40804 + 32 * j)).toNat)
    .next (s.injSpent j)

/-- REORDER_WINDOW_TIMEOUT (R193): 10 µs have passed and the window of injector `j` has not filled. -/
def execReorderWindowTimeout (j : Fin 16) (s : State) : Res := .next ((s.releaseWindow j).injSpent j)

/-- A write to register `r` of injector `j`: 0 CFG, 1 PAT, 2 INT, 3 LIMIT. While the injector is armed or running it is
discarded and sets inj_wr_busy (R196); a value outside a field's codes keeps the field (R8). -/
def State.injWrite (s : State) (j r v : Nat) : State :=
  if s.injBusy j then s.latch R.TALLY_EVENT.inj_wr_busy 0
  else match r with
    | 0 =>
      let s := if bitField v 28 3 ≤ 3 then s.wr R.TALLY_INJ_CFG_j.kind j (bitField v 28 3) else s
      let s := if bitField v 24 4 ≤ 6 then s.wr R.TALLY_INJ_CFG_j.action j (bitField v 24 4) else s
      (s.wr R.TALLY_INJ_CFG_j.dir j (bitField v 23 1)).wr R.TALLY_INJ_CFG_j.target j v
    | 1 => (s.wr R.TALLY_INJ_PAT_j.len j (v / 2 ^ 16)).wr R.TALLY_INJ_PAT_j.first j v
    | 2 => if v = 0 then s else s.wr R.TALLY_INJ_INT_j.interval j v
    | _ => s.wr R.TALLY_INJ_LIMIT_j.limit j v

/-- INJECTOR_REG_WRITE (R196): master `m` writes a register of injector `j`. -/
def execInjectorRegWrite (m : Fin 8) (j : Fin 16) (r : Fin 4) (v : BitVec 32) (s : State) : Res :=
  .next (s.asMaster m (·.injWrite j r v.toNat))

end Sys2Proof.Machine
end

