-- ==== Sys2Proof/Machine/Granary.lean ====
section
/-! DEFINITION. The meanings of the Granary's events (chapter 8). -/
namespace Sys2Proof.Machine

/-- SCRUB_CYCLE (R203 to R205): the reserved cycles of a frame on bank `b` read four rows in turn and write back those that held
a CE; `finds` names what they found by row of the four and word. GATED and RETIRED banks are not scrubbed, and the pass
stands still in the frame of a copy (R204, R206). -/
def execScrubCycle (b : Fin 96) (finds : List (BitVec 2 × BitVec 3 × EccFind)) (s : State) : Res :=
  let x := s.bank b
  let copying : Bool := match x.copy with | some (_, _, f) => f == s.frame | none => false
  if 2 ≤ s.bankState b ∨ copying then .next s
  else
    let s := finds.foldl (fun s e => s.bankEcc b (x.scrubRow + e.1.toNat) e.2.1.toNat e.2.2 true) s
    let x := s.bank b
    if x.scrubRow + 4 < 16416 then .next (s.setBank b { x with scrubRow := x.scrubRow + 4 })
    else
      let s := s.setBank b { x with scrubRow := 0, pass := x.pass + 1, scanning := false }
      .next (if b.val = 0 then s.bump R.GRN_STATUS.scrub_pass 0 1 else s)

/-- ROW_REPAIR_COPY (R206): while repair_en is 1, the oldest qualified row of bank `b` is copied to its lowest free spare. -/
def execRowRepairCopy (b : Fin 96) (s : State) : Res :=
  let x := s.bank b
  if !s.on R.GRN_CTRL.repair_en 0 ∨ 2 ≤ s.bankState b ∨ x.copy.isSome then .next s
  else match x.tracker.find? (fun e => e.qualified), (upTo id 32).find? (fun k => !(x.map.any (fun e => e.2 == k))) with
    | some e, some k => .next (s.setBank b { x with copy := some (e.row, k, s.frame) })
    | _, _ => .next s

/-- ROW_REMAP (R206): in a frame after the copy, the spare row takes the row's place; a spare that the row leaves stays used. -/
def execRowRemap (b : Fin 96) (s : State) : Res :=
  let x := s.bank b
  match x.copy with
  | none => .next s
  | some (row, k, f) =>
    if s.frame ≤ f then .next s
    else
      let m := x.map.map (fun e => if e.1 = row then (16384 + e.2, e.2) else e) ++ [(row, k)]
      let s := s.setBank b { x with map := m, copy := none, tracker := x.tracker.filter (fun e => e.row != row) }
      let s := s.wr R.GRN_BANK_b.spares_used b m.length
      .next (s.grnEvent R.GRN_EVENT.row_repaired b (s.reg (0x800100 + 4 * b)).toNat)

/-- REPAIR_RECORD_WRITE (R207): the steward writes the banks' repair maps and states to the copy not in force. -/
def execRepairRecordWrite (s : State) : Res := .next (if s.stewardActs then s.writeRepairRec else s)

/-- BANK_DRAIN_START (R209, R227): at a multiframe boundary a bank to be retired enters DRAIN; in a pair the twin's retirement,
with its cause, takes the bank along. -/
def execBankDrainStart (b : Fin 96) (twin : Option (BitVec 8)) (s : State) : Res :=
  let s := match twin with | some c => if s.role = 0 then s else s.askRetire b c.toNat | none => s
  let x := s.bank b
  if x.asked ≠ 0 ∧ (s.bankState b = 0 ∨ s.bankState b = 2) then .next (s.drainBank b x.asked) else .next s

/-- BANK_DRAIN_END (R209, R212): the bank holds no cell, or drain_ms have passed since DRAIN began. -/
def execBankDrainEnd (b : Fin 96) (s : State) : Res :=
  if s.bankState b = 1 ∧ (s.cellsIn b = 0 ∨ (s.bank b).drainFrom + 400 * s.rd R.GRN_CTRL.drain_ms 0 ≤ s.frame) then
    .next (s.endDrain b)
  else .next s

/-- A write of fence_req to a bank (R209). -/
def State.bankFenceReq (s : State) (b : Nat) : State := s.askRetire b 3

/-- A write of bank_reset: a march test starts on a bank RETIRED with cause HOST, and is discarded otherwise (R210). -/
def State.bankReset (s : State) (b : Nat) : State :=
  if s.bankState b = 3 ∧ s.rd R.GRN_BANK_b.retire_cause b = 3 ∧ (s.bank b).march = 0 then
    (s.setBank b { s.bank b with march := 1 }).wr R.GRN_BANK_b.bank_reset_done b 0
  else s

/-- BANK_FENCE_REQ (R209): master `m` writes fence_req. -/
def execBankFenceReq (m : Fin 8) (b : Fin 96) (s : State) : Res := .next (s.asMaster m (·.bankFenceReq b))

/-- BANK_RESET (R210): master `m` writes bank_reset. -/
def execBankReset (m : Fin 8) (b : Fin 96) (s : State) : Res := .next (s.asMaster m (·.bankReset b))

/-- BANK_RESET_DONE (R210): the march test of a bank ends; with at most 32 failing rows the map is rebuilt. -/
def execBankResetDone (b : Fin 96) (failing : List (BitVec 15)) (s : State) : Res :=
  if (s.bank b).march ≠ 1 then .next s
  else
    let s := s.setBank b { s.bank b with march := 0 }
    match marchMap (failing.map (·.toNat)) with
    | some m => .next ((s.putMap b m).wr R.GRN_BANK_b.bank_reset_done b 1)
    | none => .next s

/-- FENCED_QUEUE_WALK (R224): the packets that a fenced queue held are dropped with cause FENCED. -/
def execFencedQueueWalk (q : BitVec 16) (s : State) : Res :=
  if s.on R.GRN_QD_CTRL.fenced q.toNat then .next (s.dropAll q.toNat 8) else .next s

/-- The change's boundary has come. -/
def State.isDue (s : State) (e : Pend) : Bool :=
  match e.due with
  | .multiframe g sub0 => decide (g ≤ s.frame ∧ s.frame % 400 = 0) && (!sub0 || s.frame % 4000 == 0)
  | .frame => true
  | _ => false

/-- FLUSH_POINT (R223): at the boundary of an accepted QUEUE_FLUSH, the packets of queue `q` are handled as Table 8.7 states and
the command completes. -/
def execFlushPoint (q : BitVec 16) (s : State) : Res :=
  match s.takeChange (fun e => e.change == .queueFlush q.toNat && s.isDue e) with
  | (some e, s) =>
    if s.on R.GRN_QD_CTRL.valid q.toNat then .next ((s.flushQueue q.toNat).okOpt e.head 0) else .next (s.failOpt e.head .illegalState)
  | (none, s) => .next s

/-- QUEUE_CLOSED (R222): the occupancy of a closing queue has reached 0: it stops existing, and the steward reports it. -/
def execQueueClosed (q : BitVec 16) (s : State) : Res :=
  .next (s.closeQueue q.toNat)

/-- Heads of queue `q` that joined more than 900 µs before `now` dropped, one after the other (R221). -/
def State.sweepQueue (s : State) (q now : Nat) : Nat → State
  | 0 => s
  | fuel + 1 =>
    match firstJoined (s.waiting q) with
    | some p => if p.joinedAt + 900000 < now then State.sweepQueue (s.dropPkt p 7) q now fuel else s
    | none => s

/-- RESIDENCY_SWEEP (R221): in SUNDIAL the head of every non-empty queue is examined at `now`, in ns. -/
def execResidencySweep (now : BitVec 64) (s : State) : Res :=
  if s.mode ≠ .sundial then .next s
  else .next ((s.pkts.map (·.queue)).eraseDups.foldl (fun s q => s.sweepQueue q now.toNat (s.pkts.length + 1)) s)

/-- FLOW_ENTRY_REWRITE (R202): the steward rewrites a flow-table entry that read uncorrectable, and reports it. -/
def execFlowEntryRewrite (e : BitVec 17) (s : State) : Res :=
  let e := e.toNat
  if s.stewardActs ∧ s.flowBad.contains e then
    .next ({ s with flowBad := s.flowBad.filter (· ≠ e) }.report 8 6 (e / 8) (e % 8))
  else .next s

/-- REPAIR_SCAN_PASS_END (R226): every bank that a scan names has ended its pass: the steward reports each, and scan_done is
set. A bank no longer scrubbed holds nothing up. -/
def execRepairScanPassEnd (s : State) : Res :=
  let named := (upTo id 96).filter (fun b => (s.bank b).named)
  if !s.on R.GRN_STATUS.scan_busy 0 ∨ (upTo id 96).any (fun b => (s.bank b).march == 2) ∨ named.any (fun b => (s.bank b).scanning && decide (s.bankState b ≤ 1)) then
    .next s
  else
    let s := named.foldl (fun s b =>
      let x := s.bank b
      let s := s.setBank b { x with named := false, scanning := false }
      if s.stewardActs then s.report 8 7 b (min x.scanRows 255 + 256 * s.rd R.GRN_BANK_b.spares_used b) else s) s
    .next ((s.wr R.GRN_STATUS.scan_busy 0 0).latch R.GRN_EVENT.scan_done 0)

/-- RETEST_DONE (R226): the march test of a retest ends on bank `b`: with at most 32 failing rows the bank is LIVE with a new map.
When every named bank has ended, the command completes. -/
def execRetestDone (b : Fin 96) (failing : List (BitVec 15)) (s : State) : Res :=
  if (s.bank b).march ≠ 2 then .next s
  else
    let s := s.setBank b { s.bank b with march := 0 }
    let (live, s) := match marchMap (failing.map (·.toNat)) with
      | some m => (1, (s.putMap b m).bankLive b)
      | none => (0, s)
    let s := if s.stewardActs then s.report 8 8 b live else s
    if (upTo id 96).any (fun k => (s.bank k).march == 2) then .next s
    else
      let s := (s.wr R.GRN_STATUS.scan_busy 0 0).latch R.GRN_EVENT.scan_done 0
      match s.takeChange (fun e => e.change == .retest) with
      | (some e, s) => .next (s.okOpt e.head 0)
      | (none, s) => .next s

end Sys2Proof.Machine
end

