-- ==== Sys2Proof/Machine/Boundary.lean ====
section
/-! DEFINITION. The boundaries of time: frames, multiframes, the one-second tick, and the ends of lane transitions (R23, R72, R188 to
R190, R245, R247, R296 to R298). -/
namespace Sys2Proof.Machine

/-! The frame phase (R72, R296). -/

/-- A frame in 2^-16 ns. -/
def framePeriod : Nat := 2500 * 2 ^ 16

/-- Tn of R72 at the present boundary, in 2^-16 ns. -/
def State.gridTime (s : State) : Int := (s.time : Int) - (s.rd R.BELL_FRAME_OFS.frame_ofs 0 * 2 ^ 16 : Nat)

/-- The absolute number of the frame that begins now: Tn to the nearest multiple of 2,500 ns (R296). -/
def State.frameNumber (s : State) : Nat := ((s.gridTime + framePeriod / 2) / framePeriod).toNat

/-- The grid error e in 2^-16 ns (R296). -/
def State.gridError (s : State) : Int :=
  let r := s.gridTime % framePeriod
  if 2 * r < framePeriod then r else r - framePeriod

/-- fp_err and fp_locked follow e. -/
def State.showGrid (s : State) : State :=
  let e := s.gridError
  (s.wr R.BELL_STATUS.fp_err 0 (patternOf 16 (10 * e / 2 ^ 16))).wr R.BELL_STATUS.fp_locked 0 (bit (decide (e.natAbs ≤ 2 ^ 16)))

/-- What `ppb` of a frame is in frame `g`, in 2^-16 ns: the fractions add up over the frames. -/
def frameShare (ppb g : Nat) : Nat := (g + 1) * framePeriod * ppb / 10 ^ 9 - g * framePeriod * ppb / 10 ^ 9

/-- How far the frame that ends is shortened to take e away: within fp_pull, and not at all in MUSTER (R296). -/
def State.steering (s : State) : Int :=
  if s.mode = .muster then 0
  else
    let lim : Int := frameShare (s.rd R.BELL_CTRL.fp_pull 0) s.frame
    max (-lim) (min lim s.gridError)

/-- The part of a slew that falls into one frame, taken off it (R297). -/
def State.takeSlew (s : State) : Int × State :=
  match s.bell.slew with
  | none => (0, s)
  | some k =>
    let n := k.acc + framePeriod * k.ppb
    let step : Int := min (n / 10 ^ 9) k.left.natAbs
    let step := if k.left < 0 then -step else step
    (step, { s with bell := { s.bell with slew := some { k with left := k.left - step, acc := n % 10 ^ 9 } } })

/-- What DPLL1 gains on DPLL0 in one frame at the frequency that PHASE_STEP set, in HOST mode (R297). -/
def State.takeHostFreq (s : State) : Int × State :=
  if s.dpllMode 1 = 5 then
    let n := s.bell.freqAcc + framePeriod * s.bell.hostFreq
    (n / (10 ^ 9 * 2 ^ 16), { s with bell := { s.bell with freqAcc := n % (10 ^ 9 * 2 ^ 16) } })
  else (0, s)

/-- Boundaries that changes wait for keep their distance when a time jump renumbers the frames. -/
def Due.shift (d : Due) (by_ : Int) : Due :=
  match d with
  | .multiframe (g : Nat) b => .multiframe (Int.toNat ((g : Int) + by_)) b
  | d => d

/-- Time passes by one frame, `drift` of it being what the loop of DPLL1 gained on DPLL0, and the next frame takes its number. -/
def State.passFrame (s : State) (drift : Int) : State :=
  let cut := s.steering
  let (slew, s) := s.takeSlew
  let (host, s) := s.takeHostFreq
  let gained := if s.dpllMode 1 = 5 then host else drift
  let s := { s with time := ((s.time : Int) + framePeriod - cut + slew + gained).toNat % 2 ^ 96 }
  let g : Nat := s.frameNumber
  let jump : Int := (g : Int) - (s.frame + 1 : Nat)
  let s := if jump = 0 then s else { s with changes := s.changes.map (fun e => { e with due := e.due.shift jump }) }
  ({ s with frame := g } : State).showGrid

/-! Parameters and status words (R247, R271). -/

/-- Status words that PBLK wrote in the frame that ends reach their blocks. -/
def State.copyShadow (s : State) : State :=
  s.shadow.foldl (fun (s : State) e => match e.2 with
    | some v => { s with pblk := Tab.put 0 s.pblk e.1 v }
    | none => s) { s with shadow := [] }

/-- The blocks with values pending, as channel and slot. -/
def State.pendingBlocks (s : State) : List (Nat × Nat) :=
  (s.pblkPending.map (fun e => (4 * (e.1 / 128 / 16) + e.1 / 128 % 16 / 4, e.1 / 128 % 4))).eraseDups

/-- Pending values whose boundary is the frame boundary: VTF channels outside MF_SYNC. -/
def State.frameParams (s : State) : State :=
  (s.pendingBlocks.filter (fun e => s.paramDue e.1 == .frame)).foldl (fun (s : State) e => s.applyParams e.1 e.2) s

/-- Pending values of every other channel. -/
def State.multiframeParams (s : State) : State :=
  s.pendingBlocks.foldl (fun (s : State) e => s.applyParams e.1 e.2) s

/-! Frame boundary. -/

/-- Blocks that came after their release cycle are released in the frame that begins (R23). -/
def State.releaseLate (s : State) : State :=
  s.lanes.foldl (fun (s : State) e =>
    if e.2.rxQueue.any (·.2) then s.setLane e.1 { e.2 with rxQueue := e.2.rxQueue.map (fun w => (w.1, false)) } else s) s

/-- At the switch frame of a planned takeover the active becomes STANDBY, and its PAIR_TAKE completes; TAKE stays high until it decodes
the other side's claim (Table 12.7). -/
def State.swapPlanned (s : State) : State :=
  match s.pair.planned with
  | some (f, h) =>
    if s.role = 1 ∧ f ≤ s.frame then
      (({ s with pair := { s.pair with planned := none, twinRole := 1 } } : State).wr R.PAIR_STATUS.role 0 2).ok h 0
    else s
  | none => s

/-- FRAME_BOUNDARY (R23, R72, R296): a frame ends. `drift` is what the loop of DPLL1 gained on DPLL0 in it, in 2^-16 ns. -/
def execFrameBoundary (drift : BitVec 16) (s : State) : Res :=
  if !s.running then .next s
  else
    let s := (s.passFrame drift.toInt).releaseLate
    let s := s.copyShadow.frameParams
    .next (s.applyDue (fun e => e.due == .frame)).settleAll.swapPlanned

/-! Multiframe boundary. -/

/-- In MUSTER a grid error beyond 1 ns is taken away at once (R296). -/
def State.snapGrid (s : State) : State :=
  let e := s.gridError
  if s.mode = .muster ∧ 2 ^ 16 < e.natAbs then ({ s with time := ((s.time : Int) - e).toNat } : State).showGrid else s

/-- The complete items of a Weaver's insert FIFO released to their channels (R131). -/
def State.releaseInserts (s : State) (q : Nat) : Nat → State
  | 0 => s
  | fuel + 1 =>
    match s.takeItem q 1 with
    | (some (w :: ws), s) =>
      let c := bitField w.toNat 21 7
      let s := match s.parseInsert c (w :: ws) with
        | some i => s.setChanX c { s.chanX c with inserts := (s.chanX c).inserts ++ [i] }
        | none => s.bumpPw c 0 32
      State.releaseInserts s q fuel
    | _ => s

/-- The 8B/10B and raw channels that both twins report aligned, which forward from this boundary on (R62). -/
def State.gateForward (s : State) (twin : Nat) : State :=
  let ok := (upTo id 96).filter (fun c => bitField twin c 1 == 1 && (s.chanLanes c).all (fun n =>
    match (s.align n).search with | .aligned _ => true | _ => false))
  { s with pair := { s.pair with forward := ok } }

/-- A QUEUE_FLUSH, whose packets go at its own flush point (R223). -/
def Change.isFlush : Change → Bool
  | .queueFlush _ => true
  | _ => false

/-- MULTIFRAME_BOUNDARY (R245, R247, R131, R62): what is due at the boundary is applied in the order in which it was accepted; packets of
a QUEUE_FLUSH go at its flush point. `twin` has bit `c` set where the twin reports channel `c` aligned. -/
def execMultiframeBoundary (twin : BitVec 96) (s : State) : Res :=
  if !s.running ∨ s.frame % 400 ≠ 0 then .next s
  else
    let s := s.multiframeParams
    let s := s.applyDue (fun e => s.isDue e && !e.change.isFlush)
    let s := s.snapGrid.settleAll
    let s := if s.role = 0 then s else iter (fun q (s : State) => s.releaseInserts q (s.fifo q 1).words.length) 0 24 (s.gateForward twin.toNat)
    .next (s.reeveEvent 4)

/-! The one-second tick. -/

/-- The numbers `lo` to `lo + n - 1`. -/
def span : Nat → Nat → List Nat
  | _, 0 => []
  | lo, n + 1 => lo :: span (lo + 1) n

/-- Every counter copied to its shadow (R188). -/
def State.copyTally (s : State) : State :=
  s.tally.foldl (fun (s : State) e => s.setBytes (0x900000 + 8 * e.1) 8 e.2) (s.clearMem 0x900000 (8 * 267776))

/-- Whole seconds. -/
def secondPeriod : Nat := 10 ^ 9 * 2 ^ 16

/-- The whole second that falls into the present frame, when one does: the tick's instant. -/
def State.tickSecond (s : State) : Nat := (s.time + secondPeriod - 1) / secondPeriod

/-- TIME_SET takes effect: the seconds are those given from the tick on, and its command completes (R297). -/
def State.applySet (s : State) : State :=
  match s.bell.setSec with
  | none => s
  | some (sec, h) =>
    let by_ : Int := ((sec : Int) - s.tickSecond) * secondPeriod
    ({ s with time := ((s.time : Int) + by_).toNat % 2 ^ 96, bell := { s.bell with setSec := none, stepped := true } } : State).ok h 0

/-- The time of the tick: the whole second when it falls into the present frame; otherwise a jump carried time across, and the instant
lies within the present frame. -/
def State.tickTime (s : State) : Nat × State :=
  if s.tickSecond * secondPeriod < s.time + framePeriod then (s.tickSecond * secondPeriod, s) else s.stamp

/-- The counters of the groups selected, in ascending index (R189). -/
def State.groupCounts (s : State) (groups : Nat) : List Nat :=
  ((span 0 5).filter (fun g => bitField groups g 1 == 1)).flatMap (fun g =>
    (span (groupBase g) (groupSize g)).map (fun i => Tab.get 0 s.tally i))

/-- Snapshot descriptors that the host has posted and no tick waits for. -/
def State.posted (s : State) : Bool :=
  s.on R.HOST_RING_CFG_x.en 5 && s.on R.HOST_RING_CFG_x.active 5 && !s.masterFenced 7 &&
    decide (s.tallyX.due.length < (s.rd R.HOST_RING_DB_x.host_idx 5 + 2 ^ 16 - s.rd R.HOST_RING_DEV_x.dev_idx 5) % 2 ^ 16)

/-- The snapshot of a tick: due when a descriptor is posted, and missed when none is (R189, R190). -/
def State.takeSnapshot (s : State) : State :=
  let groups := s.rd R.TALLY_CTRL.snap_groups 0
  let x := s.tallyX
  if s.on R.TALLY_CTRL.snap_en 0 then
    if s.posted then
      let (t, s) := s.tickTime
      let hold := s.tstat == 4 || s.tstat == 5
      let k : Tick := { groups := groups, seq := x.seq, time := stampOf t, flags := bit s.bell.stepped + 2 * bit hold, counts := s.groupCounts groups }
      ({ s with tallyX := { x with due := x.due ++ [k] } } : State).wr R.TALLY_STATUS.dma_busy 0 1
    else
      ({ s with tallyX := { x with missed := min (x.missed + 1) (2 ^ 32 - 1) } }.countD 1 1).latch R.TALLY_EVENT.snap_miss 0
  else s

/-- Seconds that BELL_ counts: what is left of a qualification or a wait-to-restore (R284), and the time in HOLDOVER (hold_min). -/
def State.countSeconds (s : State) : State :=
  let s := iter (fun n (s : State) => if s.refState n = 2 ∨ s.refState n = 3 then s.wr R.BELL_REF_STAT_n.wtr_left n (s.rd R.BELL_REF_STAT_n.wtr_left n - 1) else s)
    0 18 s
  iter (fun d (s : State) =>
    if s.dpllState d = 3 then
      let k := s.bell.holdSec.getD d 0 + 1
      ({ s with bell := { s.bell with holdSec := listSet s.bell.holdSec d k } } : State).wr R.BELL_DPLL_STAT_d.hold_min d (min (k / 60) 4095)
    else s) 0 4 s

/-- Ethernet channels owe an information PDU after each tick (R133). -/
def State.oweEsmc (s : State) : State :=
  iter (fun c (s : State) => if s.runs c 0 2 then s.setChanX c { s.chanX c with esmcInfo := true } else s) 0 96 s

/-- ONE_SECOND_TICK (R298, R188 to R190, R297): Bell Tower time crosses a whole second. The tick itself counts in the next second
(R188). -/
def execOneSecondTick (s : State) : Res :=
  if !s.running then .next s
  else
    let s := s.applySet
    let s := s.copyTally.takeSnapshot.countD 0 1
    let s := s.wr R.TALLY_STATUS.seq_lo 0 s.tallyX.seq
    let s := { s with tallyX := { s.tallyX with seq := s.tallyX.seq + 1 }, bell := { s.bell with stepped := false } }
    .next (s.countSeconds.oweEsmc.reeveEvent 5)

/-! Lane transitions. -/

/-- LANE_TRANSITION_END (R33, R34): a transition of lane `n` ends, an exit after `dur` × 10 µs; the commands that waited for the lanes of
its channel complete or are judged. -/
def execLaneTransitionEnd (n : Fin 96) (dur : BitVec 16) (s : State) : Res :=
  .next ((s.endMove n dur.toNat).settleLanes (s.chan n))

end Sys2Proof.Machine
end

