-- ==== Sys2Proof/Machine/DebugOps.lean ====
section
/-! DEFINITION. The debug level (R388, R389, R397), the fuse store as GATE_STATUS shows it (R374), and the Gatehouse mailbox. -/
namespace Sys2Proof.Machine

/-! The fuse store. -/

/-- A root key slot is usable: programmed, not revoked, its words good (R374). -/
def State.keyUsable (s : State) (k : Nat) : Bool :=
  (s.fuses.keys.getD k none).isSome && bitField s.fuses.revoked k 1 == 0 && bitField s.fuses.bad k 1 == 0

/-- GATE_STATUS shows the fuse store; the lifecycle in force stays that of the last power-on reset (R375, R376). -/
def State.showFuses (s : State) : State :=
  let prog := (upTo (fun k => bit (s.fuses.keys.getD k none).isSome * 2 ^ k) 4).foldl (· + ·) 0
  let s := ((s.wr R.GATE_STATUS.key_prog 0 prog).wr R.GATE_STATUS.key_revoked 0 s.fuses.revoked).wr R.GATE_STATUS.key_bad 0 s.fuses.bad
  (s.wr R.GATE_STATUS.desc_burned 0 (bit s.fuses.desc.isSome)).wr R.GATE_STATUS.life_next 0 s.fuses.life

/-- The fuse store replaced. -/
def State.setFuses (s : State) (f : Fuses) : State := { s with fuses := f }.showFuses

/-- The cells of the Ledger's descriptor area, by byte offset (Table 12.11). -/
def State.ledgerDesc (s : State) : List Host.Cell :=
  (s.mem.filter (fun e => decide (0xC01000 ≤ e.1 ∧ e.1 < 0xC02000))).map (fun e => (e.1 - 0xC01000, e.2))

/-! The mailbox. -/

/-- `n` bytes of the mailbox from byte `k` on, as a little-endian number. -/
def State.mbox (s : State) (k : Nat) : Nat → Nat
  | 0 => 0
  | n + 1 => bitField (s.reg (0x4100 + 4 * (k / 4))).toNat (8 * (k % 4)) 8 + 256 * State.mbox s (k + 1) n

/-- Bytes put into the mailbox from byte `k` on. -/
def State.putMbox (s : State) (k : Nat) : List Nat → State
  | [] => s
  | b :: t =>
    let a := 0x4100 + 4 * (k / 4)
    State.putMbox (s.setReg a (BitVec.ofNat 32 (setBitField (s.reg a).toNat (8 * (k % 4)) 8 b))) (k + 1) t

/-- The mailbox cleared. -/
def State.clearMbox (s : State) : State := s.clearRegs 0x4100 256

/-! The debug level. -/

/-- The debug level: 0 NONE, 1 WATCH, 2 TINKER. -/
def State.debugLevel (s : State) : Nat := s.rd R.LANT_STATUS.level 0

/-- The level changed; the latch is set when it did. -/
def State.toLevel (s : State) (l mask : Nat) : State :=
  let old := s.debugLevel
  let s := (s.wr R.LANT_STATUS.level 0 l).wr R.LANT_STATUS.tinker 0 mask
  if old = l then s else s.lantEvent R.LANT_EVENT.level_change 0

/-- WATCH is allowed: in every lifecycle, in P0 and P1 (Table 14.12). -/
def State.watchOk (s : State) : Bool := decide (s.pstate ≤ 1)

/-- TINKER on a mask is allowed: by request in BLANK and OPEN, by signed unlock below RETIRED, in P0 and P1, in SOLO, and not on all four
Reeves (R388, Table 14.12). -/
def State.tinkerOk (s : State) (mask : Nat) (signed : Bool) : Bool :=
  decide (s.pstate ≤ 1 ∧ s.role = 0 ∧ bitField mask 24 4 ≠ 15 ∧ s.lifecycle ≤ (if signed then 2 else 1))

/-- TINKER entered on the targets of a mask (R389): Weavers not yet in TINKER are fenced with cause DEBUG; a Reeve that is the steward
hands its duties on, and is halted. -/
def State.enterTinker (s : State) (mask : Nat) : State :=
  let was := if s.debugLevel = 2 then s.rd R.LANT_STATUS.tinker 0 else 0
  let s := s.toLevel 2 mask
  let fresh := fun (u : Nat) => bitField mask u 1 == 1 && bitField was u 1 == 0
  let s := iter (fun q (s : State) => if fresh q then s.fenceWeaver q 6 else s) 0 24 s
  iter (fun r (s : State) =>
    if fresh (24 + r) then
      let s := if s.isSteward r then s.moveSteward else s
      ((s.setEng (384 + r) { s.eng (384 + r) with halted := true }).lantEvent R.LANT_EVENT.halted r).showReeve r
    else s) 0 4 s

/-- Level `l` may be taken by a request (R388); a request for TINKER takes its targets from LANT_TMASK. -/
def State.levelOk (s : State) (l : Nat) : Bool :=
  match l with
  | 0 => true
  | 1 => s.watchOk
  | _ => s.tinkerOk (s.rd R.LANT_TMASK.tmask 0) false

/-- A level requested through level_req or DEBUG_UNLOCK (R388). A request for WATCH in TINKER lowers the level to WATCH. -/
def State.requestLevel (s : State) (l : Nat) : State :=
  if !s.levelOk l then s.denied
  else match l with
    | 0 => s.debugNone
    | 1 => s.toLevel 1 0
    | _ => s.enterTinker (s.rd R.LANT_TMASK.tmask 0)

end Sys2Proof.Machine
end

