-- ==== Sys2Proof/Machine/ResetOps.lean ====
section
/-! DEFINITION. What the resets of Table 15.1 clear and keep, and the rails going off (R408 to R412, R396, R404). -/
namespace Sys2Proof.Machine

/-! The descriptor in force. -/

/-- `n` bytes of the descriptor in force from an offset on, as a little-endian number (R380). -/
def State.descNum (s : State) (off : Nat) : Nat → Nat
  | 0 => 0
  | n + 1 => (Tab.get 0 s.desc off).toNat + 256 * State.descNum s (off + 1) n

/-- `n` bytes of PMBus device `d`'s entry from byte `k` on (Table 14.5). -/
def State.pmbDesc (s : State) (d k n : Nat) : Nat := s.descNum (0x660 + 16 * d + k) n

/-- The descriptor marks PMBus device `d` present; critical; the supply of VDD_CORE. -/
def State.pmbPresent (s : State) (d : Nat) : Bool := bitField (s.pmbDesc d 0 1) 7 1 == 1
def State.pmbCritical (s : State) (d : Nat) : Bool := bitField (s.pmbDesc d 1 1) 0 1 == 1
def State.pmbCore (s : State) (d : Nat) : Bool := bitField (s.pmbDesc d 1 1) 1 1 == 1

/-- Devices in ascending order of a key, ties in ascending number. -/
def orderBy (key : Nat → Nat) : List Nat → List Nat
  | [] => []
  | d :: t =>
    let r := orderBy key t
    r.filter (fun e => decide (key e < key d)) ++ [d] ++ r.filter (fun e => decide (key d ≤ key e))

/-! What a warm reset keeps (R409). -/

/-- Registers that only a power-on reset restores: GLB_, MILL_, GATE_LOCK and MTX_MCNT_m (Table 15.2). -/
def keptReg (a : Nat) : Bool :=
  decide (a < 0x1000 ∨ (0xC000 ≤ a ∧ a < 0x10000) ∨ a = 0x400C ∨ (0x1000 ≤ a ∧ a < 0x1080 ∧ a % 16 = 8))

/-- A byte of the Ledger window, or of the Tally shadows. -/
def ledgerByte (a : Nat) : Bool := decide (0xC00000 ≤ a ∧ a < 0x1000000)
def shadowByte (a : Nat) : Bool := decide (0x900000 ≤ a ∧ a < 0x900000 + 8 * 267776)

/-- The Ledger after a loss of the core: its committed generations and its journal stay, an open generation is not committed (R276,
R332). -/
def LedgX.survive (l : LedgX) : LedgX := { l with open_ := none, waiting := none }

/-- What a warm reset leaves (R409, R410): everything outside the always-on domain at its reset value, but for what Table 15.1 keeps.
`powered`: core power stays on, so the Tally counters and shadows stay too. Start-up stands where the caller puts it. -/
def State.warmReset (s : State) (powered : Bool) : State :=
  let t : State :=
    { State.reset with
      pending := s.pending, free := s.free, out := s.out, resetN := s.resetN, desc := s.desc,
      regs := s.regs.filter (fun e => keptReg e.1),
      mem := s.mem.filter (fun e => ledgerByte e.1 || (powered && shadowByte e.1)),
      tally := if powered then s.tally else [],
      ledg := s.ledg.survive, repairA := s.repairA, repairB := s.repairB,
      onceDone := s.onceDone, fuses := s.fuses, mill := s.mill, jtag := s.jtag, aon := s.aon,
      gate := { GateX.init with issued := s.gate.issued },
      startup := .step 2 }
  let t := (t.wr R.GATE_STATUS.lifecycle 0 s.lifecycle).wr R.GATE_STATUS.desc_src 0 (s.rd R.GATE_STATUS.desc_src 0)
  let t := t.showFuses.showLedg
  iter (fun n (t : State) => t.loadLaneDesc n) 0 96 t

/-- A power-on reset (R409): only the fuses and the Ledger's contents stay; RESET_N is a pin and stays as it is driven. -/
def State.powerOnReset (s : State) : State :=
  { State.reset with
    pending := s.pending, free := s.free, out := s.out, resetN := s.resetN, fuses := s.fuses,
    mem := s.mem.filter (fun e => ledgerByte e.1),
    ledg := s.ledg.survive, repairA := s.repairA, repairB := s.repairB }

/-- Step S`n` begins; at S4 the Millrace has every present device to switch on, in ascending on_order (R398). -/
def State.beginStep (s : State) (n : Nat) : State :=
  let s := { s with startup := .step n }
  if n = 4 then
    let l := orderBy (fun d => s.pmbDesc d 2 1) ((upTo id 8).filter s.pmbPresent)
    { s with mill := { s.mill with todo := l, phase := if l.isEmpty then .idle else .setup, retries := 0 } }
  else s

/-! Rails off. -/

/-- The Millrace switches its devices off in descending off_order: OPERATION 0x00 to each (R398). -/
def State.millOff (s : State) : State :=
  let l := (orderBy (fun d => s.pmbDesc d 3 1) s.mill.on_).reverse
  let s := l.foldl (fun (s : State) d => s.emit (.pmbus d 0x01 0)) s
  { s with mill := { s.mill with on_ := [], todo := [], phase := .idle } }

/-- Every switched rail goes off, and the part is in P3 with a cause (R396, R399, R404): core power is gone. -/
def State.slumber (s : State) (cause : Nat) (st : Startup) : State :=
  let s := s.millOff.warmReset false
  let s := (s.wr R.MILL_STATUS.pstate 0 3).wr R.MILL_STATUS.off_cause 0 cause
  { s with startup := st, mill := { s.mill with rested := [], switched := [], reduced := false, gated := false } }

/-- P3 is left: start-up runs from step S2, with V1 and V2 as checks (R396, R413). -/
def State.leaveP3 (s : State) : State :=
  let s := s.latch R.MILL_EVENT.wake 0
  ({ s with faultN := [], aon := { s.aon with fromP3 := true, warm := true } } : State).beginStep 2

/-- Core power is on: S4 has ended and no rail has gone off since. -/
def State.corePowered (s : State) : Bool :=
  match s.startup with
  | .step n => decide (5 ≤ n)
  | .done => true
  | .failed n => decide (5 ≤ n)
  | .heldPairClk => true
  | .heldThermal => false
  | .inP3 => false

end Sys2Proof.Machine
end

