-- ==== Sys2Proof/Machine/MillOps.lean ====
section
/-! DEFINITION. What the Millrace's events share: fences of PMBus devices (R399), thermal throttling (R404), the pwr requests (R275,
R403). -/
namespace Sys2Proof.Machine

/-! PMBus devices. -/

/-- A PMBus device is fenced. -/
def State.pmbFenced (s : State) (d : Nat) : Bool := s.on R.MILL_PMB_d.fence_cause d

/-- The device at the head of the sequence is done with, and the next one is set up (R398). -/
def State.nextDevice (s : State) : State :=
  let l := s.mill.todo.drop 1
  { s with mill := { s.mill with todo := l, phase := if l.isEmpty then .idle else .setup, retries := 0 } }

/-- A sequencing step fails: seq_fail and FAULT_N, the rails already on go off, and the core stays unpowered (R399, R434). -/
def State.failSequence (s : State) (d : Nat) : State :=
  ({ s.millOff.millEvent R.MILL_EVENT.seq_fail d with startup := .failed 4 } : State).assertFault .sequence

/-- A fault of a critical device (R399, R434): a failing step while rails are sequenced; otherwise every rail goes off as at a thermal
trip, with cause PMB. -/
def State.criticalFault (s : State) (d : Nat) : State :=
  if s.startup = .step 4 then s.failSequence d
  else if s.corePowered then (s.slumber 2 .inP3).assertFault .pmb
  else s

/-- PMBus device `d` is fenced with a cause of R399: the first is kept, and each clears reset_done (R369). A device that is not critical
keeps its rail as it is, and a sequence goes on without it. -/
def State.fencePmb (s : State) (d cause : Nat) : State :=
  if !s.pmbPresent d then s
  else
    let s := if s.pmbFenced d then s else s.wr R.MILL_PMB_d.fence_cause d cause
    let s := ({ s with mill := { s.mill with resetting := s.mill.resetting.filter (· ≠ d) } } : State).wr R.MILL_PMB_d.reset_done d 0
    let s := ((s.millEvent R.MILL_EVENT.pmb_fence d).reportFence 10 d cause true).internalFault true
    if s.pmbCritical d then s.criticalFault d
    else if s.mill.todo.head? = some d then s.nextDevice
    else s

/-- A status word of device `d` is read; `fault` is whether a fault bit of it is set (R398, R399). -/
def State.readStatus (s : State) (d status : Nat) (fault : Bool) : State :=
  let s := s.wr R.MILL_PMB_d.status_word d status
  if fault then s.fencePmb d 4 else s

/-- A PMBus transaction of the Millrace, with a device that is not fenced (R399). -/
def State.pmbSend (s : State) (d code value : Nat) : State := if s.pmbFenced d then s else s.emit (.pmbus d code value)

/-! Thermal throttling. -/

/-- The part throttles while THERM_N is low and throttle_en is 1: eye scans in progress end with result 2 (R404, R46). -/
def State.followThrottle (s : State) : State :=
  let t := s.on R.MILL_STATUS.therm_n 0 && s.on R.MILL_CTRL.throttle_en 0
  let was := s.on R.MILL_STATUS.throttle 0
  let s := s.wr R.MILL_STATUS.throttle 0 (bit t)
  if t && !was then
    iter (fun n (s : State) =>
      if (s.lane n).scanning then (s.wr R.LANE_EYE_SCAN.result n 2).setLane n { s.lane n with scanning := false } else s) 0 96 s
  else s

/-! pwr requests of a Reeve. -/

/-- Units of pwr: quads and banks, as they stand in `MillX.switched`. -/
def pwrKey (f unit : Nat) : Nat := if f ≤ 1 then unit else 32 + unit

/-- Quad domains that Reeves switched on within the last 1 ms, 400 frames. -/
def State.quadsOn (s : State) : Nat :=
  (s.mill.switched.filter (fun e => decide (e.1 < 24) && (match e.2 with | some (f, off) => !off && decide (s.frame < f + 400) | none => false))).length

/-- The Millrace refuses a pwr request (R275, R403): the unit does not exist or is fenced; to switch off, it is in use, or the mode or
P_adm as admitted needs it; a quad domain was switched less than 10 ms (4,000 frames) before; more than four would come on within
1 ms. -/
def State.pwrRefused (s : State) (f unit : Nat) : Bool :=
  if f ≤ 1 then
    decide (24 ≤ unit) || s.on R.WVR_STATUS.fence_cause unit ||
      (match Tab.get none s.mill.switched unit with | some (g, _) => decide (s.frame < g + 4000) | none => false) ||
      (if f = 0 then !s.quadResting unit else decide (4 ≤ s.quadsOn))
  else
    decide (96 ≤ unit) || s.bankState unit == 3 ||
      (f == 2 && (s.bankState unit == 0 || s.bankState unit == 1))

/-- A pwr request done: a quad domain off or on, or a bank GATED or LIVE. -/
def State.pwrDo (s : State) (f unit : Nat) : State :=
  let s := { s with mill := { s.mill with switched := Tab.put none s.mill.switched (pwrKey f unit) (some (s.frame, f % 2 == 0)) } }
  match f with
  | 0 => (s.wr R.QUAD_STATUS.pd_on unit 0).wr R.QUAD_PLL.pll_state unit 0
  | 1 => s.wr R.QUAD_STATUS.pd_on unit 1
  | 2 => (s.wr R.GRN_BANK_b.state unit 2).degradedRecompute
  | _ => if s.bankState unit = 2 then ((s.setBank unit { s.bank unit with scrubRow := 0 }).wr R.GRN_BANK_b.state unit 0).degradedRecompute else s

end Sys2Proof.Machine
end

