-- ==== Sys2Proof/Machine/VsiOps.lean ====
section
/-! DEFINITION. How a VSI engine issues (R253 to R258, R260, R261): reading at issue, results in flight, the close of a bundle. A
command issues one syllable; the syllable of slot C closes the bundle, so that F, A and Q syllables sent before it belong to
the same cycle. Assumption log entry 18, DESIGN CHOICE, unsafe. -/
namespace Sys2Proof.Machine

/-- Where an engine stands in the table of engines. -/
def engIdx : Engine → Nat
  | .thread q t => 16 * q + t
  | .reeve r => 384 + r

/-- A halted thread may be stepped: it has no fence of its own, and its Weaver has none but DEBUG (R389, R391). -/
def State.canStep (s : State) (q t : Nat) : Bool :=
  !s.on (R.WVR_THREAD_t.fence_cause q) t && (s.rd R.WVR_STATUS.fence_cause q == 0 || s.rd R.WVR_STATUS.fence_cause q == 6)

/-- The engine issues: the part runs; a thread is in a run, neither fenced nor halted; a Reeve is neither fenced, halted, in reset
nor stalled. A halted one issues the bundle for which it is stepped. -/
def State.canIssue (s : State) : Engine → Bool
  | .thread q t =>
    let x := s.eng (16 * q + t)
    s.running && ((x.running && !x.halted && !s.threadFenced q t) || (x.step && s.canStep q t))
  | .reeve r =>
    let x := s.eng (384 + r)
    s.running && (!x.halted || x.step) && !s.reeveFenced r && !x.resetting && x.stall.isNone

/-- Slot C issues in the bundle in which slot Q has stalled the Reeve. -/
def State.canClose (s : State) (e : Engine) : Bool :=
  s.canIssue e || (match e with
    | .reeve r => s.running && (!(s.eng (384 + r)).halted || (s.eng (384 + r)).step) && !s.reeveFenced r && (s.eng (384 + r)).stallNew
    | _ => false)

/-- Register `r` as a bundle reads it; g0 reads 0. -/
def Eng.rg (x : Eng) (r : Nat) : Nat := if r = 0 then 0 else Tab.get 0 x.g r

/-- Predicate `k`; p0 reads 1. -/
def Eng.pr (x : Eng) (k : Nat) : Bool := k == 0 || bitField x.p k 1 == 1

/-- A result of latency `l` put on its way (R257). -/
def Eng.give (x : Eng) (l : Nat) (d : Dest) (v : Nat) : Eng :=
  { x with due := x.due ++ [⟨x.cycle + l, d, v, none⟩] }

/-- A result for register `rd`. -/
def Eng.toReg (x : Eng) (l rd v : Nat) : Eng := x.give l (.reg rd) (v % 2 ^ 64)

/-- A result written. -/
def Eng.land (x : Eng) (d : Dest) (v : Nat) : Eng :=
  match d with
  | .reg r => if r = 0 then x else { x with g := Tab.put 0 x.g r (v % 2 ^ 64) }
  | .pred p => if p = 0 then x else { x with p := setBitField x.p p 1 v }
  | .win pos len =>
    { x with w := (upTo id len).foldl (fun w i => setBitField w ((pos + i) % 512) 1 (bitField v i 1)) x.w }

/-- The value of a result as it lands: a shared load reads its word then (R269). -/
def State.landing (s : State) (i : Nat) (f : Flight) : Nat :=
  match f.shared with
  | some (off, n) => s.sharedRead (i / 16) off n
  | none => f.val

/-- The results due at an engine's present cycle written, in the order of their issue. -/
def State.landDue (s : State) (i : Nat) : State :=
  let x := s.eng i
  let now := x.due.filter (fun f => decide (f.at_ ≤ x.cycle))
  let x := now.foldl (fun x f => x.land f.dest (s.landing i f)) { x with due := x.due.filter (fun f => !decide (f.at_ ≤ x.cycle)) }
  s.setEng i x

/-- Results of an engine after `k` more cycles, as a stall or a bundle spends them (R257). -/
def State.passCycles (s : State) (i k : Nat) : State :=
  (s.setEng i { s.eng i with cycle := (s.eng i).cycle + k }).landDue i

/-- The bundle after `j` once the reps that end at `j` have closed: next bundle, reps, counters (R261). -/
def closeReps : List (Nat × Nat) → List Nat → Nat → Nat × List (Nat × Nat) × List Nat
  | [], lc, j => (j + 1, [], lc)
  | (a, b) :: t, lc, j =>
    if b ≠ j then (j + 1, (a, b) :: t, lc)
    else
      let n := lc.getD t.length 0 - 1
      let lc := listSet lc t.length n
      if 0 < n then (a, (a, b) :: t, lc) else closeReps t lc j

/-- A bundle closes: the next one follows by the reps or at a taken target, and a cycle passes (R257, R260, R261). -/
def State.closeBundle (s : State) (i : Nat) (target : Option Nat) : State :=
  let x := s.eng i
  let (next, loops, lc) := closeReps x.loops x.lc x.pc
  let x := { x with pc := target.getD next, loops := loops, lc := lc, used := x.used + 1, stallNew := false, step := false }
  (s.setEng i x).passCycles i 1

/-- The close of a bundle on an engine, with RVE_STATUS following. -/
def State.close (s : State) (e : Engine) (target : Option Nat) : State :=
  let s := s.closeBundle (engIdx e) target
  match e with
  | .reeve r => s.showReeve r
  | _ => s

/-- A syllable of slot F, A or Q issued: what it does to its engine. -/
def State.issue (s : State) (e : Engine) (f : Eng → Eng) : State :=
  if s.canIssue e then s.setEng (engIdx e) (f (s.eng (engIdx e))) else s

/-- A guarded syllable issued (R258). -/
def State.issueIf (s : State) (e : Engine) (pg : Nat) (f : Eng → Eng) : State :=
  s.issue e (fun x => if x.pr pg then f x else x)

/-- A guarded syllable that acts beyond its engine. -/
def State.issueS (s : State) (e : Engine) (pg : Nat) (f : Eng → State → State) : State :=
  if s.canIssue e && (s.eng (engIdx e)).pr pg then f (s.eng (engIdx e)) s else s

/-- ext(x, p, w, s) of R266. -/
def extField (v p w : Nat) (sx : Bool) : Nat :=
  let f := bitField v p w
  if sx then patternOf 64 (signedOf w f) else f

/-- The window read from a position on, positions wrapping modulo 512 (R264). -/
def winFrom (w p : Nat) : Nat := w / 2 ^ (p % 512) + w % 2 ^ (p % 512) * 2 ^ (512 - p % 512)

/-- sext(imm) as a 64-bit pattern. -/
def sext16 (imm : Nat) : Nat := patternOf 64 (signedOf 16 imm)

end Sys2Proof.Machine
end

