-- ==== Sys2Proof/Machine/VsiC.lean ====
section
/-! DEFINITION. The meanings of the control-slot instructions (R260 to R263, R273 to R275, Tables 10.4 and 10.13). Each closes its
bundle. -/
namespace Sys2Proof.Machine

/-- A bundle closed by slot C, when the engine issues. -/
def State.closeC (s : State) (e : Engine) (target : Option Nat) : State := if s.canClose e then s.close e target else s

/-- The run of thread `t` goes on with its next handler, or ends: a paired thread passes g24 to g31 to its partner, and a TX
thread hands its window over as the transmitted beat (R262). -/
def State.endHandler (s : State) (q t : Nat) : State :=
  let i := 16 * q + t
  let x := s.eng i
  match x.todo.drop 1 with
  | h :: rest => s.setEng i { x with todo := h :: rest, pc := h.entry, loops := [] }
  | [] =>
    let s := s.setEng i { x with todo := [], running := false, loops := [] }
    if !s.isStream q t then s
    else
      let n := s.threadLane q t
      let mates := (upTo id 16).filter (fun u => u != t && s.isStream q u && s.threadLane q u == n && u % 2 == t % 2)
      let s := mates.foldl (fun (s : State) (u : Nat) => s.setEng (16 * q + u) (iter (fun r y =>
        { y with g := Tab.put 0 y.g r (Tab.get 0 x.g r) }) 24 8 (s.eng (16 * q + u)))) s
      if t % 2 = 1 then s.emit (.txBeat n x.w) else s

/-- A bundle closed by a slot C syllable that does not end the handler by itself. An entry of a service thread also ends after the
last bundle of its program's code. -/
def State.closeRun (s : State) (e : Engine) (target : Option Nat) : State :=
  if s.canClose e then
    let s := s.close e target
    match e with
    | .thread q t =>
      let x := s.eng (16 * q + t)
      match x.todo with
      | h :: _ =>
        (match s.prog h.chan h.slot with
          | some p => if p.codeBase + p.codeLen ≤ x.pc then s.endHandler q t else s
          | none => s)
      | [] => s
    | .reeve _ => s
  else s

/-- CNOP. -/
def execCnop (e : Engine) (s : State) : Res := .next (s.closeRun e none)

/-- A branch taken: p[pc] xor neg. -/
def Eng.taken (x : Eng) (neg : Bool) (pc : Nat) : Bool := x.pr pc != neg

/-- BR: a taken branch takes effect in the next cycle. -/
def execBr (e : Engine) (neg : Bool) (pc : Fin 8) (target : BitVec 14) (s : State) : Res :=
  .next (s.closeRun e (if (s.eng (engIdx e)).taken neg pc then some target.toNat else none))

/-- CALL: as br, with the next bundle pushed on the return stack of four entries. -/
def execCall (e : Engine) (neg : Bool) (pc : Fin 8) (target : BitVec 14) (s : State) : Res :=
  let x := s.eng (engIdx e)
  if x.taken neg pc ∧ s.canClose e then
    .next ((s.setEng (engIdx e) { x with rs := ((x.pc + 1) :: x.rs).take 4 }).closeRun e (some target.toNat))
  else .next (s.closeRun e none)

/-- RET: the pc popped. The verifier lets no path pop an empty stack; what it would give is free. -/
def execRet (e : Engine) (pg : Fin 8) (s : State) : Res :=
  let x := s.eng (engIdx e)
  if x.pr pg ∧ s.canClose e then
    match x.rs with
    | r :: rs => .next ((s.setEng (engIdx e) { x with rs := rs }).closeRun e (some r))
    | [] =>
      let (f, s) := s.fresh 14
      .next (s.closeRun e (some f))
  else .next (s.closeRun e none)

/-- A rep of `n` passes over the next `b` bundles: with none the body is skipped; else the level's counter is set and the body
begins (R261). -/
def State.startRep (s : State) (e : Engine) (b n : Nat) : State :=
  let x := s.eng (engIdx e)
  if !s.canClose e then s
  else if n = 0 then s.closeRun e (some (x.pc + b + 1))
  else (s.setEng (engIdx e) { x with lc := listSet x.lc x.loops.length n, loops := (x.pc + 1, x.pc + b) :: x.loops }).closeRun e none

/-- REP: a static count. -/
def execRep (e : Engine) (blen : BitVec 10) (count : BitVec 16) (s : State) : Res :=
  .next (s.startRep e blen.toNat count.toNat)

/-- REPG: min(g[ra], bound). -/
def execRepg (e : Engine) (blen : BitVec 5) (ra : Fin 32) (bound : BitVec 16) (s : State) : Res :=
  .next (s.startRep e blen.toNat (min ((s.eng (engIdx e)).rg ra) bound.toNat))

/-- YIELD (R262): as cnop while the rep that its bundle closes goes on, or one around it; else the handler ends. -/
def execYield (q : Fin 24) (t : Fin 16) (s : State) : Res :=
  let e := Engine.thread q t
  let x := s.eng (16 * q + t)
  let closes : Bool := match x.loops with | (_, b) :: _ => b == x.pc | [] => false
  let left := (closeReps x.loops x.lc x.pc).2.1
  if !s.canClose e then .next s
  else if closes ∧ !left.isEmpty then .next (s.closeRun e none)
  else .next ((s.close e none).endHandler q t)

/-- The engine is a target of TINKER. -/
def State.tinkered (s : State) : Engine → Bool
  | .thread q _ => s.tinkers q
  | .reeve r => s.tinkers (24 + r)

/-- An engine halted by the Lantern (R391). -/
def State.haltEng (s : State) (e : Engine) : State :=
  let s := (s.setEng (engIdx e) { s.eng (engIdx e) with halted := true }).lantEvent R.LANT_EVENT.halted
    (match e with | .reeve r => r.val | _ => 0)
  match e with
  | .reeve r => s.showReeve r
  | _ => s

/-- BRK (R263): traced with its code and bundle index; on a TINKER target the engine halts after the bundle. -/
def execBrk (e : Engine) (code : BitVec 8) (s : State) : Res :=
  if !s.canClose e then .next s
  else
    let pc := (s.eng (engIdx e)).pc
    let s := match e with
      | .thread q t => s.traceItem 1 0 (16 * q + t) code.toNat (some pc)
      | .reeve r => s.traceItem 1 1 r code.toNat (some pc)
    let halts := s.tinkered e
    let s := s.closeRun e none
    .next (if halts then s.haltEng e else s)

/-! The control profile. -/

/-- AWAIT (R273): the handler ends and the Reeve waits for an unmasked event. -/
def execAwait (r : Fin 4) (rd : Fin 32) (s : State) : Res :=
  let e := Engine.reeve r
  if !s.canClose e then .next s
  else
    let s := s.close e none
    .next ((s.setEng (384 + r) { s.eng (384 + r) with stall := some (.await rd), loops := [] }).showReeve r)

/-- What a guarded control syllable does before its bundle closes. -/
def State.closeWith (s : State) (r : Fin 4) (pg : Nat) (f : Eng → State → State) : State :=
  let e := Engine.reeve r
  if !s.canClose e then s
  else
    let x := s.eng (384 + r)
    (if x.pr pg then f x s else s).close e none

/-- Event 0 pending on Reeve `r`. -/
def State.timerEvent (s : State) (r : Nat) : State :=
  s.setEng (384 + r) { s.eng (384 + r) with events := (s.eng (384 + r)).events ||| 1, alarm := none }

/-- TMR (R274): the timer read, the alarm set, which a past instant raises at once, or the alarm cancelled. -/
def execTmr (r : Fin 4) (pg : Fin 8) (f : Fin 3) (rd ra : Fin 32) (s : State) : Res :=
  .next (s.closeWith r pg (fun x s =>
    let (now, s) := s.stamp
    let ns := now / 2 ^ 16 % 2 ^ 64
    match f.val with
    | 0 => s.setEng (384 + r) (x.toReg 1 rd ns)
    | 1 => if x.rg ra ≤ ns then s.timerEvent r else s.setEng (384 + r) { x with alarm := some (x.rg ra) }
    | _ => s.setEng (384 + r) { x with alarm := none }))

/-- PWR (R275): the Millrace is asked, and the Reeve stalls until it answers. -/
def execPwr (r : Fin 4) (pg : Fin 8) (f : Fin 4) (rd ra : Fin 32) (s : State) : Res :=
  let e := Engine.reeve r
  if !s.canClose e then .next s
  else
    let x := s.eng (384 + r)
    let s := s.close e none
    .next (if x.pr pg then
      (s.setEng (384 + r) { s.eng (384 + r) with stall := some (.pwr f rd (x.rg ra)) }).showReeve r else s)

/-- EVT (R273): the mask set, pending events read, or cleared. -/
def execEvt (r : Fin 4) (pg : Fin 8) (f : Fin 3) (rd ra : Fin 32) (s : State) : Res :=
  .next (s.closeWith r pg (fun x s => s.setEng (384 + r) (match f.val with
    | 0 => { x with mask := x.rg ra % 2 ^ 32 }
    | 1 => x.toReg 1 rd x.events
    | _ => { x with events := x.events &&& (2 ^ 64 - 1 - x.rg ra % 2 ^ 32) })))

/-- SYS (R275): the fault word read or cleared, the heartbeat advanced, the bus QoS set. -/
def execSys (r : Fin 4) (pg : Fin 8) (f : Fin 4) (rd ra : Fin 32) (s : State) : Res :=
  .next (s.closeWith r pg (fun x s => match f.val with
    | 0 => s.setEng (384 + r) (x.toReg 1 rd x.fault)
    | 1 => s.setEng (384 + r) { x with fault := x.fault &&& (2 ^ 64 - 1 - x.rg ra) }
    | 2 => s.bump R.RVE_HEARTBEAT.beat r 1
    | _ => s.setEng (384 + r) { x with qos := x.rg ra % 16 }))

end Sys2Proof.Machine
end

