-- ==== Sys2Proof/Machine/ReeveOps.lean ====
section
/-! DEFINITION. The Reeves beside their instructions: resets, fences, the watchdog, await and timer, and the answers of the Ledger and
the Millrace (R11, R250, R252, R273 to R276). -/
namespace Sys2Proof.Machine

/-! Reset. -/

/-- A write of rve_reset (R252): the steward's duties move first; the Reeve stops, and its master's transactions are dropped, a granted
burst being completed inside the matrix (R361). A 1 written while the reset runs is discarded (R8). -/
def State.reeveReset (s : State) (r : Nat) (burst : Bool) : State :=
  let x := s.eng (384 + r)
  if x.resetting then s
  else
    let s := (s.setEng (384 + r) { x with resetting := true }).wr R.RVE_STATUS.rve_reset_done r 0
    let s := if s.isSteward r then s.moveSteward else s
    let s := { s with hung := s.hung.filter (fun h => h.m != 1 + r), captures := s.captures.filter (fun c => c.m != 1 + r) }
    let s := if burst then s.latch R.MTX_MSTAT_m.burst_cut (1 + r) else s
    s.stopReeve r

/-- rve_reset_done is cleared when the last fence that it answers is lifted. -/
def State.endReeveFence (s : State) (r : Nat) : State := if s.reeveFenced r then s else s.wr R.RVE_STATUS.rve_reset_done r 0

/-- The Reeve fence of Reeve `r` lifted. -/
def State.liftReeve (s : State) (r : Nat) : State :=
  let cause := s.rd R.RVE_STATUS.fence_cause r
  let s := (s.wr R.RVE_STATUS.fence_cause r 0).endReeveFence r
  (s.reportFence 8 r cause false).showReeve r

/-- The fence of master `m` lifted. -/
def State.liftMaster (s : State) (m : Nat) : State :=
  let cause := s.rd R.MTX_MSTAT_m.fence_cause m
  let s := ((s.wr R.MTX_MSTAT_m.fence_cause m 0).wr R.MTX_MSTAT_m.fenced m 0).reportFence 9 m cause false
  if 1 ≤ m ∧ m ≤ 4 then (s.endReeveFence (m - 1)).showReeve (m - 1) else s

/-- RVE_RESET (R252): master `m` writes rve_reset. `burst`: the Reeve's master had a granted burst. -/
def execRveReset (m : Fin 8) (r : Fin 4) (burst : Bool) (s : State) : Res := .next (s.asMaster m (·.reeveReset r burst))

/-- A REEVE_LOAD that returns Reeve `r` to the steward firmware completes (R422). -/
def State.reeveIsBack (s : State) (r : Nat) : State :=
  match s.takeChange (fun e => e.change == .reeveBack r) with
  | (some e, s) => s.okOpt e.head 0
  | (none, s) => s

/-- RVE_RESET_DONE (R252, R11): the Reeve is as after reset, with the steward firmware loaded. While no Reeve holds the duties, the part
lifts both of its fences itself and gives them to it, unless it is in TINKER. -/
def execRveResetDone (r : Fin 4) (s : State) : Res :=
  if !(s.eng (384 + r.val)).resetting then .next s
  else
    let s := s.setEng (384 + r) { Eng.init with halted := s.tinkers (24 + r) }
    let s := (s.wr R.RVE_STATUS.rve_reset_done r 1).showReeve r
    if s.running && !s.stewardOn && !s.tinkers (24 + r) then
      let s := if s.on R.RVE_STATUS.fence_cause r then s.liftReeve r else s
      let s := if s.masterFenced (1 + r) then s.liftMaster (1 + r) else s
      .next (s.moveSteward.reeveIsBack r)
    else .next (s.reeveIsBack r)

/-- RVE_FENCE_REQ (R250): master `m` writes fence_req of a Reeve. -/
def execRveFenceReq (m : Fin 8) (r : Fin 4) (s : State) : Res := .next (s.asMaster m (·.fenceReeve r 4))

/-- REEVE_WATCHDOG (R250): RVE_HEARTBEAT has not changed for 10 ms. -/
def execReeveWatchdog (r : Fin 4) (s : State) : Res :=
  if s.running && !(s.eng (384 + r.val)).resetting then .next (s.fenceReeve r 5) else .next s

/-! await and the timer. -/

/-- The lowest bit set of a number below 2^`n`. -/
def lowestBit (v n : Nat) : Option Nat := (upTo id n).find? (fun k => bitField v k 1 == 1)

/-- A stall ends after `k` more cycles, with a value for its destination and bits of the fault word (R257, R275). -/
def State.endStall (s : State) (r k : Nat) (rd : Option Nat) (v fault : Nat) : State :=
  let s := s.passCycles (384 + r) k
  let x := { s.eng (384 + r) with stall := none, stallNew := false, fault := (s.eng (384 + r)).fault ||| fault }
  (s.setEng (384 + r) (match rd with | some d => x.land (.reg d) v | none => x)).showReeve r

/-- REEVE_AWAIT_WAKE (R273): the lowest unmasked pending event is cleared and written to rd, and the frame entry starts. -/
def execReeveAwaitWake (r : Fin 4) (s : State) : Res :=
  let x := s.eng (384 + r.val)
  match x.stall, lowestBit (x.events &&& x.mask) 32 with
  | some (.await rd), some e =>
    if !s.running || s.reeveFenced r || x.halted then .next s
    else
      let s := s.setEng (384 + r) { x with events := setBitField x.events e 1 0, pc := x.frameEntry }
      .next ((s.endStall r 1 (some rd) e 0).traceItem 2 1 r e none)
  | _, _ => .next s

/-- REEVE_TIMER_ALARM (R274): the timer reaches or passes the alarm, which cannot lie behind the present frame's end. -/
def execReeveTimerAlarm (r : Fin 4) (s : State) : Res :=
  match (s.eng (384 + r.val)).alarm with
  | some a => if s.running && decide (a ≤ s.time / 2 ^ 16 + 2500) then .next (s.timerEvent r) else .next s
  | none => .next s

/-! Answers of the Ledger and the Millrace. -/

/-- Bytes of a generation slot (Table 12.11). -/
def genBytes : Nat := 1835008

/-- What a ckpt operation answers, and what it does (R276): `err` that the write of the Ledger failed, `ack` that the twin acknowledged.
A journal entry of 128 bytes takes two appends. -/
def State.ckptDo (s : State) (r f b : Nat) (err ack : Bool) : Nat × State :=
  match f with
  | 0 => (1 - s.ledg.lastSlot, s.openGen (s.eng (384 + r)).own)
  | 1 => (bit (err || s.ledg.open_.isNone || decide (genBytes < b + 64)), s)
  | 2 => if err || s.ledg.open_.isNone then (1, s) else (0, s.commitGen)
  | 3 => if ack then (0, s.emit (.twinGen s.ledg.lastNum)) else (2, s.pairEvent R.PAIR_EVENT.mirror_fail)
  | 4 =>
    if err || s.journalFull then (1, s)
    else if s.ledg.half then
      let (frame, s) := s.fresh 32
      (0, ({ s with ledg := { s.ledg with half := false } } : State).append frame none)
    else (0, { s with ledg := { s.ledg with half := true } })
  | _ => if err then (1, s) else (0, s.writeRepairRec)

/-- CKPT_LEDGER_REPORT (R276): the Ledger reports the end of a ckpt operation, after `cycles`; an error sets fault bit 3 and write_err. -/
def execCkptLedgerReport (r : Fin 4) (cycles : BitVec 32) (err ack : Bool) (s : State) : Res :=
  match (s.eng (384 + r.val)).stall with
  | some (.ckpt f rd _ b) =>
    let (v, s) := s.ckptDo r f b err ack
    let s := if v = 1 ∧ f ≠ 0 then s.latch R.LEDG_EVENT.write_err 0 else s
    .next (s.endStall r cycles.toNat (some rd) v (8 * bit (v == 1 && f != 0)))
  | _ => .next s

/-- PWR_MILLRACE_REPLY (R275, R403): the Millrace does what pwr asked, or refuses. -/
def execPwrMillraceReply (r : Fin 4) (cycles : BitVec 32) (s : State) : Res :=
  match (s.eng (384 + r.val)).stall with
  | some (.pwr f rd unit) =>
    if s.pwrRefused f unit then .next (s.endStall r cycles.toNat (some rd) 1 4)
    else .next ((s.pwrDo f unit).endStall r cycles.toNat (some rd) 0 0)
  | _ => .next s

end Sys2Proof.Machine
end

