-- ==== Sys2Proof/Machine/BusRead.lean ====
section
/-! DEFINITION. Reads over the bus matrix: the address map, fenced targets, registers as they read, and the memories (R337, R358, R359,
R363, R365, R370, R391). -/
namespace Sys2Proof.Machine

/-! The address map (Table 13.11). -/

/-- No block answers at the address (R358). -/
def unmapped (a : Nat) : Bool :=
  decide ((0xA0000 ≤ a ∧ a < 0x100000) ∨ (0x160000 ≤ a ∧ a < 0x200000) ∨ (0x380000 ≤ a ∧ a < 0x400000)
    ∨ (0xB0B000 ≤ a ∧ a < 0xC00000) ∨ (0x1600000 ≤ a ∧ a < 0x1800000) ∨ (0x1B00000 ≤ a ∧ a < 0x1C00000)
    ∨ (0x1C40000 ≤ a ∧ a < 0x2000000) ∨ (0x2100000 ≤ a ∧ a < 0x4000000) ∨ 0x4200000 ≤ a)

/-- The address lies in a block of registers. -/
def isRegAddr (a : Nat) : Bool :=
  decide (a < 0x90000 ∨ (0x100000 ≤ a ∧ a < 0x160000) ∨ (0x200000 ≤ a ∧ a < 0x380000) ∨ (0x400000 ≤ a ∧ a < 0x900000))

/-- Weaver or Reeve instruction and data memories. -/
def isWeaverImem (a : Nat) : Bool := decide (0x1000000 ≤ a ∧ a < 0x1600000)
def isWeaverData (a : Nat) : Bool := decide (0x1800000 ≤ a ∧ a < 0x1B00000)
def isReeveImem (a : Nat) : Bool := decide (0x1C00000 ≤ a ∧ a < 0x1C40000)
def isReeveData (a : Nat) : Bool := decide (0x2000000 ≤ a ∧ a < 0x2100000)

/-- The unit whose memory lies at the address: Weavers 0 to 23, then Reeves. -/
def memUnit (a : Nat) : Option Nat :=
  if isWeaverImem a then some ((a - 0x1000000) / 0x40000)
  else if isWeaverData a then some ((a - 0x1800000) / 0x20000)
  else if isReeveImem a then some (24 + (a - 0x1C00000) / 0x10000)
  else if isReeveData a then some (24 + (a - 0x2000000) / 0x40000)
  else none

/-- The descriptor area of the Ledger window (Table 12.11). -/
def isDescArea (a : Nat) : Bool := decide (0xC01000 ≤ a ∧ a < 0xC03000)

/-- The Lantern may make this access (R391, R382): a write of the descriptor area in OPEN needs TINKER as every write does. -/
def State.lantMay (s : State) (a : Nat) (write : Bool) : Bool :=
  let l := s.rd R.LANT_STATUS.level 0
  if 0x4000 ≤ a ∧ a < 0xC000 then true
  else if isRegAddr a then decide (if write then l = 2 else 1 ≤ l)
  else if 0x90000 ≤ a ∧ a < 0xA0000 then true
  else if 0x900000 ≤ a ∧ a < 0xB0B000 then decide (1 ≤ l) && !write
  else match memUnit a with
    | some u => l == 2 && s.tinkers u
    | none => write && l == 2 && isDescArea a && s.lifecycle == 1

/-- The address belongs to a fenced target (R370); the memories of a TINKER target stay open to the Lantern (R391). -/
def State.fencedTarget (s : State) (m a : Nat) : Bool :=
  match memUnit a with
  | none => false
  | some u =>
    if m = 5 ∧ s.tinkers u then false
    else if u < 24 then
      s.on R.WVR_STATUS.fence_cause u ||
        (isWeaverData a && decide ((a - 0x1800000) % 0x20000 < 0x10000)
          && s.on (R.WVR_THREAD_t.fence_cause u) ((a - 0x1800000) % 0x20000 / 0x1000))
    else s.reeveFenced (u - 24)

/-! Registers as they read. -/

/-- A word of the MSI-X table; vector control is masked at reset (assumption log entry 5, PRESUMED, unsafe). -/
def State.msixWord (s : State) (off : Nat) : Nat := (Tab.get (if off % 16 = 12 then 1 else 0) s.msixTable off).toNat

/-- Lanes of quad `q` in a state, as a mask. -/
def State.quadMask (s : State) (q st : Nat) : Nat := sumUpTo (fun i => bit (s.laneState (4 * q + i) == st) * 2 ^ i) 4

/-- MTX_STATUS as it reads. -/
def State.mtxStatus (s : State) : Nat :=
  setBitField (s.reg 0x1100).toNat 0 8 (sumUpTo (fun m => bit (s.masterFenced m) * 2 ^ m) 8)

/-- The register at `a` as it reads: stored fields, with the live ones that follow other state. -/
def State.regView (s : State) (a : Nat) : Nat :=
  let v := (s.reg a).toNat
  if a < 0x1000 then (if a = 8 then Config.serial.toNat % 2 ^ 32 else if a = 12 then Config.serial.toNat / 2 ^ 32 else v)
  else if a < 0x1080 then
    let m := (a - 0x1000) / 16
    (match a % 16 with
      | 0 => if 1 ≤ m ∧ m ≤ 4 then setBitField v 0 4 (s.eng (383 + m)).qos else v
      | 4 => setBitField v 16 6 (min 32 (s.hung.filter (fun h => h.m == m)).length)
      | _ => v)
  else if a = 0x1100 then s.mtxStatus
  else if a = 0x2004 then setBitField v 8 8 s.cmds.length
  else if 0x3000 ≤ a ∧ a < 0x3400 then s.msixWord (a - 0x3000)
  else if a = 0x3800 then s.msixPba % 2 ^ 32
  else if a = 0x3804 then s.msixPba / 2 ^ 32 % 2 ^ 32
  else if a = 0x8010 then
    setBitField v 31 1 (bit (s.eng (if s.on R.LANT_SEL.kind 0 then 384 + s.rd R.LANT_SEL.unit 0 else s.rd R.LANT_SEL.unit 0)).halted)
  else if a = 0x8024 then
    let n := s.trace.length
    setBitField (setBitField (setBitField v 0 17 n) 30 1 (bit (n == 65536))) 31 1 (bit (n == 0))
  else if a = 0xC004 then s.millStatus
  else if a = 0xC010 then s.padm / 10000 % 2 ^ 16
  else if 0x200000 ≤ a ∧ a < 0x380000 ∧ a % 0x10000 = 4 then
    let q := (a - 0x200000) / 0x10000
    setBitField (setBitField (setBitField v 0 4 (s.quadMask q 2)) 4 4 (s.quadMask q 4)) 8 4 (s.quadMask q 5)
  else v

/-- The register at `a` as master `m` reads it: the read itself is one of the transactions that its MTX_MSTAT counts (R353). -/
def State.regViewBy (s : State) (m a : Nat) : Nat :=
  if a = 0x1004 + 16 * m then setBitField (s.regView a) 16 6 (min 32 ((s.hung.filter (fun h => h.m == m)).length + 1)) else s.regView a

/-! Multi-word values (R363). -/

/-- A later word of a multi-word value: what this master captured, or 0; the last one lets the capture go. -/
def State.heldWord (s : State) (m base w n : Nat) (full : Bool) : Nat × State :=
  match s.captures.find? (fun c => c.m == m && c.addr == base) with
  | none => (0, s)
  | some c =>
    (((c.words[w]?).getD 0).toNat,
      if full && w + 1 == n then { s with captures := s.captures.filter (fun c => !(c.m == m && c.addr == base)) } else s)

/-- Word 0 of a multi-word value, which a full read captures. -/
def State.firstWord (s : State) (m base : Nat) (v n : Nat) (full : Bool) : Nat × State :=
  (v % 2 ^ 32, if full then s.holdWords m base (upTo (fun w => BitVec.ofNat 32 (v / 2 ^ (32 * w))) n) else s)

/-- The multi-word value that the register at `a` belongs to: address of word 0, and words. -/
def multiWord (a : Nat) : Option (Nat × Nat) :=
  if 0x10010 ≤ a ∧ a < 0x1001C then some (0x10010, 3)
  else if 0x10480 ≤ a ∧ a < 0x104A0 ∧ a % 16 < 12 then some (a - a % 16, 3)
  else if a = 0x20018 ∨ a = 0x2001C then some (0x20018, 2)
  else if a = 0x40014 ∨ a = 0x40018 then some (0x40014, 2)
  else if 0x900000 ≤ a ∧ a < 0x900000 + 8 * 267776 then some (a - a % 8, 2)
  else none

/-- The whole multi-word value at this instant. -/
def State.wholeValue (s : State) (base : Nat) : Nat × State :=
  if base = 0x10010 then let (t, s) := s.stamp; (stampOf t, s)
  else if base < 0x20000 then
    ((s.reg base).toNat + 2 ^ 32 * (s.reg (base + 4)).toNat + 2 ^ 64 * (s.reg (base + 8)).toNat, s)
  else if base = 0x20018 then ((s.reg base).toNat + 2 ^ 32 * (s.reg (base + 4)).toNat, s)
  else if base = 0x40014 then (s.liveCount, s)
  else (s.bytes base 8, s)

/-- A read of a word of a multi-word value. -/
def State.multiRead (s : State) (m a base n : Nat) (full : Bool) : Nat × State :=
  if a = base then
    let (v, s) := s.wholeValue base
    if full ∧ base = 0x40014 then s.liveRead m else s.firstWord m base v n full
  else s.heldWord m base ((a - base) / 4) n full

/-! The Felom-compatibility window (R359). -/

/-- A 16-bit register of the window, read in full. -/
def State.felomRead (s : State) (m a : Nat) (full : Bool) : Nat × State :=
  let off := a - 0x90000
  if off = 0 then (0x9602, s)
  else if 0x100 ≤ off ∧ off < 0x1C0 then
    let n := (off - 0x100) / 2
    (s.laneState n + 8 * s.rd R.LANE_STATE.los n + 16 * s.rd R.LANE_STATE.lol n + 32 * bit (s.align n).blLock
      + 64 * s.rd R.TALLY_DEF_CHAN_c.ch_sf (s.chan n) + 128 * s.rd R.TALLY_DEF_CHAN_c.ch_sd (s.chan n), s)
  else if off = 0x800 ∨ off = 0x802 then ((s.reg 0x90800).toNat / 2 ^ (8 * (off - 0x800)) % 2 ^ 16, s)
  else if off = 0x808 then
    let c := Tab.get 0 s.tally ((s.reg 0x90800).toNat % 2 ^ 19)
    (c % 2 ^ 16, if full then s.holdWords m 0x90808 (upTo (fun w => BitVec.ofNat 32 (c / 2 ^ (16 * w) % 2 ^ 16)) 4) else s)
  else if off = 0x80A ∨ off = 0x80C ∨ off = 0x80E then s.heldWord m 0x90808 ((off - 0x808) / 2) 4 full
  else (0, s)

/-- A 32-bit access to the window: two 16-bit ones, the lower address first. -/
def State.felomWord (s : State) (m a : Nat) (full : Bool) : Nat × State :=
  let x := s.felomRead m a full
  let y := x.2.felomRead m (a + 2) full
  (x.1 + 2 ^ 16 * y.1, y.2)

/-! Memories. -/

/-- A word of a Weaver's memories: 0 while the quad's power domain is off or the Weaver is gated in P2 (R358); a parameter word reads
the value held pending while one is held (R247). -/
def State.weaverRead (s : State) (a : Nat) : Nat :=
  let q := (memUnit a).getD 0
  let off := (a - 0x1800000) % 0x20000
  if !s.on R.QUAD_STATUS.pd_on q || s.pstate == 2 then 0
  else if isWeaverData a && decide (0x10000 ≤ off ∧ off < 0x12000) then
    let i := 2048 * q + (off - 0x10000) / 4
    match (s.pblkPending.filter (fun e => e.1 == i)).getLast? with
    | some (_, v, _) => v.toNat
    | none => (Tab.get 0 s.pblk i).toNat
  else (s.word a).toNat

/-- A word of the Ledger window (R337). The layout of the header, the records, the journal and the slots is not the model's: those bytes
are free, and 0 where the lifecycle hides them. -/
def State.ledgerRead (s : State) (a : Nat) : Nat × State :=
  if isDescArea a then ((s.word a).toNat, s)
  else if a < 0xC07000 ∨ s.lifecycle ≤ 1 then s.fresh 32
  else (0, s)

/-- A word of a Reeve's memories (R358): instruction memory that holds the steward firmware has bytes that the spec does not list, which
are free; data memory reads 0 in SEALED and RETIRED. -/
def State.reeveRead (s : State) (a : Nat) : Nat × State :=
  if isReeveImem a then
    if (s.eng (384 + (a - 0x1C00000) / 0x10000)).own then ((s.word a).toNat, s) else s.fresh 32
  else if s.lifecycle ≤ 1 then ((s.word a).toNat, s) else (0, s)

/-- A word of the Almanac ROM. -/
def romWord (off : Nat) : Nat :=
  (Config.romByte off).toNat + 2 ^ 8 * (Config.romByte (off + 1)).toNat + 2 ^ 16 * (Config.romByte (off + 2)).toNat
    + 2 ^ 24 * (Config.romByte (off + 3)).toNat

/-! A whole read. -/

/-- The next word of the trace (R365, R393). -/
def State.tracePop (s : State) : Nat × State :=
  match s.trace with
  | w :: t => (w.toNat, { s.setReg 0x8020 w with trace := t })
  | [] => ((s.reg 0x8020).toNat, s.latch R.LANT_TRACE_STAT.underrun 0)

/-- A read of the aligned 32-bit word at mapped address `a` by master `m`; without `full` it has no side effect (R362). -/
def State.readMapped (s : State) (m a : Nat) (full : Bool) : Nat × State :=
  match multiWord a with
  | some (base, n) => s.multiRead m a base n full
  | none =>
    if 0x90000 ≤ a ∧ a < 0xA0000 then (if m = 0 then s.felomWord m a full else (0, s))
    else if a = 0x8020 then (if full then s.tracePop else (((s.trace.head?).getD (s.reg 0x8020)).toNat, s))
    else if isRegAddr a then
      if 0x200000 ≤ a ∧ a < 0x380000 ∧ 0x1100 ≤ a % 0x10000 ∧ a % 0x10000 < 0x1150 ∧ a % 16 = 0 then
        let (q, f) := ((a - 0x200000) / 0x10000, (a % 0x10000 - 0x1100) / 16)
        let r := s.fifoRead q f
        if full then r else (r.1, s)
      else (s.regViewBy m a, s)
    else if 0xC00000 ≤ a ∧ a < 0x1000000 then s.ledgerRead a
    else if isWeaverImem a || isWeaverData a then (s.weaverRead a, s)
    else if isReeveImem a || isReeveData a then s.reeveRead a
    else if 0x4000000 ≤ a then (romWord (a - 0x4000000), s)
    else (0, s)

/-- A read by master `m` that the matrix has presented to a mapped address: the Lantern's level and fenced targets come first (R370,
R391). The second value says that the target was fenced. -/
def State.readAt (s : State) (m a : Nat) (full : Bool) : Nat × Bool × State :=
  if m = 5 ∧ !s.lantMay a false then (0, false, s.denied)
  else if s.fencedTarget m a then (2 ^ 32 - 1, true, s.latch R.MTX_MSTAT_m.fenced_tgt m)
  else
    let r := s.readMapped m a full
    (r.1, false, r.2)

/-- A transaction that hangs, or waits behind one that does (R355, R360). -/
def State.hang (s : State) (m a : Nat) (write : Bool) : State := { s with hung := s.hung ++ [⟨m, a, write⟩] }

/-- Master `m` reads the 32-bit word at `a` in full, and gets the data, an error, or nothing while the transaction hangs. The Lantern
is refused before its access reaches the matrix. -/
def State.busRead (s : State) (m a : Nat) : State :=
  if !s.running || decide (5 < m) || (m == 0 && !s.on R.HOST_STATUS.link_gen 0) then s
  else if s.masterFenced m then (if m = 0 ∨ m = 5 then s.emit (.busError m a) else s)
  else if s.hung.any (fun h => h.m == m) then s.hang m a false
  else if unmapped a && m != 5 then s.hang m a false
  else
    let (v, _, s) := s.readAt m a true
    s.emit (.busRead m a v)

end Sys2Proof.Machine
end

