-- ==== Sys2Proof/Machine/Gate.lean ====
section
/-! DEFINITION. The Gatehouse: its operations, from the write of GATE_OP to their end (R376 to R390). -/
namespace Sys2Proof.Machine

/-! Starting an operation. -/

/-- Only HOST, LANT and the steward may write GATE_OP and GATE_MBOX (R387). -/
def State.gateMaster (s : State) (m : Nat) : Bool := m == 0 || m == 5 || (s.stewardOn && m == 1 + s.steward)

/-- An operation started (R387). -/
def State.gateBegin (s : State) (o : GateOp) : State :=
  { s.wr R.GATE_OP.go 0 1 with gate := { s.gate with op := some o } }

/-- A full write of GATE_OP with go at 1: op, slot and signer take their values, a reserved one leaves its field (R7), and the operation
starts unless one runs (R8, R387). -/
def State.gateWrite (s : State) (m op slot signer : Nat) (go : Bool) : State :=
  if !s.gateMaster m then s
  else
    let s := if op ≤ 10 then s.wr R.GATE_OP.op 0 op else s
    let s := s.wr R.GATE_OP.slot 0 slot
    let s := if signer ≤ 3 then s.wr R.GATE_OP.signer 0 signer else s
    if go ∧ s.gate.op.isNone then
      s.gateBegin ⟨s.rd R.GATE_OP.op 0, s.rd R.GATE_OP.slot 0, s.rd R.GATE_OP.signer 0, none, none⟩
    else s

/-- KEY_BURN (R377, R387): master `m` starts operation 1. -/
def execKeyBurn (m : Fin 8) (slot : BitVec 8) (signer : BitVec 4) (s : State) : Res :=
  .next (s.asAny m (·.gateWrite m 1 slot.toNat signer.toNat true))

/-- KEY_REVOKE (R378, R387): master `m` starts operation 2. -/
def execKeyRevoke (m : Fin 8) (slot : BitVec 8) (signer : BitVec 4) (s : State) : Res :=
  .next (s.asAny m (·.gateWrite m 2 slot.toNat signer.toNat true))

/-- DESC_BURN (R381, R387): master `m` starts operation 3. -/
def execDescBurn (m : Fin 8) (slot : BitVec 8) (signer : BitVec 4) (s : State) : Res :=
  .next (s.asAny m (·.gateWrite m 3 slot.toNat signer.toNat true))

/-- LIFE_ADVANCE (R376, R387): master `m` starts operation 4, with the target lifecycle in slot. -/
def execLifeAdvance (m : Fin 8) (slot : BitVec 8) (signer : BitVec 4) (s : State) : Res :=
  .next (s.asAny m (·.gateWrite m 4 slot.toNat signer.toNat true))

/-- SKEY_INSTALL (R384, R385): master `m` starts operation 5. -/
def execSkeyInstall (m : Fin 8) (slot : BitVec 8) (signer : BitVec 4) (s : State) : Res :=
  .next (s.asAny m (·.gateWrite m 5 slot.toNat signer.toNat true))

/-- SKEY_PROMOTE (R384, R385): master `m` starts operation 6. -/
def execSkeyPromote (m : Fin 8) (slot : BitVec 8) (signer : BitVec 4) (s : State) : Res :=
  .next (s.asAny m (·.gateWrite m 6 slot.toNat signer.toNat true))

/-- SKEY_ERASE (R384, R385): master `m` starts operation 7. -/
def execSkeyErase (m : Fin 8) (slot : BitVec 8) (signer : BitVec 4) (s : State) : Res :=
  .next (s.asAny m (·.gateWrite m 7 slot.toNat signer.toNat true))

/-- CHALLENGE (R390): master `m` starts operation 8. -/
def execChallenge (m : Fin 8) (slot : BitVec 8) (signer : BitVec 4) (s : State) : Res :=
  .next (s.asAny m (·.gateWrite m 8 slot.toNat signer.toNat true))

/-- RESPONSE (R390): master `m` starts operation 9. -/
def execResponse (m : Fin 8) (slot : BitVec 8) (signer : BitVec 4) (s : State) : Res :=
  .next (s.asAny m (·.gateWrite m 9 slot.toNat signer.toNat true))

/-- LOCK (R388): master `m` starts operation 10. -/
def execLock (m : Fin 8) (slot : BitVec 8) (signer : BitVec 4) (s : State) : Res :=
  .next (s.asAny m (·.gateWrite m 10 slot.toNat signer.toNat true))

/-! Tokens (R379). -/

/-- The token at mailbox byte `b` authorises `op` with `arg`: magic, op, argument and serial match, its signer is usable, and its
signature verifies. -/
def State.tokenOk (s : State) (b op arg : Nat) (sigOk : Bool) : Bool :=
  s.mbox b 4 == 0x544B4E31 && s.mbox (b + 4) 1 == op && s.mbox (b + 5) 1 == arg && s.keyUsable (s.mbox (b + 6) 1) &&
    s.mbox (b + 8) 8 == Config.serial.toNat && sigOk

/-! Judging an operation. -/

/-- The mode and the power of a burn (R387). -/
def State.burnChecks (s : State) : List Check := [(s.mode != .muster, .illegalState, 0xFF)]

/-- The checks of KEY_BURN (R377). -/
def State.keyBurnChecks (s : State) (slot : Nat) : List Check :=
  [(decide (3 < slot), .badArg, 0xFF), (decide (1 < s.lifecycle), .illegalState, 0xFF),
   ((s.fuses.keys.getD slot none).isSome, .illegalState, 0xFF)]

/-- The checks of KEY_REVOKE (R378). -/
def State.keyRevokeChecks (s : State) (slot : Nat) (sigOk : Bool) : List Check :=
  [(decide (3 < slot), .badArg, 0xFF),
   (s.lifecycle == 2 && !(s.tokenOk 0 2 slot sigOk && s.mbox 6 1 != slot), .denied, 0xFF),
   (!(s.lifecycle == 1 || s.lifecycle == 2), .illegalState, 0xFF),
   (!(upTo id 4).any (fun k => k != slot && s.keyUsable k), .illegalState, 0xFF)]

/-- The checks of DESC_BURN (R381). -/
def State.descBurnChecks (s : State) : List Check :=
  [(!(s.lifecycle == 1 && s.rd R.GATE_STATUS.desc_src 0 == 1 && s.on R.GATE_STATUS.desc_ok 0 && s.fuses.desc.isNone), .illegalState, 0xFF)]

/-- The condition of Table 14.3 on an advance to a lifecycle. -/
def State.advanceOk (s : State) (nextLife : Nat) (sigOk : Bool) : Bool :=
  match s.lifecycle, nextLife with
  | 0, 1 => (upTo id 4).any s.keyUsable
  | 1, 2 => s.rd R.GATE_STATUS.desc_src 0 == 2 && s.on R.GATE_STATUS.desc_ok 0
  | 1, 3 => true
  | 2, 3 => s.tokenOk 0 4 3 sigOk
  | _, _ => false

/-- The checks of operations 5 to 7 in the pair roles (R385). -/
def State.skeyChecks (s : State) (slot : Nat) : List Check :=
  [(decide (2 ≤ s.role) || (s.role != 0 && slot == s.rd R.PAIR_CTRL.pair_key 0), .illegalState, 0xFF),
   (s.role == 1 && s.journalFull, .busy, 0xFF)]

/-- What an operation is judged by; `sigOk` is whether the signature in the mailbox verifies, `digestOk` whether a key's digest matches,
`late` that the challenge is older than 60 s. -/
def State.gateChecks (s : State) (o : GateOp) (sigOk digestOk late : Bool) : List Check :=
  match o.op with
  | 1 => s.burnChecks ++ s.keyBurnChecks o.slot
  | 2 => s.burnChecks ++ s.keyRevokeChecks o.slot sigOk
  | 3 => s.burnChecks ++ s.descBurnChecks
  | 4 => s.burnChecks ++ [(s.role != 0, .illegalState, 0xFF), (!s.advanceOk o.slot sigOk, .illegalState, 0xFF)]
  | 5 => s.skeyChecks o.slot ++
      [(s.lifecycle == 2 && !(s.tokenOk 64 5 o.slot sigOk && s.mbox 80 8 == s.mbox 32 2 && digestOk), .denied, 0xFF),
       (s.lifecycle == 3, .illegalState, 0xFF)]
  | 6 => s.skeyChecks o.slot
  | 7 => s.skeyChecks o.slot
  | 8 => [(s.gate.lockout, .denied, 0xFF), (!s.on R.GATE_STATUS.entropy_ok 0, .busy, 0xFF)]
  | 9 => [(s.gate.challenge.isNone || late || !sigOk || !s.keyUsable o.signer, .denied, 0xFF)]
  | 10 => []
  | _ => [(true, .badArg, 0xFF)]

/-- An operation is blocked by GATE_LOCK (R387). -/
def State.gateLocked (s : State) (op : Nat) : Bool :=
  (decide (1 ≤ op ∧ op ≤ 4) && s.on R.GATE_LOCK.key_lock 0) || (op == 9 && s.on R.GATE_LOCK.unlock_lock 0)

/-! Effects. -/

/-- A burn of fuses: `good` is whether the read-back agrees. What a stage or revocation field reads after a burn that failed is free. -/
def State.burnField (s : State) (good : Bool) : Bool × State :=
  if good then (true, s) else let (f, s) := s.fresh 1; (f == 1, s)

/-- A change of a key slot: at once in SOLO; on the active journalled and applied by both twins at one boundary (R385). -/
def State.skeyChange (s : State) (c : Change) : State :=
  if s.role = 0 then s.putChange none c else s.sched none true s.nextMultiframe c

/-- The 64 bytes of a challenge (Table 14.8). -/
def State.challengeBytes (s : State) (nonce mask count : Nat) : List Nat :=
  leBytes 8 Config.serial.toNat ++ leBytes 32 nonce ++ leBytes 4 mask ++ [s.lifecycle, 0, 0, 0] ++ leBytes 8 count ++ leBytes 8 0

/-- A response that failed (R390): the third in a row locks CHALLENGE out. -/
def State.responseFails (s : State) : State :=
  let n := s.gate.fails + 1
  let s := ({ s with gate := { s.gate with challenge := none, fails := n, lockout := s.gate.lockout || decide (3 ≤ n) } } : State).gateEvent
    R.GATE_EVENT.unlock_fail
  if n = 3 then s.gateEvent R.GATE_EVENT.unlock_lockout else s

/-- The effect of an operation that is not refused, and its result: 0, 4 DENIED for a level that R388 does not allow, 8 FUSE_FAIL. -/
def State.gateEffect (s : State) (o : GateOp) (readBack : Bool) (nonce : Nat) : Nat × State :=
  let f := s.fuses
  let burnt := if readBack then 0 else 8
  match o.op with
  | 1 =>
    let f := { f with keys := listSet f.keys o.slot (some (s.mbox 0 48)) }
    (burnt, s.setFuses (if readBack then f else { f with bad := setBitField f.bad o.slot 1 1, revoked := setBitField f.revoked o.slot 1 1 }))
  | 2 =>
    let (set, s) := s.burnField readBack
    (burnt, if set then s.setFuses { f with revoked := setBitField f.revoked o.slot 1 1 } else s)
  | 3 => (burnt, s.setFuses { f with desc := some (if readBack then s.ledgerDesc else []) })
  | 4 =>
    let (set, s) := s.burnField readBack
    (burnt, if set then s.setFuses { f with life := max f.life o.slot } else s)
  | 5 => (0, s.skeyChange (.skeyInstall o.slot (s.mbox 32 2) (s.mbox 0 32)))
  | 6 => (0, s.sched none (s.role == 1) s.nextMultiframe (.skeyPromote o.slot))
  | 7 => (0, s.skeyChange (.skeyErase o.slot))
  | 8 =>
    let mask := s.mbox 0 4 % 2 ^ 28
    let n := s.gate.issued + 1
    (0, ({ s with gate := { s.gate with challenge := some mask, issued := n } } : State).putMbox 0 (s.challengeBytes nonce mask n))
  | 9 =>
    let mask := s.gate.challenge.getD 0
    let s := { s with gate := { s.gate with challenge := none } }
    if s.tinkerOk mask true then
      (0, (({ s with gate := { s.gate with fails := 0 } } : State).enterTinker mask).lantEvent R.LANT_EVENT.unlock_ok 0)
    else (4, s.denied)
  | _ => (0, s.debugNone)

/-- An operation judged and performed: its result code and the state. One that GATE_LOCK blocks gives DENIED and sets lock_viol. -/
def State.gatePerform (s : State) (o : GateOp) (readBack sigOk digestOk late : Bool) (nonce : Nat) : Nat × State :=
  if s.gateLocked o.op then (4, s.gateEvent R.GATE_EVENT.lock_viol)
  else match firstCheck (s.gateChecks o sigOk digestOk late) with
    | some (code, _) => (code.num, if o.op = 9 then s.responseFails else s)
    | none => s.gateEffect o readBack nonce

/-- A completion code of a number of Table 13.6; FUSE_FAIL completes with TIMEOUT (R420). -/
def codeOfResult : Nat → Code
  | 0 => .ok | 1 => .badArg | 2 => .illegalState | 3 => .busy | 4 => .denied | 5 => .noResource | 6 => .fenced | _ => .timeout

/-- The command that ran the operation completes: DEBUG_UNLOCK with the level in force, a challenge of it copied to the host first;
GATE_CALL with the result in detail[7:0]. -/
def State.gateComplete (s : State) (o : GateOp) (res : Nat) : State :=
  match o.head with
  | none => s
  | some h =>
    if o.op = 8 ∨ o.op = 9 then
      let s := match o.addr with
        | some a => if o.op = 8 ∧ res = 0 then s.emit (.hostWrite a (leBytes 64 (s.mbox 0 64))) else s
        | none => s
      s.complete h (codeOfResult res) 0 0xFF s.debugLevel
    else s.complete h (codeOfResult res) res 0xFF 0

/-- GATE_OP_DONE (R387): the operation in progress ends. `readBack`: a burn reads back well; `sigOk`, `digestOk`: the signature and the
digest in the mailbox verify; `late`: the challenge is older than 60 s; `nonce`: what the entropy source gave. -/
def execGateOpDone (readBack sigOk digestOk late : Bool) (nonce : BitVec 256) (s : State) : Res :=
  match s.gate.op with
  | none => .next s
  | some o =>
    let s := { s with gate := { s.gate with op := none } }
    let (res, s) := s.gatePerform o readBack sigOk digestOk late nonce.toNat
    let s := (s.wr R.GATE_OP.result 0 res).wr R.GATE_OP.go 0 0
    let s := s.gateEvent R.GATE_EVENT.op_done
    let s := if res = 0 then s else s.gateEvent R.GATE_EVENT.op_fail
    let s := (s.gateComplete o res).reeveEvent 7
    .next (if o.op = 8 then s else s.clearMbox)

/-! Entropy and lockout. -/

/-- ENTROPY_HEALTH_FAIL (R386): a health test fails. -/
def execEntropyHealthFail (s : State) : Res :=
  .next ((s.wr R.GATE_STATUS.entropy_ok 0 0).gateEvent R.GATE_EVENT.entropy_fault)

/-- ENTROPY_HEALTH_RECOVER (R386): both tests pass again. -/
def execEntropyHealthRecover (s : State) : Res := .next (s.wr R.GATE_STATUS.entropy_ok 0 1)

/-- UNLOCK_LOCKOUT_END (R390): 60 s after three failures. -/
def execUnlockLockoutEnd (s : State) : Res :=
  .next (if s.gate.lockout then { s with gate := { s.gate with lockout := false, fails := 0 } } else s)

end Sys2Proof.Machine
end

