-- ==== Sys2Proof/Machine/LaneEv.lean ====
section
/-! DEFINITION. The meanings of the lane events of chapter 2: clocks, calibration, the receiver's acquisition, its
detectors, adaptation and its guards, eye reports, and the register writes that have rows of their own. -/
namespace Sys2Proof.Machine

/-! Clocks and fences. -/

/-- LC_PLL_LOCK (R53, R51): the LC-PLL of quad `q`, locking or relocking, locks after `us` µs; CAL begins at step 1 on each
lane that waited on it, and a DORMANT exit that waited goes on with its first trim. -/
def execLcPllLock (q : Fin 24) (us : BitVec 16) (s : State) : Res :=
  let st := s.rd R.QUAD_PLL.pll_state q
  if st = 1 ∨ st = 3 then
    let s := ((s.wr R.QUAD_PLL.pll_state q 2).wr R.QUAD_PLL.lock_time q us.toNat).latch R.QUAD_EVENT.pll_locked q
    .next <| iter (fun n s =>
      let x := s.lane n
      if x.pllWait ∧ s.laneState n = 1 then s.startCal n
      else if x.wake = .pll then s.setLane n { x with wake := .trim 1, pllWait := false }
      else s) (4 * q) 4 s
  else .next s

/-- LC_PLL_LOCK_LOSS (R51): a locked quad LC-PLL loses lock: pll_state reads 3 and pll_lost is set. -/
def execLcPllLockLoss (q : Fin 24) (s : State) : Res :=
  if s.pllLocked q then .next ((s.wr R.QUAD_PLL.pll_state q 3).latch R.QUAD_EVENT.pll_lost q) else .next s

/-- QUAD_PLL_UNLOCK (R49): an LC-PLL whose lock has been lost for more than 100 µs fences every populated lane of the quad
that is not OFF, with cause QUAD_PLL. Number 24 is the LC-PLL of the twin lanes, which has no register. -/
def execQuadPllUnlock (q : Fin 25) (s : State) : Res :=
  if q.val = 24 then .next (iter (fun k s => s.fenceTwinLane k 6) 0 8 s)
  else if s.rd R.QUAD_PLL.pll_state q = 3 then
    .next <| iter (fun n s => if s.laneState n ≠ 0 then s.fenceLane n 6 else s) (4 * q) 4 s
  else .next s

/-- TXGEN_UNLOCK (R49, R36): more than 100 µs without lock fails the running CAL step after step 2, or fences an ACTIVE or
QUIET lane with cause TXGEN_UNLOCK. Lanes from 96 on are the twin lanes. -/
def execTxgenUnlock (n : Fin 104) (s : State) : Res :=
  let st := s.laneState n
  if 96 ≤ n.val then .next (s.fenceTwinLane (n - 96) 2)
  else if st = 1 then
    if 3 ≤ s.rd R.LANE_STATE.cal_step n then .next (s.calStepFails n) else .next s
  else if st = 2 ∨ st = 3 then .next ((s.wr R.LANE_STATE.tx_locked n 0).fenceLane n 2)
  else .next s

/-- DRIVER_FAULT (R49): over-current or an open termination fences the lane with cause DRIVER_FAULT. Lanes from 96 on are the twin lanes. -/
def execDriverFault (n : Fin 104) (s : State) : Res := .next (s.fenceSerial n 4)

/-- SHELL_PARITY (R49, R51): a parity error in the shell's configuration state fences the lane with cause SHELL_PARITY;
one in the cluster's shared state also sets QUAD_EVENT.shell_parity. Lanes from 96 on are the twin lanes. -/
def execShellParity (n : Fin 104) (shared : Bool) (s : State) : Res :=
  .next ((if shared && decide (n.val < 96) then s.latch R.QUAD_EVENT.shell_parity (n / 4) else s).fenceSerial n 3)

/-! Calibration. -/

/-- The calibration of twin lane `k` passes or fails; a second failure fences it with cause CAL_FAIL (Table 2.9). -/
def State.twinCalibrated (s : State) (k : Nat) (pass : Bool) : State :=
  if pass then { s with pair := { s.pair with twinRetry := s.pair.twinRetry.filter (· ≠ k) } }
  else if s.pair.twinRetry.contains k then
    ({ s with pair := { s.pair with twinRetry := s.pair.twinRetry.filter (· ≠ k) } } : State).fenceTwinLane k 1
  else { s with pair := { s.pair with twinRetry := k :: s.pair.twinRetry } }

/-- CAL_STEP_END (R36, R33): the running step of Table 2.5 meets its target or fails. Step 2 locks the TX generator; step 7
measures the path delays (R37) and takes the lane to ACTIVE with its receiver in SEEK from the presets. Lanes from 96 on are the twin
lanes, of which no register shows a step. -/
def execCalStepEnd (n : Fin 104) (pass : Bool) (dlyTx dlyRx : BitVec 16) (s : State) : Res :=
  let k := s.rd R.LANE_STATE.cal_step n
  if 96 ≤ n.val then .next (s.twinCalibrated (n - 96) pass)
  else if s.laneState n ≠ 1 ∨ k = 0 then .next s
  else if !pass then .next (s.calStepFails n)
  else if k = 2 then .next ((s.wr R.LANE_STATE.tx_locked n 1).wr R.LANE_STATE.cal_step n 3)
  else if k < 7 then .next (s.wr R.LANE_STATE.cal_step n (k + 1))
  else
    let s := (s.wr R.LANE_DLY_TX.delay n dlyTx.toNat).wr R.LANE_DLY_TX.valid n 1
    let s := (s.wr R.LANE_DLY_RX.delay n dlyRx.toNat).wr R.LANE_DLY_RX.valid n 1
    .next ((s.wr R.LANE_STATE.cal_step n (s.lane n).calFails).presets n |>.enterActive n 0)

/-- DORMANT_WAKE_TRIM_END (R47): a wake-form step ends. A missed target sets wake_fallback, and the step runs on in full;
the exit then adapts fully. After step 6 the receiver's form is settled and the transition can end. -/
def execDormantWakeTrimEnd (n : Fin 96) (pass : Bool) (s : State) : Res :=
  let x := s.lane n
  match x.wake with
  | .trim k =>
    if !pass then .next ((s.setLane n { x with wakeMiss := true }).laneEvent n 13)
    else if k = 1 then .next (s.setLane n { x with wake := .trim 5 })
    else if k = 5 then .next (s.setLane n { x with wake := .trim 6 })
    else if x.wakeMiss ∨ s.on R.LANE_PWR.wake_src n ∨ x.stored = none then
      .next (((s.setLane n { x with wake := .full }).presets n).guardRelease n)
    else
      match x.stored with
      | some c => .next ((s.setLane n { x with wake := .restored }).setCoeffs n c)
      | none => .next s
  | _ => .next s

/-- WAKE_FALLBACK (R47): a restored set that has not reached TRACK within 1.5 ms restarts with full adaptation. -/
def execWakeFallback (n : Fin 96) (s : State) : Res :=
  if (s.lane n).wake = .restored ∧ s.laneState n = 2 ∧ s.rxState n ≠ 2 then
    let s := s.setLane n { s.lane n with wake := .full }
    .next (((s.setRx n 0).presets n |>.guardRelease n).laneEvent n 13)
  else .next s

/-! The receiver's acquisition (Table 2.4). -/

/-- CDR_LOCK (R35): SEEK to ADAPT. -/
def execCdrLock (n : Fin 96) (s : State) : Res :=
  if s.laneState n = 2 ∧ s.rxState n = 0 then .next (s.setRx n 1) else .next s

/-- ADAPT_CONVERGED (R35): ADAPT to TRACK, with the latch track. -/
def execAdaptConverged (n : Fin 96) (s : State) : Res :=
  if s.laneState n = 2 ∧ s.rxState n = 1 then
    let s := s.setRx n 2
    let s := s.setLane n { s.lane n with tracked := true, wake := .none }
    .next (s.laneEvent n 4)
  else .next s

/-- ACQ_TIMEOUT (R35): 20 ms in SEEK and ADAPT reload the presets, return to SEEK and set acq_timeout. -/
def execAcqTimeout (n : Fin 96) (s : State) : Res :=
  if s.laneState n = 2 ∧ s.rxState n ≤ 1 then .next (((s.setRx n 0).presets n).laneEvent n 5) else .next s

/-- The raw detectors of the lane run: its receiver is neither off nor stopped by a fence (R43, R49). -/
def State.detects (s : State) (n : Nat) : Bool :=
  let st := s.laneState n
  (st == 1 || st == 2 || st == 3 || (st == 5 && !(s.lane n).rxStopped))

/-- RAW_LOS_ASSERT (R43, R35): an amplitude below 20 + 5 × los_on mVppd asserts raw LOS; the receiver goes to HOLD, where
raw LOL is held at 0 (R44). -/
def execRawLosAssert (n : Fin 96) (mvpp : BitVec 16) (s : State) : Res :=
  if s.detects n ∧ ¬ s.on R.LANE_STATE.los n ∧ mvpp.toNat < 20 + 5 * s.rd R.LANE_LOS_CFG.los_on n then
    let s := (s.wr R.LANE_STATE.los n 1).countL n 0 1
    let s := if s.laneState n = 2 then (s.setRx n 3).wr R.LANE_STATE.lol n 0 else s
    let s := s.setLane n { s.lane n with windowBad := true }
    .next ((s.qlFail n).laneEvent n 0)
  else .next s

/-- RAW_LOS_CLEAR (R43, R35): an amplitude above 20 + 5 × los_off mVppd clears raw LOS; a receiver in HOLD returns to SEEK,
with its set kept after at most 10 ms and otherwise from the snapshot, or the presets when there is none. Raw LOS stays
forced to 1 on a fenced lane (R49). -/
def execRawLosClear (n : Fin 96) (mvpp : BitVec 16) (over10ms : Bool) (s : State) : Res :=
  if s.detects n ∧ s.laneState n ≠ 5 ∧ s.on R.LANE_STATE.los n ∧ 20 + 5 * s.rd R.LANE_LOS_CFG.los_off n < mvpp.toNat then
    let s := (s.wr R.LANE_STATE.los n 0).laneEvent n 1
    if s.laneState n = 2 ∧ s.rxState n = 3 then
      let s := s.setRx n 0
      if !over10ms then .next s
      else if s.on R.LANE_ADAPT_STAT.snap_valid n then .next (s.fromSnapshot n)
      else .next (s.presets n)
    else .next s
  else .next s

/-- LOL_WINDOW_END (R44): a window's offset, in 0.001 ppm, goes to LANE_FREQ_OFS. Raw LOL asserts beyond ±lol_on_ppm or
after 16 windows with the phase detector out of bound, and clears after 4 windows in bound; in HOLD it is held at 0. LOL
takes a receiver in TRACK to SEEK (R35). -/
def execLolWindowEnd (n : Fin 96) (ofs : BitVec 32) (pdOut : Bool) (s : State) : Res :=
  if !s.detects n then .next s
  else
    let s := s.wr R.LANE_FREQ_OFS.ofs n ofs.toNat
    let x := s.lane n
    let mag := ofs.toInt.natAbs
    let pdBad := if pdOut then min 16 (x.pdBad + 1) else 0
    let good := if mag ≤ 1000 * s.rd R.LANE_LOL_CFG.lol_off_ppm n ∧ ¬ pdOut then min 4 (x.lolGood + 1) else 0
    let s := s.setLane n { x with pdBad := pdBad, lolGood := good }
    if s.laneState n = 2 ∧ s.rxState n = 3 then .next (s.wr R.LANE_STATE.lol n 0)
    else if 1000 * s.rd R.LANE_LOL_CFG.lol_on_ppm n < mag ∨ pdBad = 16 then
      if s.on R.LANE_STATE.lol n then .next s
      else
        let s := (s.wr R.LANE_STATE.lol n 1).countL n 1 1
        let s := s.setLane n { s.lane n with windowBad := true }
        let s := if s.laneState n = 2 ∧ s.rxState n = 2 then s.setRx n 0 else s
        .next ((s.qlFail n).laneEvent n 2)
    else if s.on R.LANE_STATE.lol n ∧ good = 4 then .next ((s.wr R.LANE_STATE.lol n 0).laneEvent n 3)
    else .next s

/-! Loops, adaptation and its guards. -/

/-- Adaptation runs: the receiver is in ADAPT or TRACK and no guard freezes it (R38, R39, R42). -/
def State.adapts (s : State) (n : Nat) : Bool :=
  s.laneState n == 2 && (s.rxState n == 1 || s.rxState n == 2) && !s.on R.LANE_ADAPT_STAT.dens_frozen n
    && !s.on R.LANE_ADAPT_STAT.pat_frozen n && !s.on R.LANE_ADAPT_STAT.guard_frozen n

/-- One step of the twin phase servo towards `target`, in 1/128 UI: it acts in STANDBY and CATCHUP on an ACTIVE lane and
moves by at most 1/128 UI a microsecond; a need beyond ±4 UI sets phase_ovf (R31, R322). -/
def State.phaseServo (s : State) (n : Nat) (target : Int) : State :=
  if 2 ≤ s.role ∧ s.laneState n = 2 then
    let s := s.wr R.LANE_TX_PHASE.servo_on n 1
    if 512 < target.natAbs then s.pairEvent R.PAIR_EVENT.phase_ovf
    else
      let p := signedOf 16 (s.rd R.LANE_TX_PHASE.phase n)
      let p' := if p < target then p + 1 else if target < p then p - 1 else p
      s.wr R.LANE_TX_PHASE.phase n (patternOf 16 p')
  else s.wr R.LANE_TX_PHASE.servo_on n 0

/-- LANE_LOOP_UPDATE (R32): one loop of Table 2.2 updates its output. Adaptation loops act only while adaptation runs and
is enabled for them; the CDR, the ADC trim and the TX frequency hold no register of their own. -/
def execLaneLoopUpdate (n : Fin 96) (u : LoopUpdate) (s : State) : Res :=
  match u with
  | .ctle v => if s.adapts n ∧ s.on R.LANE_RX_CFG.ctle_adapt_en n then .next (s.wr R.LANE_RX_EQ.ctle n v.toNat) else .next s
  | .vga v => if s.adapts n ∧ s.on R.LANE_RX_CFG.vga_adapt_en n then .next (s.wr R.LANE_RX_EQ.vga n v.toNat) else .next s
  | .dfe v => if s.adapts n ∧ s.on R.LANE_RX_CFG.dfe_adapt_en n then .next (s.wr R.LANE_RX_EQ.dfe n v.toNat) else .next s
  | .ffe k v =>
    if s.adapts n ∧ s.on R.LANE_RX_CFG.ffe_adapt_en n then .next (s.wr (R.LANE_RX_FFE_k.tap n) k v.toNat) else .next s
  | .txPhase t => .next (s.phaseServo n t.toInt)
  | .cdr | .adcTrim | .txFrequency => .next s

/-- DELAY_REPLICA_UPDATE (R37): the drift terms are added to both measured path delays. -/
def execDelayReplicaUpdate (n : Fin 96) (dTx dRx : BitVec 16) (s : State) : Res :=
  if (s.laneState n = 2 ∨ s.laneState n = 3) ∧ s.on R.LANE_DLY_TX.valid n ∧ s.on R.LANE_DLY_RX.valid n then
    .next ((s.bump R.LANE_DLY_TX.delay n dTx.toNat).bump R.LANE_DLY_RX.delay n dRx.toNat)
  else .next s

/-- TRANSITION_WINDOW_END (R38): fewer than 32 transitions in 1,024 symbols freeze adaptation while dens_gate_en is 1; 4
windows in a row of at least 32 resume it. -/
def execTransitionWindowEnd (n : Fin 96) (transitions : BitVec 11) (s : State) : Res :=
  if s.laneState n ≠ 2 then .next s
  else
    let x := s.lane n
    if transitions.toNat < 32 then
      let s := s.setLane n { x with densGood := 0 }
      if s.on R.LANE_ADAPT_CFG.dens_gate_en n then .next (s.wr R.LANE_ADAPT_STAT.dens_frozen n 1) else .next s
    else
      let good := min 4 (x.densGood + 1)
      let s := s.setLane n { x with densGood := good }
      if good = 4 then .next (s.wr R.LANE_ADAPT_STAT.dens_frozen n 0) else .next s

/-- The first period of 1 to 8 words whose run has reached 256 words. -/
def periodOf : List Nat → Nat → Option Nat
  | [], _ => none
  | r :: rs, p => if 256 ≤ r then some p else periodOf rs (p + 1)

/-- PATTERN_GATE_CHECK (R39): the signature of one shell word. Signatures that repeat with a period of 1 to 8 words for 256
words freeze adaptation while pat_gate_en is 1; 64 words in a row that break that period resume it. -/
def execPatternGateCheck (n : Fin 96) (sig : BitVec 16) (s : State) : Res :=
  if s.laneState n ≠ 2 then .next s
  else
    let x := s.lane n
    let runs := upTo (fun i => if x.patSigs[i]? = some sig.toNat then min 256 (x.patRuns.getD i 0 + 1) else 0) 8
    let sigs := (sig.toNat :: x.patSigs).take 8
    if s.on R.LANE_ADAPT_STAT.pat_frozen n then
      let brk := if x.patSigs[x.patPeriod - 1]? = some sig.toNat then 0 else x.patBreak + 1
      let s := s.setLane n { x with patRuns := runs, patSigs := sigs, patBreak := if brk = 64 then 0 else brk }
      if brk = 64 then .next (s.wr R.LANE_ADAPT_STAT.pat_frozen n 0) else .next s
    else
      match periodOf runs 1 with
      | some p =>
        let s := s.setLane n { x with patRuns := runs, patSigs := sigs, patPeriod := p, patBreak := 0 }
        if s.on R.LANE_ADAPT_CFG.pat_gate_en n then .next (s.wr R.LANE_ADAPT_STAT.pat_frozen n 1) else .next s
      | none => .next (s.setLane n { x with patRuns := runs, patSigs := sigs })

/-- The lane has an error indication: a program in slot 0 of its channel, or a PRBS checker that runs (R40). -/
def State.hasErrorIndication (s : State) (n : Nat) : Bool :=
  (s.prog (s.chan n) 0).isSome || s.rd R.LANE_TEST.prbs_chk n != 0

/-- SNAPSHOT_WINDOW_END (R40): at the end of a verified window the present coefficient set becomes the snapshot. `errs` of
`units` is the error ratio of the window. -/
def execSnapshotWindowEnd (n : Fin 96) (errs units : BitVec 64) (s : State) : Res :=
  if s.laneState n ≠ 2 then .next s
  else
    let x := s.lane n
    let ok := !x.windowBad && s.rxState n == 2 && s.hasErrorIndication n
      && decide (errs.toNat * 2 ^ s.rd R.LANE_ADAPT_CFG.snap_ratio_k n ≤ units.toNat)
    let bad' := s.rxState n != 2
    if ok then
      let s := iter (fun k s => s.wr (R.LANE_RX_FFE_k.snap n) k (s.rd (R.LANE_RX_FFE_k.tap n) k)) 0 32 s
      let s := s.setLane n { x with windowBad := bad', snapEq := s.reg (0x100044 + n * 0x1000) }
      .next ((s.wr R.LANE_ADAPT_STAT.snap_valid n 1).wr R.LANE_ADAPT_STAT.snap_age n 0)
    else
      let s := s.setLane n { x with windowBad := bad' }
      .next (s.bumpSat R.LANE_ADAPT_STAT.snap_age n (s.rd R.LANE_ADAPT_CFG.snap_win n + 1))

/-- A coefficient lies outside the envelope about the snapshot (R41). -/
def State.outsideEnvelope (s : State) (n : Nat) : Bool :=
  let far := fun (w a b lim : Nat) => decide (lim < (signedOf w a - signedOf w b).natAbs)
  (upTo (fun k => far 10 (s.rd (R.LANE_RX_FFE_k.tap n) k) (s.rd (R.LANE_RX_FFE_k.snap n) k)
      (s.rd R.LANE_ADAPT_CFG.env_ffe n)) 32).any id
  || far 8 (s.rd R.LANE_RX_EQ.dfe n) (bitField (s.lane n).snapEq.toNat 16 8) (s.rd R.LANE_ADAPT_CFG.env_dfe n)
  || far 5 (s.rd R.LANE_RX_EQ.ctle n) (bitField (s.lane n).snapEq.toNat 0 4) (s.rd R.LANE_ADAPT_CFG.env_ctle n)

/-- ENVELOPE_CHECK (R41, R42): every 1 ms in TRACK a set outside the envelope is restored whole from the snapshot; more than
revert_max reverts within 1 s freeze adaptation. -/
def execEnvelopeCheck (n : Fin 96) (s : State) : Res :=
  if s.laneState n ≠ 2 ∨ s.rxState n ≠ 2 then .next s
  else
    let x := s.lane n
    let tick := x.envTick + 1
    let recent := x.reverts.filter (fun t => tick < t + 1000)
    if s.on R.LANE_ADAPT_CFG.env_en n && s.on R.LANE_ADAPT_STAT.snap_valid n && s.outsideEnvelope n then
      let rev := tick :: recent
      let s := (s.fromSnapshot n).setLane n { x with envTick := tick, reverts := rev, windowBad := true }
      let s := (s.bumpSat R.LANE_ADAPT_STAT.revert_cnt n 1).laneEvent n 6
      if s.rd R.LANE_ADAPT_CFG.revert_max n < rev.length ∧ ¬ s.on R.LANE_ADAPT_STAT.guard_frozen n then
        .next ((s.wr R.LANE_ADAPT_STAT.guard_frozen n 1).laneEvent n 7)
      else .next s
    else .next (s.setLane n { x with envTick := tick, reverts := recent })

/-! Eye and SNR. -/

/-- SNR_UPDATE (R45): in TRACK, LANE_SNR takes the measured SNR and eye heights; an NRZ lane reports eye_mid only. -/
def execSnrUpdate (n : Fin 96) (snr : BitVec 9) (lo mid hi : BitVec 7) (s : State) : Res :=
  if s.laneState n = 2 ∧ s.rxState n = 2 then
    let p4 := s.on R.LANE_SPEED.pam4 n
    let s := (s.wr R.LANE_SNR.snr n snr.toNat).wr R.LANE_SNR.eye_mid n mid.toNat
    .next ((s.wr R.LANE_SNR.eye_lo n (if p4 then lo.toNat else 0)).wr R.LANE_SNR.eye_hi n (if p4 then hi.toNat else 0))
  else .next s

/-- EYE_SCAN_START (R46): master `m` writes scan. -/
def execEyeScanStart (m : Fin 8) (n : Fin 96) (s : State) : Res := .next (s.asMaster m (·.laneWrite n 0x124
  (1 + 2 * s.rd R.LANE_EYE_SCAN.ber_exp n)))

/-- EYE_SCAN_END (R46): a scan in progress finishes with result 1 and eye_done, or was aborted with result 2. -/
def execEyeScanEnd (n : Fin 96) (h v : BitVec 8) (aborted : Bool) (s : State) : Res :=
  if !(s.lane n).scanning then .next s
  else
    let s := s.setLane n { s.lane n with scanning := false }
    if aborted then .next (s.wr R.LANE_EYE_SCAN.result n 2)
    else
      let s := (s.wr R.LANE_EYE_SCAN.h_open n h.toNat).wr R.LANE_EYE_SCAN.v_open n v.toNat
      .next ((s.wr R.LANE_EYE_SCAN.result n 1).laneEvent n 12)

/-! Register writes with rows of their own. -/

/-- FIR_APPLY (R30): master `m` writes fir_apply; the other bits of the register keep their values. -/
def execFirApply (m : Fin 8) (n : Fin 96) (s : State) : Res :=
  .next (s.asMaster m (·.laneWrite n 0x028 (0x100 + s.rd R.LANE_TX_CFG.swing n)))

/-- GUARD_RELEASE (R42): master `m` writes guard_release; the other bits of the register keep their values. -/
def execGuardRelease (m : Fin 8) (n : Fin 96) (s : State) : Res :=
  .next (s.asMaster m (·.laneWrite n 0x100
    (setBitField (s.reg (0x100100 + n * 0x1000)).toNat 30 1 1)))

/-- LANE_RESET (R49): master `m` writes lane_reset. -/
def execLaneReset (m : Fin 8) (n : Fin 96) (s : State) : Res := .next (s.asMaster m (·.laneReset m n))

/-- LANE_RESET_DONE (R49, R50): the reset completes: every LANE_ field takes its reset value but fence_cause, and a lane
that is FENCED stays so with lane_reset_done set. -/
def execLaneResetDone (n : Fin 96) (s : State) : Res :=
  let x := s.lane n
  if !x.resetting then .next s
  else
    let st := s.laneState n
    let cause := s.rd R.LANE_STATE.fence_cause n
    let s := (s.clearRegs (0x100000 + n * 0x1000) 0x1000).loadLaneDesc n
    let s := s.setLane n { LaneX.init with rxStopped := decide (st = 5), fir := s.firPreset n }
    let s := (s.setAlign n AlignX.init).wr R.LANE_STATE.fence_cause n cause
    if st = 5 then .next (((s.setLaneState n 5).wr R.LANE_STATE.los n 1).wr R.LANE_STATE.lane_reset_done n 1)
    else .next s

/-- LANE_FENCE_REQ (R49): master `m` writes fence_req: the lane is fenced with cause HOST, and writes stored while DORMANT
are discarded (R48). -/
def execLaneFenceReq (m : Fin 8) (n : Fin 96) (s : State) : Res := .next (s.asMaster m (·.fenceLane n 5))

/-- LOS_CFG_WRITE (R43): master `m` writes LANE_LOS_CFG; R24 refuses it in the pair roles. -/
def execLosCfgWrite (m : Fin 8) (n : Fin 96) (losOn losOff : BitVec 6) (s : State) : Res :=
  .next (s.asMaster m (·.pairGate m (·.laneWrite n 0x110 (losOn.toNat + 256 * losOff.toNat))))

/-- LOL_CFG_WRITE (R44): master `m` writes LANE_LOL_CFG; R24 refuses it in the pair roles. -/
def execLolCfgWrite (m : Fin 8) (n : Fin 96) (lolOn lolOff : BitVec 10) (s : State) : Res :=
  .next (s.asMaster m (·.pairGate m (·.laneWrite n 0x114 (lolOn.toNat + 2 ^ 16 * lolOff.toNat))))

end Sys2Proof.Machine
end

