-- ==== Sys2Proof/Machine/Lantern.lean ====
section
/-! DEFINITION. The Lantern: the debug level, its reset, and the halt, step and resume of a TINKER target (R388 to R391, R407). -/
namespace Sys2Proof.Machine

/-! LANT_CTRL. -/

/-- The rw fields of LANT_CTRL written; level 3 is reserved and leaves its field (R7), and asks for nothing. -/
def State.lantLevel (s : State) (level : Nat) (trace : Bool) : State :=
  let s := s.wr R.LANT_CTRL.trace_en 0 (bit trace)
  if level ≤ 2 then (s.wr R.LANT_CTRL.level_req 0 level).requestLevel level else s

/-- lant_reset (R407): the trace and LANT_SEL are cleared, and the fence of master LANT is lifted (Table 13.13). `burst`: LANT had a
granted burst, which is cut (R361). -/
def State.lantReset (s : State) (burst : Bool) : State :=
  let cause := s.rd R.MTX_MSTAT_m.fence_cause 5
  let was := s.masterFenced 5
  let s := { s with trace := [], hung := s.hung.filter (fun h => h.m != 5), captures := s.captures.filter (fun c => c.m != 5) }
  let s := s.setReg 0x8010 0
  let s := if burst then s.latch R.MTX_MSTAT_m.burst_cut 5 else s
  if was then ((s.wr R.MTX_MSTAT_m.fence_cause 5 0).wr R.MTX_MSTAT_m.fenced 5 0).reportFence 9 5 cause false else s

/-- LEVEL_REQ_WRITE (R388): master `m` writes level_req and trace_en of LANT_CTRL. -/
def execLevelReqWrite (m : Fin 8) (level : BitVec 2) (trace : Bool) (s : State) : Res :=
  .next (s.asAny m (·.lantLevel level.toNat trace))

/-- LANT_LOCK (R388): master `m` writes lock. -/
def execLantLock (m : Fin 8) (s : State) : Res := .next (s.asAny m (·.debugNone))

/-- LANT_RESET (R407): master `m` writes lant_reset. -/
def execLantReset (m : Fin 8) (burst : Bool) (s : State) : Res := .next (s.asAny m (·.lantReset burst))

/-! LANT_SEL. -/

/-- A unit of LANT_SEL exists. -/
def selOk (reeve : Bool) (unit : Nat) : Bool := if reeve then decide (unit ≤ 3) else decide (unit ≤ 383)

/-- kind and unit written; a unit that does not exist leaves both. -/
def State.lantSelect (s : State) (reeve : Bool) (unit : Nat) : State :=
  if selOk reeve unit then (s.wr R.LANT_SEL.kind 0 (bit reeve)).wr R.LANT_SEL.unit 0 unit else s

/-- The engine that LANT_SEL selects. -/
def State.selected (s : State) : Engine :=
  let u := s.rd R.LANT_SEL.unit 0
  if s.on R.LANT_SEL.kind 0 then .reeve (Fin.ofNat 4 u) else .thread (Fin.ofNat 24 (u / 16)) (Fin.ofNat 16 u)

/-- A go field of LANT_SEL: it acts on a TINKER target, and is otherwise discarded with denied set. -/
def State.onTarget (s : State) (f : Engine → State → State) : State :=
  if s.tinkered s.selected then f s.selected s else s.denied

/-- halt (R391): the engine issues nothing from now on; results already issued still land. -/
def State.selHalt (s : State) : State :=
  s.onTarget (fun e (s : State) => if (s.eng (engIdx e)).halted then s else s.haltEng e)

/-- step (R391): a halted engine may issue one bundle. -/
def State.selStep (s : State) : State :=
  s.onTarget (fun e (s : State) => if (s.eng (engIdx e)).halted then s.setEng (engIdx e) { s.eng (engIdx e) with step := true } else s)

/-- resume (R391): a halted engine goes on at its pc; a Weaver thread that has missed its beat or frame slot ends its run, and the next
slot starts its handler from its entry. -/
def State.selResume (s : State) (missed : Bool) : State :=
  s.onTarget (fun e (s : State) =>
    let x := s.eng (engIdx e)
    if !x.halted then s
    else match e with
      | .reeve r => (s.setEng (engIdx e) { x with halted := false, step := false }).showReeve r
      | .thread _ _ =>
        let y := { x with halted := false, step := false }
        s.setEng (engIdx e) (if missed then { y with running := false, todo := [], loops := [] } else y))

/-- LANT_HALT (R391): master `m` selects a unit and writes halt. -/
def execLantHalt (m : Fin 8) (reeve : Bool) (unit : BitVec 9) (s : State) : Res :=
  .next (s.asAny m (fun s => (s.lantSelect reeve unit.toNat).selHalt))

/-- LANT_STEP (R391): master `m` selects a unit and writes step. -/
def execLantStep (m : Fin 8) (reeve : Bool) (unit : BitVec 9) (s : State) : Res :=
  .next (s.asAny m (fun s => (s.lantSelect reeve unit.toNat).selStep))

/-- LANT_RESUME (R391): master `m` selects a unit and writes resume. -/
def execLantResume (m : Fin 8) (reeve : Bool) (unit : BitVec 9) (missed : Bool) (s : State) : Res :=
  .next (s.asAny m (fun s => (s.lantSelect reeve unit.toNat).selResume missed))

end Sys2Proof.Machine
end

