-- ==== Sys2Proof/Machine/Mill.lean ====
section
/-! DEFINITION. The meanings of the Millrace's events: rail sequencing, PMBus, AVS, sensors, the cap, P3 and the thermal trip (R395 to
R404, R434). -/
namespace Sys2Proof.Machine

/-! Rail sequencing (R398, R399, R433, R434). -/

/-- The rail that a voltage monitor reads, in the order of R433: 0 VDD_CORE, 1 VDD_SRAM, 2 VDDA_LANE, 3 VDDH_LANE; the rest are not
switched (MILL_VMON_k). -/
def railOf (k : Nat) : Option Nat :=
  if k ≤ 3 ∨ k = 14 ∨ k = 15 then some 0
  else if k ≤ 5 then some 1
  else if k ≤ 9 then some 2
  else if k ≤ 11 then some 3
  else none

/-- A reading of a switched rail lies within Table 16.5; VDD_CORE is judged against MILL_AVS.v_target. -/
def State.railInRange (s : State) (rail mv : Nat) : Bool :=
  match rail with
  | 0 => decide (s.rd R.MILL_AVS.v_target 0 ≤ mv + 15 ∧ mv ≤ s.rd R.MILL_AVS.v_target 0 + 15)
  | 1 => decide (776 ≤ mv ∧ mv ≤ 824)
  | 2 => decide (873 ≤ mv ∧ mv ≤ 927)
  | _ => decide (1164 ≤ mv ∧ mv ≤ 1236)

/-- 10 % of a switched rail's value in mV. -/
def railTenth (rail : Nat) : Nat := match rail with | 2 => 90 | 3 => 120 | _ => 80

/-- The check after the on_delay of a device (R434): with `up` rails up so far in the order of R433, every earlier rail lies within
range and no later one above 10 %. -/
def State.sequenceOk (s : State) (up : Nat) (mvs : List (BitVec 16)) : Bool :=
  mvs.zipIdx.all (fun e => match railOf e.2 with
    | some r => if r < up then s.railInRange r e.1.toNat else decide (e.1.toNat ≤ railTenth r)
    | none => true)

/-- RAIL_SEQUENCE_STEP (R398, R434): the Millrace sets up the next device, or, its on_delay over, checks the monitors, which read `mvs`
with `up` rails due to be up, and goes on. -/
def execRailSequenceStep (up : BitVec 3) (mvs : List (BitVec 16)) (s : State) : Res :=
  match s.startup, s.mill.phase, s.mill.todo with
  | .step 4, .setup, d :: _ =>
    let s := (s.emit (.pmbus d 0x03 0)).emit (.pmbus d 0x20 0)
    let s := (s.emit (.pmbus d 0x21 (s.pmbDesc d 8 2))).emit (.pmbus d 0x01 0x80)
    .next { s with mill := { s.mill with phase := .polling, retries := 0, on_ := if s.mill.on_.contains d then s.mill.on_ else s.mill.on_ ++ [d] } }
  | .step 4, .delay, d :: _ => .next (if s.sequenceOk up.toNat mvs then s.nextDevice else s.failSequence d)
  | _, _, _ => .next s

/-- The place of POWER_GOOD# in STATUS_WORD. Assumption log entry 27, PRESUMED, unsafe. -/
def powerGoodBit : Nat := 11

/-- POWER_GOOD_POLL (R398): STATUS_WORD of the device being switched on is polled; once POWER_GOOD# reads 0 its on_delay begins. -/
def execPowerGoodPoll (status : BitVec 16) (fault : Bool) (s : State) : Res :=
  match s.startup, s.mill.phase, s.mill.todo with
  | .step 4, .polling, d :: _ =>
    let s := (s.pmbSend d 0x79 0).readStatus d status.toNat fault
    if fault then .next s
    else .next (if status.getLsbD powerGoodBit then s else { s with mill := { s.mill with phase := .delay } })
  | _, _, _ => .next s

/-- PG_TIMEOUT (R399): no power good within pg_timeout. -/
def execPgTimeout (s : State) : Res :=
  match s.startup, s.mill.phase, s.mill.todo with
  | .step 4, .polling, d :: _ => .next (s.fencePmb d 3)
  | _, _, _ => .next s

/-- PMBUS_TRANSACTION_ERROR (R398, R399): a transaction with device `d` meets a NACK or, with `pec`, a PEC error; it is retried up to
three times. -/
def execPmbusTransactionError (d : Fin 8) (pec : Bool) (s : State) : Res :=
  if !s.pmbPresent d ∨ s.pmbFenced d then .next s
  else if s.mill.retries < 3 then .next { s with mill := { s.mill with retries := s.mill.retries + 1 } }
  else .next (({ s with mill := { s.mill with retries := 0 } } : State).fencePmb d (if pec then 2 else 1))

/-- PMB_ALERT (R398): PMB_ALERT_N is low; device `d` answers at the alert response address and its STATUS_WORD is read. -/
def execPmbAlert (d : Fin 8) (status : BitVec 16) (fault : Bool) (s : State) : Res :=
  if !s.pmbPresent d ∨ s.pmbFenced d then .next s
  else .next (((s.millEvent R.MILL_EVENT.pmb_alert d).pmbSend d 0x79 0).readStatus d status.toNat fault)

/-- PMB_FENCE_REQ (R399): master `m` writes fence_req. -/
def execPmbFenceReq (m : Fin 8) (d : Fin 8) (s : State) : Res := .next (s.asMaster m (·.fencePmb d 5))

/-- A write of pmb_reset (R399): CLEAR_FAULTS is sent. -/
def State.pmbReset (s : State) (d : Nat) : State :=
  if !s.pmbPresent d ∨ s.mill.resetting.contains d then s
  else
    let s := s.emit (.pmbus d 0x03 0)
    { s with mill := { s.mill with resetting := d :: s.mill.resetting } }

/-- PMB_RESET (R399): master `m` writes pmb_reset. -/
def execPmbReset (m : Fin 8) (d : Fin 8) (s : State) : Res := .next (s.asMaster m (·.pmbReset d))

/-- PMB_RESET_DONE (R399): STATUS_WORD is read back; the reset completes when it is clean. -/
def execPmbResetDone (d : Fin 8) (status : BitVec 16) (clean : Bool) (s : State) : Res :=
  if s.mill.resetting.contains d.val then
    let s := { s with mill := { s.mill with resetting := s.mill.resetting.filter (· ≠ d.val) } }
    let s := s.wr R.MILL_PMB_d.status_word d status.toNat
    .next (if clean then s.wr R.MILL_PMB_d.reset_done d 1 else s)
  else .next s

/-! AVS (R400). -/

/-- The target that the lowest safe voltage asks for: the margin added, in steps of 5 mV from 650 to 800 mV. -/
def State.avsTarget (s : State) (safe : Nat) : Nat :=
  max 650 (min 800 ((safe + (if s.mill.reduced then 10 else 20) + 4) / 5 * 5))

/-- AVS_UPDATE (R400): the VDD_CORE target moves by at most 5 mV towards what the lowest safe voltage asks for. `ok`: the AVSBus
transaction went well; three failures in a row hold VDD_CORE at 0.80 V. -/
def execAvsUpdate (safe measured : BitVec 16) (ok : Bool) (s : State) : Res :=
  if !s.on R.MILL_CTRL.avs_en 0 ∨ s.mill.avsHeld ∨ !s.corePowered then .next s
  else if !ok then
    let n := s.mill.avsFails + 1
    let s := { s with mill := { s.mill with avsFails := n } }
    if n < 3 then .next s
    else
      let s := ({ s with mill := { s.mill with avsHeld := true } } : State).millEvent R.MILL_EVENT.avs_fault 0
      let s := s.wr R.MILL_AVS.v_target 0 800
      .next (((upTo id 8).filter (fun d => s.pmbPresent d && s.pmbCore d)).foldl (fun (s : State) d => s.pmbSend d 0x21 800) s)
  else
    let cur := s.rd R.MILL_AVS.v_target 0
    let want := s.avsTarget safe.toNat
    let v := if cur < want then min want (cur + 5) else max want (cur - 5)
    let s := { s with mill := { s.mill with avsFails := 0 } }
    .next (((s.wr R.MILL_AVS.v_target 0 v).wr R.MILL_AVS.v_meas 0 measured.toNat).emit (.avs v))

/-! Sensors (R401, R404, R434). -/

/-- The temperatures shown; T_max in units of 0.25 °C, and its sensor. -/
def State.showTemps (s : State) (temps : List (BitVec 16)) : State :=
  temps.zipIdx.foldl (fun (s : State) e =>
    if e.2 < 32 then (s.wr R.MILL_TEMP_k.temp e.2 e.1.toNat).wr R.MILL_TEMP_k.valid e.2 1 else s) s

/-- The hottest of a list of readings, and its place. -/
def hottest : List (BitVec 16) → Nat → Option (Int × Nat)
  | [], _ => none
  | t :: rest, k =>
    match hottest rest (k + 1) with
    | some (u, j) => if u ≤ t.toInt then some (t.toInt, k) else some (u, j)
    | none => some (t.toInt, k)

/-- THERM_N and throttling follow T_max, and the cold latch (R404). -/
def State.judgeHeat (s : State) (tmax : Int) (k : Nat) : State :=
  let warn : Int := 4 * s.rd R.MILL_CTRL.therm_warn 0
  let was := s.on R.MILL_STATUS.therm_n 0
  let s := if !was ∧ warn ≤ tmax then (s.wr R.MILL_STATUS.therm_n 0 1).millEvent R.MILL_EVENT.therm_warn_on k
    else if was ∧ tmax ≤ warn - 12 then s.wr R.MILL_STATUS.therm_n 0 0
    else s
  let s := s.followThrottle
  if tmax < -40 ∧ ¬ s.on R.MILL_EVENT.cold 0 then s.millEvent R.MILL_EVENT.cold k else s

/-- The voltages shown, with the count of readings in a row that lie out of range on each switched rail. -/
def State.showVolts (s : State) (mvs : List (BitVec 16)) : State :=
  mvs.zipIdx.foldl (fun (s : State) e =>
    if e.2 < 16 then
      let s := (s.wr R.MILL_VMON_k.mv e.2 e.1.toNat).wr R.MILL_VMON_k.valid e.2 1
      match railOf e.2 with
      | some r =>
        let n := if s.railInRange r e.1.toNat then 0 else Tab.get 0 s.mill.range e.2 + 1
        { s with mill := { s.mill with range := Tab.put 0 s.mill.range e.2 n } }
      | none => s
    else s) s

/-- The power of each domain shown, and their sum (MILL_PWR_d, p_meas). -/
def State.showPower (s : State) (ps : List (BitVec 16)) : State :=
  let s := ps.zipIdx.foldl (fun (s : State) e => if e.2 < 6 then s.wr R.MILL_PWR_d.p e.2 e.1.toNat else s) s
  s.wr R.MILL_STATUS.p_meas 0 ((upTo (fun d => s.rd R.MILL_PWR_d.p d) 6).foldl (· + ·) 0)

/-- SENSOR_READ (R401, R404, R434): temperatures in 0.25 °C, voltages in mV, estimated power in 10 mW. A switched rail out of range in
three reads in a row is a fault of a critical device. -/
def execSensorRead (temps mvs powers : List (BitVec 16)) (s : State) : Res :=
  let s := s.showTemps temps
  let s := match hottest temps 0 with | some (t, k) => s.judgeHeat t k | none => s
  let s := (s.showVolts mvs).showPower powers
  if s.running ∧ s.mill.range.any (fun e => decide (3 ≤ e.2)) then
    .next (({ s with mill := { s.mill with range := [] } } : State).criticalFault 0)
  else .next s

/-- IOUT_RECALIBRATE (R401): READ_IOUT of each supplying device is read, and the estimates are set anew. -/
def execIoutRecalibrate (powers : List (BitVec 16)) (s : State) : Res :=
  .next ((s.mill.on_.foldl (fun (s : State) d => s.pmbSend d 0x8C 0) s).showPower powers)

/-! The cap (R402). -/

/-- Measured power exceeds the cap in force; p_meas is in 10 mW. -/
def State.aboveCap (s : State) : Bool := decide (100 * s.capW s.mode < s.rd R.MILL_STATUS.p_meas 0)

/-- Domains that the cap loop had gated come on again, but for those that P1 or a Reeve holds off. -/
def State.ungate (s : State) : State :=
  let s := { s with mill := { s.mill with gated := false } }
  if s.pstate = 0 then
    iter (fun q (s : State) =>
      let off : Bool := match Tab.get none s.mill.switched q with | some (_, b) => b | none => false
      if s.quadOff q || off then s else s.wr R.QUAD_STATUS.pd_on q 1) 0 24 s
  else s

/-- CAP_LOOP (R402): while p_meas exceeds the cap the margin is lowered and idle units are gated as in P1. -/
def execCapLoop (s : State) : Res :=
  if !s.running then .next s
  else if s.aboveCap then
    let s := { s with mill := { s.mill with reduced := true, gated := true } }
    .next (iter (fun q (s : State) => s.quadFollow q) 0 24 s)
  else
    let s := if s.mill.gated then s.ungate else s
    .next { s with mill := { s.mill with reduced := false } }

/-- CAP_VIOLATION (R402): p_meas still exceeds the cap after 10 ms. -/
def execCapViolation (s : State) : Res :=
  .next (if s.running && s.aboveCap then s.millEvent R.MILL_EVENT.cap_viol 0 else s)

/-! Power states (R395, R396). -/

/-- MILL_WAKE_EXPIRY (R396): the wake timer expires in P3. -/
def execMillWakeExpiry (s : State) : Res :=
  .next (if s.startup = .inP3 ∧ s.on R.MILL_WAKE.wake_s 0 then s.leaveP3 else s)

/-- P3_ENTRY (R396): after its completion the steward commits a generation, and every rail but VDD_AON and VDDIO goes off. -/
def execP3Entry (s : State) : Res :=
  if s.running ∧ s.aon.goingP3 then
    let s := (s.openGen false).commitGen.debugNone
    .next (({ s with aon := { s.aon with goingP3 := false } } : State).slumber 0 .inP3)
  else .next s

/-- The POWER_STATE in progress, with its command. -/
def State.powerHead (s : State) : Option (Option CmdHead × Nat) :=
  s.changes.findSome? (fun e => match e.change, e.due with | .power p, .event => some (e.head, p) | _, _ => none)

/-- POWER_STATE_REACHED (R395, Table 14.11): the lanes have got as far as they have; a transition that is complete ends. -/
def execPowerStateReached (s : State) : Res :=
  match s.powerHead with
  | none => .next s
  | some (h, p) =>
    let s := s.powerLanes p
    if s.powerDone p then
      let s := { s with changes := s.changes.filter (fun (e : Pend) => match e.change, e.due with | .power _, .event => false | _, _ => true) }
      .next ((s.powerReached p).okOpt h 0)
    else .next s

/-! Thermal trip (R404). -/

/-- THERMAL_TRIP (R404): a comparator sees 115 °C: FAULT_N, the core in reset, the rails off; the part stays in P3 with cause THERMAL. -/
def execThermalTrip (s : State) : Res :=
  let s := (s.slumber 1 .heldThermal).latch R.MILL_EVENT.therm_trip 0
  .next (({ s with mill := { s.mill with tripped := true } } : State).assertFault .thermal)

/-- THERMAL_TRIP_RECOVERY (R404): T_max has been below 95 °C for 1 s: RESET_N and WAKE are honoured again. -/
def execThermalTripRecovery (s : State) : Res :=
  let s := { s with mill := { s.mill with tripped := false } }
  .next (if s.startup = .heldThermal then { s with startup := .inP3 } else s)

end Sys2Proof.Machine
end

