-- ==== Sys2Proof/Machine/BusWrite.lean ====
section
/-! DEFINITION. Full writes over the bus matrix, block by block of the address map (R7 to R9, R24, R247, R337, R345, R358). -/
namespace Sys2Proof.Machine

/-- Latches cleared where a 1 is written (R8). -/
def State.clearLatches (s : State) (a v : Nat) : State :=
  let m := match regRow a with | some r => r.mask .latch | none => 0
  s.setReg a (s.reg a &&& ~~~ BitVec.ofNat 32 (v &&& m))

/-- Bit `k` of a written value. -/
def wbit (v k : Nat) : Bool := bitField v k 1 == 1

/-! Once fields (R9). -/

/-- A write to a register of once fields: the first since power-on reset sets them; a later one is discarded, sets once_viol and counts. -/
def State.onceWrite (s : State) (m a v : Nat) : State :=
  if s.onceDone.contains a then (s.latch R.MTX_MSTAT_m.once_viol m).bump R.MTX_MCNT_m.once_viol_cnt m 1
  else
    let mask := match regRow a with | some r => r.mask .once | none => 0
    ({ s with onceDone := a :: s.onceDone } : State).setReg a ((s.reg a &&& ~~~ BitVec.ofNat 32 mask) ||| BitVec.ofNat 32 (v &&& mask))

/-! MTX. -/

/-- A write to MTX_MCFG_m: wdog from 16 on; qos of a Reeve is its own (R371). -/
def State.mcfgWrite (s : State) (m v : Nat) : State :=
  let s := if 16 ≤ bitField v 16 16 then s.wr R.MTX_MCFG_m.wdog m (bitField v 16 16) else s
  if 1 ≤ m ∧ m ≤ 4 then s else s.wr R.MTX_MCFG_m.qos m v

/-! HOST. -/

/-- Both indices of ring `x` at 0; what the event ring held is forgotten. -/
def State.zeroRing (s : State) (x : Nat) : State :=
  let s := (s.wr R.HOST_RING_DB_x.host_idx x 0).wr R.HOST_RING_DEV_x.dev_idx x 0
  if x = 4 then { s with evRing := [] } else s

/-- A write to HOST_RING_CFG_x (R345): lg_size while en is 0; en from 0 to 1 starts the ring with both indices at 0, and en at 0 stops
it. -/
def State.ringCfg (s : State) (x : Nat) (en : Bool) (lg : Nat) : State :=
  let was := s.on R.HOST_RING_CFG_x.en x
  let s := if !was ∧ 4 ≤ lg ∧ lg ≤ 12 then s.wr R.HOST_RING_CFG_x.lg_size x lg else s
  if en && !was then ((s.wr R.HOST_RING_CFG_x.en x 1).wr R.HOST_RING_CFG_x.active x 1).zeroRing x
  else if !en && was then (s.wr R.HOST_RING_CFG_x.en x 0).wr R.HOST_RING_CFG_x.active x 0
  else s

/-- A new host index of ring `x` is valid (R345). -/
def State.doorbellOk (s : State) (x v : Nat) : Bool :=
  let host := s.rd R.HOST_RING_DB_x.host_idx x
  let dev := s.rd R.HOST_RING_DEV_x.dev_idx x
  if x = 4 then decide ((v + 2 ^ 16 - host) % 2 ^ 16 ≤ (dev + 2 ^ 16 - host) % 2 ^ 16)
  else decide ((v + 2 ^ 16 - dev) % 2 ^ 16 ≤ 2 ^ s.ringLg x)

/-- A doorbell (R345): one that is not valid is discarded and sets ring_err, which is a port fault of class 15 (R352). A command ring's is
Reeve event 1 (Table 10.12); that of the event ring takes its entries away. -/
def State.doorbell (s : State) (x v : Nat) : State :=
  if !s.doorbellOk x v then (s.latch R.HOST_EVENT.ring_err 0).signal 15
  else
    let n := (v + 2 ^ 16 - s.rd R.HOST_RING_DB_x.host_idx x) % 2 ^ 16
    let s := s.wr R.HOST_RING_DB_x.host_idx x v
    if x ≤ 3 then s.reeveEvent 1 else if x = 4 then { s with evRing := s.evRing.drop n } else s

/-- A write to the MSI-X table (R342): a vector that is unmasked with its pending bit set sends its message. -/
def State.msixWrite (s : State) (off v : Nat) : State :=
  let k := off / 16
  let s := { s with msixTable := Tab.put (if off % 16 = 12 then 1 else 0) s.msixTable off (BitVec.ofNat 32 v) }
  if off % 16 = 12 ∧ v % 2 = 0 ∧ bitField s.msixPba k 1 = 1 then ({ s with msixPba := setBitField s.msixPba k 1 0 } : State).emit (.msix k) else s

/-- A write to a HOST register. -/
def State.hostWrite (s : State) (a v : Nat) : State :=
  if a = 0x2008 then s.clearLatches a v
  else if 0x3000 ≤ a ∧ a < 0x3400 then s.msixWrite (a - 0x3000) v
  else if 0x2100 ≤ a ∧ a < 0x21C0 then
    let x := (a - 0x2100) / 0x20
    (match a % 0x20 with
      | 0 => if s.on R.HOST_RING_CFG_x.en x then s else s.writeRw a v allBits
      | 4 => if s.on R.HOST_RING_CFG_x.en x then s else s.writeRw a v allBits
      | 8 => s.ringCfg x (wbit v 0) (bitField v 1 4)
      | 12 => s.doorbell x (v % 2 ^ 16)
      | _ => s)
  else s.writeRw a v allBits

/-! GATE, LANT and MILL. -/

/-- A write to a GATE register. -/
def State.gateRegWrite (s : State) (m a v : Nat) : State :=
  if a = 0x4004 then s.clearLatches a v
  else if a = 0x4008 then s.gateWrite m (bitField v 4 4) (bitField v 8 8) (bitField v 16 4) (wbit v 0)
  else if a = 0x400C then s.onceWrite m a v
  else if 0x4100 ≤ a ∧ a < 0x4200 then (if s.gateMaster m then s.setReg a (BitVec.ofNat 32 v) else s)
  else s

/-- A write to LANT_SEL: the unit, then its go fields. Whether a resumed thread has missed its slot is not recorded: it is free. -/
def State.selWrite (s : State) (v : Nat) : State :=
  let s := s.lantSelect (wbit v 9) (bitField v 0 9)
  let s := if wbit v 21 then s.selHalt else s
  let s := if wbit v 22 then s.selStep else s
  if wbit v 23 then
    let (f, s) := s.fresh 1
    s.selResume (f == 1)
  else s

/-- A write to a LANT register. A flush empties the trace; items are written whole, so none is cut (R366). -/
def State.lantWrite (s : State) (a v : Nat) : State :=
  if a = 0x8000 then
    let s := s.lantLevel (bitField v 0 2) (wbit v 3)
    let s := if wbit v 4 then s.debugNone else s
    if wbit v 5 then s.lantReset false else s
  else if a = 0x8010 then s.selWrite v
  else if a = 0x8028 then (if wbit v 0 then { s with trace := [] } else s)
  else if a = 0x800C ∨ a = 0x8024 then s.clearLatches a v
  else s.writeRw a v allBits

/-- A write to a MILL register. -/
def State.millWrite (s : State) (a v : Nat) : State :=
  if a = 0xC000 then (s.writeRw a v allBits).followThrottle
  else if a = 0xC008 then s.clearLatches a v
  else if 0xC200 ≤ a ∧ a < 0xC220 then
    let d := (a - 0xC200) / 4
    let s := if wbit v 21 then s.fencePmb d 5 else s
    if wbit v 22 then s.pmbReset d else s
  else s.writeRw a v allBits

/-! BELL, PAIR and TALLY. -/

/-- A write to a BELL register (R305): in the pair roles the rw fields are refused; go fields and latch clears are not. -/
def State.bellRegWrite (s : State) (m off v : Nat) : State :=
  if off = 0x008 ∨ s.role = 0 then s.bellWrite off v
  else if !hasRw (0x10000 + off) then s
  else
    let s := s.latch R.MTX_MSTAT_m.pair_wr_drop m
    if 0x300 ≤ off ∧ off < 0x340 ∧ off % 16 = 0 then
      let d := (off - 0x300) / 16
      let (f, s) := s.fresh 1
      let s := if wbit v 28 then s.fenceDpll d 3 (f == 1) else s
      (if wbit v 29 then s.dpllReset d else s).bellShow
    else s

/-- PAIR_CTRL written in SOLO (R320): TAKE is driven as solo_take says. -/
def State.pairCtrlWrite (s : State) (v : Nat) : State :=
  let s := s.writeRw 0x20000 v allBits
  s.wr R.PAIR_STATUS.take 0 (s.rd R.PAIR_CTRL.solo_take 0)

/-- A write to a PAIR register (R338). -/
def State.pairWrite (s : State) (m a v : Nat) : State :=
  if a = 0x20000 then s.pairGate m (·.pairCtrlWrite v)
  else if a = 0x20008 ∨ a = 0x2000C then s.clearLatches a v
  else s

/-- live_idx written: an index beyond the counters is kept out and sets live_idx_err (R191). -/
def State.liveIdx (s : State) (v : Nat) : State :=
  if bitField v 0 19 ≤ 267775 then s.wr R.TALLY_LIVE_IDX.live_idx 0 v else s.latch R.TALLY_EVENT.live_idx_err 0

/-- A write to a TALLY register. -/
def State.tallyWrite (s : State) (a v : Nat) : State :=
  if a = 0x40008 ∨ (0x40300 ≤ a ∧ a < 0x40480) then s.clearLatches a v
  else if a = 0x40010 then s.liveIdx v
  else if 0x40800 ≤ a ∧ a < 0x40A00 then
    (if a % 32 / 4 ≤ 3 then s.injWrite ((a - 0x40800) / 32) (a % 32 / 4) v else s)
  else s.writeRw a v allBits

/-! LANE, QUAD and WVR. -/

/-- The go fields of a lane's register, as a mask. -/
def laneGo (off : Nat) : Nat :=
  match off with
  | 0x028 => 2 ^ 8
  | 0x100 => 2 ^ 30
  | 0x124 => 1
  | 0x160 => 2 ^ 8
  | _ => 0

/-- A write to a register of lane `n` (R24, R48): in the pair roles its rw fields are refused; go fields and latch clears are not. Of
lane_reset and fence_req written together the reset is taken first. -/
def State.laneRegWrite (s : State) (m n off v : Nat) : State :=
  let a := 0x100000 + n * 0x1000 + off
  if off = 0 then
    let s := if s.laneState n = 4 ∧ (wbit v 0 || wbit v 1) then s else s.pairGate m (·.laneWrite n 0 v)
    let s := if wbit v 0 then s.laneReset m n else s
    if wbit v 1 then s.fenceLane n 5 else s
  else if off = 0x00C then s.laneWrite n off v
  else if s.role = 0 then s.laneWrite n off v
  else
    let s := if hasRw a then s.latch R.MTX_MSTAT_m.pair_wr_drop m else s
    let go := v &&& laneGo off
    if go = 0 then s else s.laneWrite n off (((s.reg a).toNat &&& rwMask a) ||| go)

/-- A write to a QUAD or WVR register of quad `q`. -/
def State.quadWrite (s : State) (m q off v : Nat) : State :=
  let a := 0x200000 + q * 0x10000 + off
  if off = 0 then s.pairGate m (fun s => (s.writeRw a v allBits).quadFollow q)
  else if off = 0x1000 then
    let s := if wbit v 0 then s.wvrReset m q else s
    if wbit v 1 then s.fenceWeaver q 4 else s
  else if 0x1040 ≤ off ∧ off < 0x1080 then
    let t := (off - 0x1040) / 4
    let s := if wbit v 22 then s.threadReset m q t else s
    if wbit v 21 then s.fenceThread q t 4 else s
  else if 0x1100 ≤ off ∧ off < 0x1150 then
    let f := (off - 0x1100) / 16
    (match off % 16 with
      | 0 => s.fifoWrite m q f v
      | 4 => s.clearLatches a v
      | 8 => if wbit v 0 then s.fifoFlushReq m q f else s
      | _ => s)
  else s.clearLatches a v

/-! GRN. -/

/-- A write to a GRN control register or a queue descriptor: rw fields take effect at the next multiframe boundary (R228, R229). -/
def State.grnWrite (s : State) (m a v : Nat) : State :=
  if a = 0x800008 then s.clearLatches a v
  else if 0x800100 ≤ a ∧ a < 0x800280 then
    let b := (a - 0x800100) / 4
    let s := if wbit v 25 then s.bankReset b else s
    if wbit v 24 then s.bankFenceReq b else s
  else if hasRw a then s.pairGate m (fun s => s.later none s.nextMultiframe (.regWrite a v allBits))
  else s

/-! Registers as a whole. -/

/-- A full write of `v` by master `m` to a register. -/
def State.regWriteAt (s : State) (m a v : Nat) : State :=
  if a < 0x1000 then s
  else if a < 0x1080 then (if a % 16 = 0 then s.mcfgWrite ((a - 0x1000) / 16) v else if a % 16 = 4 then s.clearLatches a v else s)
  else if a < 0x2000 then s
  else if a < 0x4000 then s.hostWrite a v
  else if a < 0x8000 then s.gateRegWrite m a v
  else if a < 0xC000 then s.lantWrite a v
  else if a < 0x10000 then s.millWrite a v
  else if a < 0x20000 then s.bellRegWrite m (a - 0x10000) v
  else if a < 0x2F000 then s.pairWrite m a v
  else if a < 0x30000 then s.clearLatches a v
  else if a < 0x40000 then
    let r := (a - 0x30000) / 0x4000
    (match a % 0x4000 with
      | 0 =>
        let s := if wbit v 0 then s.reeveReset r false else s
        if wbit v 1 then s.fenceReeve r 4 else s
      | 8 => s.clearLatches a v
      | _ => s)
  else if a < 0x90000 then s.tallyWrite a v
  else if 0x100000 ≤ a ∧ a < 0x160000 then s.laneRegWrite m ((a - 0x100000) / 0x1000) (a % 0x1000) v
  else if 0x200000 ≤ a ∧ a < 0x380000 then s.quadWrite m ((a - 0x200000) / 0x10000) (a % 0x10000) v
  else if 0x400000 ≤ a ∧ a < 0x900000 then s.grnWrite m a v
  else s

/-! Memories. -/

/-- A full write to a Weaver's memories (R247, R358): parameter words through `blockWrite`; anything else is discarded and sets
mem_wr_drop, or pair_wr_drop in the pair roles. The Lantern writes those of a TINKER target (R391). -/
def State.weaverWrite (s : State) (m a v : Nat) : State :=
  let q := (memUnit a).getD 0
  let off := (a - 0x1800000) % 0x20000
  let block := isWeaverData a && decide (0x10000 ≤ off ∧ off < 0x12000)
  let w := (off - 0x10000) / 4
  if m = 5 then
    (if block then { s with pblk := Tab.put 0 s.pblk (2048 * q + w) (BitVec.ofNat 32 v) } else s.setWord a (BitVec.ofNat 32 v))
  else if block then s.blockWrite m (4 * q + w / 512) (w / 128 % 4) (w % 128) v
  else if s.role ≠ 0 then s.latch R.MTX_MSTAT_m.pair_wr_drop m
  else s.latch R.MTX_MSTAT_m.mem_wr_drop m

/-- A full write to the descriptor area of the Ledger, by HOST or LANT in OPEN; every other write to the window is discarded (R337,
R382). -/
def State.ledgerWrite (s : State) (m a v : Nat) : State :=
  if isDescArea a ∧ (m = 0 ∨ m = 5) ∧ s.lifecycle = 1 then s.setWord a (BitVec.ofNat 32 v) else s

/-- A full write of `v` by master `m` to the 32-bit word at a mapped address, which the matrix has presented (R358). -/
def State.writeMapped (s : State) (m a v : Nat) : State :=
  if 0x90000 ≤ a ∧ a < 0xA0000 then
    (if m = 0 ∧ a = 0x90800 then s.setReg a (BitVec.ofNat 32 (v % 2 ^ 19)) else s)
  else if isRegAddr a then s.regWriteAt m a v
  else if 0xC00000 ≤ a ∧ a < 0x1000000 then s.ledgerWrite m a v
  else if isWeaverImem a || isWeaverData a then s.weaverWrite m a v
  else if isReeveImem a then (if m = 5 then s.setWord a (BitVec.ofNat 32 v) else s.latch R.MTX_MSTAT_m.mem_wr_drop m)
  else if isReeveData a then s.setWord a (BitVec.ofNat 32 v)
  else if 0x4000000 ≤ a then s.latch R.MTX_MSTAT_m.mem_wr_drop m
  else s

/-- Byte enables that name contiguous bytes. -/
def contiguous (be : Nat) : Bool := [1, 2, 4, 8, 3, 6, 12, 7, 14].contains be

/-- A write that the matrix has presented to a mapped address, judged by the Lantern's level, by fenced targets, and by its byte enables
(Table 13.15, R370, R391). The second value says that the target was fenced. -/
def State.writeAt (s : State) (m a be v : Nat) : Bool × State :=
  let w := a - a % 4
  if be = 0 then (false, s)
  else if m = 5 ∧ !s.lantMay w true then (false, s.denied)
  else if s.fencedTarget m w then (true, s.latch R.MTX_MSTAT_m.fenced_tgt m)
  else if 1 ≤ m ∧ m ≤ 4 ∧ a % 4 ≠ 0 then (false, s.latch R.MTX_MSTAT_m.access_align m)
  else if be = 15 then (false, s.writeMapped m w v)
  else if 0x90000 ≤ w ∧ w < 0xA0000 ∧ w ≠ 0x90800 ∧ (be = 3 ∨ be = 12) then (false, s)
  else if contiguous be then (false, s.latch R.MTX_MSTAT_m.access_size m)
  else (false, s.latch R.MTX_MSTAT_m.access_align m)

/-- Master `m` writes bytes of the word at `a`. -/
def State.busWrite (s : State) (m a be v : Nat) : State :=
  if !s.running || decide (5 < m) || s.masterFenced m || (m == 0 && !s.on R.HOST_STATUS.link_gen 0) then s
  else if be % 16 = 0 then s
  else if s.hung.any (fun h => h.m == m) then s.hang m a true
  else if unmapped a && m != 5 then s.hang m a true
  else (s.writeAt m a (be % 16) v).2

end Sys2Proof.Machine
end

