-- ==== Sys2Proof/Machine/Bus.lean ====
section
/-! DEFINITION. The host port, its rings and the bus matrix as commands (R9, R247, R272, R342 to R346, R352, R360, R362, R363). -/
namespace Sys2Proof.Machine

/-! The vendor-specific extended capability (R343). -/

/-- The part answers in configuration space: the link is trained. -/
def State.configUp (s : State) : Bool := s.running && s.on R.HOST_STATUS.link_gen 0

/-- CONFIG_UNFENCE_HOST (R343): a 1 is discarded while HOST is not fenced. -/
def execConfigUnfenceHost (s : State) : Res := .next (if s.configUp && s.masterFenced 0 then s.liftMaster 0 else s)

/-- The ring-engine reset (R343): every ring stops, with both indices at 0. -/
def State.ringReset (s : State) : State := iter (fun x (s : State) => (s.ringCfg x false (s.ringLg x)).zeroRing x) 0 6 s

/-- CONFIG_UNFENCE_DMA (R343): the ring engine is reset, then the fence is lifted. -/
def execConfigUnfenceDma (s : State) : Res := .next (if s.configUp && s.masterFenced 7 then s.ringReset.liftMaster 7 else s)

/-! Rings. -/

/-- RING_ENABLE (R345): master `m` writes HOST_RING_CFG_x with en at 1. -/
def execRingEnable (m : Fin 8) (x : Fin 6) (lg : BitVec 4) (s : State) : Res := .next (s.asMaster m (·.ringCfg x true lg.toNat))

/-- RING_DISABLE (R345): master `m` writes HOST_RING_CFG_x with en at 0. -/
def execRingDisable (m : Fin 8) (x : Fin 6) (lg : BitVec 4) (s : State) : Res := .next (s.asMaster m (·.ringCfg x false lg.toNat))

/-- DOORBELL_WRITE (R345): master `m` writes host_idx of ring `x`. -/
def execDoorbellWrite (m : Fin 8) (x : Fin 6) (idx : BitVec 16) (s : State) : Res := .next (s.asMaster m (·.doorbell x idx.toNat))

/-- The opcodes of Table 15.7. -/
def opcodes : List Nat :=
  [0x01, 0x02, 0x10, 0x11, 0x12, 0x20, 0x21, 0x22, 0x23, 0x30, 0x31, 0x40, 0x41, 0x42, 0x43, 0x50, 0x60, 0x61, 0x70, 0x71, 0x72, 0x73,
   0x80, 0x81, 0x82, 0x83, 0x90, 0xA0, 0xA1, 0xB0, 0xB1]

/-- The steward may take a descriptor of ring `x` (R346): fewer than 64 commands are in flight, the free entries of the event ring exceed
them, and an ordered one waits for every earlier command of its ring. -/
def State.mayTake (s : State) (x : Nat) (ordered : Bool) : Bool :=
  s.stewardActs && s.evOpen && s.on R.HOST_RING_CFG_x.en x && s.on R.HOST_RING_CFG_x.active x
    && s.rd R.HOST_RING_DEV_x.dev_idx x != s.rd R.HOST_RING_DB_x.host_idx x
    && decide (s.cmds.length < 64 ∧ s.cmds.length < s.evFree)
    && !(ordered && s.cmds.any (fun c => c.ring == x))

/-- COMMAND_FETCH (R346): the steward takes the next descriptor of ring `x`, whose bytes 0 to 7 are given; an unknown opcode or a reserved
bit in bytes 2 and 3 completes it with BAD_ARG and the offset of its byte. What an accepted command does is its own row. -/
def execCommandFetch (x : Fin 4) (opcode : BitVec 16) (flags rsv : BitVec 8) (tag : BitVec 32) (s : State) : Res :=
  if !s.mayTake x (flags.toNat % 2 == 1) then .next s
  else
    let s := s.devAdvance x
    let s := { s with cmds := s.cmds ++ [⟨x, tag.toNat, opcode.toNat⟩] }
    let h : CmdHead := ⟨x, tag, none⟩
    .next (if !opcodes.contains opcode.toNat then s.badArg h 0
      else if 2 ≤ flags.toNat then s.badArg h 2
      else if rsv ≠ 0 then s.badArg h 3
      else s)

/-- HOST_MEMORY_ERROR (R345): a read of host memory for ring `x` ends in an error: the ring stops, and the port fault is signalled
(R352). -/
def execHostMemoryError (x : Fin 6) (s : State) : Res :=
  if s.running && s.on R.HOST_RING_CFG_x.active x then
    .next (((s.wr R.HOST_RING_CFG_x.active x 0).latch R.HOST_EVENT.dma_err 0).signal 15)
  else .next s

/-- MSIX_MODERATION_TIMEOUT (R352): mod_us after the first entry not yet signalled, the vector's message is sent; with mod_us at 0 there is no
time limit. -/
def execMsixModerationTimeout (v : Fin 64) (s : State) : Res :=
  if s.running && s.on R.HOST_CTRL.mod_us 0 && decide (0 < Tab.get 0 s.msixCount v) then .next (s.sendMsix v) else .next s

/-! The matrix. -/

/-- MATRIX_WATCHDOG_FIRE (R360): the oldest transaction of master `m` has been presented for wdog × 256 cycles: the address is recorded, hang
is set, and the master is fenced, which abandons its transactions. -/
def execMatrixWatchdogFire (m : Fin 8) (s : State) : Res :=
  match s.hung.find? (fun h => h.m == m.val) with
  | none => .next s
  | some h => .next (((s.wr R.MTX_MHANG_m.addr m h.addr).latch R.MTX_MSTAT_m.hang m).fenceMaster m 1)

/-- REGISTER_WRITE (R362): master `m` writes the bytes that `be` enables of the word at `a`. -/
def execRegisterWrite (m : Fin 8) (a : BitVec 32) (be : BitVec 4) (v : BitVec 32) (s : State) : Res :=
  .next (s.busWrite m a.toNat be.toNat v.toNat)

/-- MULTIWORD_CAPTURE_READ (R363): master `m` reads the word at `a` in full; a read of word 0 of a multi-word value captures it all. A read of
a later word gives what was captured, and a read of any other address what stands there. -/
def execMultiwordCaptureRead (m : Fin 8) (a : BitVec 32) (s : State) : Res := .next (s.busRead m (a.toNat - a.toNat % 4))

/-- ONCE_FIELD_WRITE (R9): master `m` writes GATE_LOCK, the one register of once fields. -/
def execOnceFieldWrite (m : Fin 8) (v : BitVec 3) (s : State) : Res := .next (s.asAny m (·.onceWrite m 0x400C v.toNat))

/-- PARAM_WORD_WRITE (R247): master `m` writes a parameter word through BAR2. -/
def execParamWordWrite (m : Fin 8) (c : Fin 96) (slot : Fin 4) (w : Fin 128) (v : BitVec 32) (s : State) : Res :=
  .next (s.busWrite m (0x1810000 + c / 4 * 0x20000 + (4 * (c % 4) + slot) * 0x200 + 4 * w) 15 v.toNat)

/-- PARAM_ERR_CLEAR (R247): master `m` writes header word 3. -/
def execParamErrClear (m : Fin 8) (c : Fin 96) (slot : Fin 4) (v : BitVec 32) (s : State) : Res :=
  .next (s.busWrite m (0x1810000 + c / 4 * 0x20000 + (4 * (c % 4) + slot) * 0x200 + 12) 15 v.toNat)

/-! The bus accesses of Reeves (R272). -/

/-- The accesses of a stalled Reeve: `n` words from `a` on, in order; data read so far, whether a target was fenced, and the state; `none` when
one hangs. -/
def State.reeveBus (s : State) (m a : Nat) (store : Option Nat) : Nat → Nat × Bool × State × Bool
  | 0 => (0, false, s, false)
  | n + 1 =>
    if a % 4 ≠ 0 then (0, false, s.latch R.MTX_MSTAT_m.access_align m, false)
    else if unmapped a then (0, false, s.hang m a store.isSome, true)
    else
      let (v, f, s) := match store with
        | some d => let (f, s) := s.writeAt m a 15 (d % 2 ^ 32); (0, f, s)
        | none => s.readAt m a true
      let (v', f', s, h) := State.reeveBus s m ((a + 4) % 2 ^ 32) (store.map (· / 2 ^ 32)) n
      (v + 2 ^ 32 * v', f || f', s, h)

/-- REEVE_STALL_END (R272): the transaction of a stalled Reeve completes, `cycles` after it began; one to an unmapped address hangs instead,
and its stall ends when the watchdog abandons it. -/
def execReeveStallEnd (r : Fin 4) (cycles : BitVec 16) (s : State) : Res :=
  let x := s.eng (384 + r.val)
  match x.stall with
  | some (.bus rd a data double) =>
    if !s.running || s.reeveFenced r || s.hung.any (fun h => h.m == 1 + r.val) then .next s
    else
      let (v, f, s, hangs) := s.reeveBus (1 + r) a (if rd.isSome then none else some data) (if double then 2 else 1)
      if hangs then .next s else .next (s.endStall r cycles.toNat rd v (2 * bit f))
  | _ => .next s

end Sys2Proof.Machine
end

