-- ==== Sys2Proof/Machine/Restore.lean ====
section
/-! DEFINITION. Control state restored from the Ledger (R336). -/
namespace Sys2Proof.Machine

/-- A table put together again from its entries. -/
def Tab.rebuild {α : Type} [DecidableEq α] (d : Nat → α) (t : Tab α) : Tab α := t.foldl (fun a e => Tab.put (d e.1) a e.1 e.2) []

/-- Every control register as a generation holds it. -/
def State.loadRegs (s : State) (c : Ctl) : State :=
  let as := ((s.regs.filter (fun e => ctlMask e.1 != 0)).map (·.1) ++ c.regs.map (·.1)).eraseDups
  as.foldl (fun (s : State) a => s.loadReg a (match c.regs.find? (fun e => e.1 == a) with | some e => e.2 | none => regReset a)) s

/-- The programs present taken away, and those of a generation attached in their order. -/
def State.loadProgs (s : State) (c : Ctl) : State :=
  let s := (span 0 96).foldl (fun (s : State) k => (span 0 4).foldl (fun (s : State) slot => s.detachNow k slot) s) s
  let l := c.progs.filterMap (fun e => e.2.map (fun p => (e.1, p)))
  let s := (span 0 c.progNext).foldl (fun (s : State) o =>
    match l.find? (fun e => e.2.order == o && decide (e.1 < 384)) with
    | some (i, p) => s.attachNow (i / 4) (i % 4) p
    | none => s) s
  { s with pblk := Tab.rebuild (fun _ => 0) c.pblk }

/-- Calendars, with the copies in force and their generations. -/
def State.loadCals (s : State) (c : Ctl) : State :=
  let s := { s with cals := Tab.rebuild (fun _ => 0) c.cals }
  iter (fun k (s : State) =>
    let (tx, rx, a, b) := match c.copies.find? (fun e => e.1 == k) with | some e => e.2 | none => (0, 0, 0, 0)
    (s.setChanX k { s.chanX k with txSel := tx, rxSel := rx, genA := a, genB := b, switchAt := none, switchAnn := 0 }).syncCal k) 0 96 s

/-- Lanes as a generation has them: a lane that runs with the same settings is left, every other one starts CAL or goes OFF, and one that
was QUIET or DORMANT goes there once it is ACTIVE. -/
def State.loadLanes (s : State) (c : Ctl) : State :=
  let s := (span 0 96).foldl (fun (s : State) n =>
    if s.laneState n = 5 ∨ s.chan n ≠ n then s
    else match c.lanes.find? (fun x => x.lane == n) with
      | some x => s.doLaneRate n x.width x.role x.pam4 x.rate
      | none => s.doLaneRate n 1 false false 0) s
  (c.lanes.filter (fun x => x.state == 3 || x.state == 4)).foldl (fun (s : State) x =>
    s.later none (.lane x.lane) (.laneSleep x.lane (x.state == 4))) s

/-- Control state loaded (R331). -/
def State.loadCtl (s : State) (c : Ctl) : State :=
  let s := (s.loadRegs c).doMode c.mode
  let s := ((s.loadLanes c).loadProgs c).loadCals c
  let s := { s with flows := Tab.rebuild (fun _ => none) c.flows, flowBad := [], groups := Tab.rebuild (fun _ => Group.init) c.groups }
  let kept := s.changes.filter (fun (e : Pend) => match e.due with | .lane _ => true | _ => false)
  let s := { s with changes := kept ++ c.changes.map (fun (e : Pend) => { e with head := none }) }
  (s.groupsNow.foldl (fun (s : State) g => s.judgeGroup g) s).degradedRecompute

/-- Journal entries from number `q` on, in order, until one is missing or does not read well. -/
def entriesFrom (l : List Entry) (stop : Option Nat) : Nat → Nat → List Entry
  | _, 0 => []
  | q, fuel + 1 =>
    if stop = some q then []
    else match l.find? (fun e => e.seq == q) with
      | some e => e :: entriesFrom l stop (q + 1) fuel
      | none => []

/-- The change of a journal entry. -/
def Entry.spelt (e : Entry) : Change := e.change.getD (Config.entryChange e.seq)

/-- Control state restored (R336): the newest committed generation whose pages match their table, then the journal; `false` and
restore_fail when there is none. -/
def State.restore (s : State) (r : LedgRead) : State × Bool :=
  let s := if r.uncorrected then s.latch R.LEDG_EVENT.ledg_ue 0 else s
  let s := if r.corrected then s.latch R.LEDG_EVENT.ledg_ce 0 else s
  let fit := [(s.ledg.slot0, 0), (s.ledg.slot1, 1)].filterMap (fun e =>
    match e.1 with | some g => if bitField r.bad.toNat e.2 1 = 1 then none else some g | none => none)
  let best := match fit with
    | [a, b] => some (if b.num ≤ a.num then a else b)
    | [a] => some a
    | _ => none
  match best with
  | none => (s.latch R.LEDG_EVENT.restore_fail 0, false)
  | some g =>
    let s := s.loadCtl (g.ctl.getD (Config.genCtl g.num))
    let es := entriesFrom s.ledg.journal (r.stop.map (·.toNat)) g.journalSeq (s.ledg.journal.length + 1)
    (es.foldl (fun (s : State) e => s.later none (.multiframe e.frame false) e.spelt) s, true)

end Sys2Proof.Machine
end

