-- ==== Sys2Proof/Machine/TwinOps.lean ====
section
/-! DEFINITION. The twin unit's shared operations: TAKE and roles, catch-up, what a takeover does (R317 to R329). -/
namespace Sys2Proof.Machine

/-- The role and the level of TAKE. -/
def State.setPairRole (s : State) (role : Nat) (take : Bool) : State :=
  (s.wr R.PAIR_STATUS.role 0 role).wr R.PAIR_STATUS.take 0 (bit take)

/-- A fault of a frame lies within two frames of now (R324). -/
def State.recent (s : State) : Option (Nat × Bool) → Option Bool
  | some (f, fence) => if s.frame ≤ f + 2 then some fence else none
  | none => none

/-- CATCHUP entered (R327): a standby that holds the link and DPLL3 lock skips stages 1 to 3. -/
def State.enterCatchup (s : State) : State :=
  let s := s.dropPlanned
  let skip := s.on R.PAIR_STATUS.link_up 0 && s.on R.PAIR_STATUS.dpll3_locked 0
  let s := (s.setPairRole 3 false).wr R.PAIR_STATUS.catch_stage 0 (if skip then 4 else 1)
  let s := (s.wr R.PAIR_STATUS.catch_retry 0 0).wr R.PAIR_STATUS.catch_fail 0 0
  { s with pair := { s.pair with trigger := 0, claim := .none, claimed := false, matched := none, twinRole := 1, j := none, lists := [],
                                 resync := [], resyncOwn := [], paused := [], window := false } }

/-- A stage of catch-up fails with a cause of Table 12.10: CATCHUP restarts, and gives up when the third restart has failed (R327). -/
def State.failStage (s : State) (cause : Nat) : State :=
  let n := s.rd R.PAIR_STATUS.catch_stage 0
  let k := s.rd R.PAIR_STATUS.catch_retry 0
  let s := { s with pair := { s.pair with j := none, lists := [], resync := [], resyncOwn := [], paused := [], window := false } }
  if 3 ≤ k then
    ((s.wr R.PAIR_STATUS.catch_fail 0 cause).wr R.PAIR_STATUS.catch_stage 0 0).pairEvent R.PAIR_EVENT.catch_fail
  else
    let from5 := decide (5 ≤ n) && s.on R.PAIR_STATUS.link_up 0 && s.on R.PAIR_STATUS.dpll3_locked 0
    let s := { s with pair := { s.pair with j := if from5 then some (boundaryFrom (s.frame + 1) false) else none } }
    (s.wr R.PAIR_STATUS.catch_retry 0 (k + 1)).wr R.PAIR_STATUS.catch_stage 0 (if from5 then 5 else 1)

/-- This part yields (R320): TAKE goes low in hardware, and the role is that of Table 12.6: SOLO after a fence, CATCHUP after another
fault of its own, STANDBY after a planned takeover, and SOLO when the other side had taken it for lost. -/
def State.yieldTake (s : State) : State :=
  let s := (s.latch R.PAIR_LINK.yielded 0).report 4 16 0 (s.reg 0x20004).toNat
  if s.role = 2 then s.wr R.PAIR_STATUS.take 0 0
  else if s.role = 1 ∧ s.pair.trigger = 2 then s.enterCatchup
  else s.toSolo false

/-- The standby has decided to take over and claims at the next frame boundary (R325). -/
def State.decideClaim (s : State) (c : Claim) : State := { s with pair := { s.pair with claim := c } }

/-- The active is lost (row 5 of Table 12.6): a standby in STANDBY takes over, one in CATCHUP when takeover_from_catchup is 1 (R325). -/
def State.activeLost (s : State) : State :=
  if s.role = 2 then s.decideClaim .solo
  else if s.role = 3 ∧ s.on R.PAIR_CTRL.takeover_from_catchup 0 then s.decideClaim .catchup
  else s

/-- A takeover made (Table 12.6, R325). -/
def State.takeOver (s : State) (role : Nat) : State :=
  let s := if role = 0 then s.toSolo true else s.setPairRole role true
  let s := (s.bump R.PAIR_STATUS.takeovers 0 1).pairEvent R.PAIR_EVENT.takeover
  let s := { s with pair := { s.pair with claim := .none, claimed := true } }
  if role = 0 then s.pairEvent R.PAIR_EVENT.standby_alarm else s

/-- A message of the twin link arrives (Table 10.12). -/
def State.twinMessage (s : State) (f : State → State) : State := f (s.reeveEvent 3)

/-- Word `w` of the resync words of thread `t` of Weaver `q` (R329). -/
def resyncAt (q t w : Nat) : Nat := 0x1800000 + q * 0x20000 + t * 0x1000 + 8 * w

/-- Every resync word of this part, by 64 × (16 q + t) + w. -/
def State.resyncNow (s : State) : Tab Nat :=
  (span 0 24576).foldr (fun k t => let v := s.bytes (resyncAt (k / 1024) (k / 64 % 16) (k % 64)) 8; if v = 0 then t else (k, v) :: t) []

/-- The resync words set at K (R329). -/
def State.applyResync (s : State) : State :=
  let ks := ((s.pair.resync.map (·.1)) ++ s.pair.resyncOwn.map (·.1)).eraseDups.filter (fun k => decide (k < 24576))
  ks.foldl (fun (s : State) k =>
    let a := resyncAt (k / 1024) (k / 64 % 16) (k % 64)
    s.setBytes a 8 ((s.bytes a 8 + Tab.get 0 s.pair.resync k % 2 ^ 64 + 2 ^ 64 - Tab.get 0 s.pair.resyncOwn k % 2 ^ 64) % 2 ^ 64)) s

/-- A packet of the list of its queue: its place in it. -/
def State.listed (s : State) (p : Packet) : Option Nat :=
  match s.pair.lists.find? (fun e => e.1 == p.queue) with
  | some (_, ids) => ids.findIdx? (fun x => x == (p.channel, p.arrival))
  | none => none

/-- Every packet of the lists is here (R328). -/
def State.listsMet (s : State) : Bool :=
  s.pair.lists.all (fun e => e.2.all (fun x => s.pkts.any (fun p => p.queue == e.1 && p.channel == x.1 && p.arrival == x.2)))

/-- The queues aligned at K (R328): packets absent from the lists and older than them are discarded, the listed ones ordered as listed,
and those of the window follow. -/
def State.alignQueues (s : State) : State :=
  let gone := s.pkts.filter (fun p => decide (p.id < s.pair.listAt) && (s.listed p).isNone)
  let s := gone.foldl (fun (s : State) p => s.freePkt p) s
  let base := s.joinNext
  let order := fun (p : Packet) => match s.listed p with | some i => base + 1 + i | none => base + 1 + s.pkts.length + p.order
  let pkts := s.pkts.map (fun (p : Packet) => { p with order := order p })
  let s := { s with pkts := pkts, joinNext := base + base + 2 * pkts.length + 1 }
  ((pkts.map (·.queue)).eraseDups).foldl (fun (s : State) q => s.showHead q) s

end Sys2Proof.Machine
end

