-- ==== Sys2Proof/Machine/CmdDevice.lean ====
section
/-! DEFINITION. Commands on the device, its mode, its power state and the pair (R326, R332, R394, R395, R416, Table 15.7). -/
namespace Sys2Proof.Machine

/-- NOP: completes at once. -/
def execNop (h : CmdHead) (s : State) : Res := .next (s.judge h (s.common h false false) (fun (s : State) => s.ok h 0))

/-- The result of DEVICE_QUERY (Table 15.7), as detail[63:16]. -/
def State.queryResult (s : State) : Nat :=
  s.mode.num + 2 ^ 4 * s.pstate + 2 ^ 8 * s.role + 2 ^ 12 * s.lifecycle + 2 ^ 16 * s.rd R.LANT_STATUS.level 0 + 2 ^ 18 * bit s.modePending

/-- DEVICE_QUERY: completes at once with mode, power state, role, lifecycle, debug level and whether a MODE_SET is pending. -/
def execDeviceQuery (h : CmdHead) (s : State) : Res :=
  .next (s.judge h (s.common h false false) (fun (s : State) => s.ok h s.queryResult))

/-- MODE_SET (R415, R416): one that names the present mode completes at once, and the boundary in its result, which the spec gives only for
a change, is free; any other is scheduled for the first boundary at least 100 µs ahead, in subframe 0 when either mode is SUNDIAL. -/
def execModeSet (h : CmdHead) (mode : BitVec 8) (s : State) : Res :=
  match Mode.ofNum mode.toNat with
  | some m =>
    if m = s.mode then
      .next (s.judge h (s.common h true true) (fun (s : State) => let (f, s) := s.fresh 14; s.ok h f))
    else
      .next (s.judge h (s.common h true true ++ (s.ahead (s.modeDue m)).modeChecks mode.toNat)
        (fun (s : State) => s.sched (some h) true (s.modeDue m) (.modeSet m)))
  | none => .next (s.judge h (s.common h true true ++ [(true, .badArg, 8)]) id)

/-- POWER_STATE (R395, Table 14.11): the present state completes at once; a change between P0 and P1 waits for the next multiframe boundary,
and is judged against the state there (R418); any other begins at acceptance. -/
def execPowerState (h : CmdHead) (state : BitVec 8) (s : State) : Res :=
  let p := state.toNat
  if p = s.pstate then .next (s.judge h (s.common h false false) (fun (s : State) => s.ok h 0))
  else if p ≤ 1 ∧ s.pstate ≤ 1 then
    .next (s.judge h (s.common h false false ++ s.powerChecks p ++ (s.ahead s.nextMultiframe).changeChecks (.power p))
      (fun (s : State) => s.sched (some h) false s.nextMultiframe (.power p)))
  else .next (s.judge h (s.common h false false ++ s.powerChecks p) (fun (s : State) => s.doPower (some h) p))

/-! The pair. -/

/-- A part that gave up catching up: in CATCHUP with no stage running (R327). -/
def State.gaveUp (s : State) : Bool := s.role == 3 && s.rd R.PAIR_STATUS.catch_stage 0 == 0

/-- The checks of PAIR_JOIN (R326, R402, R422): SOLO in HARVEST, ERRAND or SUNDIAL, solo_take agreeing with the role, no Reeve with firmware
of its own, power for the twin lanes; a part that gave up catching up may join as standby again. -/
def State.joinChecks (s : State) (role : Nat) : List Check :=
  [(!(role == 1 || role == 2), .badArg, 8),
   (!(s.role == 0 || (s.gaveUp && role == 2)), .illegalState, 0xFF),
   (!(s.mode == .harvest || s.mode == .errand || s.mode == .sundial), .illegalState, 0xFF),
   (s.role == 0 && s.rd R.PAIR_CTRL.solo_take 0 != bit (role == 1), .illegalState, 0xFF),
   ((upTo id 4).any (fun r => (s.eng (384 + r)).own), .illegalState, 0xFF),
   (s.role == 0 && !s.fitsCap (s.padm + 8 * 850000), .illegalState, 0xFF),
   (s.pair.join.isSome, .busy, 0xFF)]

/-- PAIR_JOIN (R326): accepted, and completed when the pair forms, or after 10 s. -/
def execPairJoin (h : CmdHead) (role : BitVec 8) (s : State) : Res :=
  .next (s.judge h (s.common h false false ++ s.joinChecks role.toNat)
    (fun (s : State) => { s with pair := { s.pair with join := some (h, role.toNat) } }))

/-- PAIR_LEAVE (R326): at the next multiframe boundary. -/
def execPairLeave (h : CmdHead) (s : State) : Res := .next (s.judgeChange h false false s.nextMultiframe [] .pairLeave)

/-- The checks of PAIR_TAKE (R326): only the active, while the standby is in STANDBY. -/
def State.takeChecks (s : State) : List Check :=
  [(!(s.role == 1 && s.pair.twinRole == 2), .illegalState, 0xFF), (s.pair.planned.isSome, .busy, 0xFF)]

/-- PAIR_TAKE (Table 12.7): the switch frame lies 20 µs after the next even frame boundary, and is sent to the standby. -/
def execPairTake (h : CmdHead) (s : State) : Res :=
  .next (s.judge h (s.common h false false ++ s.takeChecks) (fun (s : State) =>
    let f := s.frame + s.frame % 2 + 8
    ({ s with pair := { s.pair with planned := some (f, h) } } : State).emit (.twinTake f)))

/-- CHECKPOINT (R326, R332): in SOLO or the active a generation is started at once; the command completes at its commit. -/
def execCheckpoint (h : CmdHead) (s : State) : Res :=
  .next (s.judge h (s.common h false false ++ [(decide (2 ≤ s.role), .illegalState, 0xFF), (s.ledg.open_.isSome, .busy, 0xFF)])
    (fun (s : State) =>
      let s := s.openGen false
      s.setLedg { s.ledg with waiting := some h }))

end Sys2Proof.Machine
end

