-- ==== Sys2Proof/Machine/CmdLane.lean ====
section
/-! DEFINITION. Lane commands (R33, R34, R420, Table 15.7). -/
namespace Sys2Proof.Machine

/-- LANE_RATE (R33, R34): a channel's rate, width, role and modulation, or the channel disabled. -/
def execLaneRate (h : CmdHead) (lane : BitVec 16) (width : BitVec 8) (role pam4 : Bool) (rate : BitVec 64) (s : State) : Res :=
  .next (s.judgeLane h lane.toNat (.laneRate lane.toNat width.toNat role pam4 rate.toNat))

/-- LANE_SLEEP (R34): a channel's lanes to QUIET, or to DORMANT. -/
def execLaneSleep (h : CmdHead) (lane : BitVec 16) (target : BitVec 8) (s : State) : Res :=
  if 1 < target.toNat then
    .next (s.judge h (s.common h true true ++ s.laneSleepChecks lane.toNat true ++ [(true, .badArg, 10)]) id)
  else .next (s.judgeLane h lane.toNat (.laneSleep lane.toNat (target == 1)))

/-- LANE_WAKE (R34): a channel's lanes to ACTIVE. -/
def execLaneWake (h : CmdHead) (lane : BitVec 16) (s : State) : Res := .next (s.judgeLane h lane.toNat (.laneWake lane.toNat))

end Sys2Proof.Machine
end

