-- ==== Sys2Proof/Machine/CmdNet.lean ====
section
/-! DEFINITION. Commands on calendars, queues, the Granary's banks and protection groups (R165, R166, R169, R222 to R226, R315,
Table 15.7). -/
namespace Sys2Proof.Machine

/-! Calendars. -/

/-- The checks of an image's place in host memory, and its sections when it has a whole number of them (R165, R419). -/
def imageChecks (addr len : Nat) (secs : Option (List CalSec)) : List Check :=
  [(addr % 8 != 0, .badArg, 16), (len % 4 != 0, .badArg, 24), (secs.isNone, .badArg, 16)]

/-- CALENDAR_STAGE, stage (R166): the image's copies take their entries at the boundary of R25. -/
def execCalendarStageWrite (h : CmdHead) (addr : BitVec 64) (len : BitVec 32) (img : List (BitVec 32)) (s : State) : Res :=
  let secs := parseCal img
  .next (s.judgeChange h true true s.rateBoundary (imageChecks addr.toNat len.toNat secs) (.calStage (secs.getD [])))

/-- The places of the sections' entries in an image that starts at `a`: address and entries of the copies named. -/
def State.calReads (s : State) : Nat → List CalSec → List (Nat × List Nat)
  | _, [] => []
  | a, x :: t =>
    (a + 4, (upTo (fun i => leBytes 4 (s.cal x.chan x.dir x.copy i)) x.count).flatten) :: State.calReads s (a + 4 + 4 * x.count) t

/-- CALENDAR_STAGE, read (R165): the entries of the copies named are written into the image in host memory, after their section headers. -/
def execCalendarStageRead (h : CmdHead) (addr : BitVec 64) (len : BitVec 32) (img : List (BitVec 32)) (s : State) : Res :=
  let secs := parseCal img
  .next (s.judge h (s.common h false true ++ imageChecks addr.toNat len.toNat secs
      ++ [((secs.getD []).any (fun x => s.secBad x false), .badArg, 16)])
    (fun (s : State) => ((s.calReads (addr.toNat + 8) (secs.getD [])).foldl (fun (s : State) e => s.emit (.hostWrite e.1 e.2)) s).ok h 0))

/-- A TX calendar switch accepted: journalled, scheduled, and completed with the switch frame (R169). -/
def State.acceptSwitch (s : State) (h : CmdHead) (chans : List Nat) : State :=
  let at_ := s.switchFrame chans
  ((s.append (boundaryFrom (s.frame + 1) false) (some (.calSwitch chans at_))).doSwitch chans at_).ok h (boundaryResult at_)

/-- CALENDAR_COMMIT (R169, R170): judged against the state that the calendars staged before leave. -/
def execCalendarCommit (h : CmdHead) (mask : BitVec 96) (s : State) : Res :=
  let chans := maskList mask.toNat 96
  .next (s.judge h (s.common h true true ++ (s.ahead s.rateBoundary).commitChecks chans) (fun (s : State) => s.acceptSwitch h chans))

/-! Queues and trunks. -/

/-- QUEUE_CREATE, queue (R126, R222). -/
def execQueueCreateQueue (h : CmdHead) (q egress : BitVec 16) (cls : BitVec 3) (express : Bool) (latePol : BitVec 2) (dlSrc ethEgress keyed : Bool)
    (budget : BitVec 20) (lateTol : BitVec 12) (minCells maxCells : BitVec 32) (key : BitVec 64) (s : State) : Res :=
  let a : QueueArgs := { egress := egress.toNat, cls := cls.toNat, express := express, latePol := latePol.toNat, dlSrc := dlSrc,
                         kind := bit ethEgress, budget := budget.toNat, lateTol := lateTol.toNat, minCells := minCells.toNat,
                         maxCells := maxCells.toNat, key := if keyed then some key.toNat else none }
  .next (s.judgeChange h true true s.nextMultiframe [] (.queueCreate q.toNat a))

/-- QUEUE_CREATE, trunk (R222). -/
def execQueueCreateTrunk (h : CmdHead) (t : BitVec 16) (s : State) : Res :=
  .next (s.judgeChange h true true s.nextMultiframe [] (.trunkCreate t.toNat))

/-- QUEUE_CREATE, modify (R222): express, late policy, deadline source, budget and tolerance of a queue. -/
def execQueueCreateModify (h : CmdHead) (q : BitVec 16) (express : Bool) (latePol : BitVec 2) (dlSrc : Bool) (budget : BitVec 20)
    (lateTol : BitVec 12) (s : State) : Res :=
  let a : QueueArgs := { egress := 0, cls := 0, express := express, latePol := latePol.toNat, dlSrc := dlSrc, kind := 0,
                         budget := budget.toNat, lateTol := lateTol.toNat, minCells := 0, maxCells := 0, key := none }
  .next (s.judgeChange h true true s.nextMultiframe [] (.queueModify q.toNat a))

/-- QUEUE_DELETE, queue (R222). -/
def execQueueDeleteQueue (h : CmdHead) (q : BitVec 16) (s : State) : Res :=
  .next (s.judgeChange h true true s.nextMultiframe [] (.queueDelete q.toNat))

/-- QUEUE_DELETE, trunk (R222). -/
def execQueueDeleteTrunk (h : CmdHead) (t : BitVec 16) (s : State) : Res :=
  .next (s.judgeChange h true true s.nextMultiframe [] (.trunkDelete t.toNat))

/-- QUEUE_FLUSH (R223): its flush point is that of the next multiframe boundary, where FLUSH_POINT completes it. -/
def execQueueFlush (h : CmdHead) (q : BitVec 16) (s : State) : Res :=
  .next (s.judgeChange h true true s.nextMultiframe [] (.queueFlush q.toNat))

/-! Banks. -/

/-- A scan started: each named bank in LIVE or DRAIN starts its pass anew (R226). -/
def State.startScan (s : State) (banks : List Nat) : State :=
  (banks.foldl (fun (s : State) b =>
    if s.bankState b ≤ 1 then s.setBank b { s.bank b with named := true, scanning := true, scanRows := 0, scrubRow := 0 } else s) s).wr
    R.GRN_STATUS.scan_busy 0 1

/-- REPAIR_SCAN, scan (R226): completes at acceptance. -/
def execRepairScanScan (h : CmdHead) (mask : BitVec 96) (s : State) : Res :=
  .next (s.judge h (s.common h false true ++ [(s.on R.GRN_STATUS.scan_busy 0, .busy, 0xFF)])
    (fun (s : State) => (s.startScan (maskList mask.toNat 96)).ok h 0))

/-- A retest started on every named bank (R226). -/
def State.startRetest (s : State) (h : CmdHead) (banks : List Nat) : State :=
  if banks.isEmpty then s.ok h 0
  else ((banks.foldl (fun (s : State) b => s.setBank b { s.bank b with march := 2 }) s).wr R.GRN_STATUS.scan_busy 0 1).later (some h) .event .retest

/-- REPAIR_SCAN, retest (R226): in MUSTER, on banks that are RETIRED. -/
def execRepairScanRetest (h : CmdHead) (mask : BitVec 96) (s : State) : Res :=
  let banks := maskList mask.toNat 96
  .next (s.judge h (s.common h false true ++ [(s.mode != .muster, .illegalState, 0xFF),
      (banks.any (fun b => s.bankState b != 3), .illegalState, 0xFF), (s.on R.GRN_STATUS.scan_busy 0, .busy, 0xFF)])
    (fun (s : State) => s.startRetest h banks))

/-! Protection groups. -/

/-- The boundary of a PROT_REQUEST: the next frame in SOLO, the next multiframe in the pair roles (R315). -/
def State.protDue (s : State) : Due := if s.role = 0 then .frame else s.nextMultiframe

/-- PROT_REQUEST, CONFIG (R315, Table 12.3): a field that `given` does not name takes its default. -/
def execProtRequestConfig (h : CmdHead) (g trib : BitVec 16) (pChan : BitVec 8) (given : BitVec 5) (holdOff wtr skew : BitVec 8)
    (revert bidir : Bool) (s : State) : Res :=
  let has := fun (k : Nat) => bitField given.toNat k 1 == 1
  let a : ProtArgs := { trib := trib.toNat, pChan := pChan.toNat, holdOff := if has 0 then holdOff.toNat else 0,
                        wtr := if has 1 then wtr.toNat else 30, skew := if has 4 then skew.toNat else 50,
                        revert := if has 2 then revert else true, bidir := if has 3 then bidir else false }
  .next (s.judgeChange h true true s.protDue [] (.protConfig g.toNat a))

/-- PROT_REQUEST, LO. -/
def execProtRequestLo (h : CmdHead) (g : BitVec 16) (s : State) : Res := .next (s.judgeChange h true true s.protDue [] (.protReq 1 g.toNat))

/-- PROT_REQUEST, FS. -/
def execProtRequestFs (h : CmdHead) (g : BitVec 16) (s : State) : Res := .next (s.judgeChange h true true s.protDue [] (.protReq 2 g.toNat))

/-- PROT_REQUEST, MS_W. -/
def execProtRequestMsW (h : CmdHead) (g : BitVec 16) (s : State) : Res := .next (s.judgeChange h true true s.protDue [] (.protReq 3 g.toNat))

/-- PROT_REQUEST, MS_X. -/
def execProtRequestMsX (h : CmdHead) (g : BitVec 16) (s : State) : Res := .next (s.judgeChange h true true s.protDue [] (.protReq 4 g.toNat))

/-- PROT_REQUEST, CLEAR. -/
def execProtRequestClear (h : CmdHead) (g : BitVec 16) (s : State) : Res := .next (s.judgeChange h true true s.protDue [] (.protReq 5 g.toNat))

/-- PROT_REQUEST, DELETE: at a multiframe boundary. -/
def execProtRequestDelete (h : CmdHead) (g : BitVec 16) (s : State) : Res :=
  .next (s.judgeChange h true true s.nextMultiframe [] (.protReq 6 g.toNat))

end Sys2Proof.Machine
end

