-- ==== Sys2Proof/Machine/CmdProg.lean ====
section
/-! DEFINITION. Program commands and the images that they fetch from host memory (R241 to R247, R418, R420, R422, Table 15.7). -/
namespace Sys2Proof.Machine

/-! ATTACH and DETACH. -/

/-- WVR_VERIFY shows the last check of a Weaver (R241): the code, and the worst cases of rx_beat, tx_beat and frame. -/
def State.showCheck (s : State) (q code rx tx fr : Nat) : State :=
  let s := (s.wr R.WVR_VERIFY.code q code).wr R.WVR_VERIFY.wc_rx q (min rx 63)
  ((s.wr R.WVR_VERIFY.wc_tx q (min tx 63)).wr R.WVR_VERIFY.wc_frame q (min fr 4095)).latch R.WVR_EVENT.verify_done q

/-- The check of a host image shown. -/
def State.showVerify (s : State) (q code : Nat) (img : List Nat) (d : Option Header) : State :=
  let wc := fun (e : Nat) => match d with | some d => worstCase img d e | none => 0
  s.showCheck q code (wc 1) (wc 2) (wc 3)

/-- ATTACH of an Almanac program (R243): once its channel and slot are in order the verifier passes it (R248). The steward firmware is an
image for Reeves, which the verifier rejects with BAD_HEADER (R422). -/
def State.attachAlmanac (s : State) (h : CmdHead) (c slot : Nat) (replace : Bool) (id : Nat) : State :=
  let t := s.ahead s.nextMultiframe
  let p := t.almanac c id
  let checks := s.common h true true ++ t.attachChecks c slot replace p
  let shown := fun (s : State) (code : Nat) =>
    if code = 0 then s.showCheck (c / 4) 0 p.wcRx p.wcTx p.wcFrame else s.showCheck (c / 4) code 0 0 0
  if s.stewardActs = true ∧ firstCheck checks = some (.noResource, 0xFF) then (shown s 0).complete h .noResource 0 0xFF 0
  else if s.stewardActs = true ∧ id = 0x80 ∧ firstCheck checks = some (.badArg, 12) then (shown s 3).complete h .badArg 3 12 0
  else s.judge h checks (fun (u : State) => (shown u 0).sched (some h) true s.nextMultiframe (.attach c slot replace p))

/-- ATTACH (R243, Table 9.8): an Almanac program at the next multiframe boundary; of a host image the fetch is begun, which
IMAGE_FETCH_COMPLETE carries on. In RETIRED no image is attached (R242). -/
def execAttach (h : CmdHead) (c slot : BitVec 8) (replace host : Bool) (id : BitVec 16) (addr : BitVec 64) (len : BitVec 32) (s : State) : Res :=
  if host then
    let t := s.ahead s.nextMultiframe
    .next (s.judge h (s.common h true true ++ t.slotChecks c.toNat slot.toNat replace
        ++ [(addr.toNat % 8 != 0, .badArg, 16), (s.lifecycle == 3, .denied, 0xFF)])
      (fun (s : State) => { s with fetches := s.fetches ++ [⟨h, addr.toNat, len.toNat, .attach c.toNat slot.toNat replace⟩] }))
  else
    .next (s.attachAlmanac h c.toNat slot.toNat replace id.toNat)

/-- DETACH (R244, Table 9.8). -/
def execDetach (h : CmdHead) (c slot : BitVec 8) (s : State) : Res :=
  .next (s.judgeChange h true true s.nextMultiframe [] (.detach c.toNat slot.toNat))

/-! PARAM_WRITE. -/

/-- A change of the program in a slot waits for its boundary. -/
def State.slotChanges (s : State) (c slot : Nat) : Bool :=
  s.changes.any (fun e => match e.change with
    | .attach c' slot' _ _ => c' == c && slot' == slot
    | .detach c' slot' => c' == c && slot' == slot
    | _ => false)

/-- A PARAM_WRITE accepted (R245, R247): its values wait beside those that a master wrote, or behind the changes of the slot that come
before it. -/
def State.acceptParams (s : State) (h : CmdHead) (c slot first : Nat) (vs : List W32) : State :=
  let d := s.paramDue c
  if s.slotChanges c slot then s.sched (some h) true d (.params c slot first vs)
  else (s.append (s.dueFrame d) (some (.params c slot first vs))).pendParams (some h) c slot first vs

/-- PARAM_WRITE (R247, R420): parameter values at the boundary of R247. -/
def execParamWrite (h : CmdHead) (c slot first : BitVec 8) (vs : List (BitVec 32)) (s : State) : Res :=
  .next (s.judge h (s.common h true true ++ (s.ahead (s.paramDue c.toNat)).paramChecks c.toNat slot.toNat first.toNat vs)
    (fun (s : State) => s.acceptParams h c.toNat slot.toNat first.toNat vs))

/-! REEVE_LOAD. -/

/-- The checks of REEVE_LOAD (R420, R422): MUSTER and SOLO, the Reeve not fenced, not in TINKER and not the steward; none in RETIRED. -/
def State.reeveChecks (s : State) (r : Nat) : List Check :=
  [(decide (r = 0 ∨ 3 < r), .badArg, 8),
   (s.lifecycle == 3, .denied, 0xFF),
   (s.mode != .muster || s.role != 0, .illegalState, 0xFF),
   (s.reeveFenced r || s.tinkers (24 + r) || s.isSteward r, .illegalState, 0xFF)]

/-- REEVE_LOAD (R422): the fetch of the image is begun. -/
def execReeveLoad (h : CmdHead) (r : BitVec 8) (addr : BitVec 64) (len : BitVec 32) (s : State) : Res :=
  .next (s.judge h (s.common h false true ++ s.reeveChecks r.toNat ++ [(addr.toNat % 8 != 0, .badArg, 16)])
    (fun (s : State) => { s with fetches := s.fetches ++ [⟨h, addr.toNat, len.toNat, .reeve r.toNat⟩] }))

/-- REEVE_LOAD, return (R422): as rve_reset does; the command completes when the steward firmware runs. -/
def execReeveLoadReturn (h : CmdHead) (r : BitVec 8) (s : State) : Res :=
  .next (s.judge h (s.common h false true ++ s.reeveChecks r.toNat)
    (fun (s : State) => (s.reeveReset r.toNat false).later (some h) .event (.reeveBack r.toNat)))

/-- A verified image put into Reeve `r`, which starts at its init entry (R422). -/
def State.loadReeve (s : State) (r : Nat) (img : List Nat) (d : Header) : State :=
  let s := { s with hung := s.hung.filter (fun h => h.m != 1 + r), captures := s.captures.filter (fun c => c.m != 1 + r) }
  let s := (s.clearMem (0x1C00000 + r * 0x10000) 0x10000).putBytes (0x1C00000 + r * 0x10000) ((img.drop 0x40).take (16 * d.n))
  let s := s.clearMem (0x2000000 + r * 0x40000) 0x40000
  let e : Eng := { Eng.init with own := true, pc := d.entries.getD 0 0, frameEntry := d.entries.getD 3 0 }
  (s.setEng (384 + r) e).showReeve r

/-! Host data. -/

/-- What the rules of Table 9.7 say of an image: the code of the first that it breaks, and its header. A signed image needs a usable key and
a good signature; an unsigned one is rejected in SEALED. -/
def State.verify (s : State) (img : List Nat) (target : Nat) (sigOk : Bool) : Nat × Option Header :=
  match headerOf img target with
  | none => (3, none)
  | some d =>
    if d.sigKey ≠ 0xFF ∧ !(s.keyUsable d.sigKey && sigOk) then (1, some d)
    else if d.sigKey = 0xFF ∧ s.lifecycle = 2 then (2, some d)
    else (verifyCode img d s.mode.budget, some d)

/-- A rejection of an image (Table 9.8): BAD_ARG, or DENIED for rules 0x01 and 0x02, with the code in detail[7:0]; a BAD_ARG gives the offset of
the argument that names the image (assumption log entry 33, DEDUCED, unsafe). -/
def State.rejectImage (s : State) (h : CmdHead) (code : Nat) : State :=
  s.complete h (if code = 1 ∨ code = 2 then .denied else .badArg) code (if code = 1 ∨ code = 2 then 0xFF else 16) 0

/-- The image of an ATTACH has come (R241 to R243). -/
def State.attachImage (s : State) (f : Fetch) (c slot : Nat) (replace : Bool) (img : List Nat) (sigOk : Bool) (al : AlignKind) : State :=
  let (code, d) := s.verify img 0 sigOk
  let s := s.showVerify (c / 4) code img d
  let t := s.ahead s.nextMultiframe
  match d, code with
  | some d, 0 =>
    match t.placeCode (c / 4) img d.n with
    | none => s.judge f.head (t.slotChecks c slot replace ++ [(true, .noResource, 0xFF)]) id
    | some base =>
      let p := t.imageProg img d f.addr base al
      s.judge f.head (s.common f.head true true ++ t.attachChecks c slot replace p) (fun (s : State) =>
        s.sched (some f.head) true s.nextMultiframe (.attach c slot replace p))
  | _, k => s.rejectImage f.head k

/-- The image of a REEVE_LOAD has come (R422). -/
def State.reeveImage (s : State) (f : Fetch) (r : Nat) (img : List Nat) (sigOk : Bool) : State :=
  let (code, d) := s.verify img 1 sigOk
  match d, code with
  | some d, 0 => s.judge f.head (s.common f.head false true ++ s.reeveChecks r) (fun (s : State) => (s.loadReeve r img d).ok f.head 0)
  | _, k => s.rejectImage f.head k

/-- A fetch taken out of those in progress. -/
def State.takeFetch (s : State) (h : CmdHead) : Option Fetch × State :=
  match s.fetches.find? (fun f => f.head == h) with
  | some f => (some f, { s with fetches := s.fetches.erase f })
  | none => (none, s)

/-- IMAGE_FETCH_COMPLETE (R241 to R243, R422): the image of the command with head `h` has been fetched. `sigOk`: its signature verifies;
`al`: the alignment that its program declares (assumption log entry 20, DESIGN CHOICE, safe). -/
def execImageFetchComplete (h : CmdHead) (img : List (BitVec 8)) (sigOk : Bool) (al : AlignKind) (s : State) : Res :=
  let bytes := img.map (·.toNat)
  match s.takeFetch h with
  | (some f, t) =>
    if !s.stewardActs ∨ img.length ≠ f.len then .next s
    else match f.use with
      | .attach c slot replace => .next (t.attachImage f c slot replace bytes sigOk al)
      | .reeve r => .next (t.reeveImage f r bytes sigOk)
  | (none, _) => .next s

/-- A command in flight still waits for its host data: an image's fetch is in progress, or a command that reads host memory before it is judged
has not been judged. -/
def State.waitsForData (s : State) (h : CmdHead) : Bool :=
  [0x30, 0xB0, 0xB1].contains (s.opcodeOf h) && !s.changes.any (fun e => e.head == some h)
    && (match s.gate.op with | some o => o.head != some h | none => true)

/-- The host data of a command does not come: it completes with TIMEOUT (Table 15.6). -/
def State.dataFails (s : State) (h : CmdHead) : State :=
  if !s.stewardActs then s
  else match s.takeFetch h with
    | (some _, t) => t.fail h .timeout
    | (none, _) => if s.waitsForData h then s.fail h .timeout else s

/-- HOST_DATA_READ_FAILURE (R418): a read of host memory for the command with head `h` has failed. -/
def execHostDataReadFailure (h : CmdHead) (s : State) : Res := .next (s.dataFails h)

/-- COMMAND_FETCH_TIME_LIMIT (R418): the fetch of the command's host data has not ended after 100 ms. -/
def execCommandFetchTimeLimit (h : CmdHead) (s : State) : Res := .next (s.dataFails h)

end Sys2Proof.Machine
end

