-- ==== Sys2Proof/Machine/CmdTime.lean ====
section
/-! DEFINITION. Commands on registers and on time (R297, R305, R420, R423, Table 15.7). -/
namespace Sys2Proof.Machine

/-- The entries of a command as numbers. -/
def entriesOf (l : List (BitVec 32 × BitVec 32)) : List (Nat × W32) := l.map (fun e => (e.1.toNat, e.2))

/-- REF_CONFIG (R305, R420): BELL_ registers at the next multiframe boundary. -/
def execRefConfig (h : CmdHead) (writes : List (BitVec 32 × BitVec 32)) (s : State) : Res :=
  .next (s.judgeChange h true false s.nextMultiframe [] (.bell (entriesOf writes)))

/-- REG_CONFIG (R423): registers of the data plane at the next multiframe boundary. -/
def execRegConfig (h : CmdHead) (writes : List (BitVec 32 × BitVec 32)) (s : State) : Res :=
  .next (s.judgeChange h true true s.nextMultiframe [] (.regs (entriesOf writes)))

/-- The checks that PHASE_STEP and TIME_SET share (R297): SOLO or the active, DPLL1 in HOST mode, HOLDOVER or FREERUN, and no slew
running. -/
def State.stepChecks (s : State) : List Check :=
  [(s.dpllFenced 1, .fenced, 0xFF),
   (decide (2 ≤ s.role), .illegalState, 0xFF),
   (!(s.dpllMode 1 == 5 || s.dpllState 1 == 3 || s.dpllState 1 == 0), .illegalState, 0xFF),
   (s.bell.slew.isSome, .busy, 0xFF)]

/-- PHASE_STEP, slew (R297): the time moves by an amount in 2^-16 ns at a rate in ppb; SLEW_COMPLETE completes it. -/
def execPhaseStepSlew (h : CmdHead) (amount : BitVec 64) (rate : BitVec 32) (s : State) : Res :=
  .next (s.judge h (s.common h false false ++ s.stepChecks ++
      [(decide (10 ^ 6 * 2 ^ 16 < amount.toInt.natAbs), .badArg, 16), (decide (rate.toNat < 1 ∨ 10000 < rate.toNat), .badArg, 24)])
    (fun (s : State) => { s with bell := { s.bell with slew := some ⟨amount.toInt, rate.toNat, 0, h⟩ } }))

/-- The time moved by a jump (R297). A jump to before time 0 has no stated result: the time is free. -/
def State.jumpTime (s : State) (by_ : Int) : State :=
  let t := (s.time : Int) + by_
  let (f, s) := s.fresh 96
  { s with time := if t < 0 then f else t.toNat % 2 ^ 96, bell := { s.bell with stepped := true } }

/-- PHASE_STEP, jump (R297): the time moves at once; not in SUNDIAL. -/
def execPhaseStepJump (h : CmdHead) (amount : BitVec 64) (s : State) : Res :=
  .next (s.judge h (s.common h false false ++ s.stepChecks ++ [(s.mode == .sundial, .illegalState, 0xFF)])
    (fun (s : State) => (s.jumpTime amount.toInt).ok h 0))

/-- PHASE_STEP, frequency (R297): the frequency of DPLL1 relative to DPLL0 in 2^-16 ppb, in HOST mode, within ±100,000 ppb. -/
def execPhaseStepFrequency (h : CmdHead) (amount : BitVec 64) (s : State) : Res :=
  .next (s.judge h (s.common h false false ++ s.stepChecks ++
      [(s.dpllMode 1 != 5, .illegalState, 0xFF), (decide (100000 * 2 ^ 16 < amount.toInt.natAbs), .badArg, 16)])
    (fun (s : State) => ({ s with bell := { s.bell with hostFreq := amount.toInt } } : State).ok h 0))

/-- TIME_SET (R297): at the next tick the seconds take the value given; not in SUNDIAL. An earlier TIME_SET that still waits makes it
BUSY. -/
def execTimeSet (h : CmdHead) (sec : BitVec 48) (s : State) : Res :=
  .next (s.judge h (s.common h false false ++ s.stepChecks ++
      [(s.mode == .sundial, .illegalState, 0xFF), (s.bell.setSec.isSome, .busy, 0xFF)])
    (fun (s : State) => { s with bell := { s.bell with setSec := some (sec.toNat, h) } }))

end Sys2Proof.Machine
end

