-- ==== Sys2Proof/Machine/LiftOps.lean ====
section
/-! DEFINITION. Fences lifted by FENCE_LIFT at once (R49, R210, R292, R360, R368, R369, R399, Table 13.17). -/
namespace Sys2Proof.Machine

/-- Lane `n` back from FENCED: it enters OFF; a channel whose last underlying fence this was is reported as kind 2. -/
def State.liftLane (s : State) (n : Nat) : State :=
  let was := s.quadFenced (n / 4)
  let cause := s.rd R.LANE_STATE.fence_cause n
  let s := s.setLane n { s.lane n with rxStopped := false }
  let s := ((s.wr R.LANE_STATE.fence_cause n 0).wr R.LANE_STATE.lane_reset_done n 0).wr R.LANE_STATE.los n 0
  let s := ((s.setLaneState n 0).reportFence 1 n cause false).quadFollow (n / 4)
  iter (fun i (s : State) =>
    let c := 4 * (n / 4) + i
    let s := if (was.getD i (false, false)).1 && !s.chanFenced c then s.reportFence 2 c 1 false else s
    s.refreshChan c) 0 4 s

/-- DPLL `d` back from its fence, in FREERUN (R292). -/
def State.liftDpll (s : State) (d : Nat) : State :=
  let cause := s.rd R.BELL_DPLL_STAT_d.fence_cause d
  let s := ((s.wr R.BELL_DPLL_STAT_d.fence_cause d 0).wr R.BELL_DPLL_STAT_d.reset_done d 0).wr R.BELL_DPLL_STAT_d.state d 0
  let s := (s.wr R.BELL_DPLL_STAT_d.hold_spec d 0).wr R.BELL_DPLL_STAT_d.hold_min d 0
  (s.reportFence 7 d cause false).bellShow

/-- PMBus device `d` back from its fence (R399). -/
def State.liftPmb (s : State) (d : Nat) : State :=
  let cause := s.rd R.MILL_PMB_d.fence_cause d
  ((s.wr R.MILL_PMB_d.fence_cause d 0).wr R.MILL_PMB_d.reset_done d 0).reportFence 10 d cause false

/-- Twin lane `k` back from its fence. -/
def State.liftTwinLane (s : State) (k : Nat) : State :=
  let cause := Tab.get 0 s.pair.twinFence k
  let s := { s with pair := { s.pair with twinFence := s.pair.twinFence.filter (fun e => e.1 != k) } }
  (s.wr R.PAIR_LINK.fenced 0 (setBitField (s.rd R.PAIR_LINK.fenced 0) k 1 0)).reportFence 11 k cause false

/-- The checks of a lift that takes effect at once (R369, R420); `done` is whether a reset that no register shows has ended. -/
def State.liftNowChecks (s : State) (kind u : Nat) (done : Bool) : List Check :=
  match kind with
  | 1 => [(!s.populated u, .badArg, 12), (s.laneState u != 5 || !s.on R.LANE_STATE.lane_reset_done u, .illegalState, 0xFF)]
  | 5 => [(decide (96 ≤ u), .badArg, 12),
      (!(s.bankState u == 3 && s.rd R.GRN_BANK_b.retire_cause u == 3 && s.on R.GRN_BANK_b.bank_reset_done u), .illegalState, 0xFF)]
  | 7 => [(decide (4 ≤ u), .badArg, 12),
      (!s.dpllFenced u || !s.on R.BELL_DPLL_STAT_d.reset_done u
        || (s.rd R.BELL_DPLL_STAT_d.fence_cause u == 1 && !s.on R.BELL_STATUS.ocxo_ok 0), .illegalState, 0xFF)]
  | 8 => [(decide (4 ≤ u), .badArg, 12),
      (!s.on R.RVE_STATUS.fence_cause u || !s.on R.RVE_STATUS.rve_reset_done u, .illegalState, 0xFF)]
  | 9 => [(decide (u = 0 ∨ 7 ≤ u), .badArg, 12),
      (!s.masterFenced u || (decide (1 ≤ u ∧ u ≤ 4) && !s.on R.RVE_STATUS.rve_reset_done (u - 1)) || u == 5 || (u == 6 && !done),
        .illegalState, 0xFF)]
  | 10 => [(!s.pmbPresent u, .badArg, 12), (!s.pmbFenced u || !s.on R.MILL_PMB_d.reset_done u, .illegalState, 0xFF)]
  | 11 => [(decide (8 ≤ u), .badArg, 12), (!s.pair.twinFence.any (fun e => e.1 == u) || !done, .illegalState, 0xFF)]
  | _ => [(true, .badArg, 8)]

/-- A lift that takes effect at once. -/
def State.liftNow (s : State) (kind u : Nat) : State :=
  match kind with
  | 1 => s.liftLane u
  | 5 => s.bankLive u
  | 7 => s.liftDpll u
  | 8 => s.liftReeve u
  | 9 => s.liftMaster u
  | 10 => s.liftPmb u
  | _ => s.liftTwinLane u

end Sys2Proof.Machine
end

