-- ==== Sys2Proof/Machine/CmdUnit.lean ====
section
/-! DEFINITION. Commands on units: fences, injectors, debug and the Gatehouse (R192, R369, R387, R388, R390, R418 to R420). -/
namespace Sys2Proof.Machine

/-- FENCE_LIFT (R369, R420): at once, or at the next multiframe boundary for queues, Weaver threads and Weavers. Whether the reset of a twin
lane, or of the twin link, has ended, no register shows: it is free. -/
def execFenceLift (h : CmdHead) (kind : BitVec 8) (unit : BitVec 32) (s : State) : Res :=
  let k := kind.toNat
  let u := unit.toNat
  if k = 3 ∨ k = 4 ∨ k = 6 then .next (s.judgeChange h false false s.nextMultiframe [] (.lift k u))
  else
    let (f, s) := s.fresh 1
    .next (s.judge h (s.common h false false ++ s.liftNowChecks k u (f == 1)) (fun (s : State) => (s.liftNow k u).ok h 0))

/-! Injectors. -/

/-- Symbols per codeword of a lane's FEC: of the units of R18, and on a twin lane RS(544,514). 0 without one. -/
def State.codeword (s : State) (kind n : Nat) : Nat :=
  if kind = 3 then 544
  else match (s.lane n).fec % 4 with | 1 => 528 | 2 => 544 | _ => 0

/-- `t` is a packet trunk. -/
def State.isTrunk (s : State) (t : Nat) : Bool := s.on R.GRN_TRUNK_t.valid t || s.calNamesTrunk t

/-- The settings of injector `j` agree with Table 7.10. -/
def State.injSettingsOk (s : State) (j : Nat) : Bool :=
  let kind := s.rd R.TALLY_INJ_CFG_j.kind j
  let t := s.rd R.TALLY_INJ_CFG_j.target j
  let len := s.rd R.TALLY_INJ_PAT_j.len j
  let first := s.rd R.TALLY_INJ_PAT_j.first j
  let lane := (kind == 1 && s.populated t) || (kind == 3 && decide (t < 8))
  let within := fun (a b : Nat) => decide (a ≤ len ∧ len ≤ b)
  decide (max 1 len ≤ s.rd R.TALLY_INJ_INT_j.interval j) && match s.rd R.TALLY_INJ_CFG_j.action j with
  | 0 => lane && within 1 1
  | 1 => lane && within 1 1024
  | 2 => lane && within 1 30 && decide (first + len ≤ s.codeword kind t)
  | 3 => lane && within 1 64 && s.rd R.TALLY_INJ_CFG_j.dir j == 1
  | 4 => kind == 2 && s.isTrunk t && within 1 1024
  | 5 => kind == 2 && s.isTrunk t && within 2 16 && decide (first ≤ 1)
  | 6 => kind == 2 && within 1 64 && (if s.isTrunk t then decide (first ≤ 9595) else first == 0)
  | _ => false

/-- The checks of INJECT_ARM on one injector (R192). -/
def State.armChecks (s : State) (j : Nat) : List Check :=
  let kind := s.rd R.TALLY_INJ_CFG_j.kind j
  let t := s.rd R.TALLY_INJ_CFG_j.target j
  [(!s.injSettingsOk j, .badArg, 8 + j / 8),
   (kind == 1 && s.laneState t == 5, .fenced, 0xFF),
   (kind == 3 && bitField (s.rd R.PAIR_LINK.fenced 0) t 1 == 1, .fenced, 0xFF),
   (s.injBusy j, .illegalState, 0xFF),
   (kind == 1 && s.laneState t != 2, .illegalState, 0xFF),
   (kind == 3 && bitField (s.rd R.PAIR_LINK.up 0) t 1 == 0, .illegalState, 0xFF),
   (kind == 2 && (s.cbrEnds t).isEmpty, .illegalState, 0xFF),
   (s.tallyX.arms.any (fun a => bitField a.mask j 1 == 1), .busy, 0xFF)]

/-- The injectors armed for the first multiframe boundary at least 100 µs ahead. -/
def State.doArm (s : State) (h : CmdHead) (mask : Nat) : State :=
  let s := (injsOf mask).foldl (fun (s : State) j => (s.wr R.TALLY_INJ_STAT_j.state j 1).wr R.TALLY_INJ_STAT_j.stop_cause j 0) s
  { s with tallyX := { s.tallyX with arms := s.tallyX.arms ++ [⟨h, mask, boundaryFrom (s.frame + 40) false⟩] } }

/-- INJECT_ARM (R192): the named injectors are armed, all or none. -/
def execInjectArm (h : CmdHead) (mask : BitVec 16) (s : State) : Res :=
  .next (s.judge h (s.common h false true ++ [(s.mode != .smithy, .illegalState, 0xFF)] ++ (injsOf mask.toNat).flatMap s.armChecks)
    (fun (s : State) => s.doArm h mask.toNat))

/-- INJECT_STOP (R192, R195). -/
def execInjectStop (h : CmdHead) (mask : BitVec 16) (s : State) : Res :=
  .next (s.judge h (s.common h false false) (fun (s : State) => ((injsOf mask.toNat).foldl (fun (s : State) j => s.stopInjector j 1) s).ok h 0))

/-! Debug and the Gatehouse. -/

/-- DEBUG_UNLOCK, set level (R388, R420): a request for TINKER writes its targets to LANT_TMASK first; a refusal by R388 sets denied. -/
def execDebugUnlockLevel (h : CmdHead) (level : BitVec 8) (mask : BitVec 32) (s : State) : Res :=
  let l := level.toNat
  let asked := fun (s : State) => if l = 2 then s.wr R.LANT_TMASK.tmask 0 mask.toNat else s
  let checks := s.common h false (decide (s.debugLevel < l))
    ++ [(decide (2 < l), .badArg, 9), (decide (2 ^ 28 ≤ mask.toNat), .badArg, 15), (!(asked s).levelOk l, .denied, 0xFF)]
  let refused := s.stewardActs && (firstCheck checks).map (·.1) == some .denied
  .next ((if refused then s.denied else s).judge h checks (fun (s : State) =>
    let s := (asked s).requestLevel l
    s.ok h s.debugLevel))

/-- A Gatehouse operation of a command: the steward writes the mailbox and GATE_OP (R387). -/
def State.gateCommand (s : State) (o : GateOp) (bytes : List Nat) : State :=
  ((((s.putMbox 0 bytes).wr R.GATE_OP.op 0 o.op).wr R.GATE_OP.slot 0 o.slot).wr R.GATE_OP.signer 0 o.signer).gateBegin o

/-- DEBUG_UNLOCK, challenge (R390): Gatehouse operation 8; the challenge goes to host memory when it ends. -/
def execDebugUnlockChallenge (h : CmdHead) (mask : BitVec 32) (addr : BitVec 64) (s : State) : Res :=
  .next (s.judge h (s.common h false false ++ [(decide (2 ^ 28 ≤ mask.toNat), .badArg, 15), (addr.toNat % 8 != 0, .badArg, 16),
      (s.gate.op.isSome, .busy, 0xFF)])
    (fun (s : State) => s.gateCommand ⟨8, 0, 0, some h, some addr.toNat⟩ (leBytes 4 mask.toNat)))

/-- DEBUG_UNLOCK, response (R390): Gatehouse operation 9 on the signature fetched from host memory. -/
def execDebugUnlockResponse (h : CmdHead) (signer : BitVec 8) (addr : BitVec 64) (sig : List (BitVec 8)) (s : State) : Res :=
  .next (s.judge h (s.common h false true ++ [(decide (3 < signer.toNat), .badArg, 9), (addr.toNat % 8 != 0, .badArg, 16),
      (s.gate.op.isSome, .busy, 0xFF)])
    (fun (s : State) => s.gateCommand ⟨9, 0, signer.toNat, some h, none⟩ (sig.map (·.toNat))))

/-- GATE_CALL (R387, R420): a Gatehouse operation on a buffer fetched from host memory. -/
def execGateCall (h : CmdHead) (op slot signer : BitVec 8) (len : BitVec 32) (addr : BitVec 64) (buf : List (BitVec 8)) (s : State) : Res :=
  let o := op.toNat
  .next (s.judge h (s.common h (decide (5 ≤ o ∧ o ≤ 7)) false ++ [(!(decide (1 ≤ o ∧ o ≤ 7) || o == 10), .badArg, 8),
      (decide (3 < signer.toNat), .badArg, 10), (decide (256 < len.toNat), .badArg, 12), (addr.toNat % 8 != 0, .badArg, 16),
      (s.gate.op.isSome, .busy, 0xFF)])
    (fun (s : State) => s.gateCommand ⟨o, slot.toNat, signer.toNat, some h, none⟩ (buf.map (·.toNat))))

end Sys2Proof.Machine
end

