-- ==== Sys2Proof/Machine/Jtag.lean ====
section
/-! DEFINITION. The JTAG port (R392, Table 14.9): each command shifts an instruction and then its data register. -/
namespace Sys2Proof.Machine

/-- An instruction loaded. -/
def State.jtagIr (s : State) (code : Nat) : State := { s with jtag := { s.jtag with ir := code } }

/-- The instructions that Table 14.9 gives for P0 to P2 are available. -/
def State.jtagUp (s : State) : Bool := decide (s.pstate ≤ 2)

/-- Bits shifted in, the first one lowest. -/
def bitsNum : List Bool → Nat
  | [] => 0
  | b :: t => bit b + 2 * bitsNum t

/-- A boundary scan: what the pins showed is shifted out, and what is shifted in stays in the register. The levels of the pins are not the
model's: they are free. -/
def State.boundaryScan (s : State) (code : Nat) (bits : List Bool) : State :=
  let s := s.jtagIr code
  if !s.jtagUp then s
  else
    let (pins, s) := s.fresh bits.length
    ({ s with jtag := { s.jtag with scan := bitsNum bits } } : State).emit (.jtag code pins)

/-- JTAG_EXTEST (R392). -/
def execJtagExtest (bits : List Bool) (s : State) : Res := .next (s.boundaryScan 0 bits)

/-- JTAG_IDCODE (R392). -/
def execJtagIdcode (s : State) : Res := .next ((s.jtagIr 1).emit (.jtag 1 0x100965B3))

/-- JTAG_SAMPLE_PRELOAD (R392). -/
def execJtagSamplePreload (bits : List Bool) (s : State) : Res := .next (s.boundaryScan 2 bits)

/-- The 72-bit register of LANT_MTX. -/
def mtxWord (a data : Nat) (write done err : Bool) : Nat :=
  a + 2 ^ 32 * data + 2 ^ 64 * bit write + 2 ^ 65 * bit done + 2 ^ 66 * bit err

/-- JTAG_LANT_MTX (R391, R392): one access by master LANT; while that master is fenced it ends in an error (Table 13.13). -/
def execJtagLantMtx (a data : BitVec 32) (write : Bool) (s : State) : Res :=
  let s := s.jtagIr 0x10
  let w := a.toNat - a.toNat % 4
  let done := fun (s : State) (d : Nat) (ok err : Bool) =>
    let r := mtxWord a.toNat d write ok err
    Host.Outcome.next (({ s with jtag := { s.jtag with mtx := r } } : State).emit (.jtag 0x10 r))
  if !s.jtagUp || !s.running then .next s
  else if s.masterFenced 5 then done (if write then s else s.emit (.busError 5 a.toNat)) data.toNat false true
  else if write then done (s.writeAt 5 w 15 data.toNat).2 data.toNat true false
  else
    let (v, _, s) := s.readAt 5 w true
    done (s.emit (.busRead 5 w v)) v true false

/-- JTAG_AON_STAT (R392): GATE_STATUS ‖ MILL_STATUS. -/
def execJtagAonStat (s : State) : Res :=
  .next ((s.jtagIr 0x20).emit (.jtag 0x20 ((s.reg 0x4000).toNat * 2 ^ 32 + s.millStatus)))

/-- JTAG_AON_DESC (R382, R392): a word of the Ledger descriptor area, in BLANK and OPEN and not after aon_lock; the lifecycle is known once
the always-on boot has read the fuses. -/
def execJtagAonDesc (off : BitVec 16) (v : BitVec 32) (s : State) : Res :=
  let s := s.jtagIr 0x21
  if s.startup = .step 1 ∨ 1 < s.lifecycle ∨ s.on R.GATE_LOCK.aon_lock 0 ∨ 2048 ≤ off.toNat then .next s
  else .next (s.setWord (0xC01000 + 4 * off.toNat) v)

/-- JTAG_WAKE (R396): leaves P3. -/
def execJtagWake (s : State) : Res :=
  let s := s.jtagIr 0x22
  .next (if s.startup = .inP3 then s.leaveP3 else s)

/-- JTAG_BYPASS (R392): every code that Table 14.9 does not list selects the 1-bit bypass register. -/
def execJtagBypass (code : BitVec 8) (s : State) : Res := .next ((s.jtagIr code.toNat).emit (.jtag code.toNat 0))

end Sys2Proof.Machine
end

