-- ==== Sys2Proof/Machine/Mapping.lean ====
section
/-! DEFINITION. The meanings of the mapping events (chapter 6, R308, R309): CBR mappers and demappers, tributary headers, the
sheaf receiver, and the TX calendar switch. -/
namespace Sys2Proof.Machine

/-- Words per frame in 1/256 word at a line rate in 2^-16 b/s (R183). -/
def wordsPerFrame (rate : Nat) : Nat := rate * 2500 * 256 / (2 ^ 16 * 64 * 10 ^ 9)

/-- A channel on a pair whose stream both twins have not yet reported aligned: it does not forward (R62). -/
def State.withheld (s : State) (c : Nat) : Bool :=
  s.role != 0 && (s.prog c 0).any (fun p => p.align != .blocks) && !s.pair.forward.contains c

/-- W*(f) of a mapper in 1/256 word before its base is taken off, with its age in 20 ns, csf, and whether it is known
(Table 6.4, R183). At a source W is what the client ball measured, or runs on at the line rate while csf is 1. -/
def State.mapperW (s : State) (t c measured : Nat) : Option (Nat × Int × Bool) :=
  match s.clientEnd t with
  | some cl =>
    let csf := s.on R.TALLY_DEF_CHAN_c.ch_sf cl || s.withheld cl
    let age : Int := if s.predicts then -118 else 0
    let w := match (s.trib t c).csfAt with
      | some (f, w) => if csf then w + (s.frame - f) * wordsPerFrame (s.lane cl).rate else measured
      | none => measured
    some (w, age, csf)
  | none =>
    match s.otherEnds t c with
    | e :: _ =>
      let x := s.trib t e
      let d := s.transitDelay x.link
      match x.transitW s.frame d with
      | some w => some (w, x.thAge + d / 20, s.endSf t e || s.endCsf t e)
      | none => none
    | [] => none

/-- CBR_MAPPER_FRAME (R145 to R152, R183): the mapper of tributary `t` toward its TX slot set on channel `c` computes its
header for the present frame and places its words; `measured` is W at the client ball at the cut instant less the age, in
1/256 word. A backlog beyond P − 1, or an age out of range, recentres with csf 1. -/
def execCbrMapperFrame (c : Fin 96) (t : BitVec 16) (measured : BitVec 64) (s : State) : Res :=
  let t := t.toNat
  let cols := s.slotSet c 0 t
  let p := 20 * cols.length
  if p = 0 ∨ !s.carriesVtf c ∨ calibrationFrame s.mode s.frame then .next s
  else
    let s := match s.clientEnd t with | some cl => s.feedClient t cl | none => s
    let put := fun (s : State) (th : Nat) (cnt : Nat) (ws : List Nat) =>
      let s := s.putPayload c (posOf cols 0).1 (posOf cols 0).2 th
      ((upTo (fun j => j + 1) (p - 1)).foldl (fun (acc : List Nat × State) j =>
        let (ws, s) := acc
        let (r, col) := posOf cols j
        if validPos p cnt j then (ws.drop 1, s.putPayload c r col (ws.headD 0)) else (ws, s)) (ws, s)).2
    match s.mapperW t c measured.toNat with
    | none =>
      let s := s.setTrib t c { s.trib t c with recentreAt := none, words := [], csf := true }
      .next ((put s (thCbr t 0 0 true 0) 0 []).showTrib t)
    | some (w, age, csf) =>
      let x := s.trib t c
      let x := { x with csf := csf, csfAt := if csf then (match x.csfAt with | some e => some e | none => some (s.frame, w)) else none }
      let out := age < -32768 ∨ 32767 < age
      let s := if out then s.bumpPw c 0 35 else s
      match x.recentreAt with
      | none =>
        let s := s.setTrib t c { x with recentreAt := some s.frame, base := w, sent := 0, words := [], age := age }
        .next ((put s (thCbr t 0 0 (csf || decide out) age) 0 []).showTrib t)
      | some _ =>
        let ws := w - x.base
        let cnt := min (p - 1) (ws / 256 - x.sent)
        let phase := ws % 256
        let backlog := ws / 256 - (x.sent + cnt)
        let tooBig := decide (p - 1 < backlog)
        let s := if tooBig then s.bumpPw c 0 34 else s
        let recentres := tooBig || decide out
        let (words, s) := if csf || recentres then s.replacements cnt else (x.words.take cnt, s)
        let (words, s) := s.injectWords t 0 words
        let s := s.setTrib t c { x with sent := x.sent + cnt, words := x.words.drop cnt, age := age,
                                        csf := csf || recentres,
                                        recentreAt := if recentres then none else x.recentreAt }
        let s := put s (thCbr t cnt phase (csf || recentres) age) cnt words
        let s := match s.clientEnd t with
          | some cl => (((s.setPw cl 1 11 cnt).setPw cl 1 12 phase).setPw cl 1 13 backlog)
          | none => s
        .next ((s.countT t 0 cnt).showTrib t)

/-- TH_RECEIVE (R147, R157): the header in position 0 of the RX slot set of tributary `t` on channel `c`, judged against the
entry of that position. -/
def execThReceive (c : Fin 96) (t : BitVec 16) (v : BitVec 64) (s : State) : Res :=
  let t := t.toNat
  let w := v.toNat
  match s.slotSet c 1 t with
  | [] => .next s
  | col :: _ =>
    if !s.chanDelivers c ∨ (s.vtf c).rxCal then .next s
    else
      let kind := bitField (s.cal c 1 (s.calSel c 1) col) 30 1
      let x := s.trib t c
      if !crc8Ok w then
        .next (((s.bumpPw c 0 32).countC c 10 1).setTrib t c { x with thKind := 1, goodRun := 0, badRun := x.badRun + 1 })
      else if bitField w 40 16 ≠ t ∨ bitField w 39 1 ≠ kind then
        .next (((s.bumpPw c 0 33).countC c 11 1).setTrib t c { x with thKind := 2, goodRun := 0, badRun := x.badRun + 1 })
      else
        let x := { x with thKind := 0, goodRun := x.goodRun + 1, badRun := 0 }
        if kind = 1 then .next (s.setTrib t c { x with thCnt := bitField w 0 14 })
        else .next (s.setTrib t c { x with thCnt := bitField w 24 14, thPhase := bitField w 16 8,
                                           thAge := signedOf 16 (bitField w 0 16), thCsf := bitField w 38 1 == 1 })

/-- The absolute frame number of the far end's present frame on channel `c`, near this part's own (R73). -/
def State.farFrame (s : State) (c : Nat) : Nat :=
  let idx := ((s.vtf c).expect.index + posCycle - 1) % posCycle
  let near := s.frame / posCycle * posCycle + idx
  if near + posCycle / 2 < s.frame then near + posCycle
  else if s.frame + posCycle / 2 < near then near - posCycle
  else near

/-- E of a demapper at the end of a recentre (R156): natural, with the SUNDIAL allowance, unless dmp_delay_ns fixes it; a
fixed E more than 16,000 ns above the natural one sets dmp_ovf and falls back. On a protected tributary the natural E is
the greater of the two paths' (R309). -/
def State.settleE (s : State) (t c : Nat) : State :=
  match s.clientEnd t with
  | none => s
  | some cl =>
    let nat_ := fun (e : Nat) => ((s.trib t e).natural + 250 + 19) / 20 * 20 + (if s.mode = .sundial then 2500 else 0)
    let e := match s.groupOf t with
      | some g => (s.groupPaths g).foldl (fun m k => max m (nat_ k)) 0
      | none => nat_ c
    let fixed := s.pw cl 1 10
    let tooLong := decide (fixed ≠ 0 ∧ e + 16000 < fixed)
    let s := if tooLong then s.bumpPw cl 1 16 else s
    let e := if fixed = 0 ∨ tooLong then e else fixed
    let x := s.trib t c
    (s.setTrib t c { x with eNs := e, nextWord := (x.buf.headD (0, 0, false)).1 }).setPw cl 1 14 e

/-- A path of a group is late when its natural arrival lies more than skew_us from the other's (R309). -/
def State.judgeSkew (s : State) (t : Nat) : State :=
  match s.groupOf t with
  | none => s
  | some g =>
    match s.groupPaths g with
    | w :: x :: _ =>
      let a := (s.trib t w).natural
      let b := (s.trib t x).natural
      let lim := 2000 * s.rd R.PAIR_PROT_CFG_g.skew_us g
      let y := s.group g
      let y' := { y with lateW := decide (b + lim < a), lateX := decide (a + lim < b) }
      if y = y' then s
      else
        let s := s.setGroup g y'
        (if (y'.lateW && !y.lateW) || (y'.lateX && !y.lateX) then s.pairEvent R.PAIR_EVENT.skew_late else s).judgeGroup g
    | _ => s

/-- DEMAPPER_FRAME (R154 to R157): the positions 1 to P − 1 of a frame of the RX slot set of `t` on channel `c`, whose TH has
been judged; `delay` is the largest arrival at the Weaver less reference instant among its words, and `link` the link
delay of Table 6.4, both in ns. The demapper brings W* up to date and takes its words. -/
def execDemapperFrame (c : Fin 96) (t : BitVec 16) (content : List (BitVec 64)) (delay link : BitVec 32) (s : State) : Res :=
  let t := t.toNat
  let cols := s.slotSet c 1 t
  let p := 20 * cols.length
  let x := s.trib t c
  if p = 0 ∨ !s.chanDelivers c ∨ (s.vtf c).rxCal ∨ 3 ≤ x.thKind then .next s
  else
    let f := s.farFrame c
    let x := { x with link := if x.hist.isEmpty then link.toNat else x.link }
    let good := x.thKind == 0
    let (dw, df) := x.wHat
    let est := fun (g w : Nat) => w * df + dw * (f - g)
    -- W* of this frame in 1/256 word, and the words it describes
    let step : Option (Nat × Nat) :=
      match x.hist with
      | [] => none
      | (g, w) :: _ =>
        if df = 0 then
          if good ∧ f = g + 1 then some ((w / 256 + x.thCnt) * 256 + x.thPhase, x.thCnt) else none
        else if good then
          let i := (2 * (est g w - x.thPhase * df) + 256 * df) / (512 * df)
          some (i * 256 + x.thPhase, min (p - 1) x.thCnt)
        else some (est g w / df, min (p - 1) (est g w / df / 256 - x.recvd))
    match step with
    | none =>
      if good then .next (s.setTrib t c { x with hist := [(f, x.thPhase)], recvd := 0 }) else .next s
    | some (w, cnt) =>
      -- a mismatched frame delivers no position, and its words are lost to the demapper (R147)
      if x.thKind = 2 then .next (s.setTrib t c { x with recvd := x.recvd + cnt }) else
      let taken := ((upTo (fun j => j + 1) (p - 1)).filter (fun j => validPos p cnt j)).map
        (fun j => (content.getD (j - 1) 0).toNat)
      let (taken, s) := s.injectWords t 1 taken
      let new := taken.zipIdx.map (fun e => (x.recvd + e.2, e.1, good))
      let hist := if good then ((f, w) :: x.hist).filter (fun e => decide (f < e.1 + 256)) else x.hist
      let client := (s.clientEnd t).isSome
      let left := x.recentring - 1
      let x' := { x with hist := hist, recvd := x.recvd + cnt, buf := if client then x.buf ++ new else [],
                         recentring := left, natural := if 0 < x.recentring then max x.natural delay.toNat else x.natural }
      let s := s.setTrib t c x'
      let s := if client then s
        else (s.otherEnds t c).foldl (fun s e => s.wordsTo t e taken) s
      let s := s.countT t 1 cnt
      let s := if x.recentring = 1 then s.settleE t c else s
      .next (s.judgeSkew t)

/-- The word of an index held by a demapper, usable. -/
def EndX.wordAt (x : EndX) (k : Nat) : Option Nat :=
  (x.buf.find? (fun e => e.1 == k && e.2.2)).map (fun e => e.2.1)

/-- Words up to an index dropped from a demapper's buffer. -/
def State.passWord (s : State) (t c k : Nat) : State :=
  let x := s.trib t c
  s.setTrib t c { x with buf := x.buf.filter (fun e => decide (k < e.1)), nextWord := k + 1 }

/-- DEMAP_WORD_DUE (R156, R184, R308): the next word of the tributary of client channel `cl` is due at the ball; `slip` says
that its buffer departs from E by more than 32 words. An unprotected demapper recentres on a late word or a slip; the
output of a protected tributary takes the selected path's word, else the other's, else replacement content. -/
def execDemapWordDue (cl : Fin 96) (slip : Bool) (s : State) : Res :=
  let t := s.pw cl 1 8
  if !s.runs cl 1 5 ∨ s.pw cl 1 9 = 0 then .next s
  else match s.groupOf t with
    | some g =>
      match s.groupPaths g with
      | w :: x :: _ =>
        let (a, b) := if s.rd R.PAIR_PROT_g.sel g = 0 then (w, x) else (x, w)
        let xa := s.trib t a
        let xb := s.trib t b
        let k := xa.nextWord
        if xa.recentring ≠ 0 ∨ s.endCsf t a then .next (s.emit (.cbrWord cl none))
        else
          let word := match xa.wordAt k with
            | some v => some v
            | none => xb.wordAt (k + (match (s.group g).offset with | some d => d.toNat | none => 0))
          .next (((s.passWord t a k).passWord t b k).emit (.cbrWord cl word))
      | _ => .next (s.emit (.cbrWord cl none))
    | none =>
      match s.otherEnds t cl with
      | [] => .next (s.emit (.cbrWord cl none))
      | c :: _ =>
        let x := s.trib t c
        if x.recentring ≠ 0 ∨ s.endSf t c ∨ s.endCsf t c then .next (s.emit (.cbrWord cl none))
        else if slip then .next (((s.bumpPw cl 1 17).recentre t c).emit (.cbrWord cl none))
        else match x.wordAt x.nextWord with
          | some v => .next ((s.passWord t c x.nextWord).emit (.cbrWord cl (some v)))
          | none => .next (((s.bumpPw cl 1 15).recentre t c).emit (.cbrWord cl none))

/-! Sheaf receiver. -/

/-- SHEAF_BLOCK_RECEIVE (R159 to R162): the block in position `pos` of trunk `t` on channel `c`, at `now` in ns. -/
def execSheafBlockReceive (c : Fin 96) (t : BitVec 16) (pos : BitVec 14) (v : BitVec 64) (now : BitVec 64) (s : State) : Res :=
  let t := t.toNat
  let x := s.trib t c
  if !s.runs c 1 6 ∨ (s.slotSet c 1 t).isEmpty ∨ !s.chanDelivers c ∨ (s.vtf c).rxCal ∨ x.thKind = 2 then .next s
  else
    let w := v.toNat
    let enter := !x.sync && x.thKind == 0 && x.thCnt == pos.toNat && x.thCnt != 0x3FFF
    if !x.sync ∧ !enter then .next s
    else
      let s := if enter then s.setPw c 1 9 1 else s
      let x := if enter then { x with sync := true, pkt := none, status := false } else x
      match x.pkt with
      | some k =>
        if x.status then
          let err := k.err || !crc8Ok w || w % 2 == 1
          .next ((s.setTrib t c { x with pkt := none, status := false }).sheafDone t c now.toNat k err)
        else
          let k := { k with bytes := k.bytes ++ leBytes 8 w, left := k.left - 1 }
          if k.left ≠ 0 then .next (s.setTrib t c { x with pkt := some k })
          else if k.ct then .next (s.setTrib t c { x with pkt := some k, status := true })
          else .next ((s.setTrib t c { x with pkt := none }).sheafDone t c now.toNat k k.err)
      | none =>
        let len := bitField w 26 14
        if w = 0 then .next (s.setTrib t c x)
        else if crc8Ok w ∧ 60 ≤ len ∧ len ≤ 9596 then
          let k : Sheaf := { flow := bitField w 40 16, len := len, deadline := bitField w 6 20,
                             late := bitField w 5 1 == 1, err := bitField w 4 1 == 1, ct := bitField w 3 1 == 1,
                             cls := w % 8, bytes := [], left := (len + 7) / 8 }
          .next (s.setTrib t c { x with pkt := some k })
        else .next (((s.setTrib t c { x with sync := false, pkt := none }).setPw c 1 9 0).bumpPw c 1 10)

/-! The TX calendar switch. -/

/-- in_cal of every trunk that a TX copy of the channel names (GRN_TRUNK_t). -/
def State.showInCal (s : State) (ts : List Nat) : State :=
  ts.foldl (fun s t => s.wr R.GRN_TRUNK_t.in_cal t
    (bit ((upTo id 96).any (fun c => (s.tribsIn c 0 (s.calSel c 0)).contains (t, 1))))) s

/-- The switch of a channel's TX calendar (R169, R171): the new copy governs the frame, tributaries that only the new copy
holds start, those that only the old one holds end, and the steward reports the switch. -/
def State.txSwitch (s : State) (c : Nat) : State :=
  let x := s.chanX c
  let old := s.tribsIn c 0 x.txSel
  let sel := 1 - x.txSel
  let new := s.tribsIn c 0 sel
  let s := s.setChanX c { x with txSel := sel, switchAt := none, switchAnn := 0 }
  let s := new.foldl (fun s e => if old.contains e then s else s.startMapper e.1 c) s
  let s := old.foldl (fun s e => if new.contains e then s else s.startMapper e.1 c) s
  let s := (s.showInCal ((old ++ new).filter (fun e => e.2 == 1) |>.map (·.1))).syncCal c
  let s := (old ++ new).foldl (fun s e => s.showTrib e.1) s
  if s.stewardActs then s.report 8 3 c (sel + 256 * (if sel = 0 then x.genA else x.genB)) else s

/-- TX_CALENDAR_SWITCH (R171): frame 0 of the switch multiframe of channel `c`. -/
def execTxCalendarSwitch (c : Fin 96) (s : State) : Res :=
  match (s.chanX c).switchAt with
  | some g => if g ≤ s.frame then .next (s.txSwitch c) else .next s
  | none => .next s

end Sys2Proof.Machine
end

