-- ==== Sys2Proof/Machine/Protect.lean ====
section
/-! DEFINITION. The meanings of path protection's timers (R311, R312). -/
namespace Sys2Proof.Machine

/-- HOLD_OFF_EXPIRY (R311): the hold-off of a condition, sf or sd, of the end on path W or X of group `g` ends. A condition that is still
present becomes a request. -/
def execHoldOffExpiry (g : BitVec 12) (x sd : Bool) (s : State) : Res :=
  let g := g.toNat
  if !s.groupValid g then .next s
  else match (s.groupPaths g)[if x then 1 else 0]? with
    | none => .next s
    | some c =>
      let t := s.rd R.PAIR_PROT_g.trib_id g
      let r := s.group g
      if sd && s.endSd t c then
        .next ((s.setGroup g (if x then { r with sdX := true } else { r with sdW := true })).judgeGroup g)
      else if !sd && s.endSf t c then
        .next ((s.setGroup g (if x then { r with sfX := true } else { r with sfW := true })).judgeGroup g)
      else .next s

/-- PROT_WTR_EXPIRY (R311): WTR runs out. -/
def execProtWtrExpiry (g : BitVec 12) (s : State) : Res :=
  let g := g.toNat
  if s.groupValid g ∧ (s.group g).wtr then .next ((s.setGroup g { s.group g with wtr := false }).judgeGroup g) else .next s

/-- APS_TIMEOUT (R312, R314): no APS word for group `g` has been accepted for 50 ms. -/
def execApsTimeout (g : BitVec 12) (s : State) : Res :=
  let g := g.toNat
  if !s.groupValid g then .next s
  else
    let s := ((s.wr R.PAIR_PROT_g.far_valid g 0).wr R.PAIR_PROT_g.far_req g 0).setGroup g { s.group g with farReq := 0, rxSeq := none }
    .next (if s.on R.PAIR_PROT_CFG_g.bidir g then s.setMismatch g true else s.judgeGroup g)

end Sys2Proof.Machine
end

