-- ==== Sys2Proof/Machine/Startup.lean ====
section
/-! DEFINITION. The meanings of resets, clock losses and start-up (R21, R383, R409 to R414, R428, R435). -/
namespace Sys2Proof.Machine

/-! Resets. -/

/-- POWER_ON_RESET (R409). -/
def execPowerOnReset (s : State) : Res := .next s.powerOnReset

/-- SUPPLY_LOSS (R435, R409): all supplies go, VDD_AON among them; the Ledger keeps its last committed generation. -/
def execSupplyLoss (s : State) : Res := .next s.powerOnReset

/-- WARM_RESET (R409, R411, R413, R396, R404): RESET_N has been low for 1 µs. With core power on it is a warm reset; in P3 it leaves P3;
after a thermal trip it is ignored; before S4 has ended start-up goes on, and waits in S5 while RESET_N is low. -/
def execWarmReset (s : State) : Res :=
  let s := { s with resetN := false }
  if s.startup = .inP3 then .next s.leaveP3
  else if s.startup = .heldPairClk then .next s
  else if s.corePowered then
    let s := s.warmReset true
    .next (({ s with aon := { s.aon with warm := true, fromP3 := false, goingP3 := false } } : State).beginStep 2)
  else .next s

/-- RESET_N_RELEASE (R411): RESET_N rises; step S5 may end. -/
def execResetNRelease (s : State) : Res := .next { s with resetN := true }

/-- A master whose transactions, captures and fence its reset takes away (R361); a fence that goes is reported (R368). -/
def State.resetMaster (s : State) (m : Nat) (burst : Bool) : State :=
  let was := s.masterFenced m
  let cause := s.rd R.MTX_MSTAT_m.fence_cause m
  let s := { s with hung := s.hung.filter (fun h => h.m != m), captures := s.captures.filter (fun c => c.m != m) }
  let s := (s.wr R.MTX_MSTAT_m.fence_cause m 0).wr R.MTX_MSTAT_m.fenced m 0
  let s := if burst then s.latch R.MTX_MSTAT_m.burst_cut m else s
  if was then s.reportFence 9 m cause false else s

/-- HOST_PORT_RESET (R412, R409): HOST_ registers, the MSI-X table and PBA, ring state, and masters HOST and DMA with their fences and
transactions. A Function Level Reset (`flr`) leaves the link trained. Commands already taken finish. -/
def execHostPortReset (flr hostBurst dmaBurst : Bool) (s : State) : Res :=
  let gen := s.rd R.HOST_STATUS.link_gen 0
  let width := s.rd R.HOST_STATUS.link_width 0
  let s := { s.clearRegs 0x2000 0x2000 with msixTable := [], msixPba := 0, msixCount := [], evRing := [],
                                            tallyX := { s.tallyX with due := [] } }
  let s := s.wr R.TALLY_STATUS.dma_busy 0 0
  let s := if flr then (s.wr R.HOST_STATUS.link_gen 0 gen).wr R.HOST_STATUS.link_width 0 width else s
  .next ((s.resetMaster 0 hostBurst).resetMaster 7 dmaBurst)

/-- PCIE_LINK_TRAINED (R340): training started at S9 ends with a generation and a width. -/
def execPcieLinkTrained (gen width : BitVec 4) (s : State) : Res :=
  .next (if s.running then (s.wr R.HOST_STATUS.link_gen 0 gen.toNat).wr R.HOST_STATUS.link_width 0 width.toNat else s)

/-- JTAG_TAP_RESET (R428, R392): TRST_N resets the TAP; IEEE 1149.1 has IDCODE selected then. -/
def execJtagTapReset (s : State) : Res := .next { s with jtag := JtagX.init }

/-! Clocks that the always-on domain watches (R21). -/

/-- PAIR_REFCLK_LOSS (R21): the core is held in warm reset with its power on; FAULT_N is asserted. -/
def execPairRefclkLoss (s : State) : Res :=
  if s.corePowered then
    let s := s.warmReset true
    .next (({ s with startup := .heldPairClk, aon := { s.aon with pairLost := true, fromP3 := false, goingP3 := false } } : State).assertFault .pairClk)
  else .next { s with aon := { s.aon with pairLost := true } }

/-- PAIR_REFCLK_RESTORE (R21): start-up resumes at step S5. -/
def execPairRefclkRestore (s : State) : Res :=
  let s := { s with aon := { s.aon with pairLost := false } }
  if s.startup = .heldPairClk then .next (s.beginStep 5) else .next s

/-- SERDES_REFCLK_LOSS (R21): every quad LC-PLL that is locked loses lock. -/
def execSerdesRefclkLoss (s : State) : Res :=
  let s := { s with aon := { s.aon with serdesLost := true } }
  .next (iter (fun q (s : State) => if s.pllLocked q then (s.wr R.QUAD_PLL.pll_state q 3).latch R.QUAD_EVENT.pll_lost q else s) 0 24 s).bellShow

/-- SERDES_REFCLK_FENCE (R21): 100 µs after the loss, every populated lane that is not OFF is fenced with cause QUAD_PLL. -/
def execSerdesRefclkFence (s : State) : Res :=
  if s.aon.serdesLost then
    .next (iter (fun n (s : State) => if s.laneState n ≠ 0 then s.fenceLane n 6 else s) 0 96 s)
  else .next s

/-- SERDES_REFCLK_RETURN (R21): each quad LC-PLL relocks by itself, with LC_PLL_LOCK. -/
def execSerdesRefclkReturn (s : State) : Res := .next { s with aon := { s.aon with serdesLost := false } }

/-- XTAL_AON_LOSS (R21): the always-on domain runs from its on-die oscillator. -/
def execXtalAonLoss (s : State) : Res :=
  .next (({ s with aon := { s.aon with xtalLost := true } } : State).millEvent R.MILL_EVENT.aon_clk_fault 0)

/-- XTAL_AON_RESTORE (R21). -/
def execXtalAonRestore (s : State) : Res := .next { s with aon := { s.aon with xtalLost := false } }

/-! Start-up steps. -/

/-- A failed step holds the part with FAULT_N asserted (Tables 14.6 and 15.3). -/
def State.failStep (s : State) (n : Nat) : State := ({ s with startup := .failed n } : State).assertFault .startup

/-- The Ledger at the first always-on boot in RETIRED: generations, journal and commit records are erased (R376). -/
def State.retireLedger (s : State) : State :=
  let l := s.ledg
  let s := { s with ledg := if s.fuses.life = 3 ∧ l.life ≠ 3 then { LedgX.init with life := 3 } else { l with life := s.fuses.life } }
  s.showLedg

/-- V1 (R373, R374, R375, R383): the fuse arrays are read. At power-on the lifecycle read comes into force; later it is a check. -/
def State.readFuses (s : State) (bad : Nat) (fatal other : Bool) : State :=
  let s := s.setFuses { s.fuses with bad := s.fuses.bad ||| bad }
  let s := if bad ≠ 0 ∨ fatal ∨ other then s.latch R.GATE_EVENT.fuse_ue 0 else s
  if fatal then s.failStep 2
  else (if s.aon.warm then s else (s.wr R.GATE_STATUS.lifecycle 0 s.fuses.life).retireLedger).beginStep 3

/-- A run of descriptor bytes is 0. -/
def State.descZero (s : State) (off n : Nat) : Bool := s.descNum off n == 0

/-- The descriptor in force is valid (R380): magic, format, grade, reserved bytes, and the signature that the lifecycle requires. -/
def State.descValid (s : State) (sigOk : Bool) : Bool :=
  let key := s.descNum 8 1
  s.descNum 0 4 == 0x56444231 && s.descNum 4 4 == 1 && s.descNum 10 1 == 1 && s.descZero 24 40 &&
    (upTo (fun n => s.descZero (0x40 + 12 * n + 9) 3) 96).all id && (upTo (fun d => s.descZero (0x660 + 16 * d + 14) 2) 8).all id &&
    s.descZero 0x700 2208 &&
    (if key = 0xFF then s.lifecycle == 0 else decide (key ≤ 3) && s.keyUsable key && sigOk)

/-- The descriptor chosen at an always-on boot (R381): its source and its bytes. -/
def State.chooseDesc (s : State) : Nat × List Host.Cell :=
  match s.fuses.desc with
  | some d => (2, d)
  | none => if s.lifecycle = 2 then (0, []) else (1, s.ledgerDesc)

/-- What the registers show of a descriptor in force: devices present, the lanes' presets (R408, R50). -/
def State.showDesc (s : State) : State :=
  let s := iter (fun d (s : State) => s.wr R.MILL_PMB_d.present d (bit (s.pmbPresent d))) 0 8 s
  iter (fun n (s : State) => s.loadLaneDesc n) 0 96 s

/-- V2 (R380, R381, R383): the descriptor is chosen, or is the one in force, and verified. -/
def State.verifyDesc (s : State) (sigOk : Bool) : State :=
  let s := if s.aon.warm then s
    else
      let (src, d) := s.chooseDesc
      (({ s with desc := d } : State).wr R.GATE_STATUS.desc_src 0 src).showDesc
  let ok := s.descValid sigOk
  let s := (s.wr R.GATE_STATUS.desc_ok 0 (bit ok)).wr R.GATE_STATUS.desc_unsigned 0 (bit (ok && s.descNum 8 1 == 0xFF))
  if !ok then s.failStep 3
  else if s.aon.warm ∧ ¬ s.aon.fromP3 then s.beginStep 5
  else s.beginStep 4

/-- The banks as the repair record has them, before the Granary accepts its first cell (R207); with no copy readable every bank is LIVE
with no spare in use, and ledg_ue is set. -/
def State.loadRepair (s : State) (copyA copyB : Bool) : State :=
  let t := { s with repairA := if copyA then s.repairA else none, repairB := if copyB then s.repairB else none }
  let s := match t.repairRec with
    | none => t.latch R.LEDG_EVENT.ledg_ue 0
    | some r => r.banks.foldl (fun (s : State) (e : Nat × Nat × List (Nat × Nat)) =>
        let s := s.putMap e.1 e.2.2
        if e.2.1 = 0 then s else (s.wr R.GRN_BANK_b.state e.1 3).wr R.GRN_BANK_b.retire_cause e.1 e.2.1) t
  s.degradedRecompute.wr R.LEDG_STATUS.ready 0 1

/-- A slot left empty because its image did not verify (V5). -/
def State.emptySlot (s : State) (c slot : Nat) : State :=
  match s.prog c slot with
  | some p =>
    if p.imageLen = 0 then s
    else (iter (fun w (s : State) => s.setPw c slot w 0) 0 128 (s.setProg c slot none)).repack (c / 4)
  | none => s

/-- The committed generation restored at a P3 exit, the part staying in MUSTER (R396, R383). -/
def State.restoreP3 (s : State) (r : LedgRead) (images : List (Fin 96 × Fin 4)) : State :=
  let (s, _) := s.restore r
  let s := images.foldl (fun (s : State) e => s.emptySlot e.1 e.2) s
  { s with mode := .muster }

/-- Step S9 ends: the part runs in MUSTER and P0 (R414); FAULT_N is released. -/
def State.enterMuster (s : State) (r : LedgRead) (images : List (Fin 96 × Fin 4)) : State :=
  let p3 := s.aon.fromP3
  let s := (({ s with startup := .done, aon := { s.aon with fromP3 := false, warm := false } } : State).releaseFault .pairClk).releaseFault .startup
  let s := (s.wr R.MILL_STATUS.pstate 0 0).bellShow
  if p3 then s.restoreP3 r images else s

/-- STARTUP_STEP_COMPLETE (R413, R383): the running step of Table 15.3 ends with what it found, and the next one begins or the failure
action is taken. S4 ends when every device is on; S5 ends after RESET_N has risen. -/
def execStartupStepComplete (f : StepFind) (s : State) : Res :=
  match s.startup, f with
  | .step 1, .osc ok => .next (if ok then s.beginStep 2 else s)
  | .step 2, .fuses bad fatal other => .next (s.readFuses bad.toNat fatal other)
  | .step 3, .desc sigOk => .next (s.verifyDesc sigOk)
  | .step 4, .rails ok =>
    if !ok then
      .next (({ s.millOff.millEvent R.MILL_EVENT.seq_fail 0 with startup := .failed 4 } : State).assertFault .sequence)
    else if s.mill.todo.isEmpty then
      .next (((s.wr R.MILL_AVS.v_target 0 800).wr R.MILL_AVS.v_meas 0 800).beginStep 5)
    else .next s
  | .step 5, .clocks pair serdes osc =>
    if !s.resetN then .next s
    else if !pair ∨ !serdes then .next (s.failStep 5)
    else .next ((if osc then s else s.oscLoss 0).beginStep 6)
  | .step 6, .rom ok => .next (if ok then (s.wr R.GATE_STATUS.rom_ok 0 1).beginStep 7 else s.failStep 6)
  | .step 7, .reeves bad =>
    let s := s.wr R.RVE_STATUS.steward 0 1
    .next ((iter (fun r (s : State) => if bitField bad.toNat r 1 = 1 then s.fenceReeve r 1 else s.showReeve r) 0 4 s).beginStep 8)
  | .step 8, .memories a b => .next ((s.loadRepair a b).beginStep 9)
  | .step 9, .muster r images => .next (s.enterMuster r images)
  | _, _ => .next s

end Sys2Proof.Machine
end

