-- ==== Sys2Proof/Machine/Twin.lean ====
section
/-! DEFINITION. The meanings of the twin unit's events and of the Ledger's (R317 to R337). -/
namespace Sys2Proof.Machine

/-! Heartbeat and TAKE. -/

/-- HEARTBEAT_SEND (R319, Table 12.5): at an even frame boundary a pulse codes this part's state; during a reset none is sent. -/
def execHeartbeatSend (s : State) : Res :=
  if !s.running ∨ s.frame % 2 = 1 then .next s
  else if !s.on R.PAIR_STATUS.take 0 then .next (s.emit (.heartbeat 1))
  else if s.role = 1 ∧ s.pair.trigger ≠ 0 then .next (s.emit (.heartbeat 2))
  else .next (s.emit (.heartbeat 3))

/-- The code that a high time decodes to, within ±0.3 µs (Table 12.5). -/
def heartbeatCode (ns : Nat) : Option Nat :=
  if 950 ≤ ns ∧ ns ≤ 1550 then some 1
  else if 2200 ≤ ns ∧ ns ≤ 2800 then some 2
  else if 3450 ≤ ns ∧ ns ≤ 4050 then some 3
  else none

/-- HEARTBEAT_DECODE (R319, R320, Table 12.6): a falling edge after a high time in ns. HOLD after IDLE or FAULT is a claim of the other
side: this part yields when TAKE is high, but of two that claim in one period only side 1 does. A standby that decodes FAULT takes
over. -/
def execHeartbeatDecode (high : BitVec 16) (s : State) : Res :=
  if !s.running then .next s
  else match heartbeatCode high.toNat with
  | none => .next s
  | some c =>
    let was := s.rd R.PAIR_STATUS.alive_in 0
    let s := s.wr R.PAIR_STATUS.alive_in 0 c
    let take := s.on R.PAIR_STATUS.take 0
    if c = 3 ∧ take ∧ (was = 1 ∨ was = 2) then
      if s.pair.claimed ∧ s.rd R.PAIR_STATUS.side 0 = 0 then .next s
      else .next ({ s with pair := { s.pair with claimed := false } } : State).yieldTake
    else if c = 1 then .next { s with pair := { s.pair with claimed := false } }
    else if c = 2 ∧ s.role = 2 then
      match s.pair.twinFault with
      | some (_, true) => .next (s.decideClaim .solo)
      | _ => .next (s.decideClaim .active)
    else .next s

/-- HEARTBEAT_LOST (R319, rows 5 and 6 of Table 12.6): no rising edge for 10 µs. -/
def execHeartbeatLost (s : State) : Res :=
  if !s.running then .next s
  else
    let was := s.rd R.PAIR_STATUS.alive_in 0
    let s := s.wr R.PAIR_STATUS.alive_in 0 0
    let s := if was = 0 then s else s.pairEvent R.PAIR_EVENT.alive_lost
    .next (if s.on R.PAIR_STATUS.link_up 0 then s else s.activeLost)

/-- TAKEOVER_CLAIM (R325): at a frame boundary the standby raises TAKE. `planned`: the active's switch frame begins (Table 12.7). A claim
from CATCHUP first restores control state from what the Ledger reads as. -/
def execTakeoverClaim (planned : Bool) (r : LedgRead) (s : State) : Res :=
  match s.pair.claim with
  | .solo => .next (s.takeOver 0)
  | .active =>
    let s := s.takeOver 1
    .next { s with pair := { s.pair with twinRole := 3 } }
  | .catchup =>
    let (s, ok) := s.restore r
    .next (if ok then s.takeOver 0 else (s.decideClaim .none).wr R.PAIR_STATUS.catch_fail 0 4)
  | .none =>
    if planned ∧ s.role = 2 then
      let s := s.takeOver 1
      .next { s with pair := { s.pair with twinRole := 2 } }
    else .next s

/-! The twin link. -/

/-- EPOCH_SCHEDULE_RECEIVE (R321): the core cycle at which a frame's epoch restarts. -/
def execEpochScheduleReceive (frame cycle : BitVec 64) (s : State) : Res :=
  .next (s.twinMessage (fun s =>
    if 2 ≤ s.role then { s with pair := { s.pair with schedule := some (frame.toNat, cycle.toNat), core := cycle.toNat } } else s))

/-- TWIN_DELAY_MEASURE (R321): the link delay measured, in 2^-8 ns. -/
def execTwinDelayMeasure (d : BitVec 32) (s : State) : Res :=
  .next (if s.on R.PAIR_STATUS.link_up 0 then s.wr R.PAIR_DELAY.delay 0 d.toNat else s)

/-- TWIN_TIME_ANCHOR_RECEIVE (R24): the time at a frame's start by which the standby's Weavers count, in 2^-16 ns. -/
def execTwinTimeAnchorReceive (frame : BitVec 64) (time : BitVec 96) (s : State) : Res :=
  .next (s.twinMessage (fun s =>
    if 2 ≤ s.role then { s with pair := { s.pair with anchor := some (frame.toNat, time.toNat) } } else s))

/-- FINE_OFFSET_RECEIVE (R24): the active's fine arrival offset for a capture on a lane. -/
def execFineOffsetReceive (n : Fin 96) (ofs : BitVec 32) (s : State) : Res :=
  .next (s.twinMessage (fun s =>
    if 2 ≤ s.role then { s with pair := { s.pair with fine := Tab.put 0 s.pair.fine n ofs.toInt } } else s))

/-- TWIN_LINK_LOSS (R324, rows 5 and 7 of Table 12.6): the link reports the twin absent; `up` are the twin lanes still in lock. -/
def execTwinLinkLoss (up : BitVec 8) (s : State) : Res :=
  if !s.running then .next s
  else
    let was := s.on R.PAIR_STATUS.link_up 0
    let s := (s.wr R.PAIR_STATUS.link_up 0 0).wr R.PAIR_LINK.up 0 up.toNat
    let s := if was then s.pairEvent R.PAIR_EVENT.link_lost else s
    if s.rd R.PAIR_STATUS.alive_in 0 = 0 then .next s.activeLost
    else if s.role = 2 then .next s.enterCatchup
    else .next { s with pair := { s.pair with twinRole := if s.role = 1 then 3 else s.pair.twinRole, matched := none } }

/-- TWIN_LINK_RETURN (R327): with auto_rejoin a standby that has given up enters CATCHUP again; one that is in it goes on. -/
def execTwinLinkReturn (up : BitVec 8) (s : State) : Res :=
  if !s.running then .next s
  else
    let was := s.on R.PAIR_STATUS.link_up 0
    let s := (s.wr R.PAIR_STATUS.link_up 0 1).wr R.PAIR_LINK.up 0 up.toNat
    .next (if !was ∧ s.role = 3 ∧ s.rd R.PAIR_STATUS.catch_stage 0 = 0 ∧ s.on R.PAIR_CTRL.auto_rejoin 0 then s.enterCatchup else s)

/-! Divergence and faults. -/

/-- DIGEST_COMPARE (R323, R324, Table 12.6): `diff` has a bit set for each quad whose digests of a frame differ. With 400 frames
alike from K on, the active knows its twin to be in STANDBY (R327, stage 8). -/
def execDigestCompare (diff : BitVec 24) (s : State) : Res :=
  let stage := s.rd R.PAIR_STATUS.catch_stage 0
  if s.role = 0 ∨ (s.role = 3 ∧ stage < 8) then .next s
  else if diff = 0 then
    match s.pair.matched with
    | some k =>
      if s.role ≠ 1 then .next s
      else if k + 1 < 400 then .next { s with pair := { s.pair with matched := some (k + 1) } }
      else .next { s with pair := { s.pair with matched := none, twinRole := 2 } }
    | none => .next s
  else
    let s := { s with pair := { s.pair with matched := none } }
    let s := (s.wr R.PAIR_DIGEST.quads 0 diff.toNat).bumpSat R.PAIR_DIGEST.count 0 1
    let s := s.pairEvent R.PAIR_EVENT.divergence
    let own := s.recent s.pair.ownFault
    let twin := s.recent s.pair.twinFault
    let blamed := if s.role = 1 then (own, twin) else (twin, own)
    let row2 := blamed.1 == some true && s.on R.PAIR_CTRL.takeover_on_fence 0
    let row3 := blamed.1 == some false && blamed.2.isNone && s.on R.PAIR_CTRL.takeover_on_fault 0
    if s.role = 1 then
      if row2 ∧ s.pair.twinRole = 2 then .next s
      else if row3 ∧ s.pair.twinRole = 2 then .next { s with pair := { s.pair with trigger := 2 } }
      else .next { s with pair := { s.pair with twinRole := 3 } }
    else if s.role = 2 then .next (if row2 || row3 then s else s.enterCatchup)
    else .next (s.failStage 7)

/-- INTERNAL_FAULT_RECEIVE (R324): the twin reports an internal fault. A fence in the standby makes both parts SOLO; the active keeps
TAKE (row 1 of Table 12.6). -/
def execInternalFaultReceive (fence : Bool) (s : State) : Res :=
  .next (s.twinMessage (fun s =>
    if s.role = 0 then s
    else
      let s := { s with pair := { s.pair with twinFault := some (s.frame, fence) } }
      if s.role = 1 ∧ fence then (s.toSolo true).pairEvent R.PAIR_EVENT.standby_alarm else s))

/-! Joining and catching up. -/

/-- PAIR_FORMED (R326): both twins have accepted their joins: with opposite roles and matching parts the pair forms; anything else ends
the join with cause IDENTITY, for which the spec names no completion code (assumption log entry 26, DESIGN CHOICE, unsafe). -/
def execPairFormed (fits : Bool) (s : State) : Res :=
  match s.pair.join with
  | none => .next s
  | some (h, role) =>
    let s := { s with pair := { s.pair with join := none } }
    if !fits then .next ((s.wr R.PAIR_STATUS.catch_fail 0 2).fail h .illegalState)
    else if role = 1 then
      .next ((({ s with pair := { s.pair with twinRole := 3, trigger := 0, claimed := false } } : State).setPairRole 1 true).ok h 0)
    else .next (s.enterCatchup.ok h 0)

/-- PAIR_JOIN_TIMEOUT (R326): the twin has not joined within 10 s. -/
def execPairJoinTimeout (s : State) : Res :=
  match s.pair.join with
  | none => .next s
  | some (h, _) => .next (({ s with pair := { s.pair with join := none } } : State).fail h .timeout)

/-- CATCHUP_STAGE_END (R327, Table 12.10): a stage has met its action (`ok`) or its bound has passed; `images`: at stage 4, an image did
not verify. Control state is restored in stage 4 from what the Ledger reads as. -/
def execCatchupStageEnd (ok images : Bool) (r : LedgRead) (s : State) : Res :=
  let n := s.rd R.PAIR_STATUS.catch_stage 0
  if s.role ≠ 3 ∨ n = 0 then .next s
  else
    let toStage := fun (s : State) (k : Nat) => s.wr R.PAIR_STATUS.catch_stage 0 k
    match n with
    | 1 => .next (if ok then toStage s 2 else s.failStage 1)
    | 2 => .next (if ok then toStage s 3 else s.failStage 2)
    | 3 => .next (if ok ∧ s.on R.PAIR_STATUS.dpll3_locked 0 then toStage s 4 else s.failStage 3)
    | 4 =>
      if !ok then .next (s.failStage 4)
      else
        let (s, found) := s.restore r
        if !found then .next (s.failStage 4)
        else if images then .next (s.failStage 5)
        else .next (toStage { s with pair := { s.pair with j := some (boundaryFrom (s.frame + 1) false) } } 5)
    | 5 => .next (if ok then toStage s 6 else s.failStage 0)
    | 6 => .next (if ok then toStage s 7 else s.failStage 6)
    | 7 => .next (if ok then toStage s 8 else s.failStage 8)
    | _ =>
      if ok ∧ !s.on R.PAIR_EVENT.phase_ovf 0 then
        .next (((toStage s 0).setPairRole 2 false).pairEvent R.PAIR_EVENT.catchup_done)
      else .next (s.failStage (if ok then 8 else 7))

/-- PACKET_COPY_RECEIVE (R328): a packet that the active held at J is stored with its metadata. -/
def execPacketCopyReceive (p : PktCopy) (s : State) : Res :=
  .next (s.twinMessage (fun s =>
    if s.role ≠ 3 ∨ !s.on R.GRN_QD_CTRL.valid p.queue.toNat then s
    else
      let (id, s) := s.openPkt p.queue.toNat p.channel p.arrival.toNat
      let (refused, s) := s.writePkt id (p.bytes.map (·.toNat))
      if refused.isSome then s
      else
        let s := s.closePkt id p.err p.late
        match s.pkt id with
        | some x => (s.setPkt { x with sendBy := p.sendBy.toNat }).showHead p.queue.toNat
        | none => s))

/-- EGRESS_PAUSE (R328): an egress, a trunk or an Ethernet channel, starts no new packet until K. -/
def execEgressPause (eth : Bool) (e : BitVec 16) (s : State) : Res :=
  if s.role = 1 ∨ s.role = 3 then
    .next { s with pair := { s.pair with paused := (bit eth, e.toNat) :: s.pair.paused.filter (· ≠ (bit eth, e.toNat)) } }
  else .next s

/-- PACKET_LIST_SEND (R328): 40 µs before K the active sends the packets that each queue holds, in queue order, and the window begins in
both twins; in a standby `lists` is what it receives. -/
def execPacketListSend (lists : List (BitVec 16 × List (Fin 96 × BitVec 64))) (s : State) : Res :=
  if s.role = 1 then
    let qs := (s.pkts.map (·.queue)).eraseDups
    let ids := fun (q : Nat) => ((s.pkts.filter (fun p => p.queue == q && !p.departing)).map (fun p => (p.channel, p.arrival)))
    let s := qs.foldl (fun (t : State) q => t.emit (.packetList q (ids q))) s
    .next { s with pair := { s.pair with window := true } }
  else if s.role = 3 then
    .next (s.twinMessage (fun s => { s with pair := { s.pair with
      lists := lists.map (fun e => (e.1.toNat, e.2.map (fun x => (x.1.val, x.2.toNat)))), listAt := s.pktNext, window := true } }))
  else .next s

/-- RESYNC_BOUNDARY (R328, R329): at epoch cycle 0 of K the standby aligns its queues and resync words; the egresses of both twins go on.
A window in which a twin ran out of cells (`pool`: the active did), or a listed packet that is not here, fails with POOL. -/
def execResyncBoundary (pool : Bool) (s : State) : Res :=
  let close := fun (s : State) => ({ s with pair := { s.pair with paused := [], window := false } } : State)
  if s.role = 1 then .next (close { s with pair := { s.pair with matched := if s.pair.twinRole = 3 then some 0 else none } })
  else if s.role = 3 ∧ s.rd R.PAIR_STATUS.catch_stage 0 = 7 then
    if pool ∨ !s.listsMet then .next (s.failStage 6)
    else .next (close s.alignQueues.applyResync)
  else .next s

/-- RESYNC_WORDS_SEND (R329): at a 1 ms boundary of stages 5 to 7 the active sends its resync words; a standby keeps what it receives,
`words` by 64 × thread + word, beside its own of the same boundary. -/
def execResyncWordsSend (words : List (BitVec 15 × BitVec 64)) (s : State) : Res :=
  if s.role = 1 then
    .next (s.resyncNow.foldl (fun (s : State) e => s.emit (.resyncWord (e.1 / 64) (e.1 % 64) e.2)) s)
  else if s.role = 3 then
    .next (s.twinMessage (fun s => { s with pair := { s.pair with
      resync := words.foldl (fun (t : Tab Nat) e => Tab.put 0 t e.1.toNat e.2.toNat) [], resyncOwn := s.resyncNow } }))
  else .next s

/-! Checkpoints and the journal. -/

/-- CHECKPOINT_PERIOD (R332, R335): the generation that is open is committed; with ckpt_en, and none open, one is opened and committed.
In the active it is sent to the standby, and without an acknowledgement mirror_fail is set. A standby writes none of its own. -/
def execCheckpointPeriod (ack : Bool) (s : State) : Res :=
  if !s.stewardActs ∨ 2 ≤ s.role then .next s
  else
    let s := if s.ledg.open_.isNone ∧ s.on R.PAIR_CTRL.ckpt_en 0 then s.openGen false else s
    let sent := s.ledg.open_.isSome
    let s := s.commitGen
    .next (if sent ∧ s.role = 1 ∧ !ack then s.pairEvent R.PAIR_EVENT.mirror_fail else s)

/-- GENERATION_MIRROR_RECEIVE (R335): a generation of the active, written into the slot of the same number; it is committed after a
correct tag. -/
def execGenerationMirrorReceive (slot : Fin 2) (g : Machine.Gen) (tagOk : Bool) (s : State) : Res :=
  .next (s.twinMessage (fun s =>
    if s.role < 2 then s
    else
      let l := s.ledg
      let s := s.setLedg (if slot.val = 0 then { l with slot0 := none } else { l with slot1 := none })
      if tagOk then s.putGen slot g else s))

/-- JOURNAL_ENTRY_RECEIVE (R334, R24, R245): a journal entry of the active is appended, and its change waits for its boundary once control
state is in place. `differs`: the verifier's result on an image of it differs between the twins, an internal fault of the standby. -/
def execJournalEntryReceive (seq frame : BitVec 64) (c : Machine.Change) (differs : Bool) (s : State) : Res :=
  .next (s.twinMessage (fun s =>
    if s.role < 2 then s
    else
      let l := s.ledg
      let s := s.setLedg { l with journal := l.journal ++ [⟨seq.toNat, frame.toNat, some c⟩], nextSeq := seq.toNat + 1 }
      let s := if s.role = 2 ∨ 5 ≤ s.rd R.PAIR_STATUS.catch_stage 0 then s.later none (.multiframe frame.toNat false) c else s
      if differs then s.internalFault false else s))

end Sys2Proof.Machine
end

