-- ==== Sys2Proof/Machine/VsiA.lean ====
section
/-! DEFINITION. The meanings of the arithmetic-slot instructions (R268, Table 10.7). -/
namespace Sys2Proof.Machine

/-- ANOP: no effect. -/
def execAnop (_ : Engine) (s : State) : Res := .next s

/-- Shifts and rotations of 64 bits by `n` below 64: shl, shr, sar, rol. -/
def shiftFn (k v n : Nat) : Nat :=
  match k with
  | 0 => v * 2 ^ n % 2 ^ 64
  | 1 => v / 2 ^ n
  | 2 => patternOf 64 (signedOf 64 v / (2 ^ n : Nat))
  | _ => v * 2 ^ n % 2 ^ 64 + v / 2 ^ (64 - n)

/-- The functions of alu. -/
def aluFn (f a b : Nat) : Nat :=
  match f with
  | 0x0 => (a + b) % 2 ^ 64
  | 0x1 => (a + 2 ^ 64 - b) % 2 ^ 64
  | 0x2 => a &&& b
  | 0x3 => a ||| b
  | 0x4 => a ^^^ b
  | 0x5 => a &&& ((2 ^ 64 - 1) ^^^ b)
  | 0x6 => shiftFn 0 a (b % 64)
  | 0x7 => shiftFn 1 a (b % 64)
  | 0x8 => shiftFn 2 a (b % 64)
  | 0x9 => shiftFn 3 a (b % 64)
  | 0xA => if signedOf 64 a ≤ signedOf 64 b then a else b
  | 0xB => if signedOf 64 a ≤ signedOf 64 b then b else a
  | 0xC => min a b
  | _ => max a b

/-- ALU. -/
def execAlu (e : Engine) (pg : Fin 8) (f : Fin 14) (rd ra rb : Fin 32) (s : State) : Res :=
  .next (s.issueIf e pg (fun x => x.toReg 1 rd (aluFn f (x.rg ra) (x.rg rb))))

/-- ADDI: g[ra] + sext(imm). -/
def execAddi (e : Engine) (rd ra : Fin 32) (imm : BitVec 16) (s : State) : Res :=
  .next (s.issue e (fun x => x.toReg 1 rd (x.rg ra + sext16 imm.toNat)))

/-- ANDI: g[ra] and zext(imm). -/
def execAndi (e : Engine) (rd ra : Fin 32) (imm : BitVec 16) (s : State) : Res :=
  .next (s.issue e (fun x => x.toReg 1 rd (x.rg ra &&& imm.toNat)))

/-- ORI: g[ra] or zext(imm). -/
def execOri (e : Engine) (rd ra : Fin 32) (imm : BitVec 16) (s : State) : Res :=
  .next (s.issue e (fun x => x.toReg 1 rd (x.rg ra ||| imm.toNat)))

/-- XORI: g[ra] xor zext(imm). -/
def execXori (e : Engine) (rd ra : Fin 32) (imm : BitVec 16) (s : State) : Res :=
  .next (s.issue e (fun x => x.toReg 1 rd (x.rg ra ^^^ imm.toNat)))

/-- MOVK: half-word `h` of g[rd] set, the other bits kept. -/
def execMovk (e : Engine) (rd : Fin 32) (h : Fin 4) (imm : BitVec 16) (s : State) : Res :=
  .next (s.issue e (fun x => x.toReg 1 rd (setBitField (x.rg rd) (16 * h) 16 imm.toNat)))

/-- SHI: shl, shr, sar or rol by `n`. -/
def execShi (e : Engine) (pg : Fin 8) (k : Fin 4) (rd ra : Fin 32) (n : Fin 64) (s : State) : Res :=
  .next (s.issueIf e pg (fun x => x.toReg 1 rd (shiftFn k (x.rg ra) n)))

/-- The functions of mul: low half, high half unsigned, high half signed. -/
def mulFn (f a b : Nat) : Nat :=
  match f with
  | 0 => a * b % 2 ^ 64
  | 1 => a * b / 2 ^ 64
  | _ => patternOf 64 (signedOf 64 a * signedOf 64 b / (2 ^ 64 : Nat))

/-- MUL: latency 3. -/
def execMul (e : Engine) (pg : Fin 8) (f : Fin 3) (rd ra rb : Fin 32) (s : State) : Res :=
  .next (s.issueIf e pg (fun x => x.toReg 3 rd (mulFn f (x.rg ra) (x.rg rb))))

/-- The conditions of cmp: eq, ne, lt, ge (signed), ltu, geu. -/
def cmpFn (f a b : Nat) : Bool :=
  match f with
  | 0 => a == b
  | 1 => a != b
  | 2 => decide (signedOf 64 a < signedOf 64 b)
  | 3 => decide (signedOf 64 b ≤ signedOf 64 a)
  | 4 => decide (a < b)
  | _ => decide (b ≤ a)

/-- CMP: the predicate `pd` from two registers. -/
def execCmp (e : Engine) (pg : Fin 8) (f : Fin 6) (pd : Fin 8) (ra rb : Fin 32) (s : State) : Res :=
  .next (s.issueIf e pg (fun x => x.give 1 (.pred pd) (bit (cmpFn f (x.rg ra) (x.rg rb)))))

/-- CMPI: the predicate `pd` from a register and sext(imm); c is 0 eq, 1 ne, 2 lt, 3 ltu. -/
def execCmpi (e : Engine) (c : Fin 4) (pd : Fin 8) (ra : Fin 32) (imm : BitVec 16) (s : State) : Res :=
  .next (s.issue e (fun x => x.give 1 (.pred pd) (bit (cmpFn (if c.val = 3 then 4 else c) (x.rg ra) (sext16 imm.toNat)))))

/-- SEL: g[ra] when p[pg] is 1, else g[rb]. -/
def execSel (e : Engine) (pg : Fin 8) (rd ra rb : Fin 32) (s : State) : Res :=
  .next (s.issue e (fun x => x.toReg 1 rd (if x.pr pg then x.rg ra else x.rg rb)))

/-- The functions of pop: and, or, xor. -/
def popFn (f : Nat) (a b : Bool) : Bool :=
  match f with
  | 0 => a && b
  | 1 => a || b
  | _ => a != b

/-- POP: the predicate `pd` from two predicates, each inverted or not. -/
def execPop (e : Engine) (pg : Fin 8) (f : Fin 3) (pd : Fin 8) (na : Bool) (pa : Fin 8) (nb : Bool) (pb : Fin 8) (s : State) : Res :=
  .next (s.issueIf e pg (fun x => x.give 1 (.pred pd) (bit (popFn f (x.pr pa != na) (x.pr pb != nb)))))

end Sys2Proof.Machine
end

