-- ==== Sys2Proof/Machine/VsiF.lean ====
section
/-! DEFINITION. The meanings of the field-slot instructions (R264 to R267, Table 10.6). -/
namespace Sys2Proof.Machine

/-- FNOP: no effect. -/
def execFnop (_ : Engine) (s : State) : Res := .next s

/-- WEXT: a field of the window from bit g[ra] + pos on; 0 on a service thread. -/
def execWext (q : Fin 24) (t : Fin 16) (rd ra : Fin 32) (pos : BitVec 9) (wm1 : BitVec 6) (sx : Bool) (s : State) : Res :=
  .next (s.issue (.thread q t) (fun x =>
    x.toReg 1 rd (if s.isStream q t then extField (winFrom x.w (x.rg ra + pos.toNat)) 0 (wm1.toNat + 1) sx else 0)))

/-- WINS: bits of g[rd] put into the window; discarded on a service thread. -/
def execWins (q : Fin 24) (t : Fin 16) (rd ra : Fin 32) (pos : BitVec 9) (wm1 : BitVec 6) (s : State) : Res :=
  .next (s.issue (.thread q t) (fun x =>
    if s.isStream q t then x.give 1 (.win ((x.rg ra + pos.toNat) % 512) (wm1.toNat + 1)) (x.rg rd) else x))

/-- Field `f` of the side-band in the layout of Table 10.5. On a service thread every field reads 0 but the lane served, 0x7F. -/
def State.sbField (s : State) (q t f : Nat) (x : Eng) : Nat :=
  if !s.isStream q t then (if f = 6 then 0x7F else 0)
  else match f with
    | 0 => x.sb.first
    | 1 => x.sb.row
    | 2 => x.sb.col
    | 3 => x.sb.pos
    | 4 => x.sb.state
    | 5 => x.sb.epoch
    | _ =>
      let n := s.threadLane q t
      n + 128 * (t % 2) + 256 * bit ((s.pairedLanes s.mode q).contains n)

/-- SBR (R265). -/
def execSbr (q : Fin 24) (t : Fin 16) (pg : Fin 8) (rd : Fin 32) (f : Fin 7) (s : State) : Res :=
  .next (s.issueIf (.thread q t) pg (fun x => x.toReg 1 rd (s.sbField q t f x)))

/-- BEXT: a field of g[ra]. -/
def execBext (e : Engine) (rd ra : Fin 32) (pos : BitVec 6) (wm1 : BitVec 6) (sx : Bool) (s : State) : Res :=
  .next (s.issue e (fun x => x.toReg 1 rd (extField (x.rg ra) pos.toNat (wm1.toNat + 1) sx)))

/-- BINS: the low bits of g[ra] put into g[rd]. -/
def execBins (e : Engine) (rd ra : Fin 32) (pos : BitVec 6) (wm1 : BitVec 6) (s : State) : Res :=
  .next (s.issue e (fun x => x.toReg 1 rd (setBitField (x.rg rd) pos.toNat (wm1.toNat + 1) (x.rg ra))))

/-- Leading zeros of the low `n` bits. -/
def clz : Nat → Nat → Nat
  | 0, _ => 0
  | n + 1, v => if v / 2 ^ n % 2 = 1 then 0 else clz n v + 1

/-- Trailing zeros among `n` bits. -/
def ctz : Nat → Nat → Nat
  | 0, _ => 0
  | n + 1, v => if v % 2 = 1 then 0 else ctz n (v / 2) + 1

/-- The low `n` bits in the opposite order. -/
def brev : Nat → Nat → Nat
  | 0, _ => 0
  | n + 1, v => v % 2 * 2 ^ n + brev n (v / 2)

/-- The functions of bop: popc, clz, ctz, brev, bswap, bip8. -/
def bopFn (f v : Nat) : Nat :=
  match f with
  | 0 => popcount 64 v
  | 1 => clz 64 v
  | 2 => ctz 64 v
  | 3 => brev 64 v
  | 4 => ofBeBytes (leBytes 8 v)
  | _ => bip8 [v]

/-- BOP. -/
def execBop (e : Engine) (pg : Fin 8) (rd ra : Fin 32) (f : Fin 6) (s : State) : Res :=
  .next (s.issueIf e pg (fun x => x.toReg 1 rd (bopFn f (x.rg ra))))

/-- crc of R267: state width and polynomial of Table 4.6 by `poly`, over the `n` low bytes of the data. -/
def crcFn (poly n st data : Nat) : Nat :=
  match poly with
  | 0 => crcBits 8 0x07 (8 * n) data (st % 2 ^ 8)
  | 1 => crcBits 16 0x1021 (8 * n) data (st % 2 ^ 16)
  | _ => crcBits 32 0x04C11DB7 (8 * n) data (st % 2 ^ 32)

/-- CRC (R267): latency 2. -/
def execCrc (e : Engine) (pg : Fin 8) (rd ra rb : Fin 32) (poly : Fin 3) (n1 : Fin 8) (s : State) : Res :=
  .next (s.issueIf e pg (fun x => x.toReg 2 rd (crcFn poly (n1 + 1) (x.rg ra) (x.rg rb))))

end Sys2Proof.Machine
end

