-- ==== Sys2Proof/Machine/VsiPort.lean ====
section
/-! DEFINITION. The meanings of the unit-port operations of the stream profile (R270, R271, Tables 10.9 to 10.11). A port operation
is refused to a thread that does not issue; every operation is guarded by `pg` (R258). -/
namespace Sys2Proof.Machine

/-- A port operation of thread `t` of Weaver `q` whose result goes to `rd` after `l` cycles. -/
def State.portRead (s : State) (q : Fin 24) (t : Fin 16) (pg l rd : Nat) (f : Eng → State → Nat × State) : State :=
  s.issueS (.thread q t) pg (fun x s =>
    let (v, s) := f x s
    s.setEng (16 * q + t) ((s.eng (16 * q + t)).toReg l rd v))

/-- A port operation without a result. -/
def State.portDo (s : State) (q : Fin 24) (t : Fin 16) (pg : Nat) (f : Eng → State → State) : State :=
  s.issueS (.thread q t) pg f

/-- The engine record of a thread changed. -/
def State.updEng (s : State) (i : Nat) (f : Eng → Eng) : State := s.setEng i (f (s.eng i))

/-! TIME and STAMP. -/

/-- The three forms of a time in 2^-16 ns: T[63:0], T[95:64], whole ns (R85). -/
def timeWord (f t : Nat) : Nat :=
  match f with
  | 0 => stampOf t % 2 ^ 64
  | 1 => stampOf t / 2 ^ 64
  | _ => t / 2 ^ 16

/-- TIME_READ: Weaver time at issue. -/
def execTimeRead (q : Fin 24) (t : Fin 16) (pg : Fin 8) (rd : Fin 32) (f : Fin 3) (s : State) : Res :=
  .next (s.portRead q t pg 1 rd (fun _ s =>
    let (now, s) := s.stamp
    (timeWord f now, s)))

/-- STAMP_READ: the instant, in the T layout, at which bit g[ra][8:0] of the beat crosses the ball, as the capture unit of the lane
gives it (R77, R86, R128); 0 on a service thread. -/
def execStampRead (q : Fin 24) (t : Fin 16) (pg : Fin 8) (rd : Fin 32) (f : Fin 2) (inst : BitVec 96) (s : State) : Res :=
  .next (s.portRead q t pg 4 rd (fun _ s =>
    (if !s.isStream q t then 0 else if f.val = 0 then inst.toNat % 2 ^ 64 else inst.toNat / 2 ^ 64, s)))

/-! FLOW. -/

/-- A word of the flow table read: corrected, or found uncorrectable, when it counts as empty until the steward rewrites it
(R202). -/
def State.flowFind (s : State) (e : Nat) (f : EccFind) : State :=
  let s := s.eccRead 2 e f
  if eccBad f.cls ∧ ¬ s.flowBad.contains e then { s with flowBad := e :: s.flowBad } else s

/-- The result word of a lookup (Table 10.10). -/
def State.flowWord (s : State) (key tag : Nat) : Nat :=
  2 ^ 63 + tag % 2 ^ 16 * 2 ^ 16 + (match s.flowLookup key with | some f => 2 ^ 62 + f % 2 ^ 16 | none => 0)

/-- FLOW_LOOKUP_ISSUE: the key g[ra] looked up with tag g[rb]; `find` is an entry that the lookup finds in error, if any. -/
def execFlowLookupIssue (q : Fin 24) (t : Fin 16) (pg : Fin 8) (ra rb : Fin 32) (find : Option (BitVec 16 × EccFind)) (s : State) :
    Res :=
  .next (s.portDo q t pg (fun x s =>
    let s := match find with | some (e, f) => s.flowFind e.toNat f | none => s
    let w := s.flowWord (x.rg ra) (x.rg rb)
    s.updEng (16 * q + t) (fun x => { x with flowIss := x.flowIss ++ [w] })))

/-- A result that falls due joins the results held; with 16 held it is lost, and the next one held says so (R270). -/
def holdResult (held : List Nat) (lost : Bool) (w : Nat) : List Nat × Bool :=
  if 16 ≤ held.length then (held, true) else (held ++ [w + 2 ^ 61 * bit lost], false)

/-- FLOW_RESULT_DUE: the oldest issued lookup falls due. -/
def execFlowResultDue (q : Fin 24) (t : Fin 16) (s : State) : Res :=
  .next (s.updEng (16 * q + t) (fun x =>
    match x.flowIss with
    | [] => x
    | w :: rest =>
      let (held, lost) := holdResult x.flowHeld x.flowLost w
      { x with flowIss := rest, flowHeld := held, flowLost := lost }))

/-- FLOW_RESULT_COLLECT: the oldest due result; 0 with none due, but for the lost bit when one was lost behind those collected. -/
def execFlowResultCollect (q : Fin 24) (t : Fin 16) (pg : Fin 8) (rd : Fin 32) (s : State) : Res :=
  .next (s.portRead q t pg 1 rd (fun x s =>
    match x.flowHeld with
    | w :: rest => (w, s.updEng (16 * q + t) (fun x => { x with flowHeld := rest }))
    | [] => (2 ^ 61 * bit x.flowLost, s.updEng (16 * q + t) (fun x => { x with flowLost := false }))))

/-! GRNI. -/

/-- The packet of an open handle. -/
def Eng.handle (x : Eng) (h : Nat) : Option Nat := (x.handles.find? (fun e => e.1 == h)).map (·.2)

/-- GRNI_OPEN: a new packet for queue g[ra][15:0] with arrival instant g[rb]; with four open it is dropped with cause ADMIT_POOL
and 0xFFFF is returned. The handle's number is the model's choice: the lowest free of 0 to 3 (assumption log entry 19, DESIGN CHOICE, unsafe). -/
def execGrniOpen (q : Fin 24) (t : Fin 16) (pg : Fin 8) (rd ra rb : Fin 32) (s : State) : Res :=
  .next (s.portRead q t pg 2 rd (fun x s =>
    let f := x.rg ra % 2 ^ 16
    match (upTo id 4).find? (fun h => (x.handle h).isNone) with
    | some h =>
      let (id, s) := s.openPkt f (s.threadChan q t) (x.rg rb)
      (h, s.updEng (16 * q + t) (fun x => { x with handles := x.handles ++ [(h, id)] }))
    | none => (0xFFFF, s.recordDrop f 2)))

/-- `n` bytes of the window from a bit on. -/
def winBytes (w p n : Nat) : List Nat := upTo (fun i => bitField (winFrom w p) (8 * i) 8) n

/-- The Ethernet or trunk cut-through point: a packet marked cut-through joins when its first cell is written (R214). The first cell
holds 224 packet bytes beside its 32 bytes of metadata (R199). -/
def State.joinIfCut (s : State) (id : Nat) : State :=
  match s.pkt id with
  | some p => if p.ct ∧ (224 ≤ p.bytes.length ∨ (p.len ≤ p.bytes.length ∧ 0 < p.len)) then s.joinPkt id else s
  | none => s

/-- GRNI_APPEND: g[rb][22:16] bytes of the window from bit g[rb][8:0] added to the packet of handle g[ra]; admission is R215's. A
count outside 1 to 64 adds nothing. -/
def execGrniAppend (q : Fin 24) (t : Fin 16) (pg : Fin 8) (ra rb : Fin 32) (s : State) : Res :=
  .next (s.portDo q t pg (fun x s =>
    let n := bitField (x.rg rb) 16 7
    match x.handle (x.rg ra) with
    | some id =>
      if 1 ≤ n ∧ n ≤ 64 then
        let (_, s) := s.writePkt id (winBytes (if s.isStream q t then x.w else 0) (x.rg rb % 512) n)
        s.joinIfCut id
      else s
    | none => s))

/-- GRNI_CLOSE: the packet is whole, with its errored and late marks. -/
def execGrniClose (q : Fin 24) (t : Fin 16) (pg : Fin 8) (ra rb : Fin 32) (s : State) : Res :=
  .next (s.portDo q t pg (fun x s =>
    let h := x.rg ra
    match x.handle h with
    | some id =>
      (s.closePkt id (bitField (x.rg rb) 0 1 == 1) (bitField (x.rg rb) 1 1 == 1)).updEng (16 * q + t)
        (fun x => { x with handles := x.handles.filter (fun e => e.1 != h) })
    | none => s))

/-- GRNI_CUT_THROUGH: the packet is marked cut-through with its length (R214). -/
def execGrniCutThrough (q : Fin 24) (t : Fin 16) (pg : Fin 8) (ra rb : Fin 32) (s : State) : Res :=
  .next (s.portDo q t pg (fun x s =>
    match x.handle (x.rg ra) with
    | some id =>
      match s.pkt id with
      | some p => (s.setPkt { p with ct := true, len := x.rg rb % 2 ^ 14 }).joinIfCut id
      | none => s
    | none => s))

/-- GRNI_SEND_BY: the carried send-by instant is g[rb] (R216). -/
def execGrniSendBy (q : Fin 24) (t : Fin 16) (pg : Fin 8) (ra rb : Fin 32) (s : State) : Res :=
  .next (s.portDo q t pg (fun x s =>
    match x.handle (x.rg ra) with
    | some id => (match s.pkt id with | some p => s.setPkt { p with carried := some (x.rg rb) } | none => s)
    | none => s))

/-! GRNE. -/

/-- The choice word of a packet: bits 55 to 0 of its sheaf header (Table 6.6). -/
def State.choiceWord (s : State) (p : Packet) : Nat :=
  match sheafBlocks p.queue (s.rd R.GRN_QD_CTRL.class_ p.queue) p (decide (s.mode = .errand) && p.ct) with
  | (h, _) :: _ => h % 2 ^ 56
  | [] => 0

/-- GRNE_CHOICE_ISSUE: the choice of R218 to R220 made at once, with now equal to g[rb]. -/
def execGrneChoiceIssue (q : Fin 24) (t : Fin 16) (pg : Fin 8) (ra rb : Fin 32) (s : State) : Res :=
  .next (s.portDo q t pg (fun x s =>
    let kind := bitField (x.rg ra) 16 1
    let e := x.rg ra % 2 ^ 16
    let r := s.choose kind e (x.rg rb) (kind == 1 && s.runs e 0 2 && s.pw e 0 26 == 2) (s.pkts.length + 1)
    let w := match r.1 with
      | some p => (2 ^ 63 + r.2.choiceWord p, some p.id)
      | none => (2 ^ 63 + 2 ^ 62, none)
    r.2.updEng (16 * q + t) (fun x => { x with grneIss := x.grneIss ++ [w] })))

/-- GRNE_CHOICE_DUE: the oldest choice issued falls due. A lost choice leaves its packet without a program to send it: its departure
completes as R223 states. -/
def execGrneChoiceDue (q : Fin 24) (t : Fin 16) (s : State) : Res :=
  let x := s.eng (16 * q + t)
  match x.grneIss with
  | [] => .next s
  | (w, p) :: rest =>
    if 16 ≤ x.grneHeld.length then
      let s := s.setEng (16 * q + t) { x with grneIss := rest, grneLost := true }
      .next (match p with | some id => s.endDeparture id | none => s)
    else .next (s.setEng (16 * q + t)
      { x with grneIss := rest, grneHeld := x.grneHeld ++ [(w + 2 ^ 61 * bit x.grneLost, p)], grneLost := false })

/-- GRNE_CHOICE_COLLECT: the oldest due choice; a valid one becomes the current packet, and the departure of an unended one before
it completes (R271). -/
def execGrneChoiceCollect (q : Fin 24) (t : Fin 16) (pg : Fin 8) (rd : Fin 32) (s : State) : Res :=
  .next (s.portRead q t pg 1 rd (fun x s =>
    match x.grneHeld with
    | [] => (2 ^ 61 * bit x.grneLost, s.updEng (16 * q + t) (fun x => { x with grneLost := false }))
    | (w, none) :: rest => (w, s.updEng (16 * q + t) (fun x => { x with grneHeld := rest }))
    | (w, some id) :: rest =>
      let s := match x.cur with | some (old, _) => s.endDeparture old | none => s
      (w, s.updEng (16 * q + t) (fun x => { x with grneHeld := rest, cur := some (id, 0) }))))

/-- What the read of a departing packet's word finds (Table 8.3). -/
def State.grnFind (s : State) (id : Nat) (w : GrnWord) (f : EccFind) : State :=
  match s.pkt id with
  | none => s
  | some p =>
    match w with
    | .data b row word =>
      let s := s.bankEcc b row.toNat word.toNat f false
      if eccBad f.cls then s.setPkt { p with err := true } else s
    | .meta_ b row word =>
      let s := s.bankEcc b row.toNat word.toNat f false
      if eccBad f.cls then s.dropPkt p 5 else s
    | .link cell =>
      let s := s.eccRead 1 cell.toNat f
      if eccBad f.cls then s.fenceQueue p.queue 2 else s
    | .desc =>
      let s := s.eccRead 2 p.queue f
      if eccBad f.cls then s.fenceQueue p.queue 1 else s

/-- GRNE_WRITE: the next g[ra][22:16] bytes of the current packet into the window from bit g[ra][8:0]; bytes past its length read 0;
the first such write begins the departure (R223). `finds` are the words in error that the bytes come through. A count outside 1
to 64 writes nothing. -/
def execGrneWrite (q : Fin 24) (t : Fin 16) (pg : Fin 8) (ra : Fin 32) (finds : List (GrnWord × EccFind)) (s : State) : Res :=
  .next (s.portDo q t pg (fun x s =>
    let n := bitField (x.rg ra) 16 7
    match x.cur with
    | none => s
    | some (id, k) =>
      match s.pkt id with
      | none => s
      | some p =>
        if 1 ≤ n ∧ n ≤ 64 then
          let s := s.setPkt { p with begun := true }
          let s := finds.foldl (fun s f => s.grnFind id f.1 f.2) s
          let v := ofLeBytes (upTo (fun i => p.bytes.getD (k + i) 0) n)
          s.updEng (16 * q + t) (fun y =>
            let y := { y with cur := some (id, k + n) }
            if s.isStream q t then y.give 1 (.win (x.rg ra % 512) (8 * n)) v else y)
        else s))

/-- GRNE_END: the current packet's departure ends and its cells are freed (R225). -/
def execGrneEnd (q : Fin 24) (t : Fin 16) (pg : Fin 8) (s : State) : Res :=
  .next (s.portDo q t pg (fun x s =>
    match x.cur with
    | some (id, _) => (s.endDeparture id).updEng (16 * q + t) (fun x => { x with cur := none })
    | none => s))

/-! XC. -/

/-- XC_PUT: word g[rb] put into tributary g[ra][15:0] toward its other ends at this part. -/
def execXcPut (q : Fin 24) (t : Fin 16) (pg : Fin 8) (ra rb : Fin 32) (s : State) : Res :=
  .next (s.portDo q t pg (fun x s =>
    let tr := x.rg ra % 2 ^ 16
    (s.otherEnds tr (s.threadChan q t)).foldl (fun (s : State) (e : Nat) =>
      s.setXc tr e { s.xcEnd tr e with flight := (s.xcEnd tr e).flight ++ [x.rg rb] }) s))

/-- XC_WORD_DELIVERY (R172, R271): the oldest word on its way to the end of tributary `tr` on channel `c` is delivered: to the Almanac
mapper there, or to the end's queue, and discarded when 64 words are held. -/
def execXcWordDelivery (tr : BitVec 16) (c : Fin 96) (s : State) : Res :=
  let x := s.xcEnd tr.toNat c
  match x.flight with
  | [] => .next s
  | w :: rest => .next ((s.setXc tr.toNat c { x with flight := rest }).wordsTo tr.toNat c [w])

/-- XC_TAKE: the oldest delivered word of tributary g[ra][15:0] at the thread's channel, or 0. -/
def execXcTake (q : Fin 24) (t : Fin 16) (pg : Fin 8) (rd ra : Fin 32) (s : State) : Res :=
  .next (s.portRead q t pg 1 rd (fun x s =>
    let tr := x.rg ra % 2 ^ 16
    let c := s.threadChan q t
    match (s.xcEnd tr c).held with
    | w :: rest => (w, s.setXc tr c { s.xcEnd tr c with held := rest })
    | [] => (0, s)))

/-- XC_COUNT: words delivered and not yet taken. -/
def execXcCount (q : Fin 24) (t : Fin 16) (pg : Fin 8) (rd ra : Fin 32) (s : State) : Res :=
  .next (s.portRead q t pg 1 rd (fun x s => ((s.xcEnd (x.rg ra % 2 ^ 16) (s.threadChan q t)).held.length, s)))

/-! FIFO. -/

/-- A word pushed by a Weaver into a read FIFO: discarded with overflow when it is full; the rest of an item that a flush cut short
is discarded and counted (R271, R366). -/
def State.fifoPush (s : State) (q f : Nat) (w : W32) : State :=
  let x := s.fifo q f
  if x.left ≠ 0 ∧ x.drop then
    let s := s.setFifo q f { x with left := x.left - 1 }
    if x.flushed then s.bump (R.WVR_FIFO_CTRL_f.flushed_words q) f 1 else s
  else if fifoCap f ≤ x.words.length then s.wr (R.WVR_FIFO_STAT_f.overflow q) f 1
  else s.setFifo q f { x with left := if x.left = 0 then itemLen f w - 1 else x.left - 1, words := x.words ++ [w] }

/-- A word popped by a Weaver from a write FIFO, 0 when it is empty. -/
def State.fifoPop (s : State) (q f : Nat) : Nat × State :=
  let x := s.fifo q f
  match x.words with
  | w :: rest => (w.toNat, s.setFifo q f { x with words := rest })
  | [] => (0, s)

/-- FIFO_PORT_PUSH: g[rb][31:0] pushed into read FIFO `f` of 0, 2 and 4. -/
def execFifoPortPush (q : Fin 24) (t : Fin 16) (pg : Fin 8) (rb : Fin 32) (k : Fin 3) (s : State) : Res :=
  .next (s.portDo q t pg (fun x s => s.fifoPush q (2 * k) (BitVec.ofNat 32 (x.rg rb))))

/-- FIFO_PORT_POP: the next word of write FIFO 1 or 3. -/
def execFifoPortPop (q : Fin 24) (t : Fin 16) (pg : Fin 8) (rd : Fin 32) (k : Fin 2) (s : State) : Res :=
  .next (s.portRead q t pg 1 rd (fun _ s => s.fifoPop q (2 * k + 1)))

/-- FIFO_PORT_LEVEL: free words of a read FIFO, words held of a write FIFO. -/
def execFifoPortLevel (q : Fin 24) (t : Fin 16) (pg : Fin 8) (rd : Fin 32) (f : Fin 5) (s : State) : Res :=
  .next (s.portRead q t pg 1 rd (fun _ s =>
    let n := (s.fifo q f).words.length
    (if readFifo f then fifoCap f - n else n, s)))

/-! CAL, TALLY and PBLK. -/

/-- CAL_ENTRY_READ: the entry of column g[ra] in the copy that `f` names; 0 at or above S. -/
def execCalEntryRead (q : Fin 24) (t : Fin 16) (pg : Fin 8) (rd ra : Fin 32) (f : Fin 4) (s : State) : Res :=
  .next (s.portRead q t pg 2 rd (fun x s =>
    let c := s.threadChan q t
    let dir := f.val % 2
    let copy := if f.val < 2 then s.calSel c dir else 1 - s.calSel c dir
    (if x.rg ra < s.slots c then s.cal c dir copy (x.rg ra) else 0, s)))

/-- The counter lies in a group that threads of quad `q` may add to: L or C of its own lanes and channels, T or Q (Table 7.5). -/
def tallyAllowed (q i : Nat) : Bool :=
  (decide (i < 1536) && i / 16 / 4 == q)
    || (decide (1536 ≤ i ∧ i < 1536 + 96 * 32) && (i - 1536) / 32 / 4 == q)
    || decide (5632 ≤ i ∧ i < 136704 + 2 * 65536)

/-- TALLY_ADD: counter g[ra] raised by g[rb] where it is allowed. -/
def execTallyAdd (q : Fin 24) (t : Fin 16) (pg : Fin 8) (ra rb : Fin 32) (s : State) : Res :=
  .next (s.portDo q t pg (fun x s => if tallyAllowed q (x.rg ra) then s.count (x.rg ra) (x.rg rb) else s))

/-- Channel and slot of the running program: that of the handler in hand. -/
def Eng.block (x : Eng) : Option (Nat × Nat) := (x.todo.head?).map (fun h => (h.chan, h.slot))

/-- PBLK_READ: word g[ra][6:0] of the running program's block, as in force. -/
def execPblkRead (q : Fin 24) (t : Fin 16) (pg : Fin 8) (rd ra : Fin 32) (s : State) : Res :=
  .next (s.portRead q t pg 1 rd (fun x s =>
    (match x.block with | some (c, slot) => s.pw c slot (x.rg ra % 128) | none => 0, s)))

/-- Word `w` of a program's block is one of its status words. -/
def Prog.isStatus (p : Prog) (w : Nat) : Bool := decide (8 + p.nParam ≤ w ∧ w < 8 + p.nParam + p.nStatus)

/-- PBLK_STATUS_WRITE: a status word written into the shadow; header and parameter words are left as they are. -/
def execPblkStatusWrite (q : Fin 24) (t : Fin 16) (pg : Fin 8) (ra rb : Fin 32) (s : State) : Res :=
  .next (s.portDo q t pg (fun x s =>
    match x.block with
    | none => s
    | some (c, slot) =>
      let w := x.rg ra % 128
      match s.prog c slot with
      | some p => if p.isStatus w then
          { s with shadow := Tab.put none s.shadow (blockWord c slot w) (some (BitVec.ofNat 32 (x.rg rb))) } else s
      | none => s))

/-- A status word as the shadow holds it: the word written since the last frame boundary, else the block's own. -/
def State.shadowWord (s : State) (c slot w : Nat) : Nat :=
  match Tab.get none s.shadow (blockWord c slot w) with
  | some v => v.toNat
  | none => s.pw c slot w

/-- PBLK_STATUS_READ: word g[ra][6:0] from the shadow. -/
def execPblkStatusRead (q : Fin 24) (t : Fin 16) (pg : Fin 8) (rd ra : Fin 32) (s : State) : Res :=
  .next (s.portRead q t pg 1 rd (fun x s =>
    (match x.block with | some (c, slot) => s.shadowWord c slot (x.rg ra % 128) | none => 0, s)))

/-! UNIT. -/

/-- The lane whose units a thread addresses: its own, or lane 4q + g[ra][4:3] from a service thread (R271). -/
def State.unitLane (s : State) (q t ra : Nat) : Nat := if s.isStream q t then s.threadLane q t else 4 * q + bitField ra 3 2

/-- The status word of unit `u` of lane `n` (Table 10.11). The symbols that the FEC corrected in the last frame are the world's: free. -/
def State.unitStatus (s : State) (n u : Nat) : Nat × State :=
  let a := s.align n
  let x := s.vtf n
  match u with
  | 0 =>
    let (f, s) := s.fresh 16
    (bit a.cwLock + 2 * bit a.amLock + 4 * bit a.hiBer + 2 ^ 16 * f, s)
  | 1 => (bit a.blLock, s)
  | 2 => ((if x.fasAt.isSome then 2 else if a.blLock then 1 else 0) + 4 * bit x.mfSync + 2 ^ 16 * (x.candOvf % 2 ^ 16), s)
  | 3 => (min x.lastViol 15 + 16 * bit x.checked, s.setVtf n { x with checked := false })
  | 5 => (bit (s.role != 0), s)
  | _ => (0, s)

/-- UNIT_STATUS_READ. -/
def execUnitStatusRead (q : Fin 24) (t : Fin 16) (pg : Fin 8) (rd ra : Fin 32) (s : State) : Res :=
  .next (s.portRead q t pg 2 rd (fun x s => s.unitStatus (s.unitLane q t (x.rg ra)) (x.rg ra % 8)))

/-- A control word of unit `u` holds no reserved value (Table 10.11). -/
def unitWordOk (u v : Nat) : Bool :=
  match u with
  | 0 => decide (v % 4 ≠ 3 ∧ v < 8)
  | 1 => decide (v < 4)
  | 2 => decide (v < 2 ^ 15 ∧ 2 ≤ bitField v 0 4 ∧ bitField v 0 4 ≤ 8 ∧ 2 ≤ bitField v 4 5 ∧ bitField v 4 5 ≤ 16
      ∧ 2 ≤ bitField v 9 5 ∧ bitField v 9 5 ≤ 16)
  | 3 => decide (v < 2)
  | 4 => decide (v < 8)
  | _ => false

/-- UNIT_CONTROL_WRITE: a control word in force from the lane's next beat; discarded whole when it holds a reserved value or is a FEC
word that raises the quad above the capacity (R18, R271). Only the slot 0 program sets the FEC code. -/
def execUnitControlWrite (q : Fin 24) (t : Fin 16) (pg : Fin 8) (ra rb : Fin 32) (s : State) : Res :=
  .next (s.portDo q t pg (fun x s =>
    let u := x.rg ra % 8
    let n := s.unitLane q t (x.rg ra)
    let v := x.rg rb % 2 ^ 32
    if !unitWordOk u v then s
    else
      let put := fun (s : State) => { s with units := Tab.put none s.units (8 * n + u) (some v) }
      if u = 0 then
        let slot0 := match x.block with | some (_, slot) => slot == 0 | none => false
        if slot0 then s.fecWrite n v else s
      else if u = 1 ∧ (bitField v 1 1 = 1 ∨ bitField v 0 1 = 0) then put (s.restartHunt n)
      else put s))

end Sys2Proof.Machine
end

