-- ==== Sys2Proof/Machine/VsiQ.lean ====
section
/-! DEFINITION. The meanings of the queue-slot memory instructions and the control profile's bus and Ledger instructions (R269,
R272, R276, Tables 10.8 and 10.13). -/
namespace Sys2Proof.Machine

/-- QNOP: no effect. -/
def execQnop (_ : Engine) (s : State) : Res := .next s

/-- The byte of the engine's own data memory that (g[ra] + sext(imm)) names, aligned to `n` bytes (R269). -/
def State.dataAddr (s : State) (e : Engine) (x : Eng) (ra imm n : Nat) : Nat :=
  let a := (x.rg ra + sext16 imm) % 2 ^ 64
  match e with
  | .thread q t => s.privateBase q t + a % 4096 / n * n
  | .reeve r => 0x2000000 + r * 0x40000 + a % 262144 / n * n

/-- A word of the engine's data memory read with a decode class (Table 9.5). -/
def State.dataEcc (s : State) (e : Engine) (addr : Nat) (c : EccClass) : State :=
  match e with
  | .thread q t => s.weaverEcc q t 1 ((addr - 0x1800000) % 0x10000 / 8) c
  | .reeve r => s.reeveEcc r 2 c

/-- A load of `n` bytes with latency 2. -/
def State.load (s : State) (e : Engine) (rd ra imm n : Nat) (c : EccClass) : State :=
  s.issueS e 0 (fun x s =>
    let a := s.dataAddr e x ra imm n
    (s.setEng (engIdx e) (x.toReg 2 rd (s.bytes a n))).dataEcc e (a / 8 * 8) c)

/-- A store of `n` bytes. -/
def State.store (s : State) (e : Engine) (rd ra imm n : Nat) (c : EccClass) : State :=
  s.issueS e 0 (fun x s =>
    let a := s.dataAddr e x ra imm n
    (s.setBytes a n (x.rg rd)).dataEcc e (a / 8 * 8) c)

/-- LD: 64 bits from the private region or Reeve data memory; the word decodes as `c`. -/
def execLd (e : Engine) (rd ra : Fin 32) (imm : BitVec 16) (c : EccClass) (s : State) : Res :=
  .next (s.load e rd ra imm.toNat 8 c)

/-- LDW: 32 bits, zero-extended. -/
def execLdw (e : Engine) (rd ra : Fin 32) (imm : BitVec 16) (c : EccClass) (s : State) : Res :=
  .next (s.load e rd ra imm.toNat 4 c)

/-- ST: 64 bits; the whole word is overwritten, an error in it included. -/
def execSt (e : Engine) (rd ra : Fin 32) (imm : BitVec 16) (s : State) : Res :=
  .next (s.store e rd ra imm.toNat 8 .clean)

/-- STW: 32 bits; the word read to merge its other half decodes as `c`. -/
def execStw (e : Engine) (rd ra : Fin 32) (imm : BitVec 16) (c : EccClass) (s : State) : Res :=
  .next (s.store e rd ra imm.toNat 4 c)

/-- The offset in the shared region that (g[ra] + sext(imm)) names. -/
def sharedOff (x : Eng) (ra imm n : Nat) : Nat := (x.rg ra + sext16 imm) % 65536 / n * n

/-- A shared load: the word as it stands at the end of cycle k + 19 (R269). -/
def State.loadShared (s : State) (q t rd ra imm n : Nat) (e : Engine) (c : EccClass) : State :=
  s.issueS e 0 (fun x s =>
    let a := sharedOff x ra imm n
    (s.setEng (engIdx e) { x with due := x.due ++ [⟨x.cycle + 20, .reg rd, 0, some (a, n)⟩] }).weaverEcc q t 2 (a / 8) c)

/-- A shared store: on its way until the end of cycle k + 19 (R269). -/
def State.storeShared (s : State) (q t rd ra imm n : Nat) (e : Engine) (c : EccClass) : State :=
  s.issueS e 0 (fun x s =>
    let a := sharedOff x ra imm n
    ({ s with shst := s.shst ++ [⟨q, t, x.cycle + 20, a, n, x.rg rd⟩] } : State).weaverEcc q t 2 (a / 8) c)

/-- LDS: 64 bits of the shared region, latency 20. -/
def execLds (q : Fin 24) (t : Fin 16) (rd ra : Fin 32) (imm : BitVec 16) (c : EccClass) (s : State) : Res :=
  .next (s.loadShared q t rd ra imm.toNat 8 (.thread q t) c)

/-- LDSW: 32 bits of the shared region, latency 20. -/
def execLdsw (q : Fin 24) (t : Fin 16) (rd ra : Fin 32) (imm : BitVec 16) (c : EccClass) (s : State) : Res :=
  .next (s.loadShared q t rd ra imm.toNat 4 (.thread q t) c)

/-- STS: 64 bits to the shared region. -/
def execSts (q : Fin 24) (t : Fin 16) (rd ra : Fin 32) (imm : BitVec 16) (s : State) : Res :=
  .next (s.storeShared q t rd ra imm.toNat 8 (.thread q t) .clean)

/-- STSW: 32 bits to the shared region; the word read to merge its other half decodes as `c`. -/
def execStsw (q : Fin 24) (t : Fin 16) (rd ra : Fin 32) (imm : BitVec 16) (c : EccClass) (s : State) : Res :=
  .next (s.storeShared q t rd ra imm.toNat 4 (.thread q t) c)

/-- A store whose cycle has come: its thread has reached it, or its run has ended. -/
def State.storeDue (s : State) (q : Nat) (e : SharedStore) : Bool :=
  e.q == q && (decide (e.at_ ≤ (s.eng (16 * q + e.t)).cycle) || !(s.eng (16 * q + e.t)).running)

/-- SHARED_STORE_EFFECT (R236, R269): the stores of a Weaver that are due take effect in thread order, those of one thread in the
order of issue. -/
def execSharedStoreEffect (q : Fin 24) (s : State) : Res :=
  let due := s.shst.filter (s.storeDue q)
  let s' := { s with shst := s.shst.filter (fun e => !s.storeDue q e) }
  .next ((upTo id 16).foldl (fun s t =>
    (due.filter (fun e => e.t == t)).foldl (fun s e => s.sharedWrite q e.addr e.len e.val) s) s')

/-! Bus accesses of the Reeves. -/

/-- A bus access issued: the Reeve stalls until it completes (R272). -/
def State.busIssue (s : State) (r : Nat) (e : Engine) (rd : Option Nat) (src ra imm : Nat) (double : Bool) : State :=
  (s.issue e (fun x => { x with stallNew := true, stall := some (.bus rd ((x.rg ra + sext16 imm) % 2 ^ 32) (x.rg src) double) })).showReeve r

/-- BLD: 32 bits over the bus matrix. -/
def execBld (r : Fin 4) (rd ra : Fin 32) (imm : BitVec 16) (s : State) : Res :=
  .next (s.busIssue r (.reeve r) (some rd) 0 ra imm.toNat false)

/-- BST: 32 bits to the bus matrix. -/
def execBst (r : Fin 4) (rd ra : Fin 32) (imm : BitVec 16) (s : State) : Res :=
  .next (s.busIssue r (.reeve r) none rd ra imm.toNat false)

/-- BLDD: 64 bits as two accesses. -/
def execBldd (r : Fin 4) (rd ra : Fin 32) (imm : BitVec 16) (s : State) : Res :=
  .next (s.busIssue r (.reeve r) (some rd) 0 ra imm.toNat true)

/-- BSTD: 64 bits as two accesses. -/
def execBstd (r : Fin 4) (rd ra : Fin 32) (imm : BitVec 16) (s : State) : Res :=
  .next (s.busIssue r (.reeve r) none rd ra imm.toNat true)

/-! The Ledger. -/

/-- A ckpt operation issued: the Reeve stalls until the Ledger reports (R276). -/
def State.ckptIssue (s : State) (r : Nat) (e : Engine) (pg f rd ra rb : Nat) : State :=
  (s.issueIf e pg (fun x => { x with stallNew := true, stall := some (.ckpt f rd (x.rg ra) (x.rg rb)) })).showReeve r

/-- CKPT_OPEN: operation 0. -/
def execCkptOpen (r : Fin 4) (pg : Fin 8) (rd ra rb : Fin 32) (s : State) : Res := .next (s.ckptIssue r (.reeve r) pg 0 rd ra rb)
/-- CKPT_WRITE: operation 1. -/
def execCkptWrite (r : Fin 4) (pg : Fin 8) (rd ra rb : Fin 32) (s : State) : Res := .next (s.ckptIssue r (.reeve r) pg 1 rd ra rb)
/-- CKPT_COMMIT: operation 2. -/
def execCkptCommit (r : Fin 4) (pg : Fin 8) (rd ra rb : Fin 32) (s : State) : Res := .next (s.ckptIssue r (.reeve r) pg 2 rd ra rb)
/-- CKPT_MIRROR: operation 3. -/
def execCkptMirror (r : Fin 4) (pg : Fin 8) (rd ra rb : Fin 32) (s : State) : Res := .next (s.ckptIssue r (.reeve r) pg 3 rd ra rb)
/-- CKPT_JOURNAL_APPEND: operation 4. -/
def execCkptJournalAppend (r : Fin 4) (pg : Fin 8) (rd ra rb : Fin 32) (s : State) : Res :=
  .next (s.ckptIssue r (.reeve r) pg 4 rd ra rb)
/-- CKPT_REPAIR_RECORD: operation 5. -/
def execCkptRepairRecord (r : Fin 4) (pg : Fin 8) (rd ra rb : Fin 32) (s : State) : Res :=
  .next (s.ckptIssue r (.reeve r) pg 5 rd ra rb)

end Sys2Proof.Machine
end

