-- ==== Sys2Proof/Machine/Dispatch.lean ====
section
/-! DEFINITION. The dispatch: one arm per command, each one direct call of that command's meaning. -/
namespace Sys2Proof.Machine

def exec (i : Instr) (s : State) : Host.Outcome State Fault Refusal :=
  match i with
  | .powerOnReset => Sys2Proof.Machine.execPowerOnReset s
  | .warmReset => Sys2Proof.Machine.execWarmReset s
  | .resetNRelease => Sys2Proof.Machine.execResetNRelease s
  | .hostPortReset flr hostBurst dmaBurst => Sys2Proof.Machine.execHostPortReset flr hostBurst dmaBurst s
  | .startupStepComplete f => Sys2Proof.Machine.execStartupStepComplete f s
  | .pairRefclkLoss => Sys2Proof.Machine.execPairRefclkLoss s
  | .pairRefclkRestore => Sys2Proof.Machine.execPairRefclkRestore s
  | .serdesRefclkLoss => Sys2Proof.Machine.execSerdesRefclkLoss s
  | .serdesRefclkFence => Sys2Proof.Machine.execSerdesRefclkFence s
  | .serdesRefclkReturn => Sys2Proof.Machine.execSerdesRefclkReturn s
  | .xtalAonLoss => Sys2Proof.Machine.execXtalAonLoss s
  | .xtalAonRestore => Sys2Proof.Machine.execXtalAonRestore s
  | .oscInLoss long => Sys2Proof.Machine.execOscInLoss long s
  | .supplyLoss => Sys2Proof.Machine.execSupplyLoss s
  | .thermalTrip => Sys2Proof.Machine.execThermalTrip s
  | .thermalTripRecovery => Sys2Proof.Machine.execThermalTripRecovery s
  | .jtagTapReset => Sys2Proof.Machine.execJtagTapReset s
  | .rveReset m r burst => Sys2Proof.Machine.execRveReset m r burst s
  | .rveResetDone r => Sys2Proof.Machine.execRveResetDone r s
  | .rveFenceReq m r => Sys2Proof.Machine.execRveFenceReq m r s
  | .reeveWatchdog r => Sys2Proof.Machine.execReeveWatchdog r s
  | .reeveAwaitWake r => Sys2Proof.Machine.execReeveAwaitWake r s
  | .reeveTimerAlarm r => Sys2Proof.Machine.execReeveTimerAlarm r s
  | .reeveStallEnd r cycles => Sys2Proof.Machine.execReeveStallEnd r cycles s
  | .ckptLedgerReport r cycles err ack => Sys2Proof.Machine.execCkptLedgerReport r cycles err ack s
  | .pwrMillraceReply r cycles => Sys2Proof.Machine.execPwrMillraceReply r cycles s
  | .frameBoundary drift => Sys2Proof.Machine.execFrameBoundary drift s
  | .multiframeBoundary twin => Sys2Proof.Machine.execMultiframeBoundary twin s
  | .oneSecondTick => Sys2Proof.Machine.execOneSecondTick s
  | .rxWordEnqueue n w late => Sys2Proof.Machine.execRxWordEnqueue n w late s
  | .blockRelease n => Sys2Proof.Machine.execBlockRelease n s
  | .lcPllLock q us => Sys2Proof.Machine.execLcPllLock q us s
  | .calStepEnd n pass dlyTx dlyRx => Sys2Proof.Machine.execCalStepEnd n pass dlyTx dlyRx s
  | .txgenUnlock n => Sys2Proof.Machine.execTxgenUnlock n s
  | .quadPllUnlock q => Sys2Proof.Machine.execQuadPllUnlock q s
  | .driverFault n => Sys2Proof.Machine.execDriverFault n s
  | .shellParity n shared => Sys2Proof.Machine.execShellParity n shared s
  | .laneTransitionEnd n dur => Sys2Proof.Machine.execLaneTransitionEnd n dur s
  | .dormantWakeTrimEnd n pass => Sys2Proof.Machine.execDormantWakeTrimEnd n pass s
  | .wakeFallback n => Sys2Proof.Machine.execWakeFallback n s
  | .cdrLock n => Sys2Proof.Machine.execCdrLock n s
  | .adaptConverged n => Sys2Proof.Machine.execAdaptConverged n s
  | .acqTimeout n => Sys2Proof.Machine.execAcqTimeout n s
  | .rawLosAssert n mvpp => Sys2Proof.Machine.execRawLosAssert n mvpp s
  | .rawLosClear n mvpp over10ms => Sys2Proof.Machine.execRawLosClear n mvpp over10ms s
  | .lolWindowEnd n ofs pdOut => Sys2Proof.Machine.execLolWindowEnd n ofs pdOut s
  | .laneLoopUpdate n u => Sys2Proof.Machine.execLaneLoopUpdate n u s
  | .delayReplicaUpdate n dTx dRx => Sys2Proof.Machine.execDelayReplicaUpdate n dTx dRx s
  | .transitionWindowEnd n transitions => Sys2Proof.Machine.execTransitionWindowEnd n transitions s
  | .patternGateCheck n sig => Sys2Proof.Machine.execPatternGateCheck n sig s
  | .snapshotWindowEnd n errs units => Sys2Proof.Machine.execSnapshotWindowEnd n errs units s
  | .envelopeCheck n => Sys2Proof.Machine.execEnvelopeCheck n s
  | .snrUpdate n snr lo mid hi => Sys2Proof.Machine.execSnrUpdate n snr lo mid hi s
  | .eyeScanStart m n => Sys2Proof.Machine.execEyeScanStart m n s
  | .eyeScanEnd n h v aborted => Sys2Proof.Machine.execEyeScanEnd n h v aborted s
  | .firApply m n => Sys2Proof.Machine.execFirApply m n s
  | .guardRelease m n => Sys2Proof.Machine.execGuardRelease m n s
  | .laneReset m n => Sys2Proof.Machine.execLaneReset m n s
  | .laneResetDone n => Sys2Proof.Machine.execLaneResetDone n s
  | .laneFenceReq m n => Sys2Proof.Machine.execLaneFenceReq m n s
  | .losCfgWrite m n losOn losOff => Sys2Proof.Machine.execLosCfgWrite m n losOn losOff s
  | .lolCfgWrite m n lolOn lolOff => Sys2Proof.Machine.execLolCfgWrite m n lolOn lolOff s
  | .rsCodewordDecode n correctable syms => Sys2Proof.Machine.execRsCodewordDecode n correctable syms s
  | .syncHeaderCheck n hdr => Sys2Proof.Machine.execSyncHeaderCheck n hdr s
  | .blockLockWindowEnd n hiBer => Sys2Proof.Machine.execBlockLockWindowEnd n hiBer s
  | .alignmentMarkerLock n locked hiBer => Sys2Proof.Machine.execAlignmentMarkerLock n locked hiBer s
  | .commaDetect n pos => Sys2Proof.Machine.execCommaDetect n pos s
  | .patternWindowExpiry n => Sys2Proof.Machine.execPatternWindowExpiry n s
  | .slip m n => Sys2Proof.Machine.execSlip m n s
  | .bitslipSearchStart n => Sys2Proof.Machine.execBitslipSearchStart n s
  | .patternWaitTimeout n => Sys2Proof.Machine.execPatternWaitTimeout n s
  | .alignConfirmRead n => Sys2Proof.Machine.execAlignConfirmRead n s
  | .alignMonitorRead n => Sys2Proof.Machine.execAlignMonitorRead n s
  | .laneTestWrite m n loop gen chk => Sys2Proof.Machine.execLaneTestWrite m n loop gen chk s
  | .farEndLoopStart n => Sys2Proof.Machine.execFarEndLoopStart n s
  | .prbsChkWrite m n chk => Sys2Proof.Machine.execPrbsChkWrite m n chk s
  | .prbsCheckWindow n bits mism => Sys2Proof.Machine.execPrbsCheckWindow n bits mism s
  | .vtfFrameSend n => Sys2Proof.Machine.execVtfFrameSend n s
  | .fasSearchMatch n p fiw => Sys2Proof.Machine.execFasSearchMatch n p fiw s
  | .expectedFasCheck n good => Sys2Proof.Machine.execExpectedFasCheck n good s
  | .fiwReceive n v arrival => Sys2Proof.Machine.execFiwReceive n v arrival s
  | .rxCalendarSwitch n => Sys2Proof.Machine.execRxCalendarSwitch n s
  | .mwrReceive n v payloadBip => Sys2Proof.Machine.execMwrReceive n v payloadBip s
  | .timingMessageReceive n tc0 tc1 tc2 tc3 filtered => Sys2Proof.Machine.execTimingMessageReceive n tc0 tc1 tc2 tc3 filtered s
  | .mccCellReceive n mc => Sys2Proof.Machine.execMccCellReceive n mc s
  | .calAdvSegmentReceive n ca => Sys2Proof.Machine.execCalAdvSegmentReceive n ca s
  | .apsWordReceive n v recent => Sys2Proof.Machine.execApsWordReceive n v recent s
  | .calibrationFrameReceive n diff => Sys2Proof.Machine.execCalibrationFrameReceive n diff s
  | .ethFrameReceive c sfd fcs departed bytes ts => Sys2Proof.Machine.execEthFrameReceive c sfd fcs departed bytes ts s
  | .ethFrameSend c now cut => Sys2Proof.Machine.execEthFrameSend c now cut s
  | .faultOrderedSetReceive c lf rf => Sys2Proof.Machine.execFaultOrderedSetReceive c lf rf s
  | .preemptFragmentReceive c first last ok smd frag bytes ts => Sys2Proof.Machine.execPreemptFragmentReceive c first last ok smd frag bytes ts s
  | .verifyMpacketReceive c => Sys2Proof.Machine.execVerifyMpacketReceive c s
  | .verifyMpacketSend c => Sys2Proof.Machine.execVerifyMpacketSend c s
  | .respondMpacketReceive c => Sys2Proof.Machine.execRespondMpacketReceive c s
  | .insertFrameSend c ts => Sys2Proof.Machine.execInsertFrameSend c ts s
  | .esmcPduReceive c bytes => Sys2Proof.Machine.execEsmcPduReceive c bytes s
  | .esmcTimeout c => Sys2Proof.Machine.execEsmcTimeout c s
  | .esmcInfoSend c => Sys2Proof.Machine.execEsmcInfoSend c s
  | .esmcEventSend c => Sys2Proof.Machine.execEsmcEventSend c s
  | .cpriHyperframeReceive c start atExpected hfn l1 bfn ts => Sys2Proof.Machine.execCpriHyperframeReceive c start atExpected hfn l1 bfn ts s
  | .cbrMapperFrame c t measured => Sys2Proof.Machine.execCbrMapperFrame c t measured s
  | .thReceive c t v => Sys2Proof.Machine.execThReceive c t v s
  | .demapperFrame c t content delay link => Sys2Proof.Machine.execDemapperFrame c t content delay link s
  | .demapWordDue cl slip => Sys2Proof.Machine.execDemapWordDue cl slip s
  | .sheafBlockReceive c t pos v now => Sys2Proof.Machine.execSheafBlockReceive c t pos v now s
  | .txCalendarSwitch c => Sys2Proof.Machine.execTxCalendarSwitch c s
  | .defectSet d => Sys2Proof.Machine.execDefectSet d s
  | .defectClear d => Sys2Proof.Machine.execDefectClear d s
  | .bipWindowEnd n => Sys2Proof.Machine.execBipWindowEnd n s
  | .snapshotImageWrite bufLen => Sys2Proof.Machine.execSnapshotImageWrite bufLen s
  | .tallyLiveRead m => Sys2Proof.Machine.execTallyLiveRead m s
  | .injectorStart => Sys2Proof.Machine.execInjectorStart s
  | .injectorEvent j => Sys2Proof.Machine.execInjectorEvent j s
  | .reorderWindowTimeout j => Sys2Proof.Machine.execReorderWindowTimeout j s
  | .injectorRegWrite m j r v => Sys2Proof.Machine.execInjectorRegWrite m j r v s
  | .scrubCycle b finds => Sys2Proof.Machine.execScrubCycle b finds s
  | .rowRepairCopy b => Sys2Proof.Machine.execRowRepairCopy b s
  | .rowRemap b => Sys2Proof.Machine.execRowRemap b s
  | .repairRecordWrite => Sys2Proof.Machine.execRepairRecordWrite s
  | .bankDrainStart b twin => Sys2Proof.Machine.execBankDrainStart b twin s
  | .bankDrainEnd b => Sys2Proof.Machine.execBankDrainEnd b s
  | .bankFenceReq m b => Sys2Proof.Machine.execBankFenceReq m b s
  | .bankReset m b => Sys2Proof.Machine.execBankReset m b s
  | .bankResetDone b failing => Sys2Proof.Machine.execBankResetDone b failing s
  | .fencedQueueWalk q => Sys2Proof.Machine.execFencedQueueWalk q s
  | .flushPoint q => Sys2Proof.Machine.execFlushPoint q s
  | .queueClosed q => Sys2Proof.Machine.execQueueClosed q s
  | .residencySweep now => Sys2Proof.Machine.execResidencySweep now s
  | .flowEntryRewrite e => Sys2Proof.Machine.execFlowEntryRewrite e s
  | .repairScanPassEnd => Sys2Proof.Machine.execRepairScanPassEnd s
  | .retestDone b failing => Sys2Proof.Machine.execRetestDone b failing s
  | .beatHandlerStart q t first row col epoch => Sys2Proof.Machine.execBeatHandlerStart q t first row col epoch s
  | .serviceThreadStart q t => Sys2Proof.Machine.execServiceThreadStart q t s
  | .threadOverrun q t => Sys2Proof.Machine.execThreadOverrun q t s
  | .imageFetchComplete h img sigOk al => Sys2Proof.Machine.execImageFetchComplete h img sigOk al s
  | .bundleRewrite q t first ae => Sys2Proof.Machine.execBundleRewrite q t first ae s
  | .weaverParity q => Sys2Proof.Machine.execWeaverParity q s
  | .threadReset m q t => Sys2Proof.Machine.execThreadReset m q t s
  | .threadResetDone q t => Sys2Proof.Machine.execThreadResetDone q t s
  | .threadFenceReq m q t => Sys2Proof.Machine.execThreadFenceReq m q t s
  | .wvrReset m q => Sys2Proof.Machine.execWvrReset m q s
  | .wvrResetDone q => Sys2Proof.Machine.execWvrResetDone q s
  | .wvrFenceReq m q => Sys2Proof.Machine.execWvrFenceReq m q s
  | .fifoDataRead m q f => Sys2Proof.Machine.execFifoDataRead m q f s
  | .fifoDataWrite m q f v => Sys2Proof.Machine.execFifoDataWrite m q f v s
  | .fifoFlush m q f => Sys2Proof.Machine.execFifoFlush m q f s
  | .paramWordWrite m c slot w v => Sys2Proof.Machine.execParamWordWrite m c slot w v s
  | .paramErrClear m c slot v => Sys2Proof.Machine.execParamErrClear m c slot v s
  | .fnop e => Sys2Proof.Machine.execFnop e s
  | .wext q t rd ra pos wm1 sx => Sys2Proof.Machine.execWext q t rd ra pos wm1 sx s
  | .wins q t rd ra pos wm1 => Sys2Proof.Machine.execWins q t rd ra pos wm1 s
  | .sbr q t pg rd f => Sys2Proof.Machine.execSbr q t pg rd f s
  | .bext e rd ra pos wm1 sx => Sys2Proof.Machine.execBext e rd ra pos wm1 sx s
  | .bins e rd ra pos wm1 => Sys2Proof.Machine.execBins e rd ra pos wm1 s
  | .bop e pg rd ra f => Sys2Proof.Machine.execBop e pg rd ra f s
  | .crc e pg rd ra rb poly n1 => Sys2Proof.Machine.execCrc e pg rd ra rb poly n1 s
  | .anop e => Sys2Proof.Machine.execAnop e s
  | .alu e pg f rd ra rb => Sys2Proof.Machine.execAlu e pg f rd ra rb s
  | .addi e rd ra imm => Sys2Proof.Machine.execAddi e rd ra imm s
  | .andi e rd ra imm => Sys2Proof.Machine.execAndi e rd ra imm s
  | .ori e rd ra imm => Sys2Proof.Machine.execOri e rd ra imm s
  | .xori e rd ra imm => Sys2Proof.Machine.execXori e rd ra imm s
  | .movk e rd h imm => Sys2Proof.Machine.execMovk e rd h imm s
  | .shi e pg k rd ra n => Sys2Proof.Machine.execShi e pg k rd ra n s
  | .mul e pg f rd ra rb => Sys2Proof.Machine.execMul e pg f rd ra rb s
  | .cmp e pg f pd ra rb => Sys2Proof.Machine.execCmp e pg f pd ra rb s
  | .cmpi e c pd ra imm => Sys2Proof.Machine.execCmpi e c pd ra imm s
  | .sel e pg rd ra rb => Sys2Proof.Machine.execSel e pg rd ra rb s
  | .pop e pg f pd na pa nb pb => Sys2Proof.Machine.execPop e pg f pd na pa nb pb s
  | .qnop e => Sys2Proof.Machine.execQnop e s
  | .ld e rd ra imm c => Sys2Proof.Machine.execLd e rd ra imm c s
  | .ldw e rd ra imm c => Sys2Proof.Machine.execLdw e rd ra imm c s
  | .st e rd ra imm => Sys2Proof.Machine.execSt e rd ra imm s
  | .stw e rd ra imm c => Sys2Proof.Machine.execStw e rd ra imm c s
  | .lds q t rd ra imm c => Sys2Proof.Machine.execLds q t rd ra imm c s
  | .ldsw q t rd ra imm c => Sys2Proof.Machine.execLdsw q t rd ra imm c s
  | .sts q t rd ra imm => Sys2Proof.Machine.execSts q t rd ra imm s
  | .stsw q t rd ra imm c => Sys2Proof.Machine.execStsw q t rd ra imm c s
  | .sharedStoreEffect q => Sys2Proof.Machine.execSharedStoreEffect q s
  | .timeRead q t pg rd f => Sys2Proof.Machine.execTimeRead q t pg rd f s
  | .stampRead q t pg rd f inst => Sys2Proof.Machine.execStampRead q t pg rd f inst s
  | .flowLookupIssue q t pg ra rb find => Sys2Proof.Machine.execFlowLookupIssue q t pg ra rb find s
  | .flowResultDue q t => Sys2Proof.Machine.execFlowResultDue q t s
  | .flowResultCollect q t pg rd => Sys2Proof.Machine.execFlowResultCollect q t pg rd s
  | .grniOpen q t pg rd ra rb => Sys2Proof.Machine.execGrniOpen q t pg rd ra rb s
  | .grniAppend q t pg ra rb => Sys2Proof.Machine.execGrniAppend q t pg ra rb s
  | .grniClose q t pg ra rb => Sys2Proof.Machine.execGrniClose q t pg ra rb s
  | .grniCutThrough q t pg ra rb => Sys2Proof.Machine.execGrniCutThrough q t pg ra rb s
  | .grniSendBy q t pg ra rb => Sys2Proof.Machine.execGrniSendBy q t pg ra rb s
  | .grneChoiceIssue q t pg ra rb => Sys2Proof.Machine.execGrneChoiceIssue q t pg ra rb s
  | .grneChoiceDue q t => Sys2Proof.Machine.execGrneChoiceDue q t s
  | .grneChoiceCollect q t pg rd => Sys2Proof.Machine.execGrneChoiceCollect q t pg rd s
  | .grneWrite q t pg ra finds => Sys2Proof.Machine.execGrneWrite q t pg ra finds s
  | .grneEnd q t pg => Sys2Proof.Machine.execGrneEnd q t pg s
  | .xcPut q t pg ra rb => Sys2Proof.Machine.execXcPut q t pg ra rb s
  | .xcWordDelivery tr c => Sys2Proof.Machine.execXcWordDelivery tr c s
  | .xcTake q t pg rd ra => Sys2Proof.Machine.execXcTake q t pg rd ra s
  | .xcCount q t pg rd ra => Sys2Proof.Machine.execXcCount q t pg rd ra s
  | .fifoPortPush q t pg rb k => Sys2Proof.Machine.execFifoPortPush q t pg rb k s
  | .fifoPortPop q t pg rd k => Sys2Proof.Machine.execFifoPortPop q t pg rd k s
  | .fifoPortLevel q t pg rd f => Sys2Proof.Machine.execFifoPortLevel q t pg rd f s
  | .calEntryRead q t pg rd ra f => Sys2Proof.Machine.execCalEntryRead q t pg rd ra f s
  | .tallyAdd q t pg ra rb => Sys2Proof.Machine.execTallyAdd q t pg ra rb s
  | .pblkRead q t pg rd ra => Sys2Proof.Machine.execPblkRead q t pg rd ra s
  | .pblkStatusWrite q t pg ra rb => Sys2Proof.Machine.execPblkStatusWrite q t pg ra rb s
  | .pblkStatusRead q t pg rd ra => Sys2Proof.Machine.execPblkStatusRead q t pg rd ra s
  | .unitStatusRead q t pg rd ra => Sys2Proof.Machine.execUnitStatusRead q t pg rd ra s
  | .unitControlWrite q t pg ra rb => Sys2Proof.Machine.execUnitControlWrite q t pg ra rb s
  | .bld r rd ra imm => Sys2Proof.Machine.execBld r rd ra imm s
  | .bst r rd ra imm => Sys2Proof.Machine.execBst r rd ra imm s
  | .bldd r rd ra imm => Sys2Proof.Machine.execBldd r rd ra imm s
  | .bstd r rd ra imm => Sys2Proof.Machine.execBstd r rd ra imm s
  | .ckptOpen r pg rd ra rb => Sys2Proof.Machine.execCkptOpen r pg rd ra rb s
  | .ckptWrite r pg rd ra rb => Sys2Proof.Machine.execCkptWrite r pg rd ra rb s
  | .ckptCommit r pg rd ra rb => Sys2Proof.Machine.execCkptCommit r pg rd ra rb s
  | .ckptMirror r pg rd ra rb => Sys2Proof.Machine.execCkptMirror r pg rd ra rb s
  | .ckptJournalAppend r pg rd ra rb => Sys2Proof.Machine.execCkptJournalAppend r pg rd ra rb s
  | .ckptRepairRecord r pg rd ra rb => Sys2Proof.Machine.execCkptRepairRecord r pg rd ra rb s
  | .cnop e => Sys2Proof.Machine.execCnop e s
  | .br e neg pc target => Sys2Proof.Machine.execBr e neg pc target s
  | .call e neg pc target => Sys2Proof.Machine.execCall e neg pc target s
  | .ret e pg => Sys2Proof.Machine.execRet e pg s
  | .rep e blen count => Sys2Proof.Machine.execRep e blen count s
  | .repg e blen ra bound => Sys2Proof.Machine.execRepg e blen ra bound s
  | .yield q t => Sys2Proof.Machine.execYield q t s
  | .brk e code => Sys2Proof.Machine.execBrk e code s
  | .await r rd => Sys2Proof.Machine.execAwait r rd s
  | .tmr r pg f rd ra => Sys2Proof.Machine.execTmr r pg f rd ra s
  | .pwr r pg f rd ra => Sys2Proof.Machine.execPwr r pg f rd ra s
  | .evt r pg f rd ra => Sys2Proof.Machine.execEvt r pg f rd ra s
  | .sys r pg f rd ra => Sys2Proof.Machine.execSys r pg f rd ra s
  | .refEnableWrite m n en => Sys2Proof.Machine.execRefEnableWrite m n en s
  | .refActivityLoss n long => Sys2Proof.Machine.execRefActivityLoss n long s
  | .refFailureClear n time => Sys2Proof.Machine.execRefFailureClear n time s
  | .freqMeasurementUpdate ofs => Sys2Proof.Machine.execFreqMeasurementUpdate ofs s
  | .qualificationTimerEnd n time => Sys2Proof.Machine.execQualificationTimerEnd n time s
  | .selectionJudgement d long => Sys2Proof.Machine.execSelectionJudgement d long s
  | .alignmentWindowEnd d long => Sys2Proof.Machine.execAlignmentWindowEnd d long s
  | .dpllLock d => Sys2Proof.Machine.execDpllLock d s
  | .holdoverSpecExpiry d => Sys2Proof.Machine.execHoldoverSpecExpiry d s
  | .dpllFenceReq m d long => Sys2Proof.Machine.execDpllFenceReq m d long s
  | .dpllReset m d => Sys2Proof.Machine.execDpllReset m d s
  | .dpllResetDone d => Sys2Proof.Machine.execDpllResetDone d s
  | .dpllParity d long => Sys2Proof.Machine.execDpllParity d long s
  | .framePhaseSaturation => Sys2Proof.Machine.execFramePhaseSaturation s
  | .slewComplete => Sys2Proof.Machine.execSlewComplete s
  | .ppsInEdge k t dev => Sys2Proof.Machine.execPpsInEdge k t dev s
  | .ppsInMissing k => Sys2Proof.Machine.execPpsInMissing k s
  | .ppsOutPulse k j => Sys2Proof.Machine.execPpsOutPulse k j s
  | .todMessageSend => Sys2Proof.Machine.execTodMessageSend s
  | .todMessageReceive bytes inTime => Sys2Proof.Machine.execTodMessageReceive bytes inTime s
  | .bellFrameOfsWrite m v => Sys2Proof.Machine.execBellFrameOfsWrite m v s
  | .clkoutFreqWrite m k v => Sys2Proof.Machine.execClkoutFreqWrite m k v s
  | .ppsCfgWrite m k v => Sys2Proof.Machine.execPpsCfgWrite m k v s
  | .holdOffExpiry g x sd => Sys2Proof.Machine.execHoldOffExpiry g x sd s
  | .protWtrExpiry g => Sys2Proof.Machine.execProtWtrExpiry g s
  | .apsTimeout g => Sys2Proof.Machine.execApsTimeout g s
  | .heartbeatSend => Sys2Proof.Machine.execHeartbeatSend s
  | .heartbeatDecode high => Sys2Proof.Machine.execHeartbeatDecode high s
  | .heartbeatLost => Sys2Proof.Machine.execHeartbeatLost s
  | .epochScheduleReceive frame cycle => Sys2Proof.Machine.execEpochScheduleReceive frame cycle s
  | .twinDelayMeasure d => Sys2Proof.Machine.execTwinDelayMeasure d s
  | .twinTimeAnchorReceive frame time => Sys2Proof.Machine.execTwinTimeAnchorReceive frame time s
  | .fineOffsetReceive n ofs => Sys2Proof.Machine.execFineOffsetReceive n ofs s
  | .digestCompare diff => Sys2Proof.Machine.execDigestCompare diff s
  | .internalFaultReceive fence => Sys2Proof.Machine.execInternalFaultReceive fence s
  | .takeoverClaim planned r => Sys2Proof.Machine.execTakeoverClaim planned r s
  | .twinLinkLoss up => Sys2Proof.Machine.execTwinLinkLoss up s
  | .twinLinkReturn up => Sys2Proof.Machine.execTwinLinkReturn up s
  | .pairFormed fits => Sys2Proof.Machine.execPairFormed fits s
  | .pairJoinTimeout => Sys2Proof.Machine.execPairJoinTimeout s
  | .catchupStageEnd ok images r => Sys2Proof.Machine.execCatchupStageEnd ok images r s
  | .packetCopyReceive p => Sys2Proof.Machine.execPacketCopyReceive p s
  | .egressPause eth e => Sys2Proof.Machine.execEgressPause eth e s
  | .packetListSend lists => Sys2Proof.Machine.execPacketListSend lists s
  | .resyncBoundary pool => Sys2Proof.Machine.execResyncBoundary pool s
  | .resyncWordsSend words => Sys2Proof.Machine.execResyncWordsSend words s
  | .checkpointPeriod ack => Sys2Proof.Machine.execCheckpointPeriod ack s
  | .generationMirrorReceive slot g tagOk => Sys2Proof.Machine.execGenerationMirrorReceive slot g tagOk s
  | .journalEntryReceive seq frame c differs => Sys2Proof.Machine.execJournalEntryReceive seq frame c differs s
  | .configUnfenceHost => Sys2Proof.Machine.execConfigUnfenceHost s
  | .configUnfenceDma => Sys2Proof.Machine.execConfigUnfenceDma s
  | .ringEnable m x lg => Sys2Proof.Machine.execRingEnable m x lg s
  | .ringDisable m x lg => Sys2Proof.Machine.execRingDisable m x lg s
  | .doorbellWrite m x idx => Sys2Proof.Machine.execDoorbellWrite m x idx s
  | .commandFetch x opcode flags rsv tag => Sys2Proof.Machine.execCommandFetch x opcode flags rsv tag s
  | .hostMemoryError x => Sys2Proof.Machine.execHostMemoryError x s
  | .msixModerationTimeout v => Sys2Proof.Machine.execMsixModerationTimeout v s
  | .matrixWatchdogFire m => Sys2Proof.Machine.execMatrixWatchdogFire m s
  | .registerWrite m a be v => Sys2Proof.Machine.execRegisterWrite m a be v s
  | .multiwordCaptureRead m a => Sys2Proof.Machine.execMultiwordCaptureRead m a s
  | .onceFieldWrite m v => Sys2Proof.Machine.execOnceFieldWrite m v s
  | .keyBurn m slot signer => Sys2Proof.Machine.execKeyBurn m slot signer s
  | .keyRevoke m slot signer => Sys2Proof.Machine.execKeyRevoke m slot signer s
  | .descBurn m slot signer => Sys2Proof.Machine.execDescBurn m slot signer s
  | .lifeAdvance m slot signer => Sys2Proof.Machine.execLifeAdvance m slot signer s
  | .skeyInstall m slot signer => Sys2Proof.Machine.execSkeyInstall m slot signer s
  | .skeyPromote m slot signer => Sys2Proof.Machine.execSkeyPromote m slot signer s
  | .skeyErase m slot signer => Sys2Proof.Machine.execSkeyErase m slot signer s
  | .challenge m slot signer => Sys2Proof.Machine.execChallenge m slot signer s
  | .response m slot signer => Sys2Proof.Machine.execResponse m slot signer s
  | .lock m slot signer => Sys2Proof.Machine.execLock m slot signer s
  | .gateOpDone readBack sigOk digestOk late nonce => Sys2Proof.Machine.execGateOpDone readBack sigOk digestOk late nonce s
  | .entropyHealthFail => Sys2Proof.Machine.execEntropyHealthFail s
  | .unlockLockoutEnd => Sys2Proof.Machine.execUnlockLockoutEnd s
  | .levelReqWrite m level trace => Sys2Proof.Machine.execLevelReqWrite m level trace s
  | .lantLock m => Sys2Proof.Machine.execLantLock m s
  | .lantReset m burst => Sys2Proof.Machine.execLantReset m burst s
  | .lantHalt m reeve unit => Sys2Proof.Machine.execLantHalt m reeve unit s
  | .lantStep m reeve unit => Sys2Proof.Machine.execLantStep m reeve unit s
  | .lantResume m reeve unit missed => Sys2Proof.Machine.execLantResume m reeve unit missed s
  | .jtagExtest bits => Sys2Proof.Machine.execJtagExtest bits s
  | .jtagIdcode => Sys2Proof.Machine.execJtagIdcode s
  | .jtagSamplePreload bits => Sys2Proof.Machine.execJtagSamplePreload bits s
  | .jtagLantMtx a data write => Sys2Proof.Machine.execJtagLantMtx a data write s
  | .jtagAonStat => Sys2Proof.Machine.execJtagAonStat s
  | .jtagAonDesc off v => Sys2Proof.Machine.execJtagAonDesc off v s
  | .jtagWake => Sys2Proof.Machine.execJtagWake s
  | .jtagBypass code => Sys2Proof.Machine.execJtagBypass code s
  | .railSequenceStep up mvs => Sys2Proof.Machine.execRailSequenceStep up mvs s
  | .powerGoodPoll status fault => Sys2Proof.Machine.execPowerGoodPoll status fault s
  | .pgTimeout => Sys2Proof.Machine.execPgTimeout s
  | .pmbusTransactionError d pec => Sys2Proof.Machine.execPmbusTransactionError d pec s
  | .pmbAlert d status fault => Sys2Proof.Machine.execPmbAlert d status fault s
  | .pmbFenceReq m d => Sys2Proof.Machine.execPmbFenceReq m d s
  | .pmbReset m d => Sys2Proof.Machine.execPmbReset m d s
  | .pmbResetDone d status clean => Sys2Proof.Machine.execPmbResetDone d status clean s
  | .avsUpdate safe measured ok => Sys2Proof.Machine.execAvsUpdate safe measured ok s
  | .sensorRead temps mvs powers => Sys2Proof.Machine.execSensorRead temps mvs powers s
  | .ioutRecalibrate powers => Sys2Proof.Machine.execIoutRecalibrate powers s
  | .capLoop => Sys2Proof.Machine.execCapLoop s
  | .capViolation => Sys2Proof.Machine.execCapViolation s
  | .millWakeExpiry => Sys2Proof.Machine.execMillWakeExpiry s
  | .p3Entry => Sys2Proof.Machine.execP3Entry s
  | .powerStateReached => Sys2Proof.Machine.execPowerStateReached s
  | .nop h => Sys2Proof.Machine.execNop h s
  | .deviceQuery h => Sys2Proof.Machine.execDeviceQuery h s
  | .laneRate h lane width role pam4 rate => Sys2Proof.Machine.execLaneRate h lane width role pam4 rate s
  | .laneSleep h lane target => Sys2Proof.Machine.execLaneSleep h lane target s
  | .laneWake h lane => Sys2Proof.Machine.execLaneWake h lane s
  | .attach h c slot replace host id addr len => Sys2Proof.Machine.execAttach h c slot replace host id addr len s
  | .detach h c slot => Sys2Proof.Machine.execDetach h c slot s
  | .paramWrite h c slot first vs => Sys2Proof.Machine.execParamWrite h c slot first vs s
  | .reeveLoad h r addr len => Sys2Proof.Machine.execReeveLoad h r addr len s
  | .reeveLoadReturn h r => Sys2Proof.Machine.execReeveLoadReturn h r s
  | .calendarStageWrite h addr len img => Sys2Proof.Machine.execCalendarStageWrite h addr len img s
  | .calendarStageRead h addr len img => Sys2Proof.Machine.execCalendarStageRead h addr len img s
  | .calendarCommit h mask => Sys2Proof.Machine.execCalendarCommit h mask s
  | .queueCreateQueue h q egress cls express latePol dlSrc ethEgress keyed budget lateTol minCells maxCells key => Sys2Proof.Machine.execQueueCreateQueue h q egress cls express latePol dlSrc ethEgress keyed budget lateTol minCells maxCells key s
  | .queueCreateTrunk h t => Sys2Proof.Machine.execQueueCreateTrunk h t s
  | .queueCreateModify h q express latePol dlSrc budget lateTol => Sys2Proof.Machine.execQueueCreateModify h q express latePol dlSrc budget lateTol s
  | .queueDeleteQueue h q => Sys2Proof.Machine.execQueueDeleteQueue h q s
  | .queueDeleteTrunk h t => Sys2Proof.Machine.execQueueDeleteTrunk h t s
  | .queueFlush h q => Sys2Proof.Machine.execQueueFlush h q s
  | .repairScanScan h mask => Sys2Proof.Machine.execRepairScanScan h mask s
  | .repairScanRetest h mask => Sys2Proof.Machine.execRepairScanRetest h mask s
  | .protRequestConfig h g trib pChan given holdOff wtr skew revert bidir => Sys2Proof.Machine.execProtRequestConfig h g trib pChan given holdOff wtr skew revert bidir s
  | .protRequestLo h g => Sys2Proof.Machine.execProtRequestLo h g s
  | .protRequestFs h g => Sys2Proof.Machine.execProtRequestFs h g s
  | .protRequestMsW h g => Sys2Proof.Machine.execProtRequestMsW h g s
  | .protRequestMsX h g => Sys2Proof.Machine.execProtRequestMsX h g s
  | .protRequestClear h g => Sys2Proof.Machine.execProtRequestClear h g s
  | .protRequestDelete h g => Sys2Proof.Machine.execProtRequestDelete h g s
  | .modeSet h mode => Sys2Proof.Machine.execModeSet h mode s
  | .powerState h state => Sys2Proof.Machine.execPowerState h state s
  | .pairJoin h role => Sys2Proof.Machine.execPairJoin h role s
  | .pairLeave h => Sys2Proof.Machine.execPairLeave h s
  | .pairTake h => Sys2Proof.Machine.execPairTake h s
  | .checkpoint h => Sys2Proof.Machine.execCheckpoint h s
  | .refConfig h writes => Sys2Proof.Machine.execRefConfig h writes s
  | .phaseStepSlew h amount rate => Sys2Proof.Machine.execPhaseStepSlew h amount rate s
  | .phaseStepJump h amount => Sys2Proof.Machine.execPhaseStepJump h amount s
  | .phaseStepFrequency h amount => Sys2Proof.Machine.execPhaseStepFrequency h amount s
  | .timeSet h sec => Sys2Proof.Machine.execTimeSet h sec s
  | .regConfig h writes => Sys2Proof.Machine.execRegConfig h writes s
  | .fenceLift h kind unit => Sys2Proof.Machine.execFenceLift h kind unit s
  | .injectArm h mask => Sys2Proof.Machine.execInjectArm h mask s
  | .injectStop h mask => Sys2Proof.Machine.execInjectStop h mask s
  | .debugUnlockLevel h level mask => Sys2Proof.Machine.execDebugUnlockLevel h level mask s
  | .debugUnlockChallenge h mask addr => Sys2Proof.Machine.execDebugUnlockChallenge h mask addr s
  | .debugUnlockResponse h signer addr sig => Sys2Proof.Machine.execDebugUnlockResponse h signer addr sig s
  | .gateCall h op slot signer len addr buf => Sys2Proof.Machine.execGateCall h op slot signer len addr buf s
  | .oscInReturn => Sys2Proof.Machine.execOscInReturn s
  | .lcPllLockLoss q => Sys2Proof.Machine.execLcPllLockLoss q s
  | .entropyHealthRecover => Sys2Proof.Machine.execEntropyHealthRecover s
  | .pcieLinkTrained gen width => Sys2Proof.Machine.execPcieLinkTrained gen width s
  | .hostDataReadFailure h => Sys2Proof.Machine.execHostDataReadFailure h s
  | .commandFetchTimeLimit h => Sys2Proof.Machine.execCommandFetchTimeLimit h s

end Sys2Proof.Machine
end

