-- ==== Sys2Proof/WellFormed.lean ====
section
/-! DEFINITION. Which commands are well formed: the relations between operands that their types do not already hold. -/
namespace Sys2Proof

/-- The command's operands stand in the relations the spec gives them. -/
def Instr.wf : Instr → Bool
  | .powerOnReset => true
  | .warmReset => true
  | .resetNRelease => true
  | .hostPortReset _ _ _ => true
  | .startupStepComplete _ => true
  | .pairRefclkLoss => true
  | .pairRefclkRestore => true
  | .serdesRefclkLoss => true
  | .serdesRefclkFence => true
  | .serdesRefclkReturn => true
  | .xtalAonLoss => true
  | .xtalAonRestore => true
  | .oscInLoss _ => true
  | .supplyLoss => true
  | .thermalTrip => true
  | .thermalTripRecovery => true
  | .jtagTapReset => true
  | .rveReset _ _ _ => true
  | .rveResetDone _ => true
  | .rveFenceReq _ _ => true
  | .reeveWatchdog _ => true
  | .reeveAwaitWake _ => true
  | .reeveTimerAlarm _ => true
  | .reeveStallEnd _ _ => true
  | .ckptLedgerReport _ _ _ _ => true
  | .pwrMillraceReply _ _ => true
  | .frameBoundary _ => true
  | .multiframeBoundary _ => true
  | .oneSecondTick => true
  | .rxWordEnqueue _ _ _ => true
  | .blockRelease _ => true
  | .lcPllLock _ _ => true
  | .calStepEnd _ _ _ _ => true
  | .txgenUnlock _ => true
  | .quadPllUnlock _ => true
  | .driverFault _ => true
  | .shellParity _ _ => true
  | .laneTransitionEnd _ _ => true
  | .dormantWakeTrimEnd _ _ => true
  | .wakeFallback _ => true
  | .cdrLock _ => true
  | .adaptConverged _ => true
  | .acqTimeout _ => true
  | .rawLosAssert _ _ => true
  | .rawLosClear _ _ _ => true
  | .lolWindowEnd _ _ _ => true
  | .laneLoopUpdate _ _ => true
  | .delayReplicaUpdate _ _ _ => true
  | .transitionWindowEnd _ transitions => decide (transitions.toNat ≤ 1024)
  | .patternGateCheck _ _ => true
  | .snapshotWindowEnd _ errs units => decide (errs.toNat ≤ units.toNat)
  | .envelopeCheck _ => true
  | .snrUpdate _ _ _ _ _ => true
  | .eyeScanStart _ _ => true
  | .eyeScanEnd _ _ _ _ => true
  | .firApply _ _ => true
  | .guardRelease _ _ => true
  | .laneReset _ _ => true
  | .laneResetDone _ => true
  | .laneFenceReq _ _ => true
  | .losCfgWrite _ _ _ _ => true
  | .lolCfgWrite _ _ _ _ => true
  | .rsCodewordDecode _ _ _ => true
  | .syncHeaderCheck _ _ => true
  | .blockLockWindowEnd _ _ => true
  | .alignmentMarkerLock _ _ _ => true
  | .commaDetect _ _ => true
  | .patternWindowExpiry _ => true
  | .slip _ _ => true
  | .bitslipSearchStart _ => true
  | .patternWaitTimeout _ => true
  | .alignConfirmRead _ => true
  | .alignMonitorRead _ => true
  | .laneTestWrite _ _ _ _ _ => true
  | .farEndLoopStart _ => true
  | .prbsChkWrite _ _ _ => true
  | .prbsCheckWindow _ bits mism => decide (mism.toNat ≤ bits.toNat ∧ bits.toNat ≤ 1024)
  | .vtfFrameSend _ => true
  | .fasSearchMatch _ _ _ => true
  | .expectedFasCheck _ _ => true
  | .fiwReceive _ _ _ => true
  | .rxCalendarSwitch _ => true
  | .mwrReceive _ _ _ => true
  | .timingMessageReceive _ _ _ _ _ _ => true
  | .mccCellReceive _ mc => decide (mc.length = 12)
  | .calAdvSegmentReceive _ ca => decide (ca.length = 8)
  | .apsWordReceive _ _ _ => true
  | .calibrationFrameReceive _ _ => true
  | .ethFrameReceive _ _ _ _ _ _ => true
  | .ethFrameSend _ _ _ => true
  | .faultOrderedSetReceive _ _ _ => true
  | .preemptFragmentReceive _ _ _ _ _ _ _ _ => true
  | .verifyMpacketReceive _ => true
  | .verifyMpacketSend _ => true
  | .respondMpacketReceive _ => true
  | .insertFrameSend _ _ => true
  | .esmcPduReceive _ _ => true
  | .esmcTimeout _ => true
  | .esmcInfoSend _ => true
  | .esmcEventSend _ => true
  | .cpriHyperframeReceive _ _ _ hfn _ _ _ => decide (hfn.toNat < 150)
  | .cbrMapperFrame _ _ _ => true
  | .thReceive _ _ _ => true
  | .demapperFrame _ _ _ _ _ => true
  | .demapWordDue _ _ => true
  | .sheafBlockReceive _ _ _ _ _ => true
  | .txCalendarSwitch _ => true
  | .defectSet _ => true
  | .defectClear _ => true
  | .bipWindowEnd _ => true
  | .snapshotImageWrite _ => true
  | .tallyLiveRead _ => true
  | .injectorStart => true
  | .injectorEvent _ => true
  | .reorderWindowTimeout _ => true
  | .injectorRegWrite _ _ _ _ => true
  | .scrubCycle _ _ => true
  | .rowRepairCopy _ => true
  | .rowRemap _ => true
  | .repairRecordWrite => true
  | .bankDrainStart _ _ => true
  | .bankDrainEnd _ => true
  | .bankFenceReq _ _ => true
  | .bankReset _ _ => true
  | .bankResetDone _ _ => true
  | .fencedQueueWalk _ => true
  | .flushPoint _ => true
  | .queueClosed _ => true
  | .residencySweep _ => true
  | .flowEntryRewrite _ => true
  | .repairScanPassEnd => true
  | .retestDone _ _ => true
  | .beatHandlerStart _ _ _ _ _ _ => true
  | .serviceThreadStart _ _ => true
  | .threadOverrun _ _ => true
  | .imageFetchComplete _ _ _ _ => true
  | .bundleRewrite _ _ _ _ => true
  | .weaverParity _ => true
  | .threadReset _ _ _ => true
  | .threadResetDone _ _ => true
  | .threadFenceReq _ _ _ => true
  | .wvrReset _ _ => true
  | .wvrResetDone _ => true
  | .wvrFenceReq _ _ => true
  | .fifoDataRead _ _ _ => true
  | .fifoDataWrite _ _ _ _ => true
  | .fifoFlush _ _ _ => true
  | .paramWordWrite _ _ _ _ _ => true
  | .paramErrClear _ _ _ _ => true
  | .fnop _ => true
  | .wext _ _ _ _ _ _ _ => true
  | .wins _ _ _ _ _ _ => true
  | .sbr _ _ _ _ _ => true
  | .bext _ _ _ pos wm1 _ => decide (pos.toNat + wm1.toNat + 1 ≤ 64)
  | .bins _ _ _ pos wm1 => decide (pos.toNat + wm1.toNat + 1 ≤ 64)
  | .bop _ _ _ _ _ => true
  | .crc _ _ _ _ _ _ _ => true
  | .anop _ => true
  | .alu _ _ _ _ _ _ => true
  | .addi _ _ _ _ => true
  | .andi _ _ _ _ => true
  | .ori _ _ _ _ => true
  | .xori _ _ _ _ => true
  | .movk _ _ _ _ => true
  | .shi _ _ _ _ _ _ => true
  | .mul _ _ _ _ _ _ => true
  | .cmp _ _ _ pd _ _ => decide (pd.val ≠ 0)
  | .cmpi _ _ pd _ _ => decide (pd.val ≠ 0)
  | .sel _ _ _ _ _ => true
  | .pop _ _ _ pd _ _ _ _ => decide (pd.val ≠ 0)
  | .qnop _ => true
  | .ld _ _ _ _ _ => true
  | .ldw _ _ _ _ _ => true
  | .st _ _ _ _ => true
  | .stw _ _ _ _ _ => true
  | .lds _ _ _ _ _ _ => true
  | .ldsw _ _ _ _ _ _ => true
  | .sts _ _ _ _ _ => true
  | .stsw _ _ _ _ _ _ => true
  | .sharedStoreEffect _ => true
  | .timeRead _ _ _ _ _ => true
  | .stampRead _ _ _ _ _ _ => true
  | .flowLookupIssue _ _ _ _ _ _ => true
  | .flowResultDue _ _ => true
  | .flowResultCollect _ _ _ _ => true
  | .grniOpen _ _ _ _ _ _ => true
  | .grniAppend _ _ _ _ _ => true
  | .grniClose _ _ _ _ _ => true
  | .grniCutThrough _ _ _ _ _ => true
  | .grniSendBy _ _ _ _ _ => true
  | .grneChoiceIssue _ _ _ _ _ => true
  | .grneChoiceDue _ _ => true
  | .grneChoiceCollect _ _ _ _ => true
  | .grneWrite _ _ _ _ _ => true
  | .grneEnd _ _ _ => true
  | .xcPut _ _ _ _ _ => true
  | .xcWordDelivery _ _ => true
  | .xcTake _ _ _ _ _ => true
  | .xcCount _ _ _ _ _ => true
  | .fifoPortPush _ _ _ _ _ => true
  | .fifoPortPop _ _ _ _ _ => true
  | .fifoPortLevel _ _ _ _ _ => true
  | .calEntryRead _ _ _ _ _ _ => true
  | .tallyAdd _ _ _ _ _ => true
  | .pblkRead _ _ _ _ _ => true
  | .pblkStatusWrite _ _ _ _ _ => true
  | .pblkStatusRead _ _ _ _ _ => true
  | .unitStatusRead _ _ _ _ _ => true
  | .unitControlWrite _ _ _ _ _ => true
  | .bld _ _ _ _ => true
  | .bst _ _ _ _ => true
  | .bldd _ _ _ _ => true
  | .bstd _ _ _ _ => true
  | .ckptOpen _ _ _ _ _ => true
  | .ckptWrite _ _ _ _ _ => true
  | .ckptCommit _ _ _ _ _ => true
  | .ckptMirror _ _ _ _ _ => true
  | .ckptJournalAppend _ _ _ _ _ => true
  | .ckptRepairRecord _ _ _ _ _ => true
  | .cnop _ => true
  | .br _ _ _ _ => true
  | .call _ _ _ _ => true
  | .ret _ _ => true
  | .rep _ blen count => decide (blen.toNat ≠ 0 ∧ count.toNat ≠ 0)
  | .repg _ blen _ bound => decide (blen.toNat ≠ 0 ∧ bound.toNat ≠ 0)
  | .yield _ _ => true
  | .brk _ _ => true
  | .await _ _ => true
  | .tmr _ _ _ _ _ => true
  | .pwr _ _ _ _ _ => true
  | .evt _ _ _ _ _ => true
  | .sys _ _ _ _ _ => true
  | .refEnableWrite _ _ _ => true
  | .refActivityLoss _ _ => true
  | .refFailureClear _ _ => true
  | .freqMeasurementUpdate _ => true
  | .qualificationTimerEnd _ _ => true
  | .selectionJudgement _ _ => true
  | .alignmentWindowEnd _ _ => true
  | .dpllLock _ => true
  | .holdoverSpecExpiry _ => true
  | .dpllFenceReq _ _ _ => true
  | .dpllReset _ _ => true
  | .dpllResetDone _ => true
  | .dpllParity _ _ => true
  | .framePhaseSaturation => true
  | .slewComplete => true
  | .ppsInEdge _ _ _ => true
  | .ppsInMissing _ => true
  | .ppsOutPulse _ _ => true
  | .todMessageSend => true
  | .todMessageReceive _ _ => true
  | .bellFrameOfsWrite _ _ => true
  | .clkoutFreqWrite _ _ _ => true
  | .ppsCfgWrite _ _ _ => true
  | .holdOffExpiry _ _ _ => true
  | .protWtrExpiry _ => true
  | .apsTimeout _ => true
  | .heartbeatSend => true
  | .heartbeatDecode _ => true
  | .heartbeatLost => true
  | .epochScheduleReceive _ _ => true
  | .twinDelayMeasure _ => true
  | .twinTimeAnchorReceive _ _ => true
  | .fineOffsetReceive _ _ => true
  | .digestCompare _ => true
  | .internalFaultReceive _ => true
  | .takeoverClaim _ _ => true
  | .twinLinkLoss _ => true
  | .twinLinkReturn _ => true
  | .pairFormed _ => true
  | .pairJoinTimeout => true
  | .catchupStageEnd _ _ _ => true
  | .packetCopyReceive _ => true
  | .egressPause _ _ => true
  | .packetListSend _ => true
  | .resyncBoundary _ => true
  | .resyncWordsSend _ => true
  | .checkpointPeriod _ => true
  | .generationMirrorReceive _ _ _ => true
  | .journalEntryReceive _ _ _ _ => true
  | .configUnfenceHost => true
  | .configUnfenceDma => true
  | .ringEnable _ _ _ => true
  | .ringDisable _ _ _ => true
  | .doorbellWrite _ _ _ => true
  | .commandFetch _ _ _ _ _ => true
  | .hostMemoryError _ => true
  | .msixModerationTimeout _ => true
  | .matrixWatchdogFire _ => true
  | .registerWrite _ _ _ _ => true
  | .multiwordCaptureRead _ _ => true
  | .onceFieldWrite _ _ => true
  | .keyBurn _ _ _ => true
  | .keyRevoke _ _ _ => true
  | .descBurn _ _ _ => true
  | .lifeAdvance _ _ _ => true
  | .skeyInstall _ _ _ => true
  | .skeyPromote _ _ _ => true
  | .skeyErase _ _ _ => true
  | .challenge _ _ _ => true
  | .response _ _ _ => true
  | .lock _ _ _ => true
  | .gateOpDone _ _ _ _ _ => true
  | .entropyHealthFail => true
  | .unlockLockoutEnd => true
  | .levelReqWrite _ _ _ => true
  | .lantLock _ => true
  | .lantReset _ _ => true
  | .lantHalt _ _ _ => true
  | .lantStep _ _ _ => true
  | .lantResume _ _ _ _ => true
  | .jtagExtest _ => true
  | .jtagIdcode => true
  | .jtagSamplePreload _ => true
  | .jtagLantMtx _ _ _ => true
  | .jtagAonStat => true
  | .jtagAonDesc _ _ => true
  | .jtagWake => true
  | .jtagBypass code => !([0, 1, 2, 0x10, 0x20, 0x21, 0x22].contains code.toNat)
  | .railSequenceStep _ mvs => decide (mvs.length = 16)
  | .powerGoodPoll _ _ => true
  | .pgTimeout => true
  | .pmbusTransactionError _ _ => true
  | .pmbAlert _ _ _ => true
  | .pmbFenceReq _ _ => true
  | .pmbReset _ _ => true
  | .pmbResetDone _ _ _ => true
  | .avsUpdate _ _ _ => true
  | .sensorRead temps mvs powers => decide (temps.length = 32 ∧ mvs.length = 16 ∧ powers.length = 6)
  | .ioutRecalibrate powers => decide (powers.length = 6)
  | .capLoop => true
  | .capViolation => true
  | .millWakeExpiry => true
  | .p3Entry => true
  | .powerStateReached => true
  | .nop _ => true
  | .deviceQuery _ => true
  | .laneRate _ _ _ _ _ _ => true
  | .laneSleep _ _ _ => true
  | .laneWake _ _ => true
  | .attach _ _ _ _ _ _ _ _ => true
  | .detach _ _ _ => true
  | .paramWrite _ _ _ _ vs => decide (vs.length ≤ 255)
  | .reeveLoad _ _ _ _ => true
  | .reeveLoadReturn _ _ => true
  | .calendarStageWrite _ _ len img => img.length == len.toNat / 4
  | .calendarStageRead _ _ len img => img.length == len.toNat / 4
  | .calendarCommit _ _ => true
  | .queueCreateQueue _ _ _ _ _ _ _ _ _ _ _ _ _ _ => true
  | .queueCreateTrunk _ _ => true
  | .queueCreateModify _ _ _ _ _ _ _ => true
  | .queueDeleteQueue _ _ => true
  | .queueDeleteTrunk _ _ => true
  | .queueFlush _ _ => true
  | .repairScanScan _ _ => true
  | .repairScanRetest _ _ => true
  | .protRequestConfig _ _ _ _ _ _ _ _ _ _ => true
  | .protRequestLo _ _ => true
  | .protRequestFs _ _ => true
  | .protRequestMsW _ _ => true
  | .protRequestMsX _ _ => true
  | .protRequestClear _ _ => true
  | .protRequestDelete _ _ => true
  | .modeSet _ _ => true
  | .powerState _ _ => true
  | .pairJoin _ _ => true
  | .pairLeave _ => true
  | .pairTake _ => true
  | .checkpoint _ => true
  | .refConfig _ writes => decide (writes.length ≤ 255)
  | .phaseStepSlew _ _ _ => true
  | .phaseStepJump _ _ => true
  | .phaseStepFrequency _ _ => true
  | .timeSet _ _ => true
  | .regConfig _ writes => decide (writes.length ≤ 255)
  | .fenceLift _ _ _ => true
  | .injectArm _ _ => true
  | .injectStop _ _ => true
  | .debugUnlockLevel _ _ _ => true
  | .debugUnlockChallenge _ _ _ => true
  | .debugUnlockResponse _ _ _ sig => sig.length == 96
  | .gateCall _ _ _ _ len _ buf => decide (256 < len.toNat ∨ buf.length = len.toNat)
  | .oscInReturn => true
  | .lcPllLockLoss _ => true
  | .entropyHealthRecover => true
  | .pcieLinkTrained _ _ => true
  | .hostDataReadFailure _ => true
  | .commandFetchTimeLimit _ => true

end Sys2Proof
end

