-- ==== Sys2Proof/Safety.lean ====
section
/-! DEFINITION. What a sound state and a safe run are, in the terms that the statements use. -/
namespace Sys2Proof.Machine

/-- The memory is in its one canonical form: addresses rise strictly, and no listed byte is 0, which an unlisted address reads as. -/
def Memory.wf (m : List Host.Cell) : Bool := Tab.wf (fun _ => 0) m

/-- Every sparse table of the state is in its canonical form: keys rise strictly, and no listed value is what an unlisted key reads as. Equal
contents are then equal data, and a read gives what was last written. -/
structure State.Canonical (s : State) : Prop where
  regs : Tab.wf (regReset) s.regs = true
  mem : Memory.wf s.mem = true
  msixTable : Tab.wf (fun a => if a % 16 = 12 then 1 else 0) s.msixTable = true
  msixCount : Tab.wf (fun _ => 0) s.msixCount = true
  progs : Tab.wf (fun _ => none) s.progs = true
  engs : Tab.wf (fun _ => Eng.init) s.engs = true
  units : Tab.wf (fun _ => none) s.units = true
  shadow : Tab.wf (fun _ => none) s.shadow = true
  pblk : Tab.wf (fun _ => 0) s.pblk = true
  tally : Tab.wf (fun _ => 0) s.tally = true
  injs : Tab.wf (fun _ => InjX.init) s.injs = true
  lanes : Tab.wf (fun _ => LaneX.init) s.lanes = true
  aligns : Tab.wf (fun _ => AlignX.init) s.aligns = true
  vtfs : Tab.wf (fun _ => VtfX.init) s.vtfs = true
  bips : Tab.wf (fun _ => BipX.init) s.bips = true
  cals : Tab.wf (fun _ => 0) s.cals = true
  chans : Tab.wf (fun _ => ChanX.init) s.chans = true
  ends : Tab.wf (fun _ => EndX.init) s.ends = true
  xc : Tab.wf (fun _ => XcEnd.init) s.xc = true
  banks : Tab.wf (fun _ => BankX.init) s.banks = true
  flows : Tab.wf (fun _ => none) s.flows = true
  fifos : Tab.wf (fun _ => Fifo.init) s.fifos = true
  groups : Tab.wf (fun _ => Group.init) s.groups = true
  refs : Tab.wf (fun _ => RefX.init) s.refs = true
  skeys : Tab.wf (fun _ => KeySlot.init) s.skeys = true

/-- The fuse store only ever moves one way (R373 to R378): the stage never falls, a programmed key slot or a burned descriptor stays, and a
revocation or bad-word mark stays set. -/
structure Fuses.Grows (f g : Fuses) : Prop where
  life : f.life ≤ g.life
  slots : g.keys.length = f.keys.length
  keys : ∀ k, (f.keys.getD k none).isSome = true → (g.keys.getD k none).isSome = true
  revoked : ∀ k, f.revoked.testBit k = true → g.revoked.testBit k = true
  bad : ∀ k, f.bad.testBit k = true → g.bad.testBit k = true
  desc : f.desc.isSome = true → g.desc.isSome = true

/-- Every waiting command is well formed. -/
def State.queueWf (s : State) : Bool := s.pending.all Instr.wf

/-- A sound state: well-formed commands wait, every table is canonical, and the fuse store has its four root key slots. -/
structure State.Sound (s : State) : Prop where
  queue : s.queueWf = true
  tables : s.Canonical
  slots : s.fuses.keys.length = 4

/-- Master `m` reaches the part and may write a register outside LANT_ and GATE_: HOST, a Reeve, or LANT at level TINKER (R358, R391). -/
def State.writesAs (s : State) (m : Nat) : Bool :=
  decide (m ≤ 5) && s.reaches m && !(m == 5 && s.rd R.LANT_STATUS.level 0 != 2)

/-- Master `m` reaches the part and may read a register outside LANT_ and GATE_: HOST, a Reeve, or LANT at level WATCH or TINKER (R391). -/
def State.readsAs (s : State) (m : Nat) : Bool :=
  decide (m ≤ 5) && s.reaches m && !(m == 5 && s.rd R.LANT_STATUS.level 0 == 0)

/-- A steward judges commands, and no check of a list of them applies (R418). -/
def State.accepts (s : State) (l : List Check) : Bool := s.stewardActs && l.all (fun c => !c.1)

/-- The state after the steward has taken up a command, which the trace tells of (R393). -/
def State.taken (s : State) (h : CmdHead) : State := s.traceItem 4 1 s.steward (s.opcodeOf h) none

end Sys2Proof.Machine
end

