-- ==== Sys2Proof/Certificates/Slice0/Obligations.lean ====
section
/-! DEFINITION. What this model is to be proved to do: one statement for each, its docstring saying what it states and on what it rests. -/
open Sys2Proof Sys2Proof.Machine

/-- A step runs the command at the front of the queue, and idles on an empty one. For every command c and state s, the step of s with c at the
  front of its queue is exec of c on s with the rest of the queue. The step of a state with nothing in its queue answers that same state
  (model choice, assumption log entry 1). Cites: 12, 95_what_each_step_holds.md. -/
def Obligations.StepRunsFront : Prop :=
  (∀ (c : Instr) (l : List Instr) (s : State), step { s with pending := c :: l } = exec c { s with pending := l }) ∧
  (∀ (s : State), s.pending = [] → step s = .next s)

/-- The state after reset is sound, and start-up step S1 runs. At reset every table is canonical, nothing waits, start-up is at S1, FAULT_N is
  released, no event is held, Reeve 0 is the steward, and every register reads its reset value (for the registers whose reset value the
  spec leaves open that value is the model's, log entries 5 and 34). Cites: R409, R413. -/
def Obligations.ResetIsSound : Prop :=
  (State.reset.Sound) ∧
  (State.reset.startup = .step 1 ∧ State.reset.faultN = [] ∧ State.reset.evRing = [] ∧ State.reset.steward = 0 ∧ State.reset.stewardOn =
    true) ∧
  (∀ (a : Nat), State.reset.reg a = regReset a)

/-- Every step keeps a sound state sound. From every sound state (well-formed commands wait, every register file, memory and per-unit table is
  in its canonical form, the fuse store has four root key slots) each step gives a sound state. Cites: R362, R373, 12, 13. -/
def Obligations.StepKeepsSound : Prop :=
  ∀ (s t : State), s.Sound → step s = .next t → t.Sound

/-- No step undoes a fuse. Whatever command runs, in every state: the lifecycle stage never falls, a programmed root key slot stays programmed,
  a revoked or bad slot stays so, and a burned descriptor array stays burned. Cites: R373, R374, R376, R377, R378. -/
def Obligations.FusesOnlyGrow : Prop :=
  ∀ (s t : State), step s = .next t → s.fuses.Grows t.fuses

/-- A step takes one command off the queue and adds none. After a step of a state with c at the front, exactly the rest of the queue waits,
  whatever c does. Cites: 95_what_each_step_holds.md. -/
def Obligations.OnlyTheFrontLeavesTheQueue : Prop :=
  ∀ (c : Instr) (l : List Instr) (s t : State), step { s with pending := c :: l } = .next t → t.pending = l

/-- No command stops the part. For every command and every state exec answers a next state: no command ends in a fault or a refusal. Cites: 12,
  R418. -/
def Obligations.EveryCommandCompletes : Prop :=
  ∀ (c : Instr) (s : State), ∃ t : State, exec c s = .next t

/-- A written register field reads back, and every other field stays. In a state with canonical tables, after field f of register i is written
  with v: the field reads v cut to its width; a field of another register, and one of the same register that does not overlap, read as
  before; and no other register changes. Cites: R8, R362, 13_host_matrix.md. -/
def Obligations.RegisterReadsBack : Prop :=
  (∀ (s : State) (f : Fld) (i v : Nat), s.Canonical → f.lo + f.w ≤ 32 → (s.wr f i v).rd f i = v % 2 ^ f.w) ∧
  (∀ (s : State) (f g : Fld) (i j v : Nat), s.Canonical → f.lo + f.w ≤ 32 → (g.addr j ≠ f.addr i ∨ g.lo + g.w ≤ f.lo ∨ f.lo + f.w ≤ g.lo) →
    (s.wr f i v).rd g j = s.rd g j) ∧
  (∀ (s : State) (f : Fld) (i v a : Nat), s.Canonical → a ≠ f.addr i → (s.wr f i v).reg a = s.reg a)

/-- Stored bytes read back little-endian, and every other byte stays. In a state with canonical tables, n bytes stored at a read back as the
  number stored, cut to 8n bits; every byte outside them, and every register, reads as before; and the memory stays canonical. Cites: R269,
  R362, 13_host_matrix.md. -/
def Obligations.MemoryReadsBack : Prop :=
  ∀ (s : State) (a n v : Nat), s.Canonical → (s.setBytes a n v).bytes a n = v % 2 ^ (8 * n) ∧ (∀ b, b < a ∨ a + n ≤ b → (s.setBytes a n
    v).byte b = s.byte b) ∧ (s.setBytes a n v).regs = s.regs ∧ (s.setBytes a n v).Canonical

/-- A second write of a once field is discarded and counted. When master m, which reaches the part, writes GATE_LOCK after it has been written
  once since power-on reset: the access ends without an error, the register is unchanged, once_viol of that master is set and its
  once_viol_cnt counts; after power-on reset nothing counts as written. Cites: R9. -/
def Obligations.OnceFieldStays : Prop :=
  (∀ (m : Fin 8) (v : BitVec 3) (s : State), m.val ≤ 5 → s.reaches m = true → 0x400C ∈ s.onceDone → exec (.onceFieldWrite m v) s = .next
    ((s.latch R.MTX_MSTAT_m.once_viol m).bump R.MTX_MCNT_m.once_viol_cnt m 1)) ∧
  (∀ (m : Fin 8) (s : State), s.Canonical → ((s.latch R.MTX_MSTAT_m.once_viol m).bump R.MTX_MCNT_m.once_viol_cnt m 1).reg 0x400C = s.reg
    0x400C ∧ ((s.latch R.MTX_MSTAT_m.once_viol m).bump R.MTX_MCNT_m.once_viol_cnt m 1).rd R.MTX_MSTAT_m.once_viol m = 1 ∧ ((s.latch
    R.MTX_MSTAT_m.once_viol m).bump R.MTX_MCNT_m.once_viol_cnt m 1).rd R.MTX_MCNT_m.once_viol_cnt m = (s.rd R.MTX_MCNT_m.once_viol_cnt m +
    1) % 2 ^ R.MTX_MCNT_m.once_viol_cnt.w ∧ ((s.latch R.MTX_MSTAT_m.once_viol m).bump R.MTX_MCNT_m.once_viol_cnt m 1).out = s.out) ∧
  (∀ (s : State), s.powerOnReset.onceDone = [])

/-- A GATED or RETIRED bank is not scrubbed, and one that enters LIVE restarts at row 0. SCRUB_CYCLE on a bank in state GATED (2) or RETIRED
  (3) changes nothing; a bank that enters LIVE, through power, through a bank reset or a retest, or from DRAIN, has its pass at physical
  row 0. Cites: R204. -/
def Obligations.ScrubSkipsRestingBanks : Prop :=
  (∀ (b : Fin 96) (finds : List (BitVec 2 × BitVec 3 × EccFind)) (s : State), (s.bankState b = 2 ∨ s.bankState b = 3) → exec (.scrubCycle b
    finds) s = .next s) ∧
  (∀ (b : Nat) (s : State), s.Canonical → ((s.bankLive b).bank b).scrubRow = 0 ∧ (s.bankState b = 2 → ((s.pwrDo 3 b).bank b).scrubRow = 0))

/-- Every ILLEGAL_STATE completion is flagged, counted and latched. While the event ring is served, a completion with ILLEGAL_STATE writes an
  entry of class 0 with the number of ILLEGAL_STATE, flags bit 1 and the command's ring and tag; rej_cnt counts and cmd_rej is set, whether
  or not the ring is served. Cites: R350. -/
def Obligations.IllegalStateIsLogged : Prop :=
  (∀ (s : State) (h : CmdHead) (reason offset result : Nat), s.Canonical → s.evOpen = true → ∃ e, e ∈ (s.complete h .illegalState reason
    offset result).evRing ∧ e.cls = 0 ∧ e.code = Code.illegalState.num ∧ e.ring = h.ring.val ∧ e.flags.testBit 1 = true ∧ e.unit =
    h.tag.toNat) ∧
  (∀ (s : State) (h : CmdHead) (reason offset result : Nat), s.Canonical → (s.complete h .illegalState reason offset result).rd
    R.HOST_STATUS.rej_cnt 0 = (s.rd R.HOST_STATUS.rej_cnt 0 + 1) % 2 ^ R.HOST_STATUS.rej_cnt.w ∧ (s.complete h .illegalState reason offset
    result).rd R.HOST_EVENT.cmd_rej 0 = 1)

/-- The completion is the first code of R418 that applies, and any code but OK leaves all else unchanged. Of the checks that apply to a
  command, the one chosen has a code of least rank in BAD_ARG, DENIED, FENCED, ILLEGAL_STATE, BUSY, NO_RESOURCE, TIMEOUT; none is chosen
  exactly when none applies. When a check applies, judging a command leaves every lane, VSI engine, program, parameter, calendar, channel,
  tributary, packet, queue bank, candidate, group, memory byte and fuse as it was, the changes that wait, the mode, the time and the Ledger
  too; of the registers only those that log the completion can change. Cites: R418, R347, R349. -/
def Obligations.FirstCodeOfR418 : Prop :=
  (∀ (l : List Check) (code : Code) (off : Nat), firstCheck l = some (code, off) → (true, code, off) ∈ l ∧ (∀ c ∈ l, c.1 = true → code.rank
    ≤ c.2.1.rank)) ∧
  (∀ (l : List Check), firstCheck l = none ↔ ∀ c ∈ l, c.1 = false) ∧
  (∀ (s : State) (h : CmdHead) (l : List Check) (f : State → State) (code : Code) (off : Nat), firstCheck l = some (code, off) → (s.judge h
    l f).lanes = s.lanes ∧ (s.judge h l f).progs = s.progs ∧ (s.judge h l f).pblk = s.pblk ∧ (s.judge h l f).pblkPending = s.pblkPending ∧
    (s.judge h l f).cals = s.cals ∧ (s.judge h l f).chans = s.chans ∧ (s.judge h l f).ends = s.ends ∧ (s.judge h l f).pkts = s.pkts ∧
    (s.judge h l f).banks = s.banks ∧ (s.judge h l f).flows = s.flows ∧ (s.judge h l f).refs = s.refs ∧ (s.judge h l f).groups = s.groups ∧
    (s.judge h l f).mem = s.mem ∧ (s.judge h l f).fuses = s.fuses ∧ (s.judge h l f).skeys = s.skeys ∧ (s.judge h l f).changes = s.changes ∧
    (s.judge h l f).mode = s.mode ∧ (s.judge h l f).time = s.time ∧ (s.judge h l f).frame = s.frame ∧ (s.judge h l f).ledg = s.ledg ∧
    (s.judge h l f).injs = s.injs ∧ (s.judge h l f).fifos = s.fifos)

/-- A report is written behind the others, or lost and said to be lost. A report made while the ring is open and has a free entry beyond the
  reserve goes last on the ring with its class, code, unit and detail and the next number; otherwise nothing is written, ev_lost is set,
  and the next entry carries flags bit 0. Cites: R346, R347, R349. -/
def Obligations.EventRingWritesOrLoses : Prop :=
  (∀ (s : State) (cls code unit detail : Nat), s.evOpen = true → s.cmds.length < s.evFree → ∃ e, (s.report cls code unit detail).evRing =
    s.evRing ++ [e] ∧ e.cls = cls ∧ e.code = code ∧ e.unit = unit % 2 ^ 32 ∧ e.detail = detail % 2 ^ 64 ∧ e.seq = s.evSeq.toNat ∧ e.flags =
    bit s.evLost ∧ (s.report cls code unit detail).evSeq = s.evSeq + 1 ∧ (s.report cls code unit detail).evLost = false) ∧
  (∀ (s : State) (cls code unit detail : Nat), s.Canonical → (¬ (s.evOpen = true ∧ s.cmds.length < s.evFree)) → (s.report cls code unit
    detail).evRing = s.evRing ∧ (s.report cls code unit detail).evLost = true ∧ (s.report cls code unit detail).rd R.HOST_EVENT.ev_lost 0 =
    1)

/-- Power-on reset and loss of supply. POWER_ON_RESET and SUPPLY_LOSS each give the state in which every register reads its reset value, step
  S1 runs, no command, change, program, event or hung transaction is left, and the fuse store is as it was. Cites: R409, R413, R435. -/
def Obligations.PowerOnReset : Prop :=
  (∀ (s : State), ∃ t : State, exec .powerOnReset s = .next t ∧ (∀ a, t.reg a = regReset a) ∧ t.startup = .step 1 ∧ t.cmds = [] ∧ t.changes
    = [] ∧ t.progs = [] ∧ t.lanes = [] ∧ t.engs = [] ∧ t.evRing = [] ∧ t.hung = [] ∧ t.faultN = [] ∧ t.fuses = s.fuses) ∧
  (∀ (s : State), ∃ t : State, exec .supplyLoss s = .next t ∧ (∀ a, t.reg a = regReset a) ∧ t.startup = .step 1 ∧ t.cmds = [] ∧ t.changes =
    [] ∧ t.progs = [] ∧ t.lanes = [] ∧ t.engs = [] ∧ t.evRing = [] ∧ t.hung = [] ∧ t.faultN = [] ∧ t.fuses = s.fuses)

/-- Start-up steps end in the next step or in the failure action. RESET_N rising is held in the pin; S1 ends in S2; S6 with a good ROM sets
  rom_ok and begins S7, with a bad one stops with FAULT_N; S5 waits while RESET_N is low and fails without a reference clock; a link
  trained after start-up shows its generation and width. Cites: R411, R413, R383, R340. -/
def Obligations.StartupSteps : Prop :=
  (∀ (s : State), exec .resetNRelease s = .next { s with resetN := true }) ∧
  (∀ (s : State), s.startup = .step 1 → exec (.startupStepComplete (.osc true)) s = .next (s.beginStep 2)) ∧
  (∀ (s : State), s.startup = .step 6 → exec (.startupStepComplete (.rom true)) s = .next ((s.wr R.GATE_STATUS.rom_ok 0 1).beginStep 7) ∧
    exec (.startupStepComplete (.rom false)) s = .next (({ s with startup := .failed 6 } : State).assertFault .startup)) ∧
  (∀ (s : State) (pair serdes osc : Bool), s.startup = .step 5 → exec (.startupStepComplete (.clocks pair serdes osc)) s = .next (if
    s.resetN = false then s else if pair = false ∨ serdes = false then s.failStep 5 else (if osc then s else s.oscLoss 0).beginStep 6)) ∧
  (∀ (gen width : BitVec 4) (s : State), s.running = true → exec (.pcieLinkTrained gen width) s = .next ((s.wr R.HOST_STATUS.link_gen 0
    gen.toNat).wr R.HOST_STATUS.link_width 0 width.toNat))

/-- Warm reset, host port reset and TAP reset. With the core powered WARM_RESET begins start-up at S2 from a state that keeps the fuse store,
  the Ledger, the once writes and FAULT_N's always-on sources only; HOST_PORT_RESET empties the event ring, the MSI-X table and the Pending
  Bit Array before it resets masters HOST and DMA; JTAG_TAP_RESET selects IDCODE (the instruction is the model's reading of IEEE 1149.1,
  log entry 28) and touches nothing else. Cites: R409, R411, R412, R428. -/
def Obligations.WarmResetRuns : Prop :=
  (∀ (s : State), s.corePowered = true → s.startup ≠ .heldPairClk → ∃ u : State, exec .warmReset s = .next (u.beginStep 2) ∧ u.fuses =
    s.fuses ∧ u.onceDone = s.onceDone ∧ u.cmds = [] ∧ u.changes = [] ∧ u.faultN = [] ∧ u.resetN = false) ∧
  (∀ (flr hostBurst dmaBurst : Bool) (s : State), ∃ u : State, exec (.hostPortReset flr hostBurst dmaBurst) s = .next ((u.resetMaster 0
    hostBurst).resetMaster 7 dmaBurst) ∧ u.msixTable = [] ∧ u.msixPba = 0 ∧ u.msixCount = [] ∧ u.evRing = [] ∧ u.mem = s.mem ∧ u.cmds =
    s.cmds ∧ u.lanes = s.lanes ∧ u.fuses = s.fuses) ∧
  (∀ (s : State), exec .jtagTapReset s = .next { s with jtag := JtagX.init })

/-- What the loss and the return of a clock do, and a thermal trip. PAIR_REFCLK lost holds the powered core in reset with FAULT_N asserted, and
  its return begins S5; with SERDES_REFCLK lost each locked quad LC-PLL reads relocking and is latched; its fence after 100 µs takes every
  populated lane that is not OFF; the always-on crystal's loss is a Millrace event; OSC_IN's loss and return act on the Bell Tower.
  THERMAL_TRIP asserts FAULT_N, sets therm_trip, shows P3 with cause THERMAL and holds the part in reset with its fuses kept;
  THERMAL_TRIP_RECOVERY lets RESET_N and WAKE be honoured, and leaves a part that is not held as it is but for the mark. Cites: R21, R292,
  R51, R404, R396. -/
def Obligations.ClockAndThermalWatch : Prop :=
  (∀ (s : State), s.corePowered = true → ∃ u : State, exec .pairRefclkLoss s = .next (({ u with startup := .heldPairClk } :
    State).assertFault .pairClk) ∧ u.fuses = s.fuses ∧ u.cmds = [] ∧ u.aon.pairLost = true) ∧
  (∀ (s : State), s.startup = .heldPairClk → exec .pairRefclkRestore s = .next (({ s with aon := { s.aon with pairLost := false } } :
    State).beginStep 5)) ∧
  (∀ (s : State), ∃ u : State, exec .serdesRefclkLoss s = .next u.bellShow ∧ u.aon.serdesLost = true) ∧
  (∀ (s : State), s.aon.serdesLost = true → exec .serdesRefclkFence s = .next (iter (fun n (s : State) => if s.laneState n ≠ 0 then
    s.fenceLane n 6 else s) 0 96 s)) ∧
  (∀ (s : State), exec .serdesRefclkReturn s = .next { s with aon := { s.aon with serdesLost := false } }) ∧
  (∀ (s : State), exec .xtalAonLoss s = .next (({ s with aon := { s.aon with xtalLost := true } } : State).millEvent
    R.MILL_EVENT.aon_clk_fault 0)) ∧
  (∀ (s : State), exec .xtalAonRestore s = .next { s with aon := { s.aon with xtalLost := false } }) ∧
  (∀ (long : BitVec 4) (s : State), exec (.oscInLoss long) s = .next (s.oscLoss long)) ∧
  (∀ (s : State), exec .oscInReturn s = .next (({ s with bell := { s.bell with backup := false } } : State).wr R.BELL_STATUS.ocxo_ok 0 1)) ∧
  (∀ (s : State), s.Canonical → ∃ u : State, exec .thermalTrip s = .next (u.assertFault .thermal) ∧ u.startup = .heldThermal ∧
    u.mill.tripped = true ∧ u.rd R.MILL_EVENT.therm_trip 0 = 1 ∧ u.rd R.MILL_STATUS.pstate 0 = 3 ∧ u.rd R.MILL_STATUS.off_cause 0 = 1 ∧
    u.fuses = s.fuses) ∧
  (∀ (s : State), exec .thermalTripRecovery s = .next
    { s with mill := { s.mill with tripped := false }, startup := if s.startup = .heldThermal then .inP3 else s.startup })

/-- What resets, fences and wakes a Reeve, and how its stalls end. A write of rve_reset, fence_req or the watchdog acts on the named Reeve
  alone through its one operation; a fenced Reeve reports kind 8 with its cause, keeps the first cause and is stopped; the reset's end
  reloads it; an await ends on the lowest unmasked event with the frame entry as pc; a due alarm raises event 0. A pwr request is done or
  answered 1 with fault bit 2; a ckpt operation ends with its result, and a failed write sets fault bit 3 and write_err; a word load from a
  mapped, aligned address takes what the bus reads. Cites: R250, R252, R369, R273, R274, R272, R275, R276, R257. -/
def Obligations.ReeveControl : Prop :=
  (∀ (m : Fin 8) (r : Fin 4) (burst : Bool) (s : State), s.writesAs m = true → exec (.rveReset m r burst) s = .next (s.reeveReset r burst)) ∧
  (∀ (m : Fin 8) (r : Fin 4) (s : State), s.writesAs m = true → exec (.rveFenceReq m r) s = .next (s.fenceReeve r 4)) ∧
  (∀ (r : Fin 4) (s : State), s.running = true → (s.eng (384 + r.val)).resetting = false → exec (.reeveWatchdog r) s = .next (s.fenceReeve
    r 5)) ∧
  (∀ (r : Fin 4) (s : State), (s.eng (384 + r.val)).resetting = true → s.stewardOn = true → exec (.rveResetDone r) s = .next ((((s.setEng
    (384 + r) { Eng.init with halted := s.tinkers (24 + r) }).wr R.RVE_STATUS.rve_reset_done r 1).showReeve r).reeveIsBack r)) ∧
  (∀ (r : Fin 4) (rd e : Nat) (s : State), s.running = true → s.reeveFenced r = false → (s.eng (384 + r.val)).halted = false → (s.eng (384
    + r.val)).stall = some (.await rd) → lowestBit ((s.eng (384 + r.val)).events &&& (s.eng (384 + r.val)).mask) 32 = some e → exec
    (.reeveAwaitWake r) s = .next (((s.setEng (384 + r)
    { s.eng (384 + r.val) with events := setBitField (s.eng (384 + r.val)).events e 1 0, pc := (s.eng (384 + r.val)).frameEntry }).endStall
    r 1 (some rd) e 0).traceItem 2 1 r e none)) ∧
  (∀ (r : Fin 4) (a : Nat) (s : State), s.running = true → (s.eng (384 + r.val)).alarm = some a → a ≤ s.time / 2 ^ 16 + 2500 → exec
    (.reeveTimerAlarm r) s = .next (s.timerEvent r)) ∧
  (∀ (r : Fin 4) (cycles : BitVec 32) (f rd unit : Nat) (s : State), (s.eng (384 + r.val)).stall = some (.pwr f rd unit) → exec
    (.pwrMillraceReply r cycles) s = .next (if s.pwrRefused f unit then s.endStall r cycles.toNat (some rd) 1 4 else (s.pwrDo f
    unit).endStall r cycles.toNat (some rd) 0 0)) ∧
  (∀ (r : Fin 4) (cycles : BitVec 32) (err ack : Bool) (f rd a b : Nat) (s : State), (s.eng (384 + r.val)).stall = some (.ckpt f rd a b) →
    exec (.ckptLedgerReport r cycles err ack) s = .next ((if (s.ckptDo r f b err ack).1 = 1 ∧ f ≠ 0 then (s.ckptDo r f b err ack).2.latch
    R.LEDG_EVENT.write_err 0 else (s.ckptDo r f b err ack).2).endStall r cycles.toNat (some rd) (s.ckptDo r f b err ack).1 (8 * bit
    ((s.ckptDo r f b err ack).1 == 1 && f != 0)))) ∧
  (∀ (r : Fin 4) (cycles : BitVec 16) (rd a : Nat) (s : State), s.running = true → s.reeveFenced r = false → s.hung = [] → (s.eng (384 +
    r.val)).stall = some (.bus (some rd) a 0 false) → a % 4 = 0 → unmapped a = false → exec (.reeveStallEnd r cycles) s = .next ((s.readAt
    (1 + r) a true).2.2.endStall r cycles.toNat (some rd) (s.readAt (1 + r) a true).1 (2 * bit (s.readAt (1 + r) a true).2.1)))

/-- What a frame boundary, a multiframe boundary and a one-second tick do, and in which order. In a running part a frame boundary moves time
  and the frame number, releases late blocks, copies the shadow parameters, applies what is due at the frame, settles the lanes and the
  planned takeover; a multiframe boundary applies the pending parameters, then the due changes but a QUEUE_FLUSH, and gives the Reeves
  event 4; a tick sets the time that waits, copies the counters, takes the snapshot, advances seq, and gives the Reeves event 5. Cites:
  R23, R72, R245, R247, R298, R188, R131. -/
def Obligations.Boundaries : Prop :=
  (∀ (drift : BitVec 16) (s : State), s.running = true → exec (.frameBoundary drift) s = .next ((((((s.passFrame
    drift.toInt).releaseLate).copyShadow.frameParams).applyDue (fun e => e.due == .frame)).settleAll).swapPlanned)) ∧
  (∀ (twin : BitVec 96) (s : State), s.running = true → s.frame % 400 = 0 → ∃ u v : State, v = s.multiframeParams ∧ u = (((v.applyDue (fun
    e => v.isDue e && !e.change.isFlush)).snapGrid).settleAll) ∧ exec (.multiframeBoundary twin) s = .next ((if u.role = 0 then u else iter
    (fun q (t : State) => t.releaseInserts q (t.fifo q 1).words.length) 0 24 (u.gateForward twin.toNat)).reeveEvent 4)) ∧
  (∀ (s : State), s.running = true → ∃ u v : State, v = s.applySet.copyTally.takeSnapshot.countD 0 1 ∧ u = v.wr R.TALLY_STATUS.seq_lo 0
    v.tallyX.seq ∧ exec .oneSecondTick s = .next
    (({ u with tallyX := { u.tallyX with seq := u.tallyX.seq + 1 }, bell := { u.bell with stepped := false } } :
    State).countSeconds.oweEsmc.reeveEvent 5))

/-- A part that does not run passes no boundary and no tick. Until start-up has ended FRAME_BOUNDARY, MULTIFRAME_BOUNDARY and ONE_SECOND_TICK
  change nothing. Cites: R409, R413. -/
def Obligations.CarrierStops : Prop :=
  ∀ (drift : BitVec 16) (twin : BitVec 96) (s : State), s.running = false → exec (.frameBoundary drift) s = .next s ∧ exec
    (.multiframeBoundary twin) s = .next s ∧ exec .oneSecondTick s = .next s

/-- A receiver moves through SEEK, ADAPT, TRACK and HOLD. On an ACTIVE lane CDR lock, convergence, the 20 ms timeout, the loss and return of
  amplitude, and the LOL windows move the receiver and raise the lane events that R35, R43 and R44 give; a word in time joins the queue and
  leaves it in order. Cites: R22, R23, R35, R43, R44, R45, R47. -/
def Obligations.ReceiverStates : Prop :=
  (∀ (n : Fin 96) (w : BitVec 512) (s : State), s.laneState n = 2 → (s.lane n).rxQueue.length < 64 → exec (.rxWordEnqueue n w false) s =
    .next (s.setLane n { s.lane n with rxQueue := (s.lane n).rxQueue ++ [(w.toNat, false)] }) ∧ exec (.rxWordEnqueue n w true) s = .next
    ((((s.setLane n { s.lane n with rxQueue := (s.lane n).rxQueue ++ [(w.toNat, true)] }).laneEvent n 11).countL n 8 1).internalFault
    false)) ∧
  (∀ (n : Fin 96) (w : Nat) (t : List (Nat × Bool)) (s : State), (s.lane n).rxQueue = (w, false) :: t → exec (.blockRelease n) s = .next
    (s.setLane n { s.lane n with rxQueue := t, beats := (s.lane n).beats ++ [w] })) ∧
  (∀ (n : Fin 96) (s : State), s.laneState n = 2 → s.rxState n = 0 → exec (.cdrLock n) s = .next (s.setRx n 1)) ∧
  (∀ (n : Fin 96) (s : State), s.laneState n = 2 → s.rxState n = 1 → exec (.adaptConverged n) s = .next (((s.setRx n 2).setLane n
    { (s.setRx n 2).lane n with tracked := true, wake := .none }).laneEvent n 4)) ∧
  (∀ (n : Fin 96) (s : State), s.laneState n = 2 → s.rxState n ≤ 1 → exec (.acqTimeout n) s = .next (((s.setRx n 0).presets n).laneEvent n
    5)) ∧
  (∀ (n : Fin 96) (mvpp : BitVec 16) (s : State), s.Canonical → s.detects n = true → s.laneState n = 3 → s.on R.LANE_STATE.los n = false →
    mvpp.toNat < 20 + 5 * s.rd R.LANE_LOS_CFG.los_on n → ∃ u : State, exec (.rawLosAssert n mvpp) s = .next ((u.qlFail n).laneEvent n 0) ∧
    u = (((s.wr R.LANE_STATE.los n 1).countL n 0 1).setLane n
    { (((s.wr R.LANE_STATE.los n 1).countL n 0 1)).lane n with windowBad := true })) ∧
  (∀ (n : Fin 96) (mvpp : BitVec 16) (late : Bool) (s : State), s.Canonical → s.detects n = true → s.laneState n = 3 → s.on
    R.LANE_STATE.los n = true → 20 + 5 * s.rd R.LANE_LOS_CFG.los_off n < mvpp.toNat → exec (.rawLosClear n mvpp late) s = .next (((s.wr
    R.LANE_STATE.los n 0)).laneEvent n 1)) ∧
  (∀ (n : Fin 96) (ofs : BitVec 32) (s : State), s.Canonical → s.detects n = true → s.laneState n = 2 → s.rxState n = 3 → ∃ u : State, exec
    (.lolWindowEnd n ofs true) s = .next (u.wr R.LANE_STATE.lol n 0) ∧ u = (s.wr R.LANE_FREQ_OFS.ofs n ofs.toNat).setLane n
    { (s.wr R.LANE_FREQ_OFS.ofs n ofs.toNat).lane n with pdBad := min 16 (((s.wr R.LANE_FREQ_OFS.ofs n ofs.toNat).lane n).pdBad + 1), lolGood := 0 }) ∧
  (∀ (n : Fin 96) (s : State), (s.lane n).wake = .restored → s.laneState n = 2 → s.rxState n ≠ 2 → ∃ u : State, exec (.wakeFallback n) s =
    .next (u.laneEvent n 13) ∧ u = ((((s.setLane n { s.lane n with wake := .full }).setRx n 0).presets n).guardRelease n))

/-- Lock, calibration, and what fences a lane. LC-PLL lock is shown with its time; steps 1 to 6 of CAL follow one another, and step 2 locks the
  TX generator; a TX generator, a driver or a shell that fails fences with causes 2, 4 and 3 and a lost quad PLL with 6; a lane reset gives
  every lane register its reset value and keeps a fence with its cause. Cites: R36, R49, R51, R53, R33, R50. -/
def Obligations.CalibrationAndFences : Prop :=
  (∀ (q : Fin 24) (us : BitVec 16) (s : State), s.rd R.QUAD_PLL.pll_state q = 1 → ∃ f : Nat → State → State, exec (.lcPllLock q us) s =
    .next (iter f (4 * q) 4 (((s.wr R.QUAD_PLL.pll_state q 2).wr R.QUAD_PLL.lock_time q us.toNat).latch R.QUAD_EVENT.pll_locked q)) ∧ ∀ n
    u, u.laneState n = 1 → (u.lane n).pllWait = true → f n u = u.startCal n) ∧
  (∀ (n : Fin 104) (k : Nat) (dt dr : BitVec 16) (s : State), n.val < 96 → s.laneState n = 1 → s.rd R.LANE_STATE.cal_step n = k → 0 < k → k
    < 7 → exec (.calStepEnd n true dt dr) s = .next (if k = 2 then (s.wr R.LANE_STATE.tx_locked n 1).wr R.LANE_STATE.cal_step n 3 else s.wr
    R.LANE_STATE.cal_step n (k + 1)) ∧ exec (.calStepEnd n false dt dr) s = .next (s.calStepFails n)) ∧
  (∀ (n : Fin 104) (s : State), n.val < 96 → (s.laneState n = 2 ∨ s.laneState n = 3) → exec (.txgenUnlock n) s = .next ((s.wr
    R.LANE_STATE.tx_locked n 0).fenceLane n 2)) ∧
  (∀ (q : Fin 25) (s : State), q.val < 24 → s.rd R.QUAD_PLL.pll_state q = 3 → exec (.quadPllUnlock q) s = .next (iter (fun n (s : State) =>
    if s.laneState n ≠ 0 then s.fenceLane n 6 else s) (4 * q) 4 s)) ∧
  (∀ (n : Fin 104) (s : State), exec (.driverFault n) s = .next (s.fenceSerial n 4)) ∧
  (∀ (n : Fin 104) (s : State), exec (.shellParity n false) s = .next (s.fenceSerial n 3) ∧ (n.val < 96 → exec (.shellParity n true) s =
    .next ((s.latch R.QUAD_EVENT.shell_parity (n / 4)).fenceSerial n 3))) ∧
  (∀ (n : Fin 96) (dur : BitVec 16) (s : State), exec (.laneTransitionEnd n dur) s = .next ((s.endMove n dur.toNat).settleLanes (s.chan
    n))) ∧
  (∀ (n : Fin 96) (k : Nat) (s : State), (s.lane n).wake = .trim k → (k = 1 ∨ k = 5) → exec (.dormantWakeTrimEnd n true) s = .next
    (s.setLane n { s.lane n with wake := .trim (if k = 1 then 5 else 6) }) ∧ exec (.dormantWakeTrimEnd n false) s = .next ((s.setLane n
    { s.lane n with wakeMiss := true }).laneEvent n 13)) ∧
  (∀ (n : Fin 96) (s : State), (s.lane n).resetting = true → ∃ u : State, exec (.laneResetDone n) s = .next u ∧ (s.laneState n ≠ 5 → u =
    ((((s.clearRegs (0x100000 + n * 0x1000) 0x1000).loadLaneDesc n).setLane n
    { LaneX.init with rxStopped := false, fir := (((s.clearRegs (0x100000 + n * 0x1000) 0x1000).loadLaneDesc n)).firPreset n }).setAlign n
    AlignX.init).wr R.LANE_STATE.fence_cause n (s.rd R.LANE_STATE.fence_cause n)) ∧ (s.laneState n = 5 → s.Canonical → u.laneState n = 5 ∧
    u.rd R.LANE_STATE.los n = 1 ∧ u.rd R.LANE_STATE.lane_reset_done n = 1))

/-- Loops, gates, snapshots, envelope and scans of a lane. Each measurement writes what its rule says and nothing else: a loop its own output
  while it adapts, the delay replica both delays, the transition and pattern windows their freeze bits, the snapshot and the envelope the
  coefficient sets, SNR and scan their registers. Cites: R32, R37, R38, R39, R40, R41, R45, R46. -/
def Obligations.LaneMeasurements : Prop :=
  (∀ (n : Fin 96) (s : State), s.adapts n = true → s.on R.LANE_RX_CFG.ctle_adapt_en n = true → ∀ v, exec (.laneLoopUpdate n (.ctle v)) s =
    .next (s.wr R.LANE_RX_EQ.ctle n v.toNat)) ∧
  (∀ (n : Fin 96) (dTx dRx : BitVec 16) (s : State), s.laneState n = 2 → s.on R.LANE_DLY_TX.valid n = true → s.on R.LANE_DLY_RX.valid n =
    true → exec (.delayReplicaUpdate n dTx dRx) s = .next ((s.bump R.LANE_DLY_TX.delay n dTx.toNat).bump R.LANE_DLY_RX.delay n dRx.toNat)) ∧
  (∀ (n : Fin 96) (t : BitVec 11) (s : State), s.laneState n = 2 → t.toNat < 32 → exec (.transitionWindowEnd n t) s = .next (if s.on
    R.LANE_ADAPT_CFG.dens_gate_en n then (s.setLane n { s.lane n with densGood := 0 }).wr R.LANE_ADAPT_STAT.dens_frozen n 1 else s.setLane
    n { s.lane n with densGood := 0 })) ∧
  (∀ (n : Fin 96) (sig : BitVec 16) (s : State), s.laneState n = 2 → s.on R.LANE_ADAPT_STAT.pat_frozen n = true → (s.lane n).patSigs = [] →
    (s.lane n).patBreak = 63 → ∃ x, exec (.patternGateCheck n sig) s = .next ((s.setLane n x).wr R.LANE_ADAPT_STAT.pat_frozen n 0) ∧
    x.patBreak = 0 ∧ x.patSigs = [sig.toNat]) ∧
  (∀ (n : Fin 96) (errs units : BitVec 64) (s : State), s.laneState n = 2 → (s.lane n).windowBad = true → exec (.snapshotWindowEnd n errs
    units) s = .next ((s.setLane n { s.lane n with windowBad := s.rxState n != 2 }).bumpSat R.LANE_ADAPT_STAT.snap_age n (s.rd
    R.LANE_ADAPT_CFG.snap_win n + 1))) ∧
  (∀ (n : Fin 96) (s : State), s.laneState n = 2 → s.rxState n = 2 → s.on R.LANE_ADAPT_CFG.env_en n = false → exec (.envelopeCheck n) s =
    .next (s.setLane n
    { s.lane n with envTick := (s.lane n).envTick + 1, reverts := (s.lane n).reverts.filter (fun t => (s.lane n).envTick + 1 < t + 1000) })) ∧
  (∀ (n : Fin 96) (snr : BitVec 9) (lo mid hi : BitVec 7) (s : State), s.laneState n = 2 → s.rxState n = 2 → s.on R.LANE_SPEED.pam4 n =
    false → exec (.snrUpdate n snr lo mid hi) s = .next ((((s.wr R.LANE_SNR.snr n snr.toNat).wr R.LANE_SNR.eye_mid n mid.toNat).wr
    R.LANE_SNR.eye_lo n 0).wr R.LANE_SNR.eye_hi n 0)) ∧
  (∀ (n : Fin 96) (h v : BitVec 8) (s : State), (s.lane n).scanning = true → exec (.eyeScanEnd n h v true) s = .next ((s.setLane n
    { s.lane n with scanning := false }).wr R.LANE_EYE_SCAN.result n 2) ∧ exec (.eyeScanEnd n h v false) s = .next (((((s.setLane n
    { s.lane n with scanning := false }).wr R.LANE_EYE_SCAN.h_open n h.toNat).wr R.LANE_EYE_SCAN.v_open n v.toNat).wr
    R.LANE_EYE_SCAN.result n 1).laneEvent n 12))

/-- Writes of the lane registers that start something. By a master that may write there, scan, fir_apply, guard_release, lane_reset, fence_req,
  the LOS and LOL thresholds, LANE_TEST and prbs_chk do what a write of their lane register does; in the pair roles R24 refuses the four
  that R24 guards, with pair_wr_drop set and nothing else changed. Cites: R24, R30, R42, R43, R44, R46, R49, R63, R68, R358, R391. -/
def Obligations.LaneWrites : Prop :=
  (∀ (m : Fin 8) (n : Fin 96) (s : State), s.writesAs m = true → exec (.eyeScanStart m n) s = .next (s.laneWrite n 0x124 (1 + 2 * s.rd
    R.LANE_EYE_SCAN.ber_exp n)) ∧ exec (.firApply m n) s = .next (s.laneWrite n 0x028 (0x100 + s.rd R.LANE_TX_CFG.swing n)) ∧ exec
    (.guardRelease m n) s = .next (s.laneWrite n 0x100 (setBitField (s.reg (0x100100 + n * 0x1000)).toNat 30 1 1)) ∧ exec (.laneReset m n)
    s = .next (s.laneReset m n) ∧ exec (.laneFenceReq m n) s = .next (s.fenceLane n 5)) ∧
  (∀ (m : Fin 8) (n : Fin 96) (a b : BitVec 6) (c d : BitVec 10) (loop : BitVec 2) (gen chk : BitVec 3) (s : State), s.writesAs m = true →
    s.role = 0 → exec (.losCfgWrite m n a b) s = .next (s.laneWrite n 0x110 (a.toNat + 256 * b.toNat)) ∧ exec (.lolCfgWrite m n c d) s =
    .next (s.laneWrite n 0x114 (c.toNat + 2 ^ 16 * d.toNat)) ∧ exec (.laneTestWrite m n loop gen chk) s = .next (s.laneWrite n 0x164
    (loop.toNat + 4 * gen.toNat + 32 * chk.toNat)) ∧ exec (.prbsChkWrite m n chk) s = .next (s.laneWrite n 0x164 (s.rd R.LANE_TEST.loop n +
    4 * s.rd R.LANE_TEST.prbs_gen n + 32 * chk.toNat))) ∧
  (∀ (m : Fin 8) (n : Fin 96) (a b : BitVec 6) (c d : BitVec 10) (loop : BitVec 2) (gen chk : BitVec 3) (s : State), s.writesAs m = true →
    s.role ≠ 0 → exec (.losCfgWrite m n a b) s = .next (s.latch R.MTX_MSTAT_m.pair_wr_drop m) ∧ exec (.lolCfgWrite m n c d) s = .next
    (s.latch R.MTX_MSTAT_m.pair_wr_drop m) ∧ exec (.laneTestWrite m n loop gen chk) s = .next (s.latch R.MTX_MSTAT_m.pair_wr_drop m) ∧ exec
    (.prbsChkWrite m n chk) s = .next (s.latch R.MTX_MSTAT_m.pair_wr_drop m))

/-- How codeword lock, block lock and the word position are gained and lost. On a lane that acquires: the third correctable codeword at one
  candidate declares codeword lock and the eighth uncorrectable one in a row loses it; the 64th valid header in a row declares block lock;
  a lost alignment marker of an Ethernet lane with RS-FEC loses block lock; a pattern sets the word position, and its window's end clears
  it. Cites: R55, R56, R58, R59, R60, R114. -/
def Obligations.AlignmentLocks : Prop :=
  (∀ (n : Fin 96) (syms : BitVec 5) (s : State), s.acquires n = true → (s.lane n).fec % 4 ≠ 0 → s.isEthernet n = false → (s.align n).cwLock
    = false → (s.align n).cwGood = 2 → syms = 0 → exec (.rsCodewordDecode n true syms) s = .next ((s.countL n 2 1).setAlign n
    { s.align n with cwLock := true, cwGood := 3, cwBad := 0 })) ∧
  (∀ (n : Fin 96) (hdr : BitVec 2) (s : State), s.acquires n = true → s.blockStream n = true → s.blockWindow n = s → s.unitSet n 1 0 1 1 ≠
    0 → (s.align n).blLock = false → (s.align n).blGood = 63 → (hdr = 1 ∨ hdr = 2) → exec (.syncHeaderCheck n hdr) s = .next ((s.setAlign n
    { s.align n with blLock := true, blGood := 64, blSeen := 0, blBad := 0 }).syncAlign n)) ∧
  (∀ (n : Fin 96) (hdr : BitVec 2) (s : State), s.acquires n = true → s.blockStream n = true → s.blockWindow n = s → s.unitSet n 1 0 1 1 ≠
    0 → (s.align n).blLock = false → (hdr = 0 ∨ hdr = 3) → exec (.syncHeaderCheck n hdr) s = .next (s.setAlign n
    { s.align n with blGood := 0, blCand := ((s.align n).blCand + 1) % 66 })) ∧
  (∀ (n : Fin 96) (hiBer : Bool) (s : State), exec (.blockLockWindowEnd n hiBer) s = .next (((if s.isEthernet n then (s.setAlign n
    { s.align n with hiBer := hiBer }).lineFault n hiBer else s).blockWindow n).syncAlign n)) ∧
  (∀ (n : Fin 96) (hiBer : Bool) (s : State), s.acquires n = true → s.isEthernet n = true → (s.lane n).fec % 4 ≠ 0 → exec
    (.alignmentMarkerLock n true hiBer) s = .next (((s.setAlign n { s.align n with amLock := true, hiBer := hiBer }).lineFault n
    hiBer).syncAlign n) ∧ exec (.alignmentMarkerLock n false hiBer) s = .next (((s.setAlign n
    { s.align n with amLock := false, hiBer := hiBer }).lineFault n hiBer).loseBlockLock n)) ∧
  (∀ (n : Fin 96) (pos : BitVec 7) (s : State), s.acquires n = true → exec (.commaDetect n pos) s = .next ((s.wr R.LANE_ALIGN.word_pos n
    (pos.toNat % s.unitLen n)).wr R.LANE_ALIGN.pos_valid n 1)) ∧
  (∀ (n : Fin 96) (s : State), exec (.patternWindowExpiry n) s = .next (s.wr R.LANE_ALIGN.pos_valid n 0))

/-- The steward's bit-slip search, far-end loop and PRBS check. The search waits for a pattern, writes as many slips as the word position says,
  confirms, reports the lane aligned, and starts again when a monitor read finds the pattern off the boundary twice; far-end loop 3 starts
  in TRACK; with sync every mismatched bit counts, and 256 of 1,024 lose sync. Cites: R57, R59, R60, R61, R64, R65, R68. -/
def Obligations.BitSlipSearch : Prop :=
  (∀ (m : Fin 8) (n : Fin 96) (s : State), s.reaches m = true → ((s.laneWrite n 0x160 0x100).align n).search = .idle → exec (.slip m n) s =
    .next (s.laneWrite n 0x160 0x100)) ∧
  (∀ (n : Fin 96) (s : State), s.stewardActs = true → s.laneState n = 2 → s.rxState n = 2 → s.bitSlipLane n = true → (s.align n).search =
    .idle → exec (.bitslipSearchStart n) s = .next (s.setAlign n { s.align n with search := .await false })) ∧
  (∀ (n : Fin 96) (s : State), s.stewardActs = true → s.on R.LANE_ALIGN.pos_valid n = false → (s.align n).search = .await true → exec
    (.patternWaitTimeout n) s = .next (s.setAlign n { s.align n with search := .await false })) ∧
  (∀ (n : Fin 96) (s : State), s.stewardActs = true → s.on R.LANE_ALIGN.pos_valid n = false → (s.align n).search = .await false → exec
    (.patternWaitTimeout n) s = .next (s.report 8 0 n 0)) ∧
  (∀ (n : Fin 96) (s : State), s.stewardActs = true → s.on R.LANE_ALIGN.pos_valid n = true → (s.align n).search = .await false → s.rd
    R.LANE_ALIGN.word_pos n ≠ 0 → exec (.alignConfirmRead n) s = .next (s.setAlign n
    { s.align n with search := .slips (s.rd R.LANE_ALIGN.word_pos n) })) ∧
  (∀ (n : Fin 96) (k : Nat) (s : State), s.stewardActs = true → s.on R.LANE_ALIGN.pos_valid n = true → (s.align n).search = .confirm k →
    s.rd R.LANE_ALIGN.word_pos n = 0 → exec (.alignConfirmRead n) s = .next (if k < 2 then s.setAlign n
    { s.align n with search := .confirm (k + 1) } else (s.setAlign n { s.align n with search := .aligned 0 }).report 8 1 n (s.rd
    R.LANE_ALIGN.slip_cnt n))) ∧
  (∀ (n : Fin 96) (bad : Nat) (s : State), s.stewardActs = true → s.on R.LANE_ALIGN.pos_valid n = true → (s.align n).search = .aligned bad
    → s.rd R.LANE_ALIGN.word_pos n ≠ 0 → exec (.alignMonitorRead n) s = .next (if bad = 0 then s.setAlign n
    { s.align n with search := .aligned 1 } else ((s.setAlign n { s.align n with search := .await false }).hfHunt n).report 8 2 n 0)) ∧
  (∀ (n : Fin 96) (s : State), s.testMode = true → s.laneState n = 2 → s.rxState n = 2 → s.rd R.LANE_TEST.loop n = 3 → exec
    (.farEndLoopStart n) s = .next (s.setAlign n { s.align n with farEnd := true })) ∧
  (∀ (n : Fin 96) (bits mism : BitVec 11) (s : State), s.laneState n = 2 → s.rd R.LANE_TEST.prbs_chk n ≠ 0 → s.on R.LANE_TEST.prbs_sync n =
    true → exec (.prbsCheckWindow n bits mism) s = .next (if bits.toNat = 1024 ∧ 256 ≤ mism.toNat then ((s.bumpSat R.LANE_PRBS_ERR.errors n
    mism.toNat).wr R.LANE_TEST.prbs_sync n 0).setAlign n { s.align n with chkRun := 0 } else s.bumpSat R.LANE_PRBS_ERR.errors n
    mism.toNat)) ∧
  (∀ (n : Fin 96) (bits : BitVec 11) (s : State), s.laneState n = 2 → s.rd R.LANE_TEST.prbs_chk n ≠ 0 → s.on R.LANE_TEST.prbs_sync n =
    false → 128 ≤ (s.align n).chkRun + bits.toNat → exec (.prbsCheckWindow n bits 0) s = .next ((s.wr R.LANE_TEST.prbs_sync n 1).setAlign n
    { s.align n with chkRun := 0 }))

/-- What a VTF lane does with the frames it receives. A first FAS match makes a candidate; a good FAS block keeps the lane aligned and the M-th
  errored one in a row loses it; a FIW that follows the last one enters MF_SYNC; the maintenance word's parity is counted and sent back;
  the announced calendar switch and the calibration difference are taken in MF_SYNC. Cites: R82, R89, R92, R95, R96, R98, R147, R180, R295. -/
def Obligations.VtfReceive : Prop :=
  (∀ (n : Fin 96) (p fiw : BitVec 64) (f : Fiw) (s : State), fiwOf fiw.toNat = some f → s.acquires n = true → s.carriesVtf (s.chan n) =
    true → (s.align n).blLock = true → (s.vtf n).fasAt = none → (s.vtf n).cands = [] → exec (.fasSearchMatch n p fiw) s = .next (s.setVtf n
    { s.vtf n with cands := [{ count := 1, next := p.toNat + s.frameBlocks n, pos := ⟨f.sfn, f.subframe, f.frameNo⟩ }] })) ∧
  (∀ (n : Fin 96) (p : Nat) (s : State), (s.vtf n).fasAt = some p → exec (.expectedFasCheck n true) s = .next (s.setVtf n
    { s.vtf n with fasAt := some (p + s.frameBlocks n), fasBad := 0 }) ∧ ((s.vtf n).fasBad + 1 < s.fasM n → exec (.expectedFasCheck n
    false) s = .next (s.setVtf n { s.vtf n with fasAt := some (p + s.frameBlocks n), fasBad := (s.vtf n).fasBad + 1 })) ∧ (s.fasM n ≤
    (s.vtf n).fasBad + 1 → (s.vtf n).cands = [] → exec (.expectedFasCheck n false) s = .next (((s.setVtf n
    { s.vtf n with fasAt := none, fasBad := 0 }).leaveSync n).syncAlign n))) ∧
  (∀ (n : Fin 96) (v : BitVec 64) (arrival : BitVec 96) (s : State), (s.vtf n).fasAt ≠ none → s.carriesVtf (s.chan n) = true → (s.vtf
    n).mfSync = false → fiwOf v.toNat = none → exec (.fiwReceive n v arrival) s = .next ((s.countC (s.chan n) 5 1).setVtf n
    { s.vtf n with tRx := ((arrival.toNat : Int) - (s.countC (s.chan n) 5 1).rd R.LANE_DLY_RX.delay n * 256 - (s.vtf n).bias).toNat, lastFiw := none })) ∧
  (∀ (n : Fin 96) (s : State), (s.vtf (s.chan n)).mfSync = true → ((s.vtf (s.chan n)).calTarget = some 0 ∨ (s.vtf (s.chan n)).calTarget =
    some 1) → exec (.rxCalendarSwitch n) s = .next (s.rxSwitch (s.chan n))) ∧
  (∀ (n : Fin 96) (v : BitVec 64) (payloadBip : BitVec 8) (s : State), (s.vtf n).mfSync = true → (s.vtf n).rxBip = none → exec (.mwrReceive
    n v payloadBip) s = .next ((s.countC (s.chan n) 2 (bitField v.toNat 8 4)).setVtf n
    { s.vtf n with rxRei := bitField v.toNat 8 4, rxRdi := bitField v.toNat 12 1 == 1, rxAis := bitField v.toNat 13 1 == 1, rxBip := some payloadBip.toNat })) ∧
  (∀ (n : Fin 96) (diff : BitVec 32) (s : State), (s.vtf n).mfSync = true → (s.vtf n).calDiffs = [] → exec (.calibrationFrameReceive n
    diff) s = .next (s.setVtf n { s.vtf n with calDiffs := [signedOf 32 diff.toNat], bias := signedOf 32 diff.toNat }))

/-- What a VTF lane sends, and what it does with received overhead. A sending lane drives out the frame of the present number, beginning with
  FAS, and counts it; in MF_SYNC a timing message, an MCC cell or a calendar segment that fails its check is counted and nothing else
  happens; an APS word of a known group is accepted into that group. Cites: R69, R84, R85, R86, R107, R108, R168, R179, R314, R70. -/
def Obligations.VtfOverhead : Prop :=
  (∀ (n : Fin 96) (rc : Nat) (s : State), s.rateCode (s.chan n) = some rc → s.sendsFrames n = true → ∃ (u : State) (rest payload : List
    Nat), exec (.vtfFrameSend n) s = .next ((u.emit (.vtfFrame n (fasWord :: rest) payload)).syncCal (s.chan n))) ∧
  (∀ (n : Fin 96) (tc0 tc1 tc2 tc3 filtered : BitVec 64) (s : State), (s.vtf n).mfSync = true → s.pw (s.chan n) 0 14 ≠ 0 → bitField
    tc3.toNat 48 16 ≠ crc16 [tc0.toNat, tc1.toNat, tc2.toNat] tc3.toNat → exec (.timingMessageReceive n tc0 tc1 tc2 tc3 filtered) s = .next
    (s.countC (s.chan n) 6 1)) ∧
  (∀ (n : Fin 96) (tc0 tc1 tc2 tc3 filtered : BitVec 64) (s : State), (s.vtf n).mfSync = true → s.pw (s.chan n) 0 14 ≠ 0 → bitField
    tc3.toNat 48 16 = crc16 [tc0.toNat, tc1.toNat, tc2.toNat] tc3.toNat → bitField tc3.toNat 36 4 = 2 → ∃ u : State, exec
    (.timingMessageReceive n tc0 tc1 tc2 tc3 filtered) s = .next u.bellShow ∧ u =
    ({ s with bell := { s.bell with laneQl := Tab.put 0 s.bell.laneQl n (bitField tc3.toNat 32 4) } } : State).setVtf n
    { s.vtf n with dlyReqs := ({ seq := bitField tc3.toNat 16 16, tRx := (s.vtf n).tRx } :: (s.vtf n).dlyReqs).take 2 }) ∧
  (∀ (n : Fin 96) (mc : List (BitVec 64)) (s : State), (s.vtf n).mfSync = true → s.carriesVtf (s.chan n) = true → crc32mc ((upTo (fun i =>
    (mc.getD i 0).toNat) 9) ++ [(mc.getD 9 0).toNat, (mc.getD 10 0).toNat]) ((mc.getD 11 0).toNat / 2 ^ 32) ≠ (mc.getD 11 0).toNat % 2 ^ 32
    → exec (.mccCellReceive n mc) s = .next ((s.setVtf n { s.vtf n with mccCrcErr := (s.vtf n).mccCrcErr + 1 }).bumpPw (s.chan n) 0 22)) ∧
  (∀ (n : Fin 96) (ca : List (BitVec 64)) (s : State), (s.vtf n).mfSync = true → s.carriesVtf (s.chan n) = true → bitField (ca.getD 0
    0).toNat 48 16 ≠ crc16ca (ca.getD 0 0).toNat (upTo (fun i => (ca.getD (1 + i) 0).toNat) 7) → exec (.calAdvSegmentReceive n ca) s =
    .next (s.countC (s.chan n) 7 1)) ∧
  (∀ (n : Fin 96) (v : BitVec 64) (g : Nat) (s : State), (s.vtf n).mfSync = true → (s.vtf n).fiwLane = 0 → crc8Ok v.toNat = true → v.toNat
    % 2 ^ 24 = 0 → bitField v.toNat 36 4 ≤ 0xA → s.groupOf (bitField v.toNat 40 16) = some g → (s.groupPaths g).contains (s.chan n) = true
    → ∃ (u : State) (b : Bool), exec (.apsWordReceive n v false) s = .next (u.setMismatch g b) ∧ (s.Canonical → (u.group g).rxSeq = some
    (bitField v.toNat 24 8) ∧ (u.group g).farReq = bitField v.toNat 36 4 ∧ (u.group g).farSel = bitField v.toNat 34 1))

/-- What the Ethernet program does with frames and mPackets; ESMC and CPRI receive. A frame goes to the receive MAC; fault ordered sets are
  answered with remote fault, then idle; a fragment out of sequence is counted; a verify is answered and sent again up to three times, and
  a respond declares success; an insert item leaves ahead of queued frames. With esmc_rx_en an ESMC frame is judged; 5 s without one fail
  the quality level; an information PDU leaves when it is owed and an event PDU after a change of the QL sent; a hyperframe start begins
  the CPRI search, and an aligned channel that loses its alignment hunts. Cites: R115, R116, R118, R119, R120, R121, R130, R131, R132,
  R133, R137, R138. -/
def Obligations.EthernetAndCpri : Prop :=
  (∀ (c : Fin 96) (sfd fcs departed : Bool) (bytes : List (BitVec 8)) (ts : BitVec 96) (s : State), s.macUp c = true → exec
    (.ethFrameReceive c sfd fcs departed bytes ts) s = .next (s.macReceive c sfd fcs departed (bytes.map (·.toNat)) ts.toNat)) ∧
  (∀ (c : Fin 96) (now : BitVec 64) (cut : Option (BitVec 14)) (s : State), s.runs c 0 2 = true → s.laneState c = 2 → s.pw c 0 11 = 1 →
    (s.localFault c = true ∨ s.pw c 0 24 = 1) → exec (.ethFrameSend c now cut) s = .next (s.emit (.ethFault c))) ∧
  (∀ (c : Fin 96) (lf rf : Bool) (s : State), s.runs c 0 2 = true → ∃ u v : State, v = (s.setPw c 0 24 (bit lf)).setPw c 0 25 (bit rf) ∧ u
    = (if lf || rf then (v.setPw c 0 27 0).bellShow else v) ∧ exec (.faultOrderedSetReceive c lf rf) s = .next (if u.pw c 0 11 = 1 ∧
    u.laneState c = 2 then (if lf then u.emit (.ethFault c) else if rf then u.emit (.ethIdle c) else u) else u)) ∧
  (∀ (c : Fin 96) (last ok : Bool) (smd frag : BitVec 2) (bytes : List (BitVec 8)) (ts : BitVec 96) (s : State), s.macUp c = true → s.pw c
    0 12 ≠ 0 → (s.chanX c).rxFrag = none → exec (.preemptFragmentReceive c false last ok smd frag bytes ts) s = .next (s.countC c 22 1) ∧
    exec (.preemptFragmentReceive c true false true smd frag bytes ts) s = .next (s.setChanX c
    { s.chanX c with rxFrag := some (bytes.map (·.toNat), smd.toNat, 0) })) ∧
  (∀ (c : Fin 96) (s : State), s.macUp c = true → s.pw c 0 12 = 1 → exec (.verifyMpacketReceive c) s = .next (s.emit (.mPacket c true))) ∧
  (∀ (c : Fin 96) (s : State), s.runs c 0 2 = true → s.laneState c = 2 → s.pw c 0 12 = 1 → s.pw c 0 13 = 1 → s.pw c 0 26 = 1 → exec
    (.verifyMpacketSend c) s = .next (if 3 ≤ (s.chanX c).verifies then s.setPw c 0 26 3 else (s.setChanX c
    { s.chanX c with verifies := (s.chanX c).verifies + 1 }).emit (.mPacket c false))) ∧
  (∀ (c : Fin 96) (s : State), s.macUp c = true → s.pw c 0 12 = 1 → s.pw c 0 13 = 1 → s.pw c 0 26 = 1 → 0 < (s.chanX c).verifies → exec
    (.respondMpacketReceive c) s = .next ((s.setPw c 0 26 2).setChanX c { s.chanX c with verifies := 0 })) ∧
  (∀ (c : Fin 96) (ts : BitVec 96) (i : Insert) (t : List Insert) (s : State), s.runs c 0 2 = true → s.laneState c = 2 → s.role ≠ 0 →
    (s.chanX c).inserts = i :: t → i.oneStep = false → i.twoStep = false → exec (.insertFrameSend c ts) s = .next ((s.setChanX c
    { s.chanX c with inserts := t }).sendFrame c { bytes := i.bytes, express := true, bad := false })) ∧
  (∀ (c : Fin 96) (bytes : List (BitVec 8)) (s : State), s.runs c 0 2 = true → s.pw c 0 18 ≠ 0 → s.laneState c = 2 → exec (.esmcPduReceive
    c bytes) s = .next (s.esmcReceive c (bytes.map (·.toNat)) (parseFrame (bytes.map (·.toNat))).off)) ∧
  (∀ (c : Fin 96) (s : State), s.runs c 0 2 = true → s.pw c 0 18 ≠ 0 → exec (.esmcTimeout c) s = .next ((s.setPw c 0 27 0).setPw c 0 29
    1).bellShow) ∧
  (∀ (c : Fin 96) (s : State), s.runs c 0 2 = true → s.pw c 0 19 = 1 → s.laneState c = 2 → (s.chanX c).esmcInfo = true → exec
    (.esmcInfoSend c) s = .next (s.esmcSend c false)) ∧
  (∀ (c : Fin 96) (s : State), s.runs c 0 2 = true → s.pw c 0 19 = 1 → s.laneState c = 2 → s.esmcQl c ≠ (s.chanX c).esmcSent → exec
    (.esmcEventSend c) s = .next (s.esmcSend c true)) ∧
  (∀ (c : Fin 96) (atExpected : Bool) (hfn l1 : BitVec 8) (bfn : BitVec 12) (ts : BitVec 96) (s : State), s.runs c 0 3 = true →
    s.cpriAligned c = true → s.pw c 0 12 = 0 → exec (.cpriHyperframeReceive c true atExpected hfn l1 bfn ts) s = .next ((s.setChanX c
    { s.chanX c with hfGood := 1, hfBad := 0, hfPrev := hfn.toNat }).setPw c 0 12 1)) ∧
  (∀ (c : Fin 96) (start atExpected : Bool) (hfn l1 : BitVec 8) (bfn : BitVec 12) (ts : BitVec 96) (s : State), s.runs c 0 3 = true →
    s.cpriAligned c = false → exec (.cpriHyperframeReceive c start atExpected hfn l1 bfn ts) s = .next (s.hfHunt c))

/-- Mapping and demapping of tributaries. A mapper's frame places at most P - 1 words and counts them; a header that fails its CRC-8, or names
  another tributary, is counted and marks the slot set; the first good header of an empty history starts it; a due word leaves at the
  client ball; a good sheaf header opens a packet; the TX calendar switches at its frame. Cites: R145, R147, R148, R154, R156, R157, R159,
  R161, R171. -/
def Obligations.MappingFrames : Prop :=
  (∀ (c : Fin 96) (t : BitVec 16) (measured : BitVec 64) (s : State), 0 < (s.slotSet c 0 t.toNat).length → s.carriesVtf c = true →
    calibrationFrame s.mode s.frame = false → s.clientEnd t.toNat = none → s.mapperW t.toNat c measured.toNat = none → ∃ u : State, exec
    (.cbrMapperFrame c t measured) s = .next (u.showTrib t.toNat) ∧ u.tally = s.tally ∧ u.pkts = s.pkts ∧ u.groups = s.groups ∧ u.ends =
    (s.setTrib t.toNat c { s.trib t.toNat c with recentreAt := none, words := [], csf := true }).ends) ∧
  (∀ (c : Fin 96) (t : BitVec 16) (v : BitVec 64) (col : Nat) (rest : List Nat) (s : State), s.slotSet c 1 t.toNat = col :: rest →
    s.chanDelivers c = true → (s.vtf c).rxCal = false → crc8Ok v.toNat = false → exec (.thReceive c t v) s = .next (((s.bumpPw c 0
    32).countC c 10 1).setTrib t.toNat c { s.trib t.toNat c with thKind := 1, goodRun := 0, badRun := (s.trib t.toNat c).badRun + 1 })) ∧
  (∀ (c : Fin 96) (t : BitVec 16) (v : BitVec 64) (col : Nat) (rest : List Nat) (s : State), s.slotSet c 1 t.toNat = col :: rest →
    s.chanDelivers c = true → (s.vtf c).rxCal = false → crc8Ok v.toNat = true → bitField v.toNat 40 16 ≠ t.toNat → exec (.thReceive c t v)
    s = .next (((s.bumpPw c 0 33).countC c 11 1).setTrib t.toNat c
    { s.trib t.toNat c with thKind := 2, goodRun := 0, badRun := (s.trib t.toNat c).badRun + 1 })) ∧
  (∀ (c : Fin 96) (t : BitVec 16) (content : List (BitVec 64)) (delay link : BitVec 32) (s : State), 0 < (s.slotSet c 1 t.toNat).length →
    s.chanDelivers c = true → (s.vtf c).rxCal = false → (s.trib t.toNat c).thKind = 0 → (s.trib t.toNat c).hist = [] → exec (.demapperFrame
    c t content delay link) s = .next (s.setTrib t.toNat c
    { s.trib t.toNat c with link := link.toNat, hist := [(s.farFrame c, (s.trib t.toNat c).thPhase)], recvd := 0 })) ∧
  (∀ (cl : Fin 96) (t c v : Nat) (rest : List Nat) (s : State), s.runs cl 1 5 = true → s.pw cl 1 9 ≠ 0 → s.pw cl 1 8 = t → s.groupOf t =
    none → s.otherEnds t cl = c :: rest → (s.trib t c).recentring = 0 → s.endSf t c = false → s.endCsf t c = false → (s.trib t c).wordAt
    (s.trib t c).nextWord = some v → exec (.demapWordDue cl false) s = .next ((s.passWord t c (s.trib t c).nextWord).emit (.cbrWord cl
    (some v)))) ∧
  (∀ (c : Fin 96) (t : BitVec 16) (pos : BitVec 14) (v now : BitVec 64) (s : State), s.runs c 1 6 = true → s.slotSet c 1 t.toNat ≠ [] →
    s.chanDelivers c = true → (s.vtf c).rxCal = false → (s.trib t.toNat c).thKind ≠ 2 → (s.trib t.toNat c).sync = true → (s.trib t.toNat
    c).pkt = none → v ≠ 0 → crc8Ok v.toNat = true → 60 ≤ bitField v.toNat 26 14 → bitField v.toNat 26 14 ≤ 9596 → exec (.sheafBlockReceive
    c t pos v now) s = .next (s.setTrib t.toNat c
    { s.trib t.toNat c with pkt := some { flow := bitField v.toNat 40 16, len := bitField v.toNat 26 14, deadline := bitField v.toNat 6 20, late := bitField v.toNat 5 1 == 1, err := bitField v.toNat 4 1 == 1, ct := bitField v.toNat 3 1 == 1, cls := v.toNat % 8, bytes := [], left := (bitField v.toNat 26 14 + 7) / 8 } })) ∧
  (∀ (c : Fin 96) (g : Nat) (s : State), (s.chanX c).switchAt = some g → g ≤ s.frame → exec (.txCalendarSwitch c) s = .next (s.txSwitch c))

/-- Defects, snapshots and injectors. A defect whose raw condition holds and that nothing masks sets, and one whose clear rule is met, its raw
  condition absent, clears; an incomplete BIP window resets its runs; a snapshot goes to the posted buffer and a short one counts as
  missed; an injector event counts its units; the reorder window is released. Cites: R175, R176, R180, R188, R189, R191, R192, R193, R196,
  R363. -/
def Obligations.DefectsAndTally : Prop :=
  (∀ (c : Fin 96) (k : Fin 23) (s : State), s.integrates c = true → s.rawDef c k = true → defMasked (s.defs c) k = false → exec (.defectSet
    (.chan c k)) s = .next (s.putDefs c (setBitField (s.defs c) k 1 1))) ∧
  (∀ (c : Fin 96) (s : State), bitField (s.defs c) 3 1 = 1 → s.rawDef c 3 = false → exec (.defectClear (.chan c 3)) s = .next (s.putDefs c
    (setBitField (s.defs c) 3 1 0))) ∧
  (∀ (n : Fin 96) (s : State), s.integrates (s.chan n) = true → s.carriesVtf (s.chan n) = true → (s.bip n).whole = false → exec
    (.bipWindowEnd n) s = .next (s.setBip n
    { s.bip n with count := 0, whole := (s.vtf n).mfSync, sfRun := 0, sdRun := 0, sfLow := 0, sdLow := 0 })) ∧
  (∀ (bufLen : BitVec 32) (k : Tick) (rest : List Tick) (s : State), s.tallyX.due = k :: rest → s.masterFenced 7 = false → s.rd
    R.HOST_RING_CFG_x.active 5 ≠ 0 → 64 + 8 * k.counts.length ≤ bufLen.toNat → ∃ u : State, exec (.snapshotImageWrite bufLen) s = .next
    (((u.latch R.TALLY_EVENT.snap_done 0).devAdvance 5).signal 14) ∧ u.out = .snapshot 1 k.groups k.seq k.time k.flags s.tallyX.missed
    k.counts :: s.out ∧ u.tallyX.due = rest ∧ u.tallyX.missed = 0 ∧ u.tally = s.tally) ∧
  (∀ (m : Fin 8) (s : State), s.readsAs m = true → exec (.tallyLiveRead m) s = .next ((s.liveRead m).2.emit (.busRead m 0x40014 (s.liveRead
    m).1))) ∧
  (∀ (s : State), exec .injectorStart s = .next ((s.tallyX.arms.filter (fun a => decide (a.at_ ≤ s.frame))).foldl (fun (t : State) a =>
    t.startArm a) { s with tallyX := { s.tallyX with arms := s.tallyX.arms.filter (fun a => !decide (a.at_ ≤ s.frame)) } })) ∧
  (∀ (j : Fin 16) (s : State), s.rd R.TALLY_INJ_STAT_j.state j = 2 → s.rd R.TALLY_INJ_LIMIT_j.limit j = 0 → s.rd R.TALLY_INJ_CFG_j.kind j =
    3 → ∃ k, k = injUnits (s.rd R.TALLY_INJ_CFG_j.action j) (s.rd R.TALLY_INJ_PAT_j.len j) ∧ exec (.injectorEvent j) s = .next ((((s.countD
    (16 + j) k).setInj j { s.inj j with events := (s.inj j).events + 1 }).emit (.injected j (s.reg (0x40800 + 32 * j)).toNat (s.reg
    (0x40804 + 32 * j)).toNat)).injSpent j)) ∧
  (∀ (j : Fin 16) (s : State), exec (.reorderWindowTimeout j) s = .next ((s.releaseWindow j).injSpent j)) ∧
  (∀ (m : Fin 8) (j : Fin 16) (r : Fin 4) (v : BitVec 32) (s : State), s.writesAs m = true → exec (.injectorRegWrite m j r v) s = .next
    (s.injWrite j r v.toNat))

/-- Scrub, repair and life of a queue bank. Scrubbing a LIVE bank reads four rows in turn and ends a pass after row 16,415; a qualified row is
  copied to the lowest free spare and remapped a frame later; a bank asked to retire drains and is retired when it is empty or its time is
  over; a bank reset or a retest with at most 32 failing rows gives a new map; a scan ends when every named bank has. Cites: R203, R204,
  R206, R207, R209, R210, R226. -/
def Obligations.GranaryBanks : Prop :=
  (∀ (b : Fin 96) (s : State), s.bankState b ≤ 1 → (s.bank b).copy = none → exec (.scrubCycle b []) s = .next (if (s.bank b).scrubRow + 4 <
    16416 then s.setBank b { s.bank b with scrubRow := (s.bank b).scrubRow + 4 } else if b.val = 0 then (s.setBank b
    { s.bank b with scrubRow := 0, pass := (s.bank b).pass + 1, scanning := false }).bump R.GRN_STATUS.scrub_pass 0 1 else s.setBank b
    { s.bank b with scrubRow := 0, pass := (s.bank b).pass + 1, scanning := false })) ∧
  (∀ (b : Fin 96) (e : Track) (k : Nat) (s : State), s.on R.GRN_CTRL.repair_en 0 = true → s.bankState b ≤ 1 → (s.bank b).copy = none →
    (s.bank b).tracker.find? (fun e => e.qualified) = some e → (upTo id 32).find? (fun k => !((s.bank b).map.any (fun e => e.2 == k))) =
    some k → exec (.rowRepairCopy b) s = .next (s.setBank b { s.bank b with copy := some (e.row, k, s.frame) })) ∧
  (∀ (b : Fin 96) (row k f : Nat) (s : State), (s.bank b).copy = some (row, k, f) → f < s.frame → ∃ u : State, u = ((s.setBank b
    { s.bank b with map := (s.bank b).map.map (fun e => if e.1 = row then (16384 + e.2, e.2) else e) ++ [(row, k)], copy := none, tracker := (s.bank b).tracker.filter (fun e => e.row != row) }).wr
    R.GRN_BANK_b.spares_used b ((s.bank b).map.length + 1)) ∧ exec (.rowRemap b) s = .next (u.grnEvent R.GRN_EVENT.row_repaired b (u.reg
    (0x800100 + 4 * b)).toNat)) ∧
  (∀ (s : State), s.stewardActs = true → exec .repairRecordWrite s = .next s.writeRepairRec) ∧
  (∀ (b : Fin 96) (s : State), (s.bank b).asked ≠ 0 → (s.bankState b = 0 ∨ s.bankState b = 2) → exec (.bankDrainStart b none) s = .next
    (s.drainBank b (s.bank b).asked)) ∧
  (∀ (b : Fin 96) (s : State), s.bankState b = 1 → (s.cellsIn b = 0 ∨ (s.bank b).drainFrom + 400 * s.rd R.GRN_CTRL.drain_ms 0 ≤ s.frame) →
    exec (.bankDrainEnd b) s = .next (s.endDrain b)) ∧
  (∀ (m : Fin 8) (b : Fin 96) (s : State), s.writesAs m = true → exec (.bankFenceReq m b) s = .next (s.bankFenceReq b) ∧ exec (.bankReset m
    b) s = .next (s.bankReset b)) ∧
  (∀ (b : Fin 96) (failing : List (BitVec 15)) (map : List (Nat × Nat)) (s : State), (s.bank b).march = 1 → marchMap (failing.map
    (·.toNat)) = some map → exec (.bankResetDone b failing) s = .next (((s.setBank b { s.bank b with march := 0 }).putMap b map).wr
    R.GRN_BANK_b.bank_reset_done b 1)) ∧
  (∀ (s : State), s.on R.GRN_STATUS.scan_busy 0 = true → (∀ b ∈ upTo id 96, (s.bank b).march ≠ 2) → (∀ b ∈ upTo id 96, (s.bank b).named =
    false) → exec .repairScanPassEnd s = .next ((s.wr R.GRN_STATUS.scan_busy 0 0).latch R.GRN_EVENT.scan_done 0)) ∧
  (∀ (b : Fin 96) (failing : List (BitVec 15)) (s : State), (s.bank b).march = 2 → s.stewardActs = true → marchMap (failing.map (·.toNat))
    = none → ∃ u : State, u = (s.setBank b { s.bank b with march := 0 }).report 8 8 b 0 ∧ exec (.retestDone b failing) s = .next (if (upTo
    id 96).any (fun k => (u.bank k).march == 2) then u else ((((u.wr R.GRN_STATUS.scan_busy 0 0).latch R.GRN_EVENT.scan_done 0).takeChange
    (fun e => e.change == .retest)).2.okOpt ((((u.wr R.GRN_STATUS.scan_busy 0 0).latch R.GRN_EVENT.scan_done 0).takeChange (fun e =>
    e.change == .retest)).1.bind Pend.head) 0)))

/-- What happens to queues at their walks, flushes and closing. A fenced queue's packets are dropped with cause FENCED; an accepted flush acts
  at its point and completes; a closing queue that has emptied stops existing and is reported; in SUNDIAL the sweep examines every queue; a
  flow entry that read uncorrectable is rewritten and reported. Cites: R202, R221, R222, R223, R224. -/
def Obligations.GranaryQueues : Prop :=
  (∀ (q : BitVec 16) (s : State), s.on R.GRN_QD_CTRL.fenced q.toNat = true → exec (.fencedQueueWalk q) s = .next (s.dropAll q.toNat 8)) ∧
  (∀ (q : BitVec 16) (e : Pend) (t : State) (s : State), s.takeChange (fun e => e.change == .queueFlush q.toNat && s.isDue e) = (some e, t)
    → t.on R.GRN_QD_CTRL.valid q.toNat = true → exec (.flushPoint q) s = .next ((t.flushQueue q.toNat).okOpt e.head 0)) ∧
  (∀ (q : BitVec 16) (s : State), s.stewardActs = true → s.on R.GRN_QD_CTRL.closing q.toNat = true → s.rd R.GRN_QD_OCC.occ_cells q.toNat =
    0 → ∃ u : State, u = (((s.wr R.GRN_QD_CTRL.valid q.toNat 0).wr R.GRN_QD_CTRL.closing q.toNat 0).degradedRecompute) ∧ exec (.queueClosed
    q) s = .next (if u.stewardActs then u.report 8 9 q.toNat 0 else u)) ∧
  (∀ (now : BitVec 64) (s : State), s.mode = .sundial → exec (.residencySweep now) s = .next ((s.pkts.map (·.queue)).eraseDups.foldl (fun
    (t : State) q => t.sweepQueue q now.toNat (t.pkts.length + 1)) s)) ∧
  (∀ (e : BitVec 17) (s : State), s.stewardActs = true → s.flowBad.contains e.toNat = true → exec (.flowEntryRewrite e) s = .next
    (({ s with flowBad := s.flowBad.filter (· ≠ e.toNat) } : State).report 8 6 (e.toNat / 8) (e.toNat % 8)))

/-- Runs, resets and fences of Weaver threads, their FIFOs and parameter words. A beat or the service epoch starts a thread on its first
  handler; a thread that passes its budget is fenced with cause 3; an uncorrectable bundle fences it; parity fences the Weaver with cause
  7; resets and fence requests by a master act on what they name; a completed reset shows so; FIFO accesses and parameter words go through
  the bus. Cites: R231, R232, R235, R237, R241, R242, R243, R247, R250, R365, R366. -/
def Obligations.WeaverControl : Prop :=
  (∀ (q : Fin 24) (t : Fin 16) (first : BitVec 7) (row : BitVec 5) (col : BitVec 8) (epoch : BitVec 12) (h : Handler) (rest : List Handler)
    (s : State), s.beatHandlers (s.chan (s.threadLane q t)) 2 = h :: rest → s.isStream q t = true → s.threadFree q t = true → t.val % 2 = 1
    → exec (.beatHandlerStart q t first row col epoch) s = .next (s.setEng (16 * q.val + t.val)
    { s.eng (16 * q.val + t.val) with w := 0, sb := { first := first.toNat, row := row.toNat, col := col.toNat, pos := s.sbPos (s.threadLane q t), state := s.sbState (s.threadLane q t), epoch := epoch.toNat }, running := true, used := 0, todo := h :: rest, pc := h.entry, loops := [] })) ∧
  (∀ (q : Fin 24) (t : Fin 16) (h : Handler) (rest : List Handler) (s : State), (s.eng (16 * q.val + t.val)).extra ++ s.frameHandlers q t =
    h :: rest → s.isStream q t = false → s.threadFree q t = true → exec (.serviceThreadStart q t) s = .next (s.setEng (16 * q.val + t.val)
    { s.eng (16 * q.val + t.val) with w := 0, sb := ⟨0, 0, 0, 0, 0, 0⟩, running := true, used := 0, todo := h :: rest, extra := [], pc := h.entry, loops := [] })) ∧
  (∀ (q : Fin 24) (t : Fin 16) (s : State), (s.eng (16 * q.val + t.val)).running = true → s.isStream q t = false → s.mode.budget.service ≤
    (s.eng (16 * q.val + t.val)).used → exec (.threadOverrun q t) s = .next (s.fenceThread q t 3)) ∧
  (∀ (q : Fin 24) (t : Fin 16) (first : BitVec 14) (s : State), ∃ u : State, u = s.weaverEcc q t 0 (2 * first.toNat) .ue ∧ exec
    (.bundleRewrite q t first false) s = .next (if u.stewardActs then (u.latch R.WVR_EVENT.imem_rewritten q).report 8 5 q first.toNat else
    u)) ∧
  (∀ (h : CmdHead) (img : List (BitVec 8)) (sigOk : Bool) (al : AlignKind) (f : Fetch) (t : State) (r : Nat) (s : State), s.stewardActs =
    true → s.takeFetch h = (some f, t) → img.length = f.len → f.use = .reeve r → exec (.imageFetchComplete h img sigOk al) s = .next
    (t.reeveImage f r (img.map (·.toNat)) sigOk)) ∧
  (∀ (h : CmdHead) (img : List (BitVec 8)) (sigOk : Bool) (al : AlignKind) (f : Fetch) (t : State) (c slot : Nat) (rp : Bool) (s : State),
    s.stewardActs = true → s.takeFetch h = (some f, t) → img.length = f.len → f.use = .attach c slot rp → exec (.imageFetchComplete h img
    sigOk al) s = .next (t.attachImage f c slot rp (img.map (·.toNat)) sigOk al)) ∧
  (∀ (q : Fin 24) (s : State), exec (.weaverParity q) s = .next (s.fenceWeaver q 7)) ∧
  (∀ (m : Fin 8) (q : Fin 24) (t : Fin 16) (s : State), s.writesAs m = true → exec (.threadReset m q t) s = .next (s.threadReset m q t) ∧
    exec (.threadFenceReq m q t) s = .next (s.fenceThread q t 4) ∧ exec (.wvrReset m q) s = .next (s.wvrReset m q) ∧ exec (.wvrFenceReq m
    q) s = .next (s.fenceWeaver q 4)) ∧
  (∀ (q : Fin 24) (t : Fin 16) (s : State), (s.eng (16 * q.val + t.val)).resetting = true → exec (.threadResetDone q t) s = .next
    ((s.clearThread q t).wr (R.WVR_THREAD_t.thread_reset_done q) t 1)) ∧
  (∀ (q : Fin 24) (s : State), s.wvrResetting.contains q.val = true → exec (.wvrResetDone q) s = .next ((iter (fun t (u : State) =>
    u.clearThread q t) 0 16 { s with wvrResetting := s.wvrResetting.filter (· ≠ q.val) }).wr R.WVR_STATUS.wvr_reset_done q 1)) ∧
  (∀ (m : Fin 8) (q : Fin 24) (f : Fin 5) (s : State), s.readsAs m = true → exec (.fifoDataRead m q f) s = .next ((s.fifoRead q f).2.emit
    (.busRead m (0x201100 + q * 0x10000 + 0x10 * f) (s.fifoRead q f).1))) ∧
  (∀ (m : Fin 8) (q : Fin 24) (f : Fin 5) (v : BitVec 32) (s : State), s.writesAs m = true → m.val = 0 → exec (.fifoDataWrite m q f v) s =
    .next (s.fifoWrite m q f v.toNat) ∧ exec (.fifoFlush m q f) s = .next (s.fifoFlushReq m q f)) ∧
  (∀ (m : Fin 8) (c : Fin 96) (slot : Fin 4) (w : Fin 128) (v : BitVec 32) (s : State), exec (.paramWordWrite m c slot w v) s = .next
    (s.busWrite m (0x1810000 + c / 4 * 0x20000 + (4 * (c % 4) + slot) * 0x200 + 4 * w) 15 v.toNat) ∧ exec (.paramErrClear m c slot v) s =
    .next (s.busWrite m (0x1810000 + c / 4 * 0x20000 + (4 * (c % 4) + slot) * 0x200 + 12) 15 v.toNat))

/-- The register syllables of slots F and A. On an engine that may issue, and with its guard 1, each syllable of slots F and A reads its
  registers at issue and puts its one result on its way with its latency (1, CRC 2, MUL 3); nothing outside the engine's own record
  changes; with its guard 0, or on an engine that may not issue, a guarded one changes nothing. Cites: R255, R256, R257, R258, R264, R265,
  R266, R267, 10_vsi_system.md. -/
def Obligations.VsiRegisterOps : Prop :=
  (∀ (e : Engine) (pg : Fin 8) (rd ra rb : Fin 32) (fb : Fin 6) (poly : Fin 3) (n1 : Fin 8) (fa : Fin 14) (k : Fin 4) (n : Fin 64) (fm :
    Fin 3) (s : State), s.canIssue e = true → (s.eng (engIdx e)).pr pg = true → exec (.bop e pg rd ra fb) s = .next (s.setEng (engIdx e)
    ((s.eng (engIdx e)).toReg 1 rd (bopFn fb ((s.eng (engIdx e)).rg ra)))) ∧ exec (.crc e pg rd ra rb poly n1) s = .next (s.setEng (engIdx
    e) ((s.eng (engIdx e)).toReg 2 rd (crcFn poly (n1 + 1) ((s.eng (engIdx e)).rg ra) ((s.eng (engIdx e)).rg rb)))) ∧ exec (.alu e pg fa rd
    ra rb) s = .next (s.setEng (engIdx e) ((s.eng (engIdx e)).toReg 1 rd (aluFn fa ((s.eng (engIdx e)).rg ra) ((s.eng (engIdx e)).rg rb))))
    ∧ exec (.shi e pg k rd ra n) s = .next (s.setEng (engIdx e) ((s.eng (engIdx e)).toReg 1 rd (shiftFn k ((s.eng (engIdx e)).rg ra) n))) ∧
    exec (.mul e pg fm rd ra rb) s = .next (s.setEng (engIdx e) ((s.eng (engIdx e)).toReg 3 rd (mulFn fm ((s.eng (engIdx e)).rg ra) ((s.eng
    (engIdx e)).rg rb))))) ∧
  (∀ (e : Engine) (rd ra rb : Fin 32) (pg : Fin 8) (imm : BitVec 16) (pos wm1 : BitVec 6) (sx : Bool) (h : Fin 4) (s : State), s.canIssue e
    = true → exec (.bext e rd ra pos wm1 sx) s = .next (s.setEng (engIdx e) ((s.eng (engIdx e)).toReg 1 rd (extField ((s.eng (engIdx e)).rg
    ra) pos.toNat (wm1.toNat + 1) sx))) ∧ exec (.bins e rd ra pos wm1) s = .next (s.setEng (engIdx e) ((s.eng (engIdx e)).toReg 1 rd
    (setBitField ((s.eng (engIdx e)).rg rd) pos.toNat (wm1.toNat + 1) ((s.eng (engIdx e)).rg ra)))) ∧ exec (.addi e rd ra imm) s = .next
    (s.setEng (engIdx e) ((s.eng (engIdx e)).toReg 1 rd (((s.eng (engIdx e)).rg ra) + sext16 imm.toNat))) ∧ exec (.andi e rd ra imm) s =
    .next (s.setEng (engIdx e) ((s.eng (engIdx e)).toReg 1 rd (((s.eng (engIdx e)).rg ra) &&& imm.toNat))) ∧ exec (.ori e rd ra imm) s =
    .next (s.setEng (engIdx e) ((s.eng (engIdx e)).toReg 1 rd (((s.eng (engIdx e)).rg ra) ||| imm.toNat))) ∧ exec (.xori e rd ra imm) s =
    .next (s.setEng (engIdx e) ((s.eng (engIdx e)).toReg 1 rd (((s.eng (engIdx e)).rg ra) ^^^ imm.toNat))) ∧ exec (.movk e rd h imm) s =
    .next (s.setEng (engIdx e) ((s.eng (engIdx e)).toReg 1 rd (setBitField ((s.eng (engIdx e)).rg rd) (16 * h) 16 imm.toNat))) ∧ exec (.sel
    e pg rd ra rb) s = .next (s.setEng (engIdx e) ((s.eng (engIdx e)).toReg 1 rd (if (s.eng (engIdx e)).pr pg then ((s.eng (engIdx e)).rg
    ra) else ((s.eng (engIdx e)).rg rb))))) ∧
  (∀ (e : Engine) (pg pd pa pb : Fin 8) (f : Fin 6) (fp : Fin 3) (na nb : Bool) (ra rb : Fin 32) (s : State), s.canIssue e = true → (s.eng
    (engIdx e)).pr pg = true → exec (.cmp e pg f pd ra rb) s = .next (s.setEng (engIdx e) ((s.eng (engIdx e)).give 1 (.pred pd) (bit (cmpFn
    f ((s.eng (engIdx e)).rg ra) ((s.eng (engIdx e)).rg rb))))) ∧ exec (.pop e pg fp pd na pa nb pb) s = .next (s.setEng (engIdx e) ((s.eng
    (engIdx e)).give 1 (.pred pd) (bit (popFn fp ((s.eng (engIdx e)).pr pa != na) ((s.eng (engIdx e)).pr pb != nb)))))) ∧
  (∀ (e : Engine) (c : Fin 4) (pd : Fin 8) (ra : Fin 32) (imm : BitVec 16) (s : State), s.canIssue e = true → exec (.cmpi e c pd ra imm) s
    = .next (s.setEng (engIdx e) ((s.eng (engIdx e)).give 1 (.pred pd) (bit (cmpFn (if c.val = 3 then 4 else c) ((s.eng (engIdx e)).rg ra)
    (sext16 imm.toNat)))))) ∧
  (∀ (q : Fin 24) (t : Fin 16) (rd ra : Fin 32) (pos : BitVec 9) (wm1 : BitVec 6) (sx : Bool) (s : State), s.canIssue (.thread q t) = true
    → s.isStream q t = true → exec (.wext q t rd ra pos wm1 sx) s = .next (s.setEng (16 * q + t) ((s.eng (16 * q + t)).toReg 1 rd (extField
    (winFrom (s.eng (16 * q + t)).w ((s.eng (16 * q + t)).rg ra + pos.toNat)) 0 (wm1.toNat + 1) sx))) ∧ exec (.wins q t rd ra pos wm1) s =
    .next (s.setEng (16 * q + t) ((s.eng (16 * q + t)).give 1 (.win (((s.eng (16 * q + t)).rg ra + pos.toNat) % 512) (wm1.toNat + 1))
    ((s.eng (16 * q + t)).rg rd)))) ∧
  (∀ (q : Fin 24) (t : Fin 16) (pg : Fin 8) (rd : Fin 32) (f : Fin 7) (s : State), s.canIssue (.thread q t) = true → (s.eng (16 * q +
    t)).pr pg = true → exec (.sbr q t pg rd f) s = .next (s.setEng (16 * q + t) ((s.eng (16 * q + t)).toReg 1 rd (s.sbField q t f (s.eng
    (16 * q + t)))))) ∧
  (∀ (e : Engine) (s : State), exec (.fnop e) s = .next s ∧ exec (.anop e) s = .next s ∧ exec (.qnop e) s = .next s) ∧
  (∀ (e : Engine) (pg : Fin 8) (rd ra rb : Fin 32) (f : Fin 14) (s : State), (s.canIssue e = false ∨ (s.eng (engIdx e)).pr pg = false) →
    s.Canonical → ∃ t : State, exec (.alu e pg f rd ra rb) s = .next t ∧ t.eng = s.eng ∧ t.regs = s.regs ∧ t.mem = s.mem)

/-- Loads and stores of slot Q. A private load reads little-endian bytes at its wrapped, aligned address with latency 2, and a store changes
  exactly those bytes; shared stores of a Weaver wait 20 cycles and take effect in thread order; a shared load is read when it lands.
  Cites: R236, R255, R268, R269, R270, R272. -/
def Obligations.VsiMemoryOps : Prop :=
  (∀ (e : Engine) (rd ra : Fin 32) (imm : BitVec 16) (s : State), s.canIssue e = true → exec (.ld e rd ra imm .clean) s = .next ((s.setEng
    (engIdx e) ((s.eng (engIdx e)).toReg 2 rd (s.bytes (s.dataAddr e (s.eng (engIdx e)) ra imm.toNat 8) 8))).dataEcc e (s.dataAddr e (s.eng
    (engIdx e)) ra imm.toNat 8 / 8 * 8) .clean) ∧ exec (.ldw e rd ra imm .clean) s = .next ((s.setEng (engIdx e) ((s.eng (engIdx e)).toReg
    2 rd (s.bytes (s.dataAddr e (s.eng (engIdx e)) ra imm.toNat 4) 4))).dataEcc e (s.dataAddr e (s.eng (engIdx e)) ra imm.toNat 4 / 8 * 8)
    .clean) ∧ exec (.st e rd ra imm) s = .next ((s.setBytes (s.dataAddr e (s.eng (engIdx e)) ra imm.toNat 8) 8 ((s.eng (engIdx e)).rg
    rd)).dataEcc e (s.dataAddr e (s.eng (engIdx e)) ra imm.toNat 8 / 8 * 8) .clean) ∧ exec (.stw e rd ra imm .clean) s = .next ((s.setBytes
    (s.dataAddr e (s.eng (engIdx e)) ra imm.toNat 4) 4 ((s.eng (engIdx e)).rg rd)).dataEcc e (s.dataAddr e (s.eng (engIdx e)) ra imm.toNat
    4 / 8 * 8) .clean)) ∧
  (∀ (q : Fin 24) (t : Fin 16) (rd ra : Fin 32) (imm : BitVec 16) (x : Eng) (s : State), s.canIssue (.thread q t) = true → s.eng (16 * q +
    t) = x → exec (.lds q t rd ra imm .clean) s = .next ((s.setEng (16 * q + t)
    { x with due := x.due ++ [⟨x.cycle + 20, .reg rd, 0, some (sharedOff x ra imm.toNat 8, 8)⟩] }).weaverEcc q t 2 (sharedOff x ra
    imm.toNat 8 / 8) .clean) ∧ exec (.ldsw q t rd ra imm .clean) s = .next ((s.setEng (16 * q + t)
    { x with due := x.due ++ [⟨x.cycle + 20, .reg rd, 0, some (sharedOff x ra imm.toNat 4, 4)⟩] }).weaverEcc q t 2 (sharedOff x ra
    imm.toNat 4 / 8) .clean) ∧ exec (.sts q t rd ra imm) s = .next
    (({ s with shst := s.shst ++ [⟨q, t, x.cycle + 20, sharedOff x ra imm.toNat 8, 8, x.rg rd⟩] } : State).weaverEcc q t 2 (sharedOff x ra
    imm.toNat 8 / 8) .clean) ∧ exec (.stsw q t rd ra imm .clean) s = .next
    (({ s with shst := s.shst ++ [⟨q, t, x.cycle + 20, sharedOff x ra imm.toNat 4, 4, x.rg rd⟩] } : State).weaverEcc q t 2 (sharedOff x ra
    imm.toNat 4 / 8) .clean)) ∧
  (∀ (q : Fin 24) (s : State), ∃ u : State, u = { s with shst := s.shst.filter (fun e => !s.storeDue q e) } ∧ exec (.sharedStoreEffect q) s
    = .next ((upTo id 16).foldl (fun (v : State) t => ((s.shst.filter (s.storeDue q)).filter (fun e => e.t == t)).foldl (fun (v : State) e
    => v.sharedWrite q e.addr e.len e.val) v) u)) ∧
  (∀ (r : Fin 4) (rd ra : Fin 32) (imm : BitVec 16) (x : Eng) (s : State), s.canIssue (.reeve r) = true → s.eng (384 + r) = x → exec (.bld
    r rd ra imm) s = .next ((s.setEng (384 + r)
    { x with stallNew := true, stall := some (.bus (some rd) ((x.rg ra + sext16 imm.toNat) % 2 ^ 32) (x.rg 0) false) }).showReeve r) ∧ exec
    (.bst r rd ra imm) s = .next ((s.setEng (384 + r)
    { x with stallNew := true, stall := some (.bus none ((x.rg ra + sext16 imm.toNat) % 2 ^ 32) (x.rg rd) false) }).showReeve r) ∧ exec
    (.bldd r rd ra imm) s = .next ((s.setEng (384 + r)
    { x with stallNew := true, stall := some (.bus (some rd) ((x.rg ra + sext16 imm.toNat) % 2 ^ 32) (x.rg 0) true) }).showReeve r) ∧ exec
    (.bstd r rd ra imm) s = .next ((s.setEng (384 + r)
    { x with stallNew := true, stall := some (.bus none ((x.rg ra + sext16 imm.toNat) % 2 ^ 32) (x.rg rd) true) }).showReeve r)) ∧
  (∀ (r : Fin 4) (pg : Fin 8) (rd ra rb : Fin 32) (x : Eng) (s : State), s.canIssue (.reeve r) = true → s.eng (384 + r) = x → x.pr pg =
    true → exec (.ckptOpen r pg rd ra rb) s = .next ((s.setEng (384 + r)
    { x with stallNew := true, stall := some (.ckpt 0 rd (x.rg ra) (x.rg rb)) }).showReeve r) ∧ exec (.ckptWrite r pg rd ra rb) s = .next
    ((s.setEng (384 + r) { x with stallNew := true, stall := some (.ckpt 1 rd (x.rg ra) (x.rg rb)) }).showReeve r) ∧ exec (.ckptCommit r pg
    rd ra rb) s = .next ((s.setEng (384 + r) { x with stallNew := true, stall := some (.ckpt 2 rd (x.rg ra) (x.rg rb)) }).showReeve r) ∧
    exec (.ckptMirror r pg rd ra rb) s = .next ((s.setEng (384 + r)
    { x with stallNew := true, stall := some (.ckpt 3 rd (x.rg ra) (x.rg rb)) }).showReeve r) ∧ exec (.ckptJournalAppend r pg rd ra rb) s =
    .next ((s.setEng (384 + r) { x with stallNew := true, stall := some (.ckpt 4 rd (x.rg ra) (x.rg rb)) }).showReeve r) ∧ exec
    (.ckptRepairRecord r pg rd ra rb) s = .next ((s.setEng (384 + r)
    { x with stallNew := true, stall := some (.ckpt 5 rd (x.rg ra) (x.rg rb)) }).showReeve r))

/-- Port reads of slot Q. A port read on a thread that issues with its guard 1 puts one result on its way and changes only what its port says:
  the oldest due lookup or choice is taken, a delivered word is taken, and the counts, calendar entries, block words and shadows are read
  without any change. Cites: R85, R268, R271, R247, R363. -/
def Obligations.VsiPortReads : Prop :=
  (∀ (q : Fin 24) (t : Fin 16) (pg : Fin 8) (rd ra rb : Fin 32) (f : Fin 5) (fc : Fin 4) (x : Eng) (s : State), s.canIssue (.thread q t) =
    true → s.eng (16 * q + t) = x → x.pr pg = true → exec (.xcCount q t pg rd ra) s = .next (s.setEng (16 * q + t) ((s.eng (16 * q +
    t)).toReg 1 rd ((s.xcEnd (x.rg ra % 2 ^ 16) (s.threadChan q t)).held.length))) ∧ exec (.fifoPortLevel q t pg rd f) s = .next (s.setEng
    (16 * q + t) ((s.eng (16 * q + t)).toReg 1 rd (if readFifo f then fifoCap f - (s.fifo q f).words.length else (s.fifo q
    f).words.length))) ∧ exec (.calEntryRead q t pg rd ra fc) s = .next (s.setEng (16 * q + t) ((s.eng (16 * q + t)).toReg 2 rd (if x.rg ra
    < s.slots (s.threadChan q t) then s.cal (s.threadChan q t) (fc.val % 2) (if fc.val < 2 then s.calSel (s.threadChan q t) (fc.val % 2)
    else 1 - s.calSel (s.threadChan q t) (fc.val % 2)) (x.rg ra) else 0)))) ∧
  (∀ (q : Fin 24) (t : Fin 16) (pg : Fin 8) (rd ra rb : Fin 32) (c slot : Nat) (x : Eng) (s : State), s.canIssue (.thread q t) = true →
    s.eng (16 * q + t) = x → x.pr pg = true → x.block = some (c, slot) → exec (.pblkRead q t pg rd ra) s = .next (s.setEng (16 * q + t)
    ((s.eng (16 * q + t)).toReg 1 rd (s.pw c slot (x.rg ra % 128)))) ∧ exec (.pblkStatusRead q t pg rd ra) s = .next (s.setEng (16 * q + t)
    ((s.eng (16 * q + t)).toReg 1 rd (s.shadowWord c slot (x.rg ra % 128))))) ∧
  (∀ (q : Fin 24) (t : Fin 16) (pg : Fin 8) (rd ra rb : Fin 32) (f : Fin 3) (fs : Fin 2) (inst : BitVec 96) (x : Eng) (s : State),
    s.canIssue (.thread q t) = true → s.eng (16 * q + t) = x → x.pr pg = true → exec (.timeRead q t pg rd f) s = .next (s.stamp.2.setEng
    (16 * q + t) ((s.stamp.2.eng (16 * q + t)).toReg 1 rd (timeWord f s.stamp.1))) ∧ exec (.stampRead q t pg rd fs inst) s = .next
    (s.setEng (16 * q + t) ((s.eng (16 * q + t)).toReg 4 rd (if !s.isStream q t then 0 else if fs.val = 0 then inst.toNat % 2 ^ 64 else
    inst.toNat / 2 ^ 64)))) ∧
  (∀ (q : Fin 24) (t : Fin 16) (pg : Fin 8) (rd ra rb : Fin 32) (w : Nat) (rest : List Nat) (x : Eng) (s : State), s.canIssue (.thread q t)
    = true → s.eng (16 * q + t) = x → x.pr pg = true → x.flowHeld = w :: rest → s.Canonical → exec (.flowResultCollect q t pg rd) s = .next
    ((s.setEng (16 * q + t) { x with flowHeld := rest }).setEng (16 * q + t) (({ x with flowHeld := rest } : Eng).toReg 1 rd w))) ∧
  (∀ (q : Fin 24) (t : Fin 16) (pg : Fin 8) (rd ra rb : Fin 32) (x : Eng) (s : State), s.canIssue (.thread q t) = true → s.eng (16 * q + t)
    = x → x.pr pg = true → x.grneHeld = [] → s.Canonical → exec (.grneChoiceCollect q t pg rd) s = .next ((s.setEng (16 * q + t)
    { x with grneLost := false }).setEng (16 * q + t) (({ x with grneLost := false } : Eng).toReg 1 rd (2 ^ 61 * bit x.grneLost)))) ∧
  (∀ (q : Fin 24) (t : Fin 16) (pg : Fin 8) (rd ra rb : Fin 32) (w id : Nat) (rest : List (Nat × Option Nat)) (x : Eng) (s : State),
    s.canIssue (.thread q t) = true → s.eng (16 * q + t) = x → x.pr pg = true → x.grneHeld = (w, some id) :: rest → x.cur = none →
    s.Canonical → exec (.grneChoiceCollect q t pg rd) s = .next ((s.setEng (16 * q + t)
    { x with grneHeld := rest, cur := some (id, 0) }).setEng (16 * q + t) (({ x with grneHeld := rest, cur := some (id, 0) } : Eng).toReg 1
    rd w))) ∧
  (∀ (q : Fin 24) (t : Fin 16) (pg : Fin 8) (rd ra rb : Fin 32) (w : Nat) (rest : List Nat) (x : Eng) (s : State), s.canIssue (.thread q t)
    = true → s.eng (16 * q + t) = x → x.pr pg = true → (s.xcEnd (x.rg ra % 2 ^ 16) (s.threadChan q t)).held = w :: rest → ∃ u : State, u =
    s.setXc (x.rg ra % 2 ^ 16) (s.threadChan q t) { s.xcEnd (x.rg ra % 2 ^ 16) (s.threadChan q t) with held := rest } ∧ exec (.xcTake q t
    pg rd ra) s = .next (u.setEng (16 * q + t) ((u.eng (16 * q + t)).toReg 1 rd (w)))) ∧
  (∀ (q : Fin 24) (t : Fin 16) (pg : Fin 8) (rd ra rb : Fin 32) (k : Fin 2) (x : Eng) (s : State), s.canIssue (.thread q t) = true → s.eng
    (16 * q + t) = x → x.pr pg = true → exec (.unitStatusRead q t pg rd ra) s = .next ((s.unitStatus (s.unitLane q t (x.rg ra)) (x.rg ra %
    8)).2.setEng (16 * q + t) (((s.unitStatus (s.unitLane q t (x.rg ra)) (x.rg ra % 8)).2.eng (16 * q + t)).toReg 2 rd ((s.unitStatus
    (s.unitLane q t (x.rg ra)) (x.rg ra % 8)).1))) ∧ exec (.fifoPortPop q t pg rd k) s = .next ((s.fifoPop q (2 * k + 1)).2.setEng (16 * q
    + t) (((s.fifoPop q (2 * k + 1)).2.eng (16 * q + t)).toReg 1 rd ((s.fifoPop q (2 * k + 1)).1))))

/-- Port operations of slot Q. A lookup is put on its way and falls due in order; a packet is opened, appended to, marked and closed under its
  handle; a choice is made at once and falls due in order; a word put into a tributary goes on its way to each other end and is delivered
  there; a tally counter and a status shadow take what the port gives them. Cites: R214, R216, R218, R223, R225, R268, R271, R172. -/
def Obligations.VsiPortOps : Prop :=
  (∀ (q : Fin 24) (t : Fin 16) (pg : Fin 8) (rd ra rb : Fin 32) (find : Option (BitVec 16 × EccFind)) (x : Eng) (s : State), s.canIssue
    (.thread q t) = true → s.eng (16 * q + t) = x → x.pr pg = true → find = none → exec (.flowLookupIssue q t pg ra rb find) s = .next
    (s.setEng (16 * q + t) { x with flowIss := x.flowIss ++ [s.flowWord (x.rg ra) (x.rg rb)] })) ∧
  (∀ (q : Fin 24) (t : Fin 16) (w : Nat) (rest : List Nat) (s : State), (s.eng (16 * q + t)).flowIss = w :: rest → exec (.flowResultDue q
    t) s = .next (s.setEng (16 * q + t)
    { s.eng (16 * q + t) with flowIss := rest, flowHeld := (holdResult (s.eng (16 * q + t)).flowHeld (s.eng (16 * q + t)).flowLost w).1, flowLost := (holdResult (s.eng (16 * q + t)).flowHeld (s.eng (16 * q + t)).flowLost w).2 })) ∧
  (∀ (q : Fin 24) (t : Fin 16) (pg : Fin 8) (rd ra rb : Fin 32) (h : Nat) (x : Eng) (s : State), s.canIssue (.thread q t) = true → s.eng
    (16 * q + t) = x → x.pr pg = true → (upTo id 4).find? (fun h => (x.handle h).isNone) = some h → ∃ u v : State, u = (s.openPkt (x.rg ra
    % 2 ^ 16) (s.threadChan q t) (x.rg rb)).2 ∧ v = u.setEng (16 * q + t)
    { u.eng (16 * q + t) with handles := (u.eng (16 * q + t)).handles ++ [(h, (s.openPkt (x.rg ra % 2 ^ 16) (s.threadChan q t) (x.rg rb)).1)] }
    ∧ exec (.grniOpen q t pg rd ra rb) s = .next (v.setEng (16 * q + t) ((v.eng (16 * q + t)).toReg 2 rd (h)))) ∧
  (∀ (q : Fin 24) (t : Fin 16) (pg : Fin 8) (rd ra rb : Fin 32) (id : Nat) (x : Eng) (s : State), s.canIssue (.thread q t) = true → s.eng
    (16 * q + t) = x → x.pr pg = true → x.handle (x.rg ra) = some id → exec (.grniAppend q t pg ra rb) s = .next (if 1 ≤ bitField (x.rg rb)
    16 7 ∧ bitField (x.rg rb) 16 7 ≤ 64 then (s.writePkt id (winBytes (if s.isStream q t then x.w else 0) (x.rg rb % 512) (bitField (x.rg
    rb) 16 7))).2.joinIfCut id else s) ∧ exec (.grniClose q t pg ra rb) s = .next ((s.closePkt id (bitField (x.rg rb) 0 1 == 1) (bitField
    (x.rg rb) 1 1 == 1)).updEng (16 * q + t) (fun y => { y with handles := y.handles.filter (fun e => e.1 != x.rg ra) })) ∧ (∀ p, s.pkt id
    = some p → exec (.grniCutThrough q t pg ra rb) s = .next ((s.setPkt { p with ct := true, len := x.rg rb % 2 ^ 14 }).joinIfCut id) ∧
    exec (.grniSendBy q t pg ra rb) s = .next (s.setPkt { p with carried := some (x.rg rb) }))) ∧
  (∀ (q : Fin 24) (t : Fin 16) (pg : Fin 8) (rd ra rb : Fin 32) (x : Eng) (s : State), s.canIssue (.thread q t) = true → s.eng (16 * q + t)
    = x → x.pr pg = true → (s.choose (bitField (x.rg ra) 16 1) (x.rg ra % 2 ^ 16) (x.rg rb) (bitField (x.rg ra) 16 1 == 1 && s.runs (x.rg
    ra % 2 ^ 16) 0 2 && s.pw (x.rg ra % 2 ^ 16) 0 26 == 2) (s.pkts.length + 1)).1 = none → ∃ u : State, u = (s.choose (bitField (x.rg ra)
    16 1) (x.rg ra % 2 ^ 16) (x.rg rb) (bitField (x.rg ra) 16 1 == 1 && s.runs (x.rg ra % 2 ^ 16) 0 2 && s.pw (x.rg ra % 2 ^ 16) 0 26 == 2)
    (s.pkts.length + 1)).2 ∧ exec (.grneChoiceIssue q t pg ra rb) s = .next (u.setEng (16 * q + t)
    { u.eng (16 * q + t) with grneIss := (u.eng (16 * q + t)).grneIss ++ [(2 ^ 63 + 2 ^ 62, none)] })) ∧
  (∀ (q : Fin 24) (t : Fin 16) (w : Nat) (p : Option Nat) (rest : List (Nat × Option Nat)) (x : Eng) (s : State), s.eng (16 * q + t) = x →
    x.grneIss = (w, p) :: rest → x.grneHeld.length < 16 → exec (.grneChoiceDue q t) s = .next (s.setEng (16 * q + t)
    { x with grneIss := rest, grneHeld := x.grneHeld ++ [(w + 2 ^ 61 * bit x.grneLost, p)], grneLost := false })) ∧
  (∀ (q : Fin 24) (t : Fin 16) (pg : Fin 8) (rd ra rb : Fin 32) (id k : Nat) (p : Packet) (x : Eng) (s : State), s.canIssue (.thread q t) =
    true → s.eng (16 * q + t) = x → x.pr pg = true → x.cur = some (id, k) → s.pkt id = some p → 1 ≤ bitField (x.rg ra) 16 7 → bitField
    (x.rg ra) 16 7 ≤ 64 → s.isStream q t = true → exec (.grneWrite q t pg ra []) s = .next ((s.setPkt { p with begun := true }).setEng (16
    * q + t) (({ (s.setPkt { p with begun := true }).eng (16 * q + t) with cur := some (id, k + bitField (x.rg ra) 16 7) } : Eng).give 1
    (.win (x.rg ra % 512) (8 * bitField (x.rg ra) 16 7)) (ofLeBytes (upTo (fun i => p.bytes.getD (k + i) 0) (bitField (x.rg ra) 16 7)))))) ∧
  (∀ (q : Fin 24) (t : Fin 16) (pg : Fin 8) (rd ra rb : Fin 32) (id k : Nat) (x : Eng) (s : State), s.canIssue (.thread q t) = true → s.eng
    (16 * q + t) = x → x.pr pg = true → x.cur = some (id, k) → exec (.grneEnd q t pg) s = .next ((s.endDeparture id).updEng (16 * q + t)
    (fun y => { y with cur := none }))) ∧
  (∀ (q : Fin 24) (t : Fin 16) (pg : Fin 8) (rd ra rb : Fin 32) (x : Eng) (s : State), s.canIssue (.thread q t) = true → s.eng (16 * q + t)
    = x → x.pr pg = true → exec (.xcPut q t pg ra rb) s = .next ((s.otherEnds (x.rg ra % 2 ^ 16) (s.threadChan q t)).foldl (fun (u : State)
    (e : Nat) => u.setXc (x.rg ra % 2 ^ 16) e
    { u.xcEnd (x.rg ra % 2 ^ 16) e with flight := (u.xcEnd (x.rg ra % 2 ^ 16) e).flight ++ [x.rg rb] }) s) ∧ exec (.tallyAdd q t pg ra rb)
    s = .next (if tallyAllowed q (x.rg ra) then s.count (x.rg ra) (x.rg rb) else s) ∧ (∀ k : Fin 3, exec (.fifoPortPush q t pg rb k) s =
    .next (s.fifoPush q (2 * k) (BitVec.ofNat 32 (x.rg rb))))) ∧
  (∀ (tr : BitVec 16) (c : Fin 96) (w : Nat) (rest : List Nat) (s : State), (s.xcEnd tr.toNat c).flight = w :: rest → exec (.xcWordDelivery
    tr c) s = .next ((s.setXc tr.toNat c { s.xcEnd tr.toNat c with flight := rest }).wordsTo tr.toNat c [w])) ∧
  (∀ (q : Fin 24) (t : Fin 16) (pg : Fin 8) (rd ra rb : Fin 32) (c slot : Nat) (p : Prog) (x : Eng) (s : State), s.canIssue (.thread q t) =
    true → s.eng (16 * q + t) = x → x.pr pg = true → x.block = some (c, slot) → s.prog c slot = some p → p.isStatus (x.rg ra % 128) = true
    → exec (.pblkStatusWrite q t pg ra rb) s = .next
    { s with shadow := Tab.put none s.shadow (blockWord c slot (x.rg ra % 128)) (some (BitVec.ofNat 32 (x.rg rb))) }) ∧
  (∀ (q : Fin 24) (t : Fin 16) (pg : Fin 8) (rd ra rb : Fin 32) (x : Eng) (s : State), s.canIssue (.thread q t) = true → s.eng (16 * q + t)
    = x → x.pr pg = true → 2 ≤ x.rg ra % 8 → unitWordOk (x.rg ra % 8) (x.rg rb % 2 ^ 32) = true → exec (.unitControlWrite q t pg ra rb) s =
    .next { s with units := Tab.put none s.units (8 * s.unitLane q t (x.rg ra) + x.rg ra % 8) (some (x.rg rb % 2 ^ 32)) })

/-- The syllables of slot C. A bundle closes on every syllable of slot C of an engine that may close: cnop goes on, a taken branch or call goes
  to its target and a call pushes the next bundle, ret pops it, rep begins its loop; yield outside a rep ends the handler; brk is traced; a
  Reeve's await, pwr, tmr, evt and sys act on its own record. Cites: R257, R260, R261, R262, R263, R273, R274, R275. -/
def Obligations.VsiControlOps : Prop :=
  (∀ (e : Engine) (s : State), exec (.cnop e) s = .next (s.closeRun e none)) ∧
  (∀ (e : Engine) (neg : Bool) (pc : Fin 8) (target : BitVec 14) (s : State), (s.eng (engIdx e)).taken neg pc = true → s.canClose e = true
    → exec (.br e neg pc target) s = .next (s.closeRun e (some target.toNat)) ∧ exec (.call e neg pc target) s = .next ((s.setEng (engIdx
    e) { s.eng (engIdx e) with rs := (((s.eng (engIdx e)).pc + 1) :: (s.eng (engIdx e)).rs).take 4 }).closeRun e (some target.toNat))) ∧
  (∀ (e : Engine) (neg : Bool) (pc : Fin 8) (target : BitVec 14) (s : State), (s.eng (engIdx e)).taken neg pc = false → exec (.br e neg pc
    target) s = .next (s.closeRun e none) ∧ exec (.call e neg pc target) s = .next (s.closeRun e none)) ∧
  (∀ (e : Engine) (pg : Fin 8) (r : Nat) (rs : List Nat) (s : State), (s.eng (engIdx e)).pr pg = true → s.canClose e = true → (s.eng
    (engIdx e)).rs = r :: rs → exec (.ret e pg) s = .next ((s.setEng (engIdx e) { s.eng (engIdx e) with rs := rs }).closeRun e (some r))) ∧
  (∀ (e : Engine) (b10 : BitVec 10) (b5 : BitVec 5) (ra : Fin 32) (count : BitVec 16) (s : State), exec (.rep e b10 count) s = .next
    (s.startRep e b10.toNat count.toNat) ∧ exec (.repg e b5 ra count) s = .next (s.startRep e b5.toNat (min ((s.eng (engIdx e)).rg ra)
    count.toNat))) ∧
  (∀ (q : Fin 24) (t : Fin 16) (s : State), s.canClose (.thread q t) = true → (s.eng (16 * q + t)).loops = [] → exec (.yield q t) s = .next
    ((s.close (.thread q t) none).endHandler q t)) ∧
  (∀ (r : Fin 4) (code : BitVec 8) (s : State), s.canClose (.reeve r) = true → ∃ u : State, u = s.traceItem 1 1 r code.toNat (some (s.eng
    (384 + r)).pc) ∧ exec (.brk (.reeve r) code) s = .next (if u.tinkered (.reeve r) then (u.closeRun (.reeve r) none).haltEng (.reeve r)
    else u.closeRun (.reeve r) none)) ∧
  (∀ (r : Fin 4) (rd : Fin 32) (s : State), s.canClose (.reeve r) = true → ∃ u : State, u = s.close (.reeve r) none ∧ exec (.await r rd) s
    = .next ((u.setEng (384 + r) { u.eng (384 + r) with stall := some (.await rd), loops := [] }).showReeve r)) ∧
  (∀ (r : Fin 4) (pg : Fin 8) (f : Fin 4) (rd ra : Fin 32) (s : State), s.canClose (.reeve r) = true → (s.eng (384 + r)).pr pg = true → ∃ u
    : State, u = s.close (.reeve r) none ∧ exec (.pwr r pg f rd ra) s = .next ((u.setEng (384 + r)
    { u.eng (384 + r) with stall := some (.pwr f rd ((s.eng (384 + r)).rg ra)) }).showReeve r)) ∧
  (∀ (r : Fin 4) (pg : Fin 8) (rd ra : Fin 32) (x : Eng) (s : State), s.canClose (.reeve r) = true → s.eng (384 + r) = x → x.pr pg = true →
    exec (.evt r pg 0 rd ra) s = .next (((s.setEng (384 + r) { x with mask := x.rg ra % 2 ^ 32 } : State)).close (.reeve r) none) ∧ exec
    (.evt r pg 1 rd ra) s = .next (((s.setEng (384 + r) (x.toReg 1 rd x.events) : State)).close (.reeve r) none) ∧ exec (.evt r pg 2 rd ra)
    s = .next (((s.setEng (384 + r) { x with events := x.events &&& (2 ^ 64 - 1 - x.rg ra % 2 ^ 32) } : State)).close (.reeve r) none) ∧
    exec (.sys r pg 0 rd ra) s = .next (((s.setEng (384 + r) (x.toReg 1 rd x.fault) : State)).close (.reeve r) none) ∧ exec (.sys r pg 1 rd
    ra) s = .next (((s.setEng (384 + r) { x with fault := x.fault &&& (2 ^ 64 - 1 - x.rg ra) } : State)).close (.reeve r) none) ∧ exec
    (.sys r pg 2 rd ra) s = .next (((s.bump R.RVE_HEARTBEAT.beat r 1 : State)).close (.reeve r) none) ∧ exec (.sys r pg 3 rd ra) s = .next
    (((s.setEng (384 + r) { x with qos := x.rg ra % 16 } : State)).close (.reeve r) none) ∧ exec (.tmr r pg 2 rd ra) s = .next
    (((s.stamp.2.setEng (384 + r) { x with alarm := none } : State)).close (.reeve r) none))

/-- Reference candidates: enable, failure, measurement, qualification. An accepted write of en enables or disables the candidate; loss of
  activity fails it with cause 1 and, for the TWIN candidate of a standby, puts the DPLLs that follow it in HOLDOVER; when its failure
  clears it qualifies, the first time over qual_s and afterwards over wtr_s; a measurement drifts and judges every candidate that is at
  least qualifying; the end of the timer qualifies it and sets ref_qual. Cites: R277, R278, R282, R283, R284. -/
def Obligations.References : Prop :=
  (∀ (m : Fin 8) (n : Fin 18) (en : Bool) (s : State), s.writesAs m = true → s.role = 0 → exec (.refEnableWrite m n en) s = .next
    (s.refEnable n en)) ∧
  (∀ (n : Fin 18) (long : Bool) (s : State), n.val ≠ 16 → exec (.refActivityLoss n long) s = .next (s.failRef n 1)) ∧
  (∀ (long : Bool) (s : State), 2 ≤ (s.failRef 16 1).role → exec (.refActivityLoss 16 long) s = .next ((((((s.failRef 16 1).holdover 0
    long).holdover 1 long).holdover 3 long).wr R.PAIR_STATUS.dpll3_locked 0 0).bellShow)) ∧
  (∀ (n : Fin 18) (s : State), s.refState n = 1 → exec (.refFailureClear n false) s = .next (((((s.setRefx n
    { s.refx n with first := false }).wr R.BELL_REF_STAT_n.state n (if (s.refx n).first then 2 else 3)).wr R.BELL_REF_STAT_n.wtr_left n (if
    (s.refx n).first then s.rd R.BELL_QUAL.qual_s 0 else s.rd R.BELL_QUAL.wtr_s 0))).bellShow)) ∧
  (∀ (n : Fin 18) (s : State), (s.refx n).timeState = 1 → s.timeCapable n = true → exec (.refFailureClear n true) s = .next (s.setRefx n
    { s.refx n with timeState := if (s.refx n).timeFirst then 2 else 3, timeFirst := false })) ∧
  (∀ (ofs : List (Fin 18 × BitVec 32)) (s : State), ∃ (l : List (Fin 18 × BitVec 32)) (u : State), l = ofs.filter (fun e => decide (2 ≤
    s.refState e.1)) ∧ u = l.foldl (fun t e => t.drift e.1 e.2.toInt) s ∧ exec (.freqMeasurementUpdate ofs) s = .next (l.foldl (fun t e =>
    t.consensus s e.1 e.2.toInt) u)) ∧
  (∀ (n : Fin 18) (s : State), (s.refState n = 2 ∨ s.refState n = 3) → ∃ u : State, u = (s.wr R.BELL_REF_STAT_n.state n 4).wr
    R.BELL_REF_STAT_n.wtr_left n 0 ∧ exec (.qualificationTimerEnd n false) s = .next ((u.bellEvent R.BELL_EVENT.ref_qual n (u.reg (0x10104
    + 16 * n)).toNat).bellShow)) ∧
  (∀ (n : Fin 18) (s : State), ((s.refx n).timeState = 2 ∨ (s.refx n).timeState = 3) → ∃ u : State, u = (s.setRefx n
    { s.refx n with timeState := 4 }).wr R.BELL_REF_STAT_n.time_ok n 1 ∧ exec (.qualificationTimerEnd n true) s = .next ((u.bellEvent
    R.BELL_EVENT.ref_qual n (u.reg (0x10104 + 16 * n)).toNat).bellShow))

/-- The DPLLs: selection, alignment window, lock, holdover, fence and reset. A judgement selects for its DPLL; the alignment window ends the
  switch, or in HOLDOVER when the new candidate has failed; a DPLL in ACQUIRE that locks is LOCKED; the end of the holdover specification
  clears hold_spec and sets hold_spec_lost; fence_req and a parity error fence with their causes; a reset clears phase and frequency; and a
  LOCKED quad LC-PLL that loses lock is LOST and latches pll_lost. Cites: R53, R286, R287, R288, R290, R291, R292. -/
def Obligations.DpllStates : Prop :=
  (∀ (d : Fin 4) (long : Bool) (s : State), exec (.selectionJudgement d long) s = .next ((if d.val = 3 then s.judgeDpll3 long else
    s.judgeDpll d long).bellShow)) ∧
  (∀ (d : Fin 4) (long : Bool) (s : State), s.on R.BELL_DPLL_STAT_d.switching d = true → exec (.alignmentWindowEnd d long) s = .next (if
    s.refState (s.selRef d) = 4 then (s.wr R.BELL_DPLL_STAT_d.switching d 0).bellShow else (s.holdover d long).bellShow)) ∧
  (∀ (d : Fin 4) (s : State), s.dpllState d = 1 → s.dpllFenced d = false → s.on R.BELL_DPLL_STAT_d.switching d = false → ∃ u : State, u =
    s.wr R.BELL_DPLL_STAT_d.state d 2 ∧ exec (.dpllLock d) s = .next ((if d.val = 3 then u.wr R.PAIR_STATUS.dpll3_locked 0 1 else
    u).bellShow)) ∧
  (∀ (d : Fin 4) (s : State), s.dpllState d = 3 → s.on R.BELL_DPLL_STAT_d.hold_spec d = true → ∃ u : State, u = s.wr
    R.BELL_DPLL_STAT_d.hold_spec d 0 ∧ exec (.holdoverSpecExpiry d) s = .next ((u.bellEvent R.BELL_EVENT.hold_spec_lost d (u.reg (0x10304 +
    16 * d)).toNat).bellShow)) ∧
  (∀ (m : Fin 8) (d : Fin 4) (long : Bool) (s : State), s.writesAs m = true → exec (.dpllFenceReq m d long) s = .next (s.fenceDpll d 3
    long) ∧ exec (.dpllReset m d) s = .next (s.dpllReset d)) ∧
  (∀ (d : Fin 4) (long : Bool) (s : State), exec (.dpllParity d long) s = .next (s.fenceDpll d 2 long)) ∧
  (∀ (d : Fin 4) (s : State), s.bell.resetting.contains d.val = true → ∃ u v : State, u =
    (({ s with bell := { s.bell with resetting := s.bell.resetting.filter (· ≠ d.val) } } : State).wr R.BELL_DPLL_PHASE_d.phase d 0).wr
    R.BELL_DPLL_FREQ_d.freq d 0 ∧ v = (if u.dpllState d = 2 then u.wr R.BELL_DPLL_STAT_d.state d 1 else u) ∧ exec (.dpllResetDone d) s =
    .next ((if v.dpllFenced d then v.wr R.BELL_DPLL_STAT_d.reset_done d 1 else v).bellShow)) ∧
  (∀ (q : Fin 24) (s : State), s.pllLocked q = true → exec (.lcPllLockLoss q) s = .next ((s.wr R.QUAD_PLL.pll_state q 3).latch
    R.QUAD_EVENT.pll_lost q))

/-- Frame phase, slew, PPS, time of day and clock outputs. Saturation of the frame phase is latched outside MUSTER; a slew that completes adds
  what is left, sets step_done and completes its command with OK; a missing PPS clears its bit and sets pps_in_lost; a pulse leaves at the
  instant that its settings give; with tod_tx_en a time-of-day message of the next second leaves; with tod_rx_en a good message is held for
  the next edge and a bad one sets tod_err; and an accepted write of the offset, clock or PPS registers acts as the rules of those
  registers say outside a pair, and in a pair role is refused and sets pair_wr_drop. Cites: R293, R296, R297, R299, R300, R301, R302, R305. -/
def Obligations.TimeInputsAndOutputs : Prop :=
  (∀ (s : State), s.mode ≠ .muster → exec .framePhaseSaturation s = .next (s.bellEvent R.BELL_EVENT.fp_sat 0 (s.reg 0x10304).toNat)) ∧
  (∀ (k : Slew) (s : State), s.bell.slew = some k → ∃ u : State, u =
    ({ s with time := ((s.time : Int) + k.left).toNat, bell := { s.bell with slew := none } } : State) ∧ exec .slewComplete s = .next
    ((u.bellEvent R.BELL_EVENT.step_done 1 (u.reg 0x10314).toNat).ok k.head 0)) ∧
  (∀ (k : Fin 2) (t : BitVec 80) (dev : BitVec 64) (s : State), s.Canonical → s.ppsRef k = none → k.val = 1 → s.bell.edge1 = none → exec
    (.ppsInEdge k t dev) s = .next
    { (s.putPpsTs 1 t.toNat).wr R.BELL_STATUS.pps_in_ok 0 (setBitField (s.rd R.BELL_STATUS.pps_in_ok 0) 1 1 0) with bell := { s.bell with edge1 := some t.toNat, base1 := some t.toNat, sec1 := (t.toNat + 5 * 10 ^ 8 * 2 ^ 16) / (10 ^ 9 * 2 ^ 16) } }) ∧
  (∀ (k : Fin 2) (s : State), ∃ u v : State, v = (s.wr R.BELL_STATUS.pps_in_ok 0 (setBitField (s.rd R.BELL_STATUS.pps_in_ok 0) k 1
    0)).latch R.BELL_EVENT.pps_in_lost 0 ∧ u =
    { v with bell := if k.val = 0 then { v.bell with base0 := v.bell.base0.map (· + meanOf v.bell.pps0) } else { v.bell with base1 := v.bell.base1.map (· + meanOf v.bell.pps1) } }
    ∧ (u.ppsRef k = none → exec (.ppsInMissing k) s = .next u) ∧ (∀ n, u.ppsRef k = some n → exec (.ppsInMissing k) s = .next (u.failTime
    n))) ∧
  (∀ (k : Fin 4) (j : BitVec 64) (t : Int) (s : State), Tab.get none s.bell.ppsOld k = none → (s.reg (0x10440 + 8 * k)).toNat % 2 = 1 →
    s.ppsInstant (s.reg (0x10440 + 8 * k)).toNat (s.reg (0x10444 + 8 * k)).toNat j.toNat = some t → exec (.ppsOutPulse k j) s = .next
    (s.emit (.ppsOut k t (10 * bitField (s.reg (0x10440 + 8 * k)).toNat 8 16)))) ∧
  (∀ (s : State), s.on R.BELL_CTRL.tod_tx_en 0 = true → ∃ (ql hops : Nat) (hold tt ft : Bool) (u : State), s.timeFields = ((ql, hops, hold,
    tt, ft), u) ∧ exec .todMessageSend s = .next (u.emit (.tod (todBytes (u.time / (10 ^ 9 * 2 ^ 16) + 1) ql hops tt ft hold)))) ∧
  (∀ (bytes : List (BitVec 8)) (inTime : Bool) (s : State), s.on R.BELL_CTRL.tod_rx_en 0 = true → bytes.length ≠ 16 → exec
    (.todMessageReceive bytes inTime) s = .next (s.latch R.BELL_EVENT.tod_err 0)) ∧
  (∀ (m : Fin 8) (k : Fin 8) (p : Fin 4) (v : BitVec 32) (s : State), s.writesAs m = true → s.role = 0 → exec (.bellFrameOfsWrite m v) s =
    .next (s.frameOfsWrite v.toNat) ∧ exec (.clkoutFreqWrite m k v) s = .next (s.clkoutWrite k v.toNat) ∧ exec (.ppsCfgWrite m p v) s =
    .next (s.ppsCfgWrite p v.toNat)) ∧
  (∀ (m : Fin 8) (n : Fin 18) (en : Bool) (k : Fin 8) (p : Fin 4) (v : BitVec 32) (s : State), s.writesAs m = true → s.role ≠ 0 → ∃ u :
    State, u = s.latch R.MTX_MSTAT_m.pair_wr_drop m ∧ exec (.refEnableWrite m n en) s = .next u ∧ exec (.bellFrameOfsWrite m v) s = .next u
    ∧ exec (.clkoutFreqWrite m k v) s = .next u ∧ exec (.ppsCfgWrite m p v) s = .next u)

/-- Timers of protection groups, and PROT_REQUEST accepted. The hold-off of a path whose end still shows sf (or sd) sets that condition and
  judges the group; the end of wait-to-restore clears it and judges; and the time-out of APS forgets the far end, which on a bidirectional
  group is a mismatch (the model counts it so only where this end is bidirectional, assumption log entry 29). A CONFIG with its defaults,
  an operator request and a CLEAR wait for the boundary that the mode and role set, a DELETE for the next multiframe. Cites: R307, R311,
  R314, R315, R418. -/
def Obligations.ProtectionGroups : Prop :=
  (∀ (g : BitVec 12) (x sd : Bool) (c : Nat) (s : State), s.groupValid g.toNat = true → (s.groupPaths g.toNat)[if x then 1 else 0]? = some
    c → (if sd then s.endSd (s.rd R.PAIR_PROT_g.trib_id g.toNat) c else s.endSf (s.rd R.PAIR_PROT_g.trib_id g.toNat) c) = true → ∃ f :
    Group, f = s.group g.toNat ∧ exec (.holdOffExpiry g x sd) s = .next ((s.setGroup g.toNat (if sd then (if x then { f with sdX := true }
    else { f with sdW := true }) else (if x then { f with sfX := true } else { f with sfW := true }))).judgeGroup g.toNat)) ∧
  (∀ (g : BitVec 12) (s : State), s.groupValid g.toNat = true → (s.group g.toNat).wtr = true → exec (.protWtrExpiry g) s = .next
    ((s.setGroup g.toNat { s.group g.toNat with wtr := false }).judgeGroup g.toNat)) ∧
  (∀ (g : BitVec 12) (s : State), s.groupValid g.toNat = true → ∃ u : State, u = ((s.wr R.PAIR_PROT_g.far_valid g.toNat 0).wr
    R.PAIR_PROT_g.far_req g.toNat 0).setGroup g.toNat { s.group g.toNat with farReq := 0, rxSeq := none } ∧ exec (.apsTimeout g) s = .next
    (if u.on R.PAIR_PROT_CFG_g.bidir g.toNat then u.setMismatch g.toNat true else u.judgeGroup g.toNat)) ∧
  (∀ (h : CmdHead) (g trib : BitVec 16) (pChan : BitVec 8) (given : BitVec 5) (holdOff wtr skew : BitVec 8) (revert bidir : Bool) (a :
    ProtArgs) (s : State), a =
    { trib := trib.toNat, pChan := pChan.toNat, holdOff := if bitField given.toNat 0 1 == 1 then holdOff.toNat else 0, wtr := if bitField given.toNat 1 1 == 1 then wtr.toNat else 30, skew := if bitField given.toNat 4 1 == 1 then skew.toNat else 50, revert := if bitField given.toNat 2 1 == 1 then revert else true, bidir := if bitField given.toNat 3 1 == 1 then bidir else false }
    → s.accepts (s.common h true true ++ [] ++ (s.ahead s.protDue).changeChecks (.protConfig g.toNat a)) = true → exec (.protRequestConfig
    h g trib pChan given holdOff wtr skew revert bidir) s = .next ((s.taken h).sched (some h) true s.protDue (.protConfig g.toNat a))) ∧
  (∀ (h : CmdHead) (g : BitVec 16) (s : State), s.accepts (s.common h true true ++ [] ++ (s.ahead s.protDue).changeChecks (.protReq 1
    g.toNat)) = true → exec (.protRequestLo h g) s = .next ((s.taken h).sched (some h) true s.protDue (.protReq 1 g.toNat))) ∧
  (∀ (h : CmdHead) (g : BitVec 16) (s : State), s.accepts (s.common h true true ++ [] ++ (s.ahead s.protDue).changeChecks (.protReq 2
    g.toNat)) = true → exec (.protRequestFs h g) s = .next ((s.taken h).sched (some h) true s.protDue (.protReq 2 g.toNat))) ∧
  (∀ (h : CmdHead) (g : BitVec 16) (s : State), s.accepts (s.common h true true ++ [] ++ (s.ahead s.protDue).changeChecks (.protReq 3
    g.toNat)) = true → exec (.protRequestMsW h g) s = .next ((s.taken h).sched (some h) true s.protDue (.protReq 3 g.toNat))) ∧
  (∀ (h : CmdHead) (g : BitVec 16) (s : State), s.accepts (s.common h true true ++ [] ++ (s.ahead s.protDue).changeChecks (.protReq 4
    g.toNat)) = true → exec (.protRequestMsX h g) s = .next ((s.taken h).sched (some h) true s.protDue (.protReq 4 g.toNat))) ∧
  (∀ (h : CmdHead) (g : BitVec 16) (s : State), s.accepts (s.common h true true ++ [] ++ (s.ahead s.protDue).changeChecks (.protReq 5
    g.toNat)) = true → exec (.protRequestClear h g) s = .next ((s.taken h).sched (some h) true s.protDue (.protReq 5 g.toNat))) ∧
  (∀ (h : CmdHead) (g : BitVec 16) (s : State), s.accepts (s.common h true true ++ [] ++ (s.ahead s.nextMultiframe).changeChecks (.protReq
    6 g.toNat)) = true → exec (.protRequestDelete h g) s = .next ((s.taken h).sched (some h) true s.nextMultiframe (.protReq 6 g.toNat)))

/-- Heartbeat, TAKE and takeover. At an even frame the part that runs sends IDLE while TAKE is low, FAULT as an ACTIVE with a trigger, and HOLD
  otherwise; a decoded code is shown in alive_in, HOLD after IDLE or FAULT makes an unclaiming part yield, FAULT makes a standby decide a
  claim; a lost heartbeat shows 0 and sets alive_lost; a claim takes over as it was decided. Cites: R319, R320, R325. -/
def Obligations.HeartbeatAndTake : Prop :=
  (∀ (s : State), s.running = true → s.frame % 2 = 0 → exec .heartbeatSend s = .next (s.emit (.heartbeat (if s.on R.PAIR_STATUS.take 0 =
    false then 1 else if s.role = 1 ∧ s.pair.trigger ≠ 0 then 2 else 3)))) ∧
  (∀ (high : BitVec 16) (c : Nat) (s : State), s.running = true → heartbeatCode high.toNat = some c → ∃ u : State, u = s.wr
    R.PAIR_STATUS.alive_in 0 c ∧ (c = 1 → exec (.heartbeatDecode high) s = .next { u with pair := { u.pair with claimed := false } }) ∧ (c
    = 3 → u.on R.PAIR_STATUS.take 0 = true → (s.rd R.PAIR_STATUS.alive_in 0 = 1 ∨ s.rd R.PAIR_STATUS.alive_in 0 = 2) → u.pair.claimed =
    false → exec (.heartbeatDecode high) s = .next ({ u with pair := { u.pair with claimed := false } } : State).yieldTake) ∧ (c = 2 →
    u.role = 2 → u.pair.twinFault = none → exec (.heartbeatDecode high) s = .next (u.decideClaim .active))) ∧
  (∀ (s : State), s.running = true → ∃ u : State, u = (if s.rd R.PAIR_STATUS.alive_in 0 = 0 then s.wr R.PAIR_STATUS.alive_in 0 0 else (s.wr
    R.PAIR_STATUS.alive_in 0 0).pairEvent R.PAIR_EVENT.alive_lost) ∧ exec .heartbeatLost s = .next (if u.on R.PAIR_STATUS.link_up 0 then u
    else u.activeLost)) ∧
  (∀ (planned : Bool) (r : LedgRead) (s : State), (s.pair.claim = .solo → exec (.takeoverClaim planned r) s = .next (s.takeOver 0)) ∧
    (s.pair.claim = .active → ∃ u : State, u = s.takeOver 1 ∧ exec (.takeoverClaim planned r) s = .next
    { u with pair := { u.pair with twinRole := 3 } }) ∧ (s.pair.claim = .none → planned = true → s.role = 2 → ∃ u : State, u = s.takeOver 1
    ∧ exec (.takeoverClaim planned r) s = .next { u with pair := { u.pair with twinRole := 2 } }))

/-- What comes over the twin link, the link itself, the checkpoint period, the mirror and the journal. A measured delay is shown while the link
  is up; a standby or catching-up part keeps the schedule, the time anchor and the fine offsets it receives; unequal digests are shown,
  counted and set divergence; an internal fault of the twin is kept, and a fence makes the active SOLO with standby_alarm; loss and return
  of the link are shown, and loss sets link_lost and starts what the role requires. A period on a part that is no standby opens a
  generation when none is open and ckpt_en is 1 and commits it, an unacknowledged mirror of an active setting mirror_fail; a standby keeps
  a mirrored generation whose tag is correct and empties the slot of any other; a journal entry joins the journal, and from stage 5 on its
  change waits for its multiframe. Cites: R291, R321, R322, R323, R324, R325, R327, R332, R334, R335. -/
def Obligations.TwinLinkAndLedger : Prop :=
  (∀ (d : BitVec 32) (s : State), s.on R.PAIR_STATUS.link_up 0 = true → exec (.twinDelayMeasure d) s = .next (s.wr R.PAIR_DELAY.delay 0
    d.toNat)) ∧
  (∀ (frame cycle : BitVec 64) (time : BitVec 96) (n : Fin 96) (ofs : BitVec 32) (u : State) (s : State), u = s.reeveEvent 3 → 2 ≤ u.role →
    exec (.epochScheduleReceive frame cycle) s = .next
    { u with pair := { u.pair with schedule := some (frame.toNat, cycle.toNat), core := cycle.toNat } } ∧ exec (.twinTimeAnchorReceive
    frame time) s = .next { u with pair := { u.pair with anchor := some (frame.toNat, time.toNat) } } ∧ exec (.fineOffsetReceive n ofs) s =
    .next { u with pair := { u.pair with fine := Tab.put 0 u.pair.fine n ofs.toInt } }) ∧
  (∀ (diff : BitVec 24) (u : State) (s : State), diff ≠ 0 → s.role = 1 → u = ((({ s with pair := { s.pair with matched := none } } :
    State).wr R.PAIR_DIGEST.quads 0 diff.toNat).bumpSat R.PAIR_DIGEST.count 0 1).pairEvent R.PAIR_EVENT.divergence → u.recent
    u.pair.ownFault = none → u.role = 1 → exec (.digestCompare diff) s = .next { u with pair := { u.pair with twinRole := 3 } }) ∧
  (∀ (fence : Bool) (u : State) (s : State), u = s.reeveEvent 3 → u.role ≠ 0 → exec (.internalFaultReceive fence) s = .next (if u.role = 1
    ∧ fence then (({ u with pair := { u.pair with twinFault := some (u.frame, fence) } } : State).toSolo true).pairEvent
    R.PAIR_EVENT.standby_alarm else { u with pair := { u.pair with twinFault := some (u.frame, fence) } })) ∧
  (∀ (up : BitVec 8) (s : State), s.running = true → ∃ u v : State, u = (s.wr R.PAIR_STATUS.link_up 0 0).wr R.PAIR_LINK.up 0 up.toNat ∧ v =
    (if s.on R.PAIR_STATUS.link_up 0 then u.pairEvent R.PAIR_EVENT.link_lost else u) ∧ exec (.twinLinkLoss up) s = .next (if v.rd
    R.PAIR_STATUS.alive_in 0 = 0 then v.activeLost else if v.role = 2 then v.enterCatchup else
    { v with pair := { v.pair with twinRole := if v.role = 1 then 3 else v.pair.twinRole, matched := none } })) ∧
  (∀ (up : BitVec 8) (s : State), s.running = true → ∃ u : State, u = (s.wr R.PAIR_STATUS.link_up 0 1).wr R.PAIR_LINK.up 0 up.toNat ∧ exec
    (.twinLinkReturn up) s = .next (if s.on R.PAIR_STATUS.link_up 0 = false ∧ u.role = 3 ∧ u.rd R.PAIR_STATUS.catch_stage 0 = 0 ∧ u.on
    R.PAIR_CTRL.auto_rejoin 0 = true then u.enterCatchup else u)) ∧
  (∀ (ack : Bool) (s : State), s.stewardActs = true → s.role < 2 → ∃ u : State, u = (if s.ledg.open_.isNone = true ∧ s.on
    R.PAIR_CTRL.ckpt_en 0 = true then s.openGen false else s) ∧ exec (.checkpointPeriod ack) s = .next (if u.ledg.open_.isSome = true ∧
    u.commitGen.role = 1 ∧ ack = false then u.commitGen.pairEvent R.PAIR_EVENT.mirror_fail else u.commitGen)) ∧
  (∀ (slot : Fin 2) (g : Machine.Gen) (u : State) (s : State), u = s.reeveEvent 3 → 2 ≤ u.role → ∃ v, v = u.setLedg (if slot.val = 0 then
    { u.ledg with slot0 := none } else { u.ledg with slot1 := none }) ∧ exec (.generationMirrorReceive slot g false) s = .next v ∧ exec
    (.generationMirrorReceive slot g true) s = .next (v.putGen slot g)) ∧
  (∀ (seq frame : BitVec 64) (c : Machine.Change) (u : State) (s : State), u = s.reeveEvent 3 → u.role = 2 → exec (.journalEntryReceive seq
    frame c false) s = .next ((u.setLedg
    { u.ledg with journal := u.ledg.journal ++ [⟨seq.toNat, frame.toNat, some c⟩], nextSeq := seq.toNat + 1 }).later none (.multiframe
    frame.toNat false) c))

/-- Joining, the stages of CATCHUP, and the copies that pass. A join that fits gives the role and completes with OK, one that does not
  completes with ILLEGAL_STATE, one whose link never forms with TIMEOUT; each stage that is met goes on to the next and one that is not
  fails with its number; packet copies, lists and resync words are sent by an active and kept by a catching-up part until the boundary at
  which they act. Cites: R17, R326, R327, R328, R329. -/
def Obligations.JoiningThePair : Prop :=
  (∀ (h : CmdHead) (s : State), s.pair.join = some (h, 1) → exec (.pairFormed true) s = .next
    ((({ s with pair := { s.pair with join := none, twinRole := 3, trigger := 0, claimed := false } } : State).setPairRole 1 true).ok h 0)
    ∧ exec (.pairFormed false) s = .next ((({ s with pair := { s.pair with join := none } } : State).wr R.PAIR_STATUS.catch_fail 0 2).fail
    h .illegalState)) ∧
  (∀ (h : CmdHead) (role : Nat) (s : State), s.pair.join = some (h, role) → exec .pairJoinTimeout s = .next
    (({ s with pair := { s.pair with join := none } } : State).fail h .timeout)) ∧
  (∀ (r : LedgRead) (images : Bool) (s : State), s.role = 3 → (s.rd R.PAIR_STATUS.catch_stage 0 = 1 → exec (.catchupStageEnd true images r)
    s = .next (s.wr R.PAIR_STATUS.catch_stage 0 2) ∧ exec (.catchupStageEnd false images r) s = .next (s.failStage 1)) ∧ (s.rd
    R.PAIR_STATUS.catch_stage 0 = 2 → exec (.catchupStageEnd true images r) s = .next (s.wr R.PAIR_STATUS.catch_stage 0 3) ∧ exec
    (.catchupStageEnd false images r) s = .next (s.failStage 2)) ∧ (s.rd R.PAIR_STATUS.catch_stage 0 = 3 → s.on R.PAIR_STATUS.dpll3_locked
    0 = true → exec (.catchupStageEnd true images r) s = .next (s.wr R.PAIR_STATUS.catch_stage 0 4)) ∧ (s.rd R.PAIR_STATUS.catch_stage 0 =
    5 → exec (.catchupStageEnd true images r) s = .next (s.wr R.PAIR_STATUS.catch_stage 0 6)) ∧ (s.rd R.PAIR_STATUS.catch_stage 0 = 6 →
    exec (.catchupStageEnd true images r) s = .next (s.wr R.PAIR_STATUS.catch_stage 0 7)) ∧ (s.rd R.PAIR_STATUS.catch_stage 0 = 8 → s.on
    R.PAIR_EVENT.phase_ovf 0 = false → exec (.catchupStageEnd true images r) s = .next (((s.wr R.PAIR_STATUS.catch_stage 0 0).setPairRole 2
    false).pairEvent R.PAIR_EVENT.catchup_done))) ∧
  (∀ (p : PktCopy) (u : State) (s : State), u = s.reeveEvent 3 → (u.role ≠ 3 ∨ u.on R.GRN_QD_CTRL.valid p.queue.toNat = false) → exec
    (.packetCopyReceive p) s = .next u) ∧
  (∀ (eth : Bool) (e : BitVec 16) (s : State), (s.role = 1 ∨ s.role = 3) → exec (.egressPause eth e) s = .next
    { s with pair := { s.pair with paused := (bit eth, e.toNat) :: s.pair.paused.filter (· ≠ (bit eth, e.toNat)) } }) ∧
  (∀ (lists : List (BitVec 16 × List (Fin 96 × BitVec 64))) (s : State), s.role = 1 → ∃ u : State, exec (.packetListSend lists) s = .next
    { u with pair := { u.pair with window := true } } ∧ exec (.resyncWordsSend []) s = .next (s.resyncNow.foldl (fun (t : State) e =>
    t.emit (.resyncWord (e.1 / 64) (e.1 % 64) e.2)) s)) ∧
  (∀ (pool : Bool) (s : State), s.role = 1 → exec (.resyncBoundary pool) s = .next
    { s with pair := { s.pair with matched := if s.pair.twinRole = 3 then some 0 else none, paused := [], window := false } }) ∧
  (∀ (pool : Bool) (s : State), s.role = 3 → s.rd R.PAIR_STATUS.catch_stage 0 = 7 → (pool = true ∨ s.listsMet = false) → exec
    (.resyncBoundary pool) s = .next (s.failStage 6)) ∧
  (∀ (words : List (BitVec 15 × BitVec 64)) (s : State), s.role = 3 → ∃ u : State, u = s.reeveEvent 3 ∧ exec (.resyncWordsSend words) s =
    .next
    { u with pair := { u.pair with resync := words.foldl (fun (t : Tab Nat) e => Tab.put 0 t e.1.toNat e.2.toNat) [], resyncOwn := u.resyncNow } })

/-- Rings, doorbells, command fetch and interrupts of the host port. Enabling a ring that was disabled sets en, active and its size and starts
  its indices at 0, disabling clears en and active; a doorbell that R342 allows moves host_idx, a command ring's being Reeve event 1 and
  the event ring's freeing its entries, and any other sets ring_err; a command fetched joins those in hand and is refused with BAD_ARG when
  its opcode, flags or reserved byte is wrong; a host memory error stops its ring; moderation sends what it held; and the write to the
  fence bits in configuration space lifts HOST or DMA. Cites: R341, R342, R344, R346, R352, R353, R354. -/
def Obligations.HostRings : Prop :=
  (∀ (m : Fin 8) (x : Fin 6) (lg : BitVec 4) (s : State), s.writesAs m = true → s.on R.HOST_RING_CFG_x.en x = false → 4 ≤ lg.toNat →
    lg.toNat ≤ 12 → exec (.ringEnable m x lg) s = .next ((((s.wr R.HOST_RING_CFG_x.lg_size x lg.toNat).wr R.HOST_RING_CFG_x.en x 1).wr
    R.HOST_RING_CFG_x.active x 1).zeroRing x)) ∧
  (∀ (m : Fin 8) (x : Fin 6) (lg : BitVec 4) (s : State), s.writesAs m = true → s.on R.HOST_RING_CFG_x.en x = true → exec (.ringDisable m x
    lg) s = .next ((s.wr R.HOST_RING_CFG_x.en x 0).wr R.HOST_RING_CFG_x.active x 0) ∧ exec (.ringEnable m x lg) s = .next s) ∧
  (∀ (m : Fin 8) (x : Fin 6) (idx : BitVec 16) (s : State), s.writesAs m = true → (s.doorbellOk x idx.toNat = false → exec (.doorbellWrite
    m x idx) s = .next ((s.latch R.HOST_EVENT.ring_err 0).signal 15)) ∧ (s.doorbellOk x idx.toNat = true → x.val ≤ 3 → exec (.doorbellWrite
    m x idx) s = .next ((s.wr R.HOST_RING_DB_x.host_idx x idx.toNat).reeveEvent 1)) ∧ (s.doorbellOk x idx.toNat = true → x.val = 4 → ∃ u :
    State, u = s.wr R.HOST_RING_DB_x.host_idx x idx.toNat ∧ exec (.doorbellWrite m x idx) s = .next
    { u with evRing := s.evRing.drop ((idx.toNat + 2 ^ 16 - s.rd R.HOST_RING_DB_x.host_idx x) % 2 ^ 16) })) ∧
  (∀ (x : Fin 4) (opcode : BitVec 16) (flags rsv : BitVec 8) (tag : BitVec 32) (s : State), s.mayTake x (flags.toNat % 2 == 1) = true → ∃ u
    : State, u = (let t := s.devAdvance x; { t with cmds := t.cmds ++ [⟨x, tag.toNat, opcode.toNat⟩] }) ∧ (opcodes.contains opcode.toNat =
    true → flags.toNat < 2 → rsv = 0 → exec (.commandFetch x opcode flags rsv tag) s = .next u) ∧ (opcodes.contains opcode.toNat = false →
    exec (.commandFetch x opcode flags rsv tag) s = .next (u.badArg ⟨x, tag, none⟩ 0)) ∧ (opcodes.contains opcode.toNat = true → 2 ≤
    flags.toNat → exec (.commandFetch x opcode flags rsv tag) s = .next (u.badArg ⟨x, tag, none⟩ 2))) ∧
  (∀ (x : Fin 6) (s : State), s.running = true → s.on R.HOST_RING_CFG_x.active x = true → exec (.hostMemoryError x) s = .next (((s.wr
    R.HOST_RING_CFG_x.active x 0).latch R.HOST_EVENT.dma_err 0).signal 15)) ∧
  (∀ (v : Fin 64) (s : State), s.running = true → s.on R.HOST_CTRL.mod_us 0 = true → 0 < Tab.get 0 s.msixCount v → exec
    (.msixModerationTimeout v) s = .next (s.sendMsix v)) ∧
  (∀ (s : State), s.configUp = true → (s.masterFenced 0 = true → exec .configUnfenceHost s = .next (s.liftMaster 0)) ∧ (s.masterFenced 7 =
    true → exec .configUnfenceDma s = .next (s.ringReset.liftMaster 7))) ∧
  (∀ (h : CmdHead) (f : Fetch) (t : State) (s : State), s.stewardActs = true → s.takeFetch h = (some f, t) → exec (.hostDataReadFailure h)
    s = .next (t.fail h .timeout) ∧ exec (.commandFetchTimeLimit h) s = .next (t.fail h .timeout))

/-- Accesses over the bus matrix. A full aligned write to a mapped register or memory whose target is not fenced does what that address does,
  one with other byte enables changes nothing but the latch of its master, an access to a fenced target sets fenced_tgt, one to an unmapped
  address hangs, and the watchdog fences the master of a hung transaction; a read gives the word at the address; writing 1 to the latches
  of GRN_EVENT clears them. Cites: R355, R358, R360, R362, R363, R364, R370. -/
def Obligations.BusAccesses : Prop :=
  (∀ (m : Fin 8) (a v : BitVec 32) (s : State), s.reaches m = true → m.val ≤ 4 → unmapped a.toNat = false → a.toNat % 4 = 0 →
    s.fencedTarget m a.toNat = false → exec (.registerWrite m a 15 v) s = .next (s.writeMapped m a.toNat v.toNat) ∧ exec
    (.multiwordCaptureRead m a) s = .next ((s.readMapped m a.toNat true).2.emit (.busRead m a.toNat (s.readMapped m a.toNat true).1)) ∧
    (a.toNat < 0x90000 → exec (.registerWrite m a 5 v) s = .next (s.latch R.MTX_MSTAT_m.access_align m) ∧ exec (.registerWrite m a 3 v) s =
    .next (s.latch R.MTX_MSTAT_m.access_size m))) ∧
  (∀ (v : BitVec 32) (s : State), s.reaches 0 = true → exec (.registerWrite 0 0x800008 15 v) s = .next (s.clearLatches 0x800008 v.toNat)) ∧
  (∀ (m : Fin 8) (a v : BitVec 32) (s : State), s.reaches m = true → m.val ≤ 4 → unmapped a.toNat = true → exec (.registerWrite m a 15 v) s
    = .next { s with hung := s.hung ++ [⟨m, a.toNat, true⟩] } ∧ (a.toNat % 4 = 0 → exec (.multiwordCaptureRead m a) s = .next
    { s with hung := s.hung ++ [⟨m, a.toNat, false⟩] })) ∧
  (∀ (m : Fin 8) (a v : BitVec 32) (s : State), s.reaches m = true → m.val ≤ 4 → unmapped a.toNat = false → a.toNat % 4 = 0 →
    s.fencedTarget m a.toNat = true → exec (.registerWrite m a 15 v) s = .next (s.latch R.MTX_MSTAT_m.fenced_tgt m)) ∧
  (∀ (m : Fin 8) (h : Hung) (s : State), s.hung.find? (fun h => h.m == m.val) = some h → exec (.matrixWatchdogFire m) s = .next (((s.wr
    R.MTX_MHANG_m.addr m h.addr).latch R.MTX_MSTAT_m.hang m).fenceMaster m 1))

/-- The operations of the Gatehouse. While no operation runs, a write of GATE_OP by a master that may start it starts the operation that its
  command names, on the slot and with the signer given, and changes no fuse; its end records the result, clears go, sets op_done and, with
  a result other than 0, op_fail, completes a host command that waits for it, raises Reeve event 7 and clears the mailbox except after
  CHALLENGE; a failed health test clears entropy_ok and sets entropy_fault, a passed one sets entropy_ok; the lockout ends with its count
  at 0. Cites: R376, R377, R386, R387, R388, R389, R390. -/
def Obligations.GatehouseOps : Prop :=
  (∀ (m : Fin 8) (slot : BitVec 8) (signer : BitVec 4) (s : State), s.Canonical → m.val ≤ 5 → s.reaches m = true → s.gateMaster m = true →
    s.gate.op = none → signer.toNat ≤ 3 → (∃ u : State, exec (.keyBurn m slot signer) s = .next u ∧ u.gate.op = some ⟨1, slot.toNat,
    signer.toNat, none, none⟩ ∧ u.rd R.GATE_OP.go 0 = 1 ∧ u.fuses = s.fuses) ∧ (∃ u : State, exec (.keyRevoke m slot signer) s = .next u ∧
    u.gate.op = some ⟨2, slot.toNat, signer.toNat, none, none⟩ ∧ u.rd R.GATE_OP.go 0 = 1 ∧ u.fuses = s.fuses) ∧ (∃ u : State, exec
    (.descBurn m slot signer) s = .next u ∧ u.gate.op = some ⟨3, slot.toNat, signer.toNat, none, none⟩ ∧ u.rd R.GATE_OP.go 0 = 1 ∧ u.fuses
    = s.fuses) ∧ (∃ u : State, exec (.lifeAdvance m slot signer) s = .next u ∧ u.gate.op = some ⟨4, slot.toNat, signer.toNat, none, none⟩ ∧
    u.rd R.GATE_OP.go 0 = 1 ∧ u.fuses = s.fuses) ∧ (∃ u : State, exec (.skeyInstall m slot signer) s = .next u ∧ u.gate.op = some ⟨5,
    slot.toNat, signer.toNat, none, none⟩ ∧ u.rd R.GATE_OP.go 0 = 1 ∧ u.fuses = s.fuses) ∧ (∃ u : State, exec (.skeyPromote m slot signer)
    s = .next u ∧ u.gate.op = some ⟨6, slot.toNat, signer.toNat, none, none⟩ ∧ u.rd R.GATE_OP.go 0 = 1 ∧ u.fuses = s.fuses) ∧ (∃ u : State,
    exec (.skeyErase m slot signer) s = .next u ∧ u.gate.op = some ⟨7, slot.toNat, signer.toNat, none, none⟩ ∧ u.rd R.GATE_OP.go 0 = 1 ∧
    u.fuses = s.fuses) ∧ (∃ u : State, exec (.challenge m slot signer) s = .next u ∧ u.gate.op = some ⟨8, slot.toNat, signer.toNat, none,
    none⟩ ∧ u.rd R.GATE_OP.go 0 = 1 ∧ u.fuses = s.fuses) ∧ (∃ u : State, exec (.response m slot signer) s = .next u ∧ u.gate.op = some ⟨9,
    slot.toNat, signer.toNat, none, none⟩ ∧ u.rd R.GATE_OP.go 0 = 1 ∧ u.fuses = s.fuses) ∧ (∃ u : State, exec (.lock m slot signer) s =
    .next u ∧ u.gate.op = some ⟨10, slot.toNat, signer.toNat, none, none⟩ ∧ u.rd R.GATE_OP.go 0 = 1 ∧ u.fuses = s.fuses)) ∧
  (∀ (readBack sigOk digestOk late : Bool) (nonce : BitVec 256) (o : GateOp) (s : State), s.gate.op = some o → ∃ r u, r =
    ({ s with gate := { s.gate with op := none } } : State).gatePerform o readBack sigOk digestOk late nonce.toNat ∧ u = (((r.2.wr
    R.GATE_OP.result 0 r.1).wr R.GATE_OP.go 0 0).gateEvent R.GATE_EVENT.op_done) ∧ exec (.gateOpDone readBack sigOk digestOk late nonce) s
    = .next (if o.op = 8 then ((if r.1 = 0 then u else u.gateEvent R.GATE_EVENT.op_fail).gateComplete o r.1).reeveEvent 7 else (((if r.1 =
    0 then u else u.gateEvent R.GATE_EVENT.op_fail).gateComplete o r.1).reeveEvent 7).clearMbox)) ∧
  (∀ (s : State), exec .entropyHealthFail s = .next ((s.wr R.GATE_STATUS.entropy_ok 0 0).gateEvent R.GATE_EVENT.entropy_fault) ∧ exec
    .entropyHealthRecover s = .next (s.wr R.GATE_STATUS.entropy_ok 0 1)) ∧
  (∀ (s : State), s.gate.lockout = true → exec .unlockLockoutEnd s = .next { s with gate := { s.gate with lockout := false, fails := 0 } })

/-- Debug level, the halting of engines, and the JTAG port. A permitted request lowers or raises the level and a refused one sets denied;
  LANT_LOCK takes the level to NONE; a reset empties the trace and lifts the fence of LANT; with the selected engine a TINKER target, halt
  stops it, step lets it issue one bundle and resume lets it run, and with any other target each sets denied. Each instruction loads the
  instruction register: IDCODE shifts out 0x100965B3, BYPASS one 0, AON_STAT the lifecycle and power words; EXTEST and SAMPLE/PRELOAD take
  the scan bits in while the pad ring is up, its pins being free values; LANT_MTX reads and writes as master LANT; AON_DESC writes a
  descriptor word in OPEN; WAKE leaves P3. Cites: R263, R390, R391, R366, R392, R434, R435. -/
def Obligations.LanternAndJtag : Prop :=
  (∀ (m : Fin 8) (level : BitVec 2) (trace : Bool) (s : State), m.val ≤ 5 → s.reaches m = true → level.toNat ≤ 2 → exec (.levelReqWrite m
    level trace) s = .next (((s.wr R.LANT_CTRL.trace_en 0 (bit trace)).wr R.LANT_CTRL.level_req 0 level.toNat).requestLevel level.toNat) ∧
    exec (.lantLock m) s = .next s.debugNone) ∧
  (∀ (m : Fin 8) (burst : Bool) (s : State), m.val ≤ 5 → s.reaches m = true → exec (.lantReset m burst) s = .next (s.lantReset burst) ∧
    (s.lantReset burst).trace = []) ∧
  (∀ (m : Fin 8) (reeve : Bool) (unit : BitVec 9) (t : State) (s : State), m.val ≤ 5 → s.reaches m = true → t = s.lantSelect reeve
    unit.toNat → t.tinkered t.selected = true → (t.eng (engIdx t.selected)).halted = true → exec (.lantHalt m reeve unit) s = .next t ∧
    exec (.lantStep m reeve unit) s = .next (t.setEng (engIdx t.selected) { t.eng (engIdx t.selected) with step := true }) ∧ (∀ r,
    t.selected = .reeve r → exec (.lantResume m reeve unit false) s = .next ((t.setEng (384 + r)
    { t.eng (384 + r) with halted := false, step := false }).showReeve r)) ∧ (∀ q k, t.selected = .thread q k → exec (.lantResume m reeve
    unit false) s = .next (t.setEng (16 * q + k) { t.eng (16 * q + k) with halted := false, step := false }))) ∧
  (∀ (m : Fin 8) (reeve : Bool) (unit : BitVec 9) (t : State) (s : State), m.val ≤ 5 → s.reaches m = true → t = s.lantSelect reeve
    unit.toNat → t.tinkered t.selected = true → (t.eng (engIdx t.selected)).halted = false → exec (.lantHalt m reeve unit) s = .next
    (t.haltEng t.selected)) ∧
  (∀ (m : Fin 8) (reeve missed : Bool) (unit : BitVec 9) (t : State) (s : State), m.val ≤ 5 → s.reaches m = true → t = s.lantSelect reeve
    unit.toNat → t.tinkered t.selected = false → exec (.lantHalt m reeve unit) s = .next t.denied ∧ exec (.lantStep m reeve unit) s = .next
    t.denied ∧ exec (.lantResume m reeve unit missed) s = .next t.denied) ∧
  (∀ (code : BitVec 8) (s : State), exec .jtagIdcode s = .next ((s.jtagIr 1).emit (.jtag 1 0x100965B3)) ∧ exec (.jtagBypass code) s = .next
    ((s.jtagIr code.toNat).emit (.jtag code.toNat 0)) ∧ exec .jtagAonStat s = .next ((s.jtagIr 0x20).emit (.jtag 0x20 ((s.reg 0x4000).toNat
    * 2 ^ 32 + s.millStatus)))) ∧
  (∀ (bits : List Bool) (s : State), s.jtagUp = true → ∃ (pins : Nat) (u v : State), u.jtag.scan = bitsNum bits ∧ v.jtag.scan = bitsNum
    bits ∧ exec (.jtagExtest bits) s = .next (u.emit (.jtag 0 pins)) ∧ exec (.jtagSamplePreload bits) s = .next (v.emit (.jtag 2 pins))) ∧
  (∀ (a data : BitVec 32) (s : State), s.running = true → s.pstate ≤ 2 → s.masterFenced 5 = false → s.lantMay a.toNat true = false →
    a.toNat % 4 = 0 → ∃ u : State, u = (s.jtagIr 0x10).denied ∧ exec (.jtagLantMtx a data true) s = .next
    (({ u with jtag := { u.jtag with mtx := mtxWord a.toNat data.toNat true true false } } : State).emit (.jtag 0x10 (mtxWord a.toNat
    data.toNat true true false)))) ∧
  (∀ (off : BitVec 16) (v : BitVec 32) (s : State), s.startup ≠ .step 1 → s.lifecycle ≤ 1 → s.on R.GATE_LOCK.aon_lock 0 = false → off.toNat
    < 2048 → exec (.jtagAonDesc off v) s = .next ((s.jtagIr 0x21).setWord (0xC01000 + 4 * off.toNat) v)) ∧
  (∀ (s : State), s.startup = .inP3 → exec .jtagWake s = .next (s.jtagIr 0x22).leaveP3)

/-- The power sequence of start-up step S4. A step sets up the device at the head of the sequence with CLEAR_FAULTS, VOUT_MODE, VOUT_COMMAND
  and OPERATION and begins to poll it; POWER_GOOD# low ends the polling (its bit is PMBus's, assumption log entry 27), and a device that
  never shows it is fenced with cause 3; after its delay the rails are judged, and a step that fails fails the sequence; four failed
  transactions in a row fence a device; an alert is latched and its status read; fence_req fences with cause 5; and a reset that ends clean
  sets reset_done. Cites: R398, R399, R411, R434. -/
def Obligations.RailSequence : Prop :=
  (∀ (up : BitVec 3) (mvs : List (BitVec 16)) (d : Nat) (l : List Nat) (s : State), s.startup = .step 4 → s.mill.phase = .setup →
    s.mill.todo = d :: l → ∃ u : State, u = (((s.emit (.pmbus d 0x03 0)).emit (.pmbus d 0x20 0)).emit (.pmbus d 0x21 (s.pmbDesc d 8
    2))).emit (.pmbus d 0x01 0x80) ∧ exec (.railSequenceStep up mvs) s = .next
    { u with mill := { s.mill with phase := .polling, retries := 0, on_ := if s.mill.on_.contains d then s.mill.on_ else s.mill.on_ ++ [d] } }) ∧
  (∀ (up : BitVec 3) (mvs : List (BitVec 16)) (d : Nat) (l : List Nat) (s : State), s.startup = .step 4 → s.mill.phase = .delay →
    s.mill.todo = d :: l → exec (.railSequenceStep up mvs) s = .next (if s.sequenceOk up.toNat mvs then s.nextDevice else s.failSequence
    d)) ∧
  (∀ (status : BitVec 16) (d : Nat) (l : List Nat) (s : State), s.startup = .step 4 → s.mill.phase = .polling → s.mill.todo = d :: l → ∃ u
    : State, u = (s.pmbSend d 0x79 0).readStatus d status.toNat false ∧ exec (.powerGoodPoll status false) s = .next (if status.getLsbD
    powerGoodBit then u else { u with mill := { u.mill with phase := .delay } }) ∧ exec (.powerGoodPoll status true) s = .next ((s.pmbSend
    d 0x79 0).readStatus d status.toNat true) ∧ exec .pgTimeout s = .next (s.fencePmb d 3)) ∧
  (∀ (d : Fin 8) (pec : Bool) (status : BitVec 16) (fault : Bool) (s : State), s.pmbPresent d = true → s.pmbFenced d = false → exec
    (.pmbusTransactionError d pec) s = .next (if s.mill.retries < 3 then { s with mill := { s.mill with retries := s.mill.retries + 1 } }
    else ({ s with mill := { s.mill with retries := 0 } } : State).fencePmb d (if pec then 2 else 1)) ∧ exec (.pmbAlert d status fault) s =
    .next (((s.millEvent R.MILL_EVENT.pmb_alert d).pmbSend d 0x79 0).readStatus d status.toNat fault)) ∧
  (∀ (m d : Fin 8) (s : State), s.writesAs m = true → exec (.pmbFenceReq m d) s = .next (s.fencePmb d 5) ∧ exec (.pmbReset m d) s = .next
    (s.pmbReset d)) ∧
  (∀ (d : Fin 8) (status : BitVec 16) (clean : Bool) (s : State), s.mill.resetting.contains d.val = true → ∃ u : State, u =
    ({ s with mill := { s.mill with resetting := s.mill.resetting.filter (· ≠ d.val) } } : State).wr R.MILL_PMB_d.status_word d
    status.toNat ∧ exec (.pmbResetDone d status clean) s = .next (if clean then u.wr R.MILL_PMB_d.reset_done d 1 else u))

/-- AVS, sensors, the power cap, and power states. With avs_en an update that succeeds moves VDD_CORE by at most 5 mV towards its target, and
  the third failure in a row sets avs_fault and goes back to 800 mV; a sensor read shows temperatures, voltages and power; above the cap
  the cap loop reduces and below it restores, and a violation sets cap_viol; the wake timer and the entry into P3 act as R396 says; a power
  transition that is done completes its command. Cites: R394, R395, R396, R400, R401, R402, R404. -/
def Obligations.PowerAndHeat : Prop :=
  (∀ (safe measured : BitVec 16) (s : State), s.on R.MILL_CTRL.avs_en 0 = true → s.mill.avsHeld = false → s.corePowered = true → ∃ v, v =
    (if s.rd R.MILL_AVS.v_target 0 < s.avsTarget safe.toNat then min (s.avsTarget safe.toNat) (s.rd R.MILL_AVS.v_target 0 + 5) else max
    (s.avsTarget safe.toNat) (s.rd R.MILL_AVS.v_target 0 - 5)) ∧ exec (.avsUpdate safe measured true) s = .next
    (((({ s with mill := { s.mill with avsFails := 0 } } : State).wr R.MILL_AVS.v_target 0 v).wr R.MILL_AVS.v_meas 0 measured.toNat).emit
    (.avs v)) ∧ (s.mill.avsFails < 2 → exec (.avsUpdate safe measured false) s = .next
    { s with mill := { s.mill with avsFails := s.mill.avsFails + 1 } })) ∧
  (∀ (temps mvs powers : List (BitVec 16)) (u : State) (s : State), hottest temps 0 = none → u = ((s.showTemps temps).showVolts
    mvs).showPower powers → u.mill.range = [] → exec (.sensorRead temps mvs powers) s = .next u) ∧
  (∀ (temps mvs powers : List (BitVec 16)) (t : Int) (k : Nat) (u : State) (s : State), hottest temps 0 = some (t, k) → u = (((s.showTemps
    temps).judgeHeat t k).showVolts mvs).showPower powers → u.mill.range = [] → exec (.sensorRead temps mvs powers) s = .next u) ∧
  (∀ (powers : List (BitVec 16)) (s : State), exec (.ioutRecalibrate powers) s = .next ((s.mill.on_.foldl (fun (u : State) d => u.pmbSend d
    0x8C 0) s).showPower powers)) ∧
  (∀ (s : State), s.running = true → s.aboveCap = true → exec .capLoop s = .next (iter (fun q (u : State) => u.quadFollow q) 0 24
    { s with mill := { s.mill with reduced := true, gated := true } }) ∧ exec .capViolation s = .next (s.millEvent R.MILL_EVENT.cap_viol
    0)) ∧
  (∀ (s : State), s.running = true → s.aboveCap = false → s.mill.gated = false → exec .capLoop s = .next
    { s with mill := { s.mill with reduced := false } } ∧ exec .capViolation s = .next s) ∧
  (∀ (s : State), s.startup = .inP3 → s.on R.MILL_WAKE.wake_s 0 = true → exec .millWakeExpiry s = .next s.leaveP3) ∧
  (∀ (s : State), s.running = true → s.aon.goingP3 = true → ∃ u : State, u = (s.openGen false).commitGen.debugNone ∧ exec .p3Entry s =
    .next (({ u with aon := { u.aon with goingP3 := false } } : State).slumber 0 .inP3)) ∧
  (∀ (h : Option CmdHead) (p : Nat) (s : State), s.powerHead = some (h, p) → ∃ u : State, u = s.powerLanes p ∧ (u.powerDone p = false →
    exec .powerStateReached s = .next u) ∧ (u.powerDone p = true → ∃ l : List Pend, (∀ e, e ∈ l → e ∈ u.changes) ∧ (∀ e, e ∈ u.changes →
    e.due ≠ .event → e ∈ l) ∧ exec .powerStateReached s = .next ((({ u with changes := l } : State).powerReached p).okOpt h 0)))

/-- Lane commands accepted. A lane command that meets no lane in transition and no check of R418 is accepted: LANE_RATE at once in MUSTER and
  at its boundary elsewhere, LANE_SLEEP and LANE_WAKE at once in SOLO and at the journalled boundary on a pair; one that meets a lane in
  transition waits. Cites: R24, R25, R33, R34, R66, R418. -/
def Obligations.LaneCommands : Prop :=
  (∀ (h : CmdHead) (ch : Machine.Change) (lane : BitVec 16) (width : BitVec 8) (role pam4 : Bool) (rate : BitVec 64) (s : State), ch =
    .laneRate lane.toNat width.toNat role pam4 rate.toNat → (s.chanLanes (s.chan lane.toNat)).any s.moving = false → s.accepts (s.common h
    true true ++ (s.laneAhead ch).changeChecks ch) = true → exec (.laneRate h lane width role pam4 rate) s = .next ((s.taken h).acceptLane
    h ch)) ∧
  (∀ (h : CmdHead) (ch : Machine.Change) (lane : BitVec 16) (target : BitVec 8) (s : State), target.toNat ≤ 1 → ch = .laneSleep lane.toNat
    (target == 1) → (s.chanLanes (s.chan lane.toNat)).any s.moving = false → s.accepts (s.common h true true ++ (s.laneAhead
    ch).changeChecks ch) = true → exec (.laneSleep h lane target) s = .next ((s.taken h).acceptLane h ch)) ∧
  (∀ (h : CmdHead) (ch : Machine.Change) (lane : BitVec 16) (s : State), ch = .laneWake lane.toNat → (s.chanLanes (s.chan lane.toNat)).any
    s.moving = false → s.accepts (s.common h true true ++ (s.laneAhead ch).changeChecks ch) = true → exec (.laneWake h lane) s = .next
    ((s.taken h).acceptLane h ch)) ∧
  (∀ (h : CmdHead) (ch : Machine.Change) (lane : BitVec 16) (s : State), ch = .laneWake lane.toNat → s.stewardActs = true → lane.toNat < 96
    → (s.chanLanes (s.chan lane.toNat)).any s.moving = true → exec (.laneWake h lane) s = .next (s.later (some h) (.lane (s.chan
    lane.toNat)) ch))

/-- Program and Reeve commands accepted. An accepted ATTACH of an Almanac program shows its check in WVR_VERIFY and waits for the next
  multiframe, as a DETACH does; an accepted ATTACH or REEVE_LOAD of a host image fetches it, an accepted PARAM_WRITE takes its words, and
  an accepted return of a Reeve resets it and waits. Cites: R243, R245, R246, R247, R248, R383, R418, R422. -/
def Obligations.ProgramCommands : Prop :=
  (∀ (h : CmdHead) (cc slot : BitVec 8) (replace : Bool) (id : BitVec 16) (addr : BitVec 64) (len : BitVec 32) (p : Prog) (s : State), p =
    (s.ahead s.nextMultiframe).almanac cc.toNat id.toNat → s.accepts (s.common h true true ++ (s.ahead s.nextMultiframe).attachChecks
    cc.toNat slot.toNat replace p) = true → exec (.attach h cc slot replace false id addr len) s = .next (((s.taken h).showCheck (cc.toNat
    / 4) 0 p.wcRx p.wcTx p.wcFrame).sched (some h) true s.nextMultiframe (.attach cc.toNat slot.toNat replace p))) ∧
  (∀ (h : CmdHead) (cc slot : BitVec 8) (replace : Bool) (id : BitVec 16) (addr : BitVec 64) (len : BitVec 32) (s : State), s.accepts
    (s.common h true true ++ (s.ahead s.nextMultiframe).slotChecks cc.toNat slot.toNat replace ++ [(addr.toNat % 8 != 0, .badArg, 16),
    (s.lifecycle == 3, .denied, 0xFF)]) = true → exec (.attach h cc slot replace true id addr len) s = .next
    ({ s.taken h with fetches := (s.taken h).fetches ++ [⟨h, addr.toNat, len.toNat, .attach cc.toNat slot.toNat replace⟩] })) ∧
  (∀ (h : CmdHead) (cc slot : BitVec 8) (s : State), s.accepts (s.common h true true ++ [] ++ (s.ahead s.nextMultiframe).changeChecks
    (.detach cc.toNat slot.toNat)) = true → exec (.detach h cc slot) s = .next ((s.taken h).sched (some h) true s.nextMultiframe (.detach
    cc.toNat slot.toNat))) ∧
  (∀ (h : CmdHead) (cc slot first : BitVec 8) (vs : List (BitVec 32)) (s : State), s.accepts (s.common h true true ++ (s.ahead (s.paramDue
    cc.toNat)).paramChecks cc.toNat slot.toNat first.toNat vs) = true → exec (.paramWrite h cc slot first vs) s = .next ((s.taken
    h).acceptParams h cc.toNat slot.toNat first.toNat vs)) ∧
  (∀ (h : CmdHead) (r : BitVec 8) (addr : BitVec 64) (len : BitVec 32) (s : State), s.accepts (s.common h false true ++ s.reeveChecks
    r.toNat ++ [(addr.toNat % 8 != 0, .badArg, 16)]) = true → exec (.reeveLoad h r addr len) s = .next
    ({ s.taken h with fetches := (s.taken h).fetches ++ [⟨h, addr.toNat, len.toNat, .reeve r.toNat⟩] })) ∧
  (∀ (h : CmdHead) (r : BitVec 8) (s : State), s.accepts (s.common h false true ++ s.reeveChecks r.toNat) = true → exec (.reeveLoadReturn h
    r) s = .next (((s.taken h).reeveReset r.toNat false).later (some h) .event (.reeveBack r.toNat)))

/-- Calendar, queue and repair commands accepted. An accepted STAGE waits for the boundary of R25, a read-back writes the copies to host
  memory, an accepted COMMIT schedules its switches; queues and trunks are created, changed, deleted and flushed at the next multiframe; a
  scan and a retest of banks start. Cites: R163, R167, R169, R211, R219, R221, R226, R418. -/
def Obligations.CalendarAndQueueCommands : Prop :=
  (∀ (h : CmdHead) (addr : BitVec 64) (len : BitVec 32) (img : List (BitVec 32)) (secs : Option (List CalSec)) (s : State), secs = parseCal
    img → s.accepts (s.common h true true ++ imageChecks addr.toNat len.toNat secs ++ (s.ahead s.rateBoundary).changeChecks (.calStage
    (secs.getD []))) = true → exec (.calendarStageWrite h addr len img) s = .next ((s.taken h).sched (some h) true s.rateBoundary
    (.calStage (secs.getD [])))) ∧
  (∀ (h : CmdHead) (addr : BitVec 64) (len : BitVec 32) (img : List (BitVec 32)) (secs : Option (List CalSec)) (s : State), secs = parseCal
    img → s.accepts (s.common h false true ++ imageChecks addr.toNat len.toNat secs ++ [((secs.getD []).any (fun x => s.secBad x false),
    .badArg, 16)]) = true → exec (.calendarStageRead h addr len img) s = .next ((((s.taken h).calReads (addr.toNat + 8) (secs.getD
    [])).foldl (fun (t : State) e => t.emit (.hostWrite e.1 e.2)) (s.taken h)).ok h 0)) ∧
  (∀ (h : CmdHead) (mask : BitVec 96) (s : State), s.accepts (s.common h true true ++ (s.ahead s.rateBoundary).commitChecks (maskList
    mask.toNat 96)) = true → exec (.calendarCommit h mask) s = .next ((s.taken h).acceptSwitch h (maskList mask.toNat 96))) ∧
  (∀ (h : CmdHead) (q egress : BitVec 16) (cls : BitVec 3) (express : Bool) (latePol : BitVec 2) (dlSrc ethEgress keyed : Bool) (budget :
    BitVec 20) (lateTol : BitVec 12) (minCells maxCells : BitVec 32) (key : BitVec 64) (a : QueueArgs) (s : State), a =
    { egress := egress.toNat, cls := cls.toNat, express := express, latePol := latePol.toNat, dlSrc := dlSrc, kind := bit ethEgress, budget := budget.toNat, lateTol := lateTol.toNat, minCells := minCells.toNat, maxCells := maxCells.toNat, key := if keyed then some key.toNat else none }
    → s.accepts (s.common h true true ++ [] ++ (s.ahead s.nextMultiframe).changeChecks (.queueCreate q.toNat a)) = true → exec
    (.queueCreateQueue h q egress cls express latePol dlSrc ethEgress keyed budget lateTol minCells maxCells key) s = .next ((s.taken
    h).sched (some h) true s.nextMultiframe (.queueCreate q.toNat a))) ∧
  (∀ (h : CmdHead) (t : BitVec 16) (s : State), s.accepts (s.common h true true ++ [] ++ (s.ahead s.nextMultiframe).changeChecks
    (.trunkCreate t.toNat)) = true → exec (.queueCreateTrunk h t) s = .next ((s.taken h).sched (some h) true s.nextMultiframe (.trunkCreate
    t.toNat))) ∧
  (∀ (h : CmdHead) (q : BitVec 16) (express : Bool) (latePol : BitVec 2) (dlSrc : Bool) (budget : BitVec 20) (lateTol : BitVec 12) (a :
    QueueArgs) (s : State), a =
    { egress := 0, cls := 0, express := express, latePol := latePol.toNat, dlSrc := dlSrc, kind := 0, budget := budget.toNat, lateTol := lateTol.toNat, minCells := 0, maxCells := 0, key := none }
    → s.accepts (s.common h true true ++ [] ++ (s.ahead s.nextMultiframe).changeChecks (.queueModify q.toNat a)) = true → exec
    (.queueCreateModify h q express latePol dlSrc budget lateTol) s = .next ((s.taken h).sched (some h) true s.nextMultiframe (.queueModify
    q.toNat a))) ∧
  (∀ (h : CmdHead) (q : BitVec 16) (s : State), s.accepts (s.common h true true ++ [] ++ (s.ahead s.nextMultiframe).changeChecks
    (.queueDelete q.toNat)) = true → exec (.queueDeleteQueue h q) s = .next ((s.taken h).sched (some h) true s.nextMultiframe (.queueDelete
    q.toNat))) ∧
  (∀ (h : CmdHead) (t : BitVec 16) (s : State), s.accepts (s.common h true true ++ [] ++ (s.ahead s.nextMultiframe).changeChecks
    (.trunkDelete t.toNat)) = true → exec (.queueDeleteTrunk h t) s = .next ((s.taken h).sched (some h) true s.nextMultiframe (.trunkDelete
    t.toNat))) ∧
  (∀ (h : CmdHead) (q : BitVec 16) (s : State), s.accepts (s.common h true true ++ [] ++ (s.ahead s.nextMultiframe).changeChecks
    (.queueFlush q.toNat)) = true → exec (.queueFlush h q) s = .next ((s.taken h).sched (some h) true s.nextMultiframe (.queueFlush
    q.toNat))) ∧
  (∀ (h : CmdHead) (mask : BitVec 96) (s : State), s.accepts (s.common h false true ++ [(s.on R.GRN_STATUS.scan_busy 0, .busy, 0xFF)]) =
    true → exec (.repairScanScan h mask) s = .next (((s.taken h).startScan (maskList mask.toNat 96)).ok h 0)) ∧
  (∀ (h : CmdHead) (mask : BitVec 96) (s : State), s.accepts (s.common h false true ++ [(s.mode != .muster, .illegalState, 0xFF),
    ((maskList mask.toNat 96).any (fun b => s.bankState b != 3), .illegalState, 0xFF), (s.on R.GRN_STATUS.scan_busy 0, .busy, 0xFF)]) =
    true → exec (.repairScanRetest h mask) s = .next ((s.taken h).startRetest h (maskList mask.toNat 96)))

/-- Mode, power, pair and checkpoint commands accepted. A MODE_SET or POWER_STATE that names the present mode or state completes at once; any
  other accepted MODE_SET waits for the boundary of its mode, a change between P0 and P1 for the next multiframe, and any other POWER_STATE
  starts its transition; PAIR_JOIN waits for the pair to form, PAIR_LEAVE waits for the next multiframe, PAIR_TAKE plans the next even
  frame from the eighth after it on (model choice, assumption log entry 30), and CHECKPOINT opens a generation and waits for its commit.
  Cites: R326, R332, R395, R415, R416, R418. -/
def Obligations.ModePowerAndPairCommands : Prop :=
  (∀ (h : CmdHead) (mode : BitVec 8) (m : Mode) (s : State), Mode.ofNum mode.toNat = some m → m ≠ s.mode → s.accepts (s.common h true true
    ++ (s.ahead (s.modeDue m)).modeChecks mode.toNat) = true → exec (.modeSet h mode) s = .next ((s.taken h).sched (some h) true ((s.taken
    h).modeDue m) (.modeSet m))) ∧
  (∀ (h : CmdHead) (mode : BitVec 8) (s : State), Mode.ofNum mode.toNat = some s.mode → s.accepts (s.common h true true) = true → exec
    (.modeSet h mode) s = .next (((s.taken h).fresh 14).2.ok h ((s.taken h).fresh 14).1)) ∧
  (∀ (h : CmdHead) (state : BitVec 8) (s : State), state.toNat = s.pstate → s.accepts (s.common h false false) = true → exec (.powerState h
    state) s = .next ((s.taken h).ok h 0)) ∧
  (∀ (h : CmdHead) (state : BitVec 8) (s : State), state.toNat ≠ s.pstate → state.toNat ≤ 1 → s.pstate ≤ 1 → s.accepts (s.common h false
    false ++ s.powerChecks state.toNat ++ (s.ahead s.nextMultiframe).changeChecks (.power state.toNat)) = true → exec (.powerState h state)
    s = .next ((s.taken h).sched (some h) false (s.taken h).nextMultiframe (.power state.toNat))) ∧
  (∀ (h : CmdHead) (state : BitVec 8) (s : State), state.toNat ≠ s.pstate → (1 < state.toNat ∨ 1 < s.pstate) → s.accepts (s.common h false
    false ++ s.powerChecks state.toNat) = true → exec (.powerState h state) s = .next ((s.taken h).doPower (some h) state.toNat)) ∧
  (∀ (h : CmdHead) (role : BitVec 8) (s : State), s.accepts (s.common h false false ++ s.joinChecks role.toNat) = true → exec (.pairJoin h
    role) s = .next ({ s.taken h with pair := { (s.taken h).pair with join := some (h, role.toNat) } })) ∧
  (∀ (h : CmdHead) (s : State), s.accepts (s.common h false false ++ [] ++ (s.ahead s.nextMultiframe).changeChecks (.pairLeave)) = true →
    exec (.pairLeave h) s = .next ((s.taken h).sched (some h) false s.nextMultiframe (.pairLeave))) ∧
  (∀ (h : CmdHead) (s : State), s.accepts (s.common h false false ++ s.takeChecks) = true → exec (.pairTake h) s = .next
    (({ s.taken h with pair := { (s.taken h).pair with planned := some ((s.taken h).frame + (s.taken h).frame % 2 + 8, h) } } : State).emit
    (.twinTake ((s.taken h).frame + (s.taken h).frame % 2 + 8)))) ∧
  (∀ (h : CmdHead) (s : State), s.accepts (s.common h false false ++ [(decide (2 ≤ s.role), .illegalState, 0xFF), (s.ledg.open_.isSome,
    .busy, 0xFF)]) = true → exec (.checkpoint h) s = .next (((s.taken h).openGen false).setLedg
    { ((s.taken h).openGen false).ledg with waiting := some h }))

/-- Reference, time and register commands accepted. An accepted REF_CONFIG or REG_CONFIG waits for the next multiframe; an accepted slew
  starts, a jump moves time and completes, a frequency is kept and completes, a TIME_SET waits for the next PPS edge. Cites: R297, R305,
  R418, R424, R427. -/
def Obligations.TimeAndRegisterCommands : Prop :=
  (∀ (h : CmdHead) (writes : List (BitVec 32 × BitVec 32)) (s : State), s.accepts (s.common h true false ++ [] ++ (s.ahead
    s.nextMultiframe).changeChecks (.bell (entriesOf writes))) = true → exec (.refConfig h writes) s = .next ((s.taken h).sched (some h)
    true s.nextMultiframe (.bell (entriesOf writes)))) ∧
  (∀ (h : CmdHead) (writes : List (BitVec 32 × BitVec 32)) (s : State), s.accepts (s.common h true true ++ [] ++ (s.ahead
    s.nextMultiframe).changeChecks (.regs (entriesOf writes))) = true → exec (.regConfig h writes) s = .next ((s.taken h).sched (some h)
    true s.nextMultiframe (.regs (entriesOf writes)))) ∧
  (∀ (h : CmdHead) (amount : BitVec 64) (rate : BitVec 32) (s : State), (s.accepts (s.common h false false ++ s.stepChecks ++ [(decide (10
    ^ 6 * 2 ^ 16 < amount.toInt.natAbs), .badArg, 16), (decide (rate.toNat < 1 ∨ 10000 < rate.toNat), .badArg, 24)]) = true) → exec
    (.phaseStepSlew h amount rate) s = .next
    ({ s.taken h with bell := { (s.taken h).bell with slew := some ⟨amount.toInt, rate.toNat, 0, h⟩ } })) ∧
  (∀ (h : CmdHead) (amount : BitVec 64) (s : State), s.accepts (s.common h false false ++ s.stepChecks ++ [(s.mode == .sundial,
    .illegalState, 0xFF)]) = true → exec (.phaseStepJump h amount) s = .next (((s.taken h).jumpTime amount.toInt).ok h 0)) ∧
  (∀ (h : CmdHead) (amount : BitVec 64) (s : State), s.accepts (s.common h false false ++ s.stepChecks ++ [(s.dpllMode 1 != 5,
    .illegalState, 0xFF), (decide (100000 * 2 ^ 16 < amount.toInt.natAbs), .badArg, 16)]) = true → exec (.phaseStepFrequency h amount) s =
    .next (({ s.taken h with bell := { (s.taken h).bell with hostFreq := amount.toInt } } : State).ok h 0)) ∧
  (∀ (h : CmdHead) (sec : BitVec 48) (s : State), s.accepts (s.common h false false ++ s.stepChecks ++ [(s.mode == .sundial, .illegalState,
    0xFF), (s.bell.setSec.isSome, .busy, 0xFF)]) = true → exec (.timeSet h sec) s = .next
    ({ s.taken h with bell := { (s.taken h).bell with setSec := some (sec.toNat, h) } }))

/-- NOP, DEVICE_QUERY, fence lifts, injectors and debug commands accepted. NOP completes with OK and result 0, DEVICE_QUERY with what it asks;
  a lift of kind 3, 4 or 6 waits for the next multiframe and any other acts at once (whether some resets have ended is a free value,
  assumption log entry 31); injectors are armed and stopped; a debug level is taken; challenge, response and GATE_CALL start their
  Gatehouse operation. Cites: R195, R250, R366, R369, R388, R390, R418, R430. -/
def Obligations.DeviceAndDebugCommands : Prop :=
  (∀ (h : CmdHead) (s : State), s.accepts (s.common h false false) = true → exec (.nop h) s = .next ((s.taken h).ok h 0)) ∧
  (∀ (h : CmdHead) (s : State), s.accepts (s.common h false false) = true → exec (.deviceQuery h) s = .next ((s.taken h).ok h (s.taken
    h).queryResult)) ∧
  (∀ (h : CmdHead) (kind : BitVec 8) (unit : BitVec 32) (s : State), (kind.toNat = 3 ∨ kind.toNat = 4 ∨ kind.toNat = 6) → s.accepts
    (s.common h false false ++ [] ++ (s.ahead s.nextMultiframe).changeChecks (.lift kind.toNat unit.toNat)) = true → exec (.fenceLift h
    kind unit) s = .next ((s.taken h).sched (some h) false s.nextMultiframe (.lift kind.toNat unit.toNat))) ∧
  (∀ (h : CmdHead) (kind : BitVec 8) (unit : BitVec 32) (f : Nat) (t : State) (s : State), (kind.toNat = 1 ∨ kind.toNat = 2 ∨ kind.toNat =
    5 ∨ 7 ≤ kind.toNat ∨ kind.toNat = 0) → s.fresh 1 = (f, t) → t.accepts (t.common h false false ++ t.liftNowChecks kind.toNat unit.toNat
    (f == 1)) = true → exec (.fenceLift h kind unit) s = .next (((t.taken h).liftNow kind.toNat unit.toNat).ok h 0)) ∧
  (∀ (h : CmdHead) (mask : BitVec 16) (s : State), s.accepts (s.common h false true ++ [(s.mode != .smithy, .illegalState, 0xFF)] ++
    (injsOf mask.toNat).flatMap s.armChecks) = true → exec (.injectArm h mask) s = .next ((s.taken h).doArm h mask.toNat)) ∧
  (∀ (h : CmdHead) (mask : BitVec 16) (s : State), s.accepts (s.common h false false) = true → exec (.injectStop h mask) s = .next
    (((injsOf mask.toNat).foldl (fun (t : State) j => t.stopInjector j 1) (s.taken h)).ok h 0)) ∧
  (∀ (h : CmdHead) (level : BitVec 8) (mask : BitVec 32) (s : State), level.toNat ≤ 1 → s.accepts (s.common h false (decide (s.debugLevel <
    level.toNat)) ++ [(decide (2 < level.toNat), .badArg, 9), (decide (2 ^ 28 ≤ mask.toNat), .badArg, 15), (!s.levelOk level.toNat,
    .denied, 0xFF)]) = true → exec (.debugUnlockLevel h level mask) s = .next (((s.taken h).requestLevel level.toNat).ok h ((s.taken
    h).requestLevel level.toNat).debugLevel)) ∧
  (∀ (h : CmdHead) (mask : BitVec 32) (addr : BitVec 64) (s : State), s.accepts (s.common h false false ++ [(decide (2 ^ 28 ≤ mask.toNat),
    .badArg, 15), (addr.toNat % 8 != 0, .badArg, 16), (s.gate.op.isSome, .busy, 0xFF)]) = true → exec (.debugUnlockChallenge h mask addr) s
    = .next ((s.taken h).gateCommand ⟨8, 0, 0, some h, some addr.toNat⟩ (leBytes 4 mask.toNat))) ∧
  (∀ (h : CmdHead) (signer : BitVec 8) (addr : BitVec 64) (sig : List (BitVec 8)) (s : State), s.accepts (s.common h false true ++ [(decide
    (3 < signer.toNat), .badArg, 9), (addr.toNat % 8 != 0, .badArg, 16), (s.gate.op.isSome, .busy, 0xFF)]) = true → exec
    (.debugUnlockResponse h signer addr sig) s = .next ((s.taken h).gateCommand ⟨9, 0, signer.toNat, some h, none⟩ (sig.map (·.toNat)))) ∧
  (∀ (h : CmdHead) (op slot signer : BitVec 8) (len : BitVec 32) (addr : BitVec 64) (buf : List (BitVec 8)) (s : State), (s.accepts
    (s.common h (decide (5 ≤ op.toNat ∧ op.toNat ≤ 7)) false ++ [(!(decide (1 ≤ op.toNat ∧ op.toNat ≤ 7) || op.toNat == 10), .badArg, 8),
    (decide (3 < signer.toNat), .badArg, 10), (decide (256 < len.toNat), .badArg, 12), (addr.toNat % 8 != 0, .badArg, 16),
    (s.gate.op.isSome, .busy, 0xFF)]) = true) → exec (.gateCall h op slot signer len addr buf) s = .next ((s.taken h).gateCommand
    ⟨op.toNat, slot.toNat, signer.toNat, some h, none⟩ (buf.map (·.toNat))))
end

