-- ==== Sys2Proof/Laws/Field.lean ====
section
/-! SUPPORT. Laws of bit fields: what a replaced field, and every other bit, reads as afterwards. -/
namespace Sys2Proof.Machine

/-- Every bit of a word in which a field was replaced. -/
theorem testBit_setBitField (v lo w x k : Nat) :
    (setBitField v lo w x).testBit k = if k < lo then v.testBit k else if k < lo + w then x.testBit (k - lo) else v.testBit k := by
  have e : setBitField v lo w x = 2 ^ (lo + w) * (v / 2 ^ (lo + w)) + (2 ^ lo * (x % 2 ^ w) + v % 2 ^ lo) := by
    unfold setBitField; rw [Nat.mul_comm (v / 2 ^ (lo + w)), Nat.mul_comm (x % 2 ^ w)]; omega
  have h1 : v % 2 ^ lo < 2 ^ lo := Nat.mod_lt _ (Nat.two_pow_pos lo)
  have h2 : 2 ^ lo * (x % 2 ^ w) + v % 2 ^ lo < 2 ^ (lo + w) := by
    have : x % 2 ^ w + 1 ≤ 2 ^ w := Nat.mod_lt _ (Nat.two_pow_pos w)
    calc 2 ^ lo * (x % 2 ^ w) + v % 2 ^ lo < 2 ^ lo * (x % 2 ^ w) + 2 ^ lo := by omega
      _ = 2 ^ lo * (x % 2 ^ w + 1) := by rw [Nat.mul_add, Nat.mul_one]
      _ ≤ 2 ^ lo * 2 ^ w := Nat.mul_le_mul_left _ this
      _ = 2 ^ (lo + w) := (Nat.pow_add 2 lo w).symm
  rw [e, Nat.testBit_two_pow_mul_add _ h2, Nat.testBit_two_pow_mul_add _ h1]
  by_cases a : k < lo
  · simp [a, show k < lo + w by omega, Nat.testBit_mod_two_pow]
  · by_cases b : k < lo + w
    · simp [a, b, Nat.testBit_mod_two_pow, show k - lo < w by omega]
    · simp [a, b, Nat.testBit_div_two_pow, show k - (lo + w) + (lo + w) = k by omega]

/-- Every bit of a field. -/
theorem testBit_bitField (v lo w k : Nat) : (bitField v lo w).testBit k = (decide (k < w) && v.testBit (lo + k)) := by
  unfold bitField
  rw [Nat.testBit_mod_two_pow, Nat.testBit_div_two_pow, Nat.add_comm]

/-- A field reads as what was put into it, cut to its width. -/
theorem bitField_setBitField_same (v lo w x : Nat) : bitField (setBitField v lo w x) lo w = x % 2 ^ w := by
  apply Nat.eq_of_testBit_eq
  intro k
  rw [testBit_bitField, testBit_setBitField, Nat.testBit_mod_two_pow]
  by_cases h : k < w <;> simp [h]

/-- A field that does not overlap the replaced one is unchanged. -/
theorem bitField_setBitField_other (v lo w x lo' w' : Nat) (h : lo' + w' ≤ lo ∨ lo + w ≤ lo') :
    bitField (setBitField v lo w x) lo' w' = bitField v lo' w' := by
  apply Nat.eq_of_testBit_eq
  intro k
  rw [testBit_bitField, testBit_bitField, testBit_setBitField]
  by_cases hk : k < w'
  · rcases h with h | h
    · simp [hk, show lo' + k < lo by omega]
    · simp [hk, show ¬ lo' + k < lo by omega, show ¬ lo' + k < lo + w by omega]
  · simp [hk]

/-- A word of 32 bits stays one when a field inside it is replaced. -/
theorem setBitField_lt (v lo w x : Nat) (hv : v < 2 ^ 32) (h : lo + w ≤ 32) : setBitField v lo w x < 2 ^ 32 := by
  apply Nat.lt_pow_two_of_testBit
  intro k hk
  rw [testBit_setBitField]
  have : v.testBit k = false := Nat.testBit_lt_two_pow (Nat.lt_of_lt_of_le hv (Nat.pow_le_pow_right (by decide) hk))
  simp [show ¬ k < lo by omega, show ¬ k < lo + w by omega, this]

/-- A marked bit stays marked when another one is set. -/
theorem testBit_mark (v lo k : Nat) (h : v.testBit k = true) : (setBitField v lo 1 1).testBit k = true := by
  rw [testBit_setBitField]
  by_cases a : k < lo
  · simp [a, h]
  · by_cases b : k < lo + 1
    · have : k - lo = 0 := by omega
      simp [a, b, this]
    · simp [a, b, h]

end Sys2Proof.Machine
end

