-- ==== Sys2Proof/Laws/Judge.lean ====
section
/-! SUPPORT. What a judged command and an access of a master do, said once: every meaning of a command or of a register write goes through
these. -/
namespace Sys2Proof.Machine

theorem firstCheck_eq_none (l : List Check) : firstCheck l = none ↔ l.all (fun c => !c.1) = true := by
  induction l with
  | nil => simp [firstCheck]
  | cons c t ih =>
    obtain ⟨b, code, off⟩ := c
    cases b
    · simp [firstCheck, ih]
    · simp only [firstCheck, if_true, List.all_cons, Bool.not_true, Bool.false_and, Bool.false_eq_true, iff_false]
      split
      · split <;> simp
      · simp

/-- A command that no check stops is taken up, and its effect follows. -/
theorem State.judge_accepts (s : State) (h : CmdHead) (l : List Check) (f : State → State) (ha : s.accepts l = true) :
    s.judge h l f = f (s.taken h) := by
  simp only [State.accepts, Bool.and_eq_true] at ha
  simp [State.judge, ha.1, (firstCheck_eq_none l).2 ha.2, State.taken]

/-- Without a steward nothing is judged: the command waits. -/
theorem State.judge_waits (s : State) (h : CmdHead) (l : List Check) (f : State → State) (ha : s.stewardActs = false) :
    s.judge h l f = s := by
  simp [State.judge, ha]

theorem State.asAny_eq (s : State) (m : Nat) (f : State → State) (hm : m ≤ 5) (hr : s.reaches m = true) : s.asAny m f = f s := by
  simp [State.asAny, hm, hr]

/-- A write by a master that may write there happens. -/
theorem State.asMaster_eq (s : State) (m : Nat) (f : State → State) (hw : s.writesAs m = true) : s.asMaster m f = f s := by
  simp only [State.writesAs, Bool.and_eq_true, decide_eq_true_eq, Bool.not_eq_true', Bool.and_eq_false_iff, bne_eq_false_iff_eq,
    beq_eq_false_iff_ne] at hw
  obtain ⟨⟨hm, hr⟩, hl⟩ := hw
  simp only [State.asMaster, State.asAny, hm, hr, and_self, if_true]
  split
  · rename_i h; rcases hl with h' | h'
    · exact absurd h.1 h'
    · exact absurd h' h.2
  · rfl

/-- A read by a master that may read there happens. -/
theorem State.asReader_eq (s : State) (m a : Nat) (f : State → State) (hw : s.readsAs m = true) : s.asReader m a f = f s := by
  simp only [State.readsAs, Bool.and_eq_true, decide_eq_true_eq, Bool.not_eq_true', Bool.and_eq_false_iff,
    beq_eq_false_iff_ne] at hw
  obtain ⟨⟨hm, hr⟩, hl⟩ := hw
  simp only [State.asReader, State.asAny, hm, hr, and_self, if_true]
  split
  · rename_i h; rcases hl with h' | h'
    · exact absurd h.1 h'
    · exact absurd h.2 h'
  · rfl

end Sys2Proof.Machine
end

