-- ==== Sys2Proof/Laws/Tab.lean ====
section
/-! SUPPORT. Laws of sparse tables: a read after a write, and the canonical form kept by every operation. -/
namespace Sys2Proof.Machine

theorem Tab.get_nil {α : Type} (d : α) (k : Nat) : Tab.get d [] k = d := rfl

/-- A key below every listed one reads as the default. -/
theorem Tab.get_of_lt {α : Type} [DecidableEq α] (e : Nat → α) (d : α) (t : Tab α) (lo k : Nat) (h : Tab.wfFrom e lo t = true) (hk : k < lo) :
    Tab.get d t k = d := by
  cases t with
  | nil => rfl
  | cons p t =>
    obtain ⟨j, v⟩ := p
    simp only [Tab.wfFrom, Bool.and_eq_true, decide_eq_true_eq] at h
    have hj : lo ≤ j := h.1.1
    simp [Tab.get, show ¬ k = j by omega, show k < j by omega]

/-- A bound that the keys respect may be lowered. -/
theorem Tab.wfFrom_mono {α : Type} [DecidableEq α] (d : Nat → α) (t : Tab α) (a b : Nat) (h : Tab.wfFrom d b t = true) (hab : a ≤ b) :
    Tab.wfFrom d a t = true := by
  cases t with
  | nil => rfl
  | cons p t =>
    obtain ⟨j, v⟩ := p
    simp only [Tab.wfFrom, Bool.and_eq_true, decide_eq_true_eq] at h ⊢
    exact ⟨⟨by omega, h.1.2⟩, h.2⟩

/-- A read of the key just written. -/
theorem Tab.get_put_same {α : Type} [DecidableEq α] (e : Nat → α) (t : Tab α) (k : Nat) (v : α) (lo : Nat)
    (h : Tab.wfFrom e lo t = true) : Tab.get (e k) (Tab.put (e k) t k v) k = v := by
  induction t generalizing lo with
  | nil => by_cases hv : v = e k <;> simp [Tab.put, Tab.get, hv]
  | cons p t ih =>
    obtain ⟨j, w⟩ := p
    simp only [Tab.wfFrom, Bool.and_eq_true, decide_eq_true_eq] at h
    by_cases hj : k = j
    · subst hj
      by_cases hv : v = e k
      · simp [Tab.put, hv, Tab.get_of_lt e (e k) t (k + 1) k h.2 (by omega)]
      · simp [Tab.put, hv, Tab.get]
    · by_cases hl : k < j
      · by_cases hv : v = e k <;> simp [Tab.put, hj, hl, hv, Tab.get]
      · simp [Tab.put, hj, hl, Tab.get, ih (j + 1) h.2]

/-- A read of another key. -/
theorem Tab.get_put_other {α : Type} [DecidableEq α] (e : Nat → α) (d : α) (t : Tab α) (k k' : Nat) (v : α) (lo : Nat)
    (h : Tab.wfFrom e lo t = true) (hk : k' ≠ k) : Tab.get d (Tab.put (e k) t k v) k' = Tab.get d t k' := by
  induction t generalizing lo with
  | nil => by_cases hv : v = e k <;> simp [Tab.put, Tab.get, hv, hk]
  | cons p t ih =>
    obtain ⟨j, w⟩ := p
    simp only [Tab.wfFrom, Bool.and_eq_true, decide_eq_true_eq] at h
    by_cases hj : k = j
    · subst hj
      by_cases hv : v = e k
      · rw [show Tab.put (e k) ((k, w) :: t) k v = t by simp [Tab.put, hv]]
        by_cases hl : k' < k
        · rw [Tab.get_of_lt e d t (k + 1) k' h.2 (by omega)]; simp [Tab.get, hk, hl]
        · simp [Tab.get, hk, hl]
      · by_cases hl : k' < k <;> simp [Tab.put, hv, Tab.get, hk, hl]
    · by_cases hl : k < j
      · by_cases hv : v = e k
        · simp [Tab.put, hj, hl, hv]
        · by_cases hk' : k' < k
          · have h1 : k' < j := by omega
            have h2 : ¬ k' = j := by omega
            simp [Tab.put, hj, hl, hv, Tab.get, hk, hk', h1, h2]
          · simp [Tab.put, hj, hl, hv, Tab.get, hk, hk']
      · simp only [Tab.put, hj, hl, if_false, Tab.get, ih (j + 1) h.2]

/-- A write keeps the canonical form, from a bound that also covers the key. -/
theorem Tab.wfFrom_put {α : Type} [DecidableEq α] (e : Nat → α) (t : Tab α) (k : Nat) (v : α) (lo : Nat)
    (h : Tab.wfFrom e lo t = true) (hlo : lo ≤ k) : Tab.wfFrom e lo (Tab.put (e k) t k v) = true := by
  induction t generalizing lo with
  | nil => by_cases hv : v = e k <;> simp [Tab.put, Tab.wfFrom, hv, hlo]
  | cons p t ih =>
    obtain ⟨j, w⟩ := p
    have hw := h
    simp only [Tab.wfFrom, Bool.and_eq_true, decide_eq_true_eq] at h
    by_cases hj : k = j
    · subst hj
      by_cases hv : v = e k
      · simpa [Tab.put, hv] using Tab.wfFrom_mono e t lo (k + 1) h.2 (by omega)
      · simp [Tab.put, hv, Tab.wfFrom, h.2, hlo]
    · by_cases hl : k < j
      · by_cases hv : v = e k
        · simpa [Tab.put, hj, hl, hv] using hw
        · have hw' : Tab.wfFrom e (k + 1) ((j, w) :: t) = true := by
            simp only [Tab.wfFrom, Bool.and_eq_true, decide_eq_true_eq]; exact ⟨⟨by omega, h.1.2⟩, h.2⟩
          rw [show Tab.put (e k) ((j, w) :: t) k v = (k, v) :: (j, w) :: t by simp [Tab.put, hj, hl, hv]]
          simp only [Tab.wfFrom, Bool.and_eq_true, decide_eq_true_eq] at hw' ⊢
          exact ⟨⟨hlo, hv⟩, hw'⟩
      · rw [show Tab.put (e k) ((j, w) :: t) k v = (j, w) :: Tab.put (e k) t k v by simp [Tab.put, hj, hl]]
        simp only [Tab.wfFrom, Bool.and_eq_true, decide_eq_true_eq]
        exact ⟨h.1, ih (j + 1) h.2 (by omega)⟩

/-- A write keeps the canonical form. -/
theorem Tab.wf_put {α : Type} [DecidableEq α] (e : Nat → α) (t : Tab α) (k : Nat) (v : α) (h : Tab.wf e t = true) :
    Tab.wf e (Tab.put (e k) t k v) = true := Tab.wfFrom_put e t k v 0 h (Nat.zero_le k)

/-- Dropping entries keeps the canonical form. -/
theorem Tab.wfFrom_filter {α : Type} [DecidableEq α] (e : Nat → α) (p : Nat × α → Bool) (t : Tab α) (lo : Nat)
    (h : Tab.wfFrom e lo t = true) : Tab.wfFrom e lo (t.filter p) = true := by
  induction t generalizing lo with
  | nil => rfl
  | cons q t ih =>
    obtain ⟨j, w⟩ := q
    simp only [Tab.wfFrom, Bool.and_eq_true, decide_eq_true_eq] at h
    by_cases hp : p (j, w) = true
    · simp only [List.filter_cons, hp, if_true, Tab.wfFrom, Bool.and_eq_true, decide_eq_true_eq]
      exact ⟨h.1, ih (j + 1) h.2⟩
    · simp only [List.filter_cons, hp]
      exact ih lo (Tab.wfFrom_mono e t lo (j + 1) h.2 (by omega))

theorem Tab.wf_filter {α : Type} [DecidableEq α] (e : Nat → α) (p : Nat × α → Bool) (t : Tab α) (h : Tab.wf e t = true) :
    Tab.wf e (t.filter p) = true := Tab.wfFrom_filter e p t 0 h

theorem Tab.wf_drop {α : Type} [DecidableEq α] (e : Nat → α) (p : Nat → Bool) (t : Tab α) (h : Tab.wf e t = true) :
    Tab.wf e (Tab.drop p t) = true := Tab.wf_filter e _ t h

/-- A read of a key that was not dropped. -/
theorem Tab.get_drop {α : Type} [DecidableEq α] (e : Nat → α) (d : α) (p : Nat → Bool) (t : Tab α) (k : Nat) (lo : Nat)
    (h : Tab.wfFrom e lo t = true) : Tab.get d (Tab.drop p t) k = if p k then d else Tab.get d t k := by
  induction t generalizing lo with
  | nil => simp [Tab.drop, Tab.get]
  | cons q t ih =>
    obtain ⟨j, w⟩ := q
    simp only [Tab.wfFrom, Bool.and_eq_true, decide_eq_true_eq] at h
    have hi := ih (j + 1) h.2
    by_cases hj : k = j
    · subst hj
      by_cases hp : p k = true
      · rw [show Tab.drop p ((k, w) :: t) = Tab.drop p t by simp [Tab.drop, hp], hi]; simp [hp]
      · rw [show Tab.drop p ((k, w) :: t) = (k, w) :: Tab.drop p t by simp [Tab.drop, hp]]; simp [Tab.get, hp]
    · by_cases hl : k < j
      · have e1 : Tab.get d t k = d := Tab.get_of_lt e d t (j + 1) k h.2 (by omega)
        by_cases hp : p j = true
        · rw [show Tab.drop p ((j, w) :: t) = Tab.drop p t by simp [Tab.drop, hp], hi, e1]; simp [Tab.get, hj, hl]
        · rw [show Tab.drop p ((j, w) :: t) = (j, w) :: Tab.drop p t by simp [Tab.drop, hp]]; simp [Tab.get, hj, hl]
      · by_cases hp : p j = true
        · rw [show Tab.drop p ((j, w) :: t) = Tab.drop p t by simp [Tab.drop, hp], hi]; simp [Tab.get, hj, hl]
        · rw [show Tab.drop p ((j, w) :: t) = (j, w) :: Tab.drop p t by simp [Tab.drop, hp]]; simp [Tab.get, hj, hl, hi]

end Sys2Proof.Machine
end

