-- ==== Sys2Proof/Laws/KeptBase.lean ====
section
/-! SUPPORT. What every operation keeps: the queue as it is, the tables canonical, the fuse store one-way. -/
namespace Sys2Proof.Machine

theorem Fuses.Grows.refl (f : Fuses) : f.Grows f := ⟨Nat.le_refl _, rfl, fun _ h => h, fun _ h => h, fun _ h => h, fun h => h⟩

theorem Fuses.Grows.trans {f g h : Fuses} (a : f.Grows g) (b : g.Grows h) : f.Grows h :=
  ⟨Nat.le_trans a.life b.life, b.slots.trans a.slots, fun k x => b.keys k (a.keys k x), fun k x => b.revoked k (a.revoked k x),
   fun k x => b.bad k (a.bad k x), fun x => b.desc (a.desc x)⟩

/-- From `z` to `s` the queue is the same, canonical tables stay canonical, and the fuse store has only grown. -/
structure Kept (z s : State) : Prop where
  pending : s.pending = z.pending
  tables : z.Canonical → s.Canonical
  fuses : z.fuses.Grows s.fuses

theorem Kept.refl (s : State) : Kept s s := ⟨rfl, fun h => h, Fuses.Grows.refl _⟩

theorem Kept.trans {a b c : State} (h : Kept a b) (k : Kept b c) : Kept a c :=
  ⟨k.pending.trans h.pending, fun x => k.tables (h.tables x), h.fuses.trans k.fuses⟩

/-- An update of fields that are no tables, nor the queue, nor the fuse store. -/
theorem Kept.upd {z s : State} (h : Kept z s) (msixPba' : Nat) (startup' : Startup) (resetN' : Bool) (mode' : Mode) (frame' : Nat) (time' : Nat) (faultN' : List FaultReason) (stewardOn' : Bool) (evRing' : List Event) (evSeq' : W32) (evLost' : Bool) (writeback' : List (Option Nat)) (cmds' : List Cmd) (changes' : List Pend) (desc' : List Host.Cell) (trace' : List W32) (pair' : PairX) (ledg' : LedgX) (fetches' : List Fetch) (hung' : List Hung) (captures' : List Capture) (onceDone' : List Nat) (gate' : GateX) (mill' : MillX) (jtag' : JtagX) (aon' : AonX) (progNext' : Nat) (shst' : List SharedStore) (wvrResetting' : List Nat) (pblkPending' : List (Nat × W32 × Option CmdHead)) (tallyX' : TallyX) (pkts' : List Packet) (pktNext' : Nat) (joinNext' : Nat) (qFlushed' : List Nat) (repairA' : Option RepairRec) (repairB' : Option RepairRec) (flowBad' : List Nat) (bell' : BellX) (free' : Nat) (out' : List Out) :
    Kept z { s with msixPba := msixPba', startup := startup', resetN := resetN', mode := mode', frame := frame', time := time', faultN := faultN', stewardOn := stewardOn', evRing := evRing', evSeq := evSeq', evLost := evLost', writeback := writeback', cmds := cmds', changes := changes', desc := desc', trace := trace', pair := pair', ledg := ledg', fetches := fetches', hung := hung', captures := captures', onceDone := onceDone', gate := gate', mill := mill', jtag := jtag', aon := aon', progNext := progNext', shst := shst', wvrResetting := wvrResetting', pblkPending := pblkPending', tallyX := tallyX', pkts := pkts', pktNext := pktNext', joinNext := joinNext', qFlushed := qFlushed', repairA := repairA', repairB := repairB', flowBad := flowBad', bell := bell', free := free', out := out' } :=
  ⟨h.pending, fun c => let k := h.tables c; ⟨k.regs, k.mem, k.msixTable, k.msixCount, k.progs, k.engs, k.units, k.shadow, k.pblk, k.tally, k.injs, k.lanes, k.aligns, k.vtfs, k.bips, k.cals, k.chans, k.ends, k.xc, k.banks, k.flows, k.fifos, k.groups, k.refs, k.skeys⟩, h.fuses⟩

/-- Table `regs` replaced by a canonical one. -/
theorem Kept.regs {z s : State} (h : Kept z s) (x : Tab W32) (hx : z.Canonical → Tab.wf (regReset) x = true) :
    Kept z { s with regs := x } :=
  ⟨h.pending, fun c => { h.tables c with regs := hx c }, h.fuses⟩

/-- Table `mem` replaced by a canonical one. -/
theorem Kept.mem {z s : State} (h : Kept z s) (x : List Host.Cell) (hx : z.Canonical → Memory.wf x = true) :
    Kept z { s with mem := x } :=
  ⟨h.pending, fun c => { h.tables c with mem := hx c }, h.fuses⟩

/-- Table `msixTable` replaced by a canonical one. -/
theorem Kept.msixTable {z s : State} (h : Kept z s) (x : Tab W32) (hx : z.Canonical → Tab.wf (fun a => if a % 16 = 12 then 1 else 0) x = true) :
    Kept z { s with msixTable := x } :=
  ⟨h.pending, fun c => { h.tables c with msixTable := hx c }, h.fuses⟩

/-- Table `msixCount` replaced by a canonical one. -/
theorem Kept.msixCount {z s : State} (h : Kept z s) (x : Tab Nat) (hx : z.Canonical → Tab.wf (fun _ => 0) x = true) :
    Kept z { s with msixCount := x } :=
  ⟨h.pending, fun c => { h.tables c with msixCount := hx c }, h.fuses⟩

/-- Table `progs` replaced by a canonical one. -/
theorem Kept.progs {z s : State} (h : Kept z s) (x : Tab (Option Prog)) (hx : z.Canonical → Tab.wf (fun _ => none) x = true) :
    Kept z { s with progs := x } :=
  ⟨h.pending, fun c => { h.tables c with progs := hx c }, h.fuses⟩

/-- Table `engs` replaced by a canonical one. -/
theorem Kept.engs {z s : State} (h : Kept z s) (x : Tab Eng) (hx : z.Canonical → Tab.wf (fun _ => Eng.init) x = true) :
    Kept z { s with engs := x } :=
  ⟨h.pending, fun c => { h.tables c with engs := hx c }, h.fuses⟩

/-- Table `units` replaced by a canonical one. -/
theorem Kept.units {z s : State} (h : Kept z s) (x : Tab (Option Nat)) (hx : z.Canonical → Tab.wf (fun _ => none) x = true) :
    Kept z { s with units := x } :=
  ⟨h.pending, fun c => { h.tables c with units := hx c }, h.fuses⟩

/-- Table `shadow` replaced by a canonical one. -/
theorem Kept.shadow {z s : State} (h : Kept z s) (x : Tab (Option W32)) (hx : z.Canonical → Tab.wf (fun _ => none) x = true) :
    Kept z { s with shadow := x } :=
  ⟨h.pending, fun c => { h.tables c with shadow := hx c }, h.fuses⟩

/-- Table `pblk` replaced by a canonical one. -/
theorem Kept.pblk {z s : State} (h : Kept z s) (x : Tab W32) (hx : z.Canonical → Tab.wf (fun _ => 0) x = true) :
    Kept z { s with pblk := x } :=
  ⟨h.pending, fun c => { h.tables c with pblk := hx c }, h.fuses⟩

/-- Table `tally` replaced by a canonical one. -/
theorem Kept.tally {z s : State} (h : Kept z s) (x : Tab Nat) (hx : z.Canonical → Tab.wf (fun _ => 0) x = true) :
    Kept z { s with tally := x } :=
  ⟨h.pending, fun c => { h.tables c with tally := hx c }, h.fuses⟩

/-- Table `injs` replaced by a canonical one. -/
theorem Kept.injs {z s : State} (h : Kept z s) (x : Tab InjX) (hx : z.Canonical → Tab.wf (fun _ => InjX.init) x = true) :
    Kept z { s with injs := x } :=
  ⟨h.pending, fun c => { h.tables c with injs := hx c }, h.fuses⟩

/-- Table `lanes` replaced by a canonical one. -/
theorem Kept.lanes {z s : State} (h : Kept z s) (x : Tab LaneX) (hx : z.Canonical → Tab.wf (fun _ => LaneX.init) x = true) :
    Kept z { s with lanes := x } :=
  ⟨h.pending, fun c => { h.tables c with lanes := hx c }, h.fuses⟩

/-- Table `aligns` replaced by a canonical one. -/
theorem Kept.aligns {z s : State} (h : Kept z s) (x : Tab AlignX) (hx : z.Canonical → Tab.wf (fun _ => AlignX.init) x = true) :
    Kept z { s with aligns := x } :=
  ⟨h.pending, fun c => { h.tables c with aligns := hx c }, h.fuses⟩

/-- Table `vtfs` replaced by a canonical one. -/
theorem Kept.vtfs {z s : State} (h : Kept z s) (x : Tab VtfX) (hx : z.Canonical → Tab.wf (fun _ => VtfX.init) x = true) :
    Kept z { s with vtfs := x } :=
  ⟨h.pending, fun c => { h.tables c with vtfs := hx c }, h.fuses⟩

/-- Table `bips` replaced by a canonical one. -/
theorem Kept.bips {z s : State} (h : Kept z s) (x : Tab BipX) (hx : z.Canonical → Tab.wf (fun _ => BipX.init) x = true) :
    Kept z { s with bips := x } :=
  ⟨h.pending, fun c => { h.tables c with bips := hx c }, h.fuses⟩

/-- Table `cals` replaced by a canonical one. -/
theorem Kept.cals {z s : State} (h : Kept z s) (x : Tab W32) (hx : z.Canonical → Tab.wf (fun _ => 0) x = true) :
    Kept z { s with cals := x } :=
  ⟨h.pending, fun c => { h.tables c with cals := hx c }, h.fuses⟩

/-- Table `chans` replaced by a canonical one. -/
theorem Kept.chans {z s : State} (h : Kept z s) (x : Tab ChanX) (hx : z.Canonical → Tab.wf (fun _ => ChanX.init) x = true) :
    Kept z { s with chans := x } :=
  ⟨h.pending, fun c => { h.tables c with chans := hx c }, h.fuses⟩

/-- Table `ends` replaced by a canonical one. -/
theorem Kept.ends {z s : State} (h : Kept z s) (x : Tab EndX) (hx : z.Canonical → Tab.wf (fun _ => EndX.init) x = true) :
    Kept z { s with ends := x } :=
  ⟨h.pending, fun c => { h.tables c with ends := hx c }, h.fuses⟩

/-- Table `xc` replaced by a canonical one. -/
theorem Kept.xc {z s : State} (h : Kept z s) (x : Tab XcEnd) (hx : z.Canonical → Tab.wf (fun _ => XcEnd.init) x = true) :
    Kept z { s with xc := x } :=
  ⟨h.pending, fun c => { h.tables c with xc := hx c }, h.fuses⟩

/-- Table `banks` replaced by a canonical one. -/
theorem Kept.banks {z s : State} (h : Kept z s) (x : Tab BankX) (hx : z.Canonical → Tab.wf (fun _ => BankX.init) x = true) :
    Kept z { s with banks := x } :=
  ⟨h.pending, fun c => { h.tables c with banks := hx c }, h.fuses⟩

/-- Table `flows` replaced by a canonical one. -/
theorem Kept.flows {z s : State} (h : Kept z s) (x : Tab (Option (Nat × Nat))) (hx : z.Canonical → Tab.wf (fun _ => none) x = true) :
    Kept z { s with flows := x } :=
  ⟨h.pending, fun c => { h.tables c with flows := hx c }, h.fuses⟩

/-- Table `fifos` replaced by a canonical one. -/
theorem Kept.fifos {z s : State} (h : Kept z s) (x : Tab Fifo) (hx : z.Canonical → Tab.wf (fun _ => Fifo.init) x = true) :
    Kept z { s with fifos := x } :=
  ⟨h.pending, fun c => { h.tables c with fifos := hx c }, h.fuses⟩

/-- Table `groups` replaced by a canonical one. -/
theorem Kept.groups {z s : State} (h : Kept z s) (x : Tab Group) (hx : z.Canonical → Tab.wf (fun _ => Group.init) x = true) :
    Kept z { s with groups := x } :=
  ⟨h.pending, fun c => { h.tables c with groups := hx c }, h.fuses⟩

/-- Table `refs` replaced by a canonical one. -/
theorem Kept.refs {z s : State} (h : Kept z s) (x : Tab RefX) (hx : z.Canonical → Tab.wf (fun _ => RefX.init) x = true) :
    Kept z { s with refs := x } :=
  ⟨h.pending, fun c => { h.tables c with refs := hx c }, h.fuses⟩

/-- Table `skeys` replaced by a canonical one. -/
theorem Kept.skeys {z s : State} (h : Kept z s) (x : Tab KeySlot) (hx : z.Canonical → Tab.wf (fun _ => KeySlot.init) x = true) :
    Kept z { s with skeys := x } :=
  ⟨h.pending, fun c => { h.tables c with skeys := hx c }, h.fuses⟩

/-- One entry of `regs` written. -/
theorem Kept.regs_put {z s : State} (h : Kept z s) (k : Nat) (v : W32) : Kept z { s with regs := Tab.put (regReset k) s.regs k v } :=
  h.regs _ (fun c => Tab.wf_put (regReset) _ k v (h.tables c).regs)

/-- Table `regs` emptied. -/
theorem Kept.regs_clear {z s : State} (h : Kept z s) : Kept z { s with regs := [] } := h.regs _ (fun _ => rfl)

/-- Entries of `regs` dropped. -/
theorem Kept.regs_drop {z s : State} (h : Kept z s) (p : Nat → Bool) : Kept z { s with regs := Tab.drop p s.regs } :=
  h.regs _ (fun c => Tab.wf_drop (regReset) p _ (h.tables c).regs)

/-- One entry of `msixTable` written. -/
theorem Kept.msixTable_put {z s : State} (h : Kept z s) (k : Nat) (v : W32) : Kept z { s with msixTable := Tab.put (if k % 16 = 12 then 1 else 0) s.msixTable k v } :=
  h.msixTable _ (fun c => Tab.wf_put (fun a => if a % 16 = 12 then 1 else 0) _ k v (h.tables c).msixTable)

/-- Table `msixTable` emptied. -/
theorem Kept.msixTable_clear {z s : State} (h : Kept z s) : Kept z { s with msixTable := [] } := h.msixTable _ (fun _ => rfl)

/-- Entries of `msixTable` dropped. -/
theorem Kept.msixTable_drop {z s : State} (h : Kept z s) (p : Nat → Bool) : Kept z { s with msixTable := Tab.drop p s.msixTable } :=
  h.msixTable _ (fun c => Tab.wf_drop (fun a => if a % 16 = 12 then 1 else 0) p _ (h.tables c).msixTable)

/-- One entry of `msixCount` written. -/
theorem Kept.msixCount_put {z s : State} (h : Kept z s) (k : Nat) (v : Nat) : Kept z { s with msixCount := Tab.put 0 s.msixCount k v } :=
  h.msixCount _ (fun c => Tab.wf_put (fun _ => 0) _ k v (h.tables c).msixCount)

/-- Table `msixCount` emptied. -/
theorem Kept.msixCount_clear {z s : State} (h : Kept z s) : Kept z { s with msixCount := [] } := h.msixCount _ (fun _ => rfl)

/-- Entries of `msixCount` dropped. -/
theorem Kept.msixCount_drop {z s : State} (h : Kept z s) (p : Nat → Bool) : Kept z { s with msixCount := Tab.drop p s.msixCount } :=
  h.msixCount _ (fun c => Tab.wf_drop (fun _ => 0) p _ (h.tables c).msixCount)

/-- One entry of `progs` written. -/
theorem Kept.progs_put {z s : State} (h : Kept z s) (k : Nat) (v : Option Prog) : Kept z { s with progs := Tab.put none s.progs k v } :=
  h.progs _ (fun c => Tab.wf_put (fun _ => none) _ k v (h.tables c).progs)

/-- Table `progs` emptied. -/
theorem Kept.progs_clear {z s : State} (h : Kept z s) : Kept z { s with progs := [] } := h.progs _ (fun _ => rfl)

/-- Entries of `progs` dropped. -/
theorem Kept.progs_drop {z s : State} (h : Kept z s) (p : Nat → Bool) : Kept z { s with progs := Tab.drop p s.progs } :=
  h.progs _ (fun c => Tab.wf_drop (fun _ => none) p _ (h.tables c).progs)

/-- One entry of `engs` written. -/
theorem Kept.engs_put {z s : State} (h : Kept z s) (k : Nat) (v : Eng) : Kept z { s with engs := Tab.put Eng.init s.engs k v } :=
  h.engs _ (fun c => Tab.wf_put (fun _ => Eng.init) _ k v (h.tables c).engs)

/-- Table `engs` emptied. -/
theorem Kept.engs_clear {z s : State} (h : Kept z s) : Kept z { s with engs := [] } := h.engs _ (fun _ => rfl)

/-- Entries of `engs` dropped. -/
theorem Kept.engs_drop {z s : State} (h : Kept z s) (p : Nat → Bool) : Kept z { s with engs := Tab.drop p s.engs } :=
  h.engs _ (fun c => Tab.wf_drop (fun _ => Eng.init) p _ (h.tables c).engs)

/-- One entry of `units` written. -/
theorem Kept.units_put {z s : State} (h : Kept z s) (k : Nat) (v : Option Nat) : Kept z { s with units := Tab.put none s.units k v } :=
  h.units _ (fun c => Tab.wf_put (fun _ => none) _ k v (h.tables c).units)

/-- Table `units` emptied. -/
theorem Kept.units_clear {z s : State} (h : Kept z s) : Kept z { s with units := [] } := h.units _ (fun _ => rfl)

/-- Entries of `units` dropped. -/
theorem Kept.units_drop {z s : State} (h : Kept z s) (p : Nat → Bool) : Kept z { s with units := Tab.drop p s.units } :=
  h.units _ (fun c => Tab.wf_drop (fun _ => none) p _ (h.tables c).units)

/-- One entry of `shadow` written. -/
theorem Kept.shadow_put {z s : State} (h : Kept z s) (k : Nat) (v : Option W32) : Kept z { s with shadow := Tab.put none s.shadow k v } :=
  h.shadow _ (fun c => Tab.wf_put (fun _ => none) _ k v (h.tables c).shadow)

/-- Table `shadow` emptied. -/
theorem Kept.shadow_clear {z s : State} (h : Kept z s) : Kept z { s with shadow := [] } := h.shadow _ (fun _ => rfl)

/-- Entries of `shadow` dropped. -/
theorem Kept.shadow_drop {z s : State} (h : Kept z s) (p : Nat → Bool) : Kept z { s with shadow := Tab.drop p s.shadow } :=
  h.shadow _ (fun c => Tab.wf_drop (fun _ => none) p _ (h.tables c).shadow)

/-- One entry of `pblk` written. -/
theorem Kept.pblk_put {z s : State} (h : Kept z s) (k : Nat) (v : W32) : Kept z { s with pblk := Tab.put 0 s.pblk k v } :=
  h.pblk _ (fun c => Tab.wf_put (fun _ => 0) _ k v (h.tables c).pblk)

/-- Table `pblk` emptied. -/
theorem Kept.pblk_clear {z s : State} (h : Kept z s) : Kept z { s with pblk := [] } := h.pblk _ (fun _ => rfl)

/-- Entries of `pblk` dropped. -/
theorem Kept.pblk_drop {z s : State} (h : Kept z s) (p : Nat → Bool) : Kept z { s with pblk := Tab.drop p s.pblk } :=
  h.pblk _ (fun c => Tab.wf_drop (fun _ => 0) p _ (h.tables c).pblk)

/-- One entry of `tally` written. -/
theorem Kept.tally_put {z s : State} (h : Kept z s) (k : Nat) (v : Nat) : Kept z { s with tally := Tab.put 0 s.tally k v } :=
  h.tally _ (fun c => Tab.wf_put (fun _ => 0) _ k v (h.tables c).tally)

/-- Table `tally` emptied. -/
theorem Kept.tally_clear {z s : State} (h : Kept z s) : Kept z { s with tally := [] } := h.tally _ (fun _ => rfl)

/-- Entries of `tally` dropped. -/
theorem Kept.tally_drop {z s : State} (h : Kept z s) (p : Nat → Bool) : Kept z { s with tally := Tab.drop p s.tally } :=
  h.tally _ (fun c => Tab.wf_drop (fun _ => 0) p _ (h.tables c).tally)

/-- One entry of `injs` written. -/
theorem Kept.injs_put {z s : State} (h : Kept z s) (k : Nat) (v : InjX) : Kept z { s with injs := Tab.put InjX.init s.injs k v } :=
  h.injs _ (fun c => Tab.wf_put (fun _ => InjX.init) _ k v (h.tables c).injs)

/-- Table `injs` emptied. -/
theorem Kept.injs_clear {z s : State} (h : Kept z s) : Kept z { s with injs := [] } := h.injs _ (fun _ => rfl)

/-- Entries of `injs` dropped. -/
theorem Kept.injs_drop {z s : State} (h : Kept z s) (p : Nat → Bool) : Kept z { s with injs := Tab.drop p s.injs } :=
  h.injs _ (fun c => Tab.wf_drop (fun _ => InjX.init) p _ (h.tables c).injs)

/-- One entry of `lanes` written. -/
theorem Kept.lanes_put {z s : State} (h : Kept z s) (k : Nat) (v : LaneX) : Kept z { s with lanes := Tab.put LaneX.init s.lanes k v } :=
  h.lanes _ (fun c => Tab.wf_put (fun _ => LaneX.init) _ k v (h.tables c).lanes)

/-- Table `lanes` emptied. -/
theorem Kept.lanes_clear {z s : State} (h : Kept z s) : Kept z { s with lanes := [] } := h.lanes _ (fun _ => rfl)

/-- Entries of `lanes` dropped. -/
theorem Kept.lanes_drop {z s : State} (h : Kept z s) (p : Nat → Bool) : Kept z { s with lanes := Tab.drop p s.lanes } :=
  h.lanes _ (fun c => Tab.wf_drop (fun _ => LaneX.init) p _ (h.tables c).lanes)

/-- One entry of `aligns` written. -/
theorem Kept.aligns_put {z s : State} (h : Kept z s) (k : Nat) (v : AlignX) : Kept z { s with aligns := Tab.put AlignX.init s.aligns k v } :=
  h.aligns _ (fun c => Tab.wf_put (fun _ => AlignX.init) _ k v (h.tables c).aligns)

/-- Table `aligns` emptied. -/
theorem Kept.aligns_clear {z s : State} (h : Kept z s) : Kept z { s with aligns := [] } := h.aligns _ (fun _ => rfl)

/-- Entries of `aligns` dropped. -/
theorem Kept.aligns_drop {z s : State} (h : Kept z s) (p : Nat → Bool) : Kept z { s with aligns := Tab.drop p s.aligns } :=
  h.aligns _ (fun c => Tab.wf_drop (fun _ => AlignX.init) p _ (h.tables c).aligns)

/-- One entry of `vtfs` written. -/
theorem Kept.vtfs_put {z s : State} (h : Kept z s) (k : Nat) (v : VtfX) : Kept z { s with vtfs := Tab.put VtfX.init s.vtfs k v } :=
  h.vtfs _ (fun c => Tab.wf_put (fun _ => VtfX.init) _ k v (h.tables c).vtfs)

/-- Table `vtfs` emptied. -/
theorem Kept.vtfs_clear {z s : State} (h : Kept z s) : Kept z { s with vtfs := [] } := h.vtfs _ (fun _ => rfl)

/-- Entries of `vtfs` dropped. -/
theorem Kept.vtfs_drop {z s : State} (h : Kept z s) (p : Nat → Bool) : Kept z { s with vtfs := Tab.drop p s.vtfs } :=
  h.vtfs _ (fun c => Tab.wf_drop (fun _ => VtfX.init) p _ (h.tables c).vtfs)

/-- One entry of `bips` written. -/
theorem Kept.bips_put {z s : State} (h : Kept z s) (k : Nat) (v : BipX) : Kept z { s with bips := Tab.put BipX.init s.bips k v } :=
  h.bips _ (fun c => Tab.wf_put (fun _ => BipX.init) _ k v (h.tables c).bips)

/-- Table `bips` emptied. -/
theorem Kept.bips_clear {z s : State} (h : Kept z s) : Kept z { s with bips := [] } := h.bips _ (fun _ => rfl)

/-- Entries of `bips` dropped. -/
theorem Kept.bips_drop {z s : State} (h : Kept z s) (p : Nat → Bool) : Kept z { s with bips := Tab.drop p s.bips } :=
  h.bips _ (fun c => Tab.wf_drop (fun _ => BipX.init) p _ (h.tables c).bips)

/-- One entry of `cals` written. -/
theorem Kept.cals_put {z s : State} (h : Kept z s) (k : Nat) (v : W32) : Kept z { s with cals := Tab.put 0 s.cals k v } :=
  h.cals _ (fun c => Tab.wf_put (fun _ => 0) _ k v (h.tables c).cals)

/-- Table `cals` emptied. -/
theorem Kept.cals_clear {z s : State} (h : Kept z s) : Kept z { s with cals := [] } := h.cals _ (fun _ => rfl)

/-- Entries of `cals` dropped. -/
theorem Kept.cals_drop {z s : State} (h : Kept z s) (p : Nat → Bool) : Kept z { s with cals := Tab.drop p s.cals } :=
  h.cals _ (fun c => Tab.wf_drop (fun _ => 0) p _ (h.tables c).cals)

/-- One entry of `chans` written. -/
theorem Kept.chans_put {z s : State} (h : Kept z s) (k : Nat) (v : ChanX) : Kept z { s with chans := Tab.put ChanX.init s.chans k v } :=
  h.chans _ (fun c => Tab.wf_put (fun _ => ChanX.init) _ k v (h.tables c).chans)

/-- Table `chans` emptied. -/
theorem Kept.chans_clear {z s : State} (h : Kept z s) : Kept z { s with chans := [] } := h.chans _ (fun _ => rfl)

/-- Entries of `chans` dropped. -/
theorem Kept.chans_drop {z s : State} (h : Kept z s) (p : Nat → Bool) : Kept z { s with chans := Tab.drop p s.chans } :=
  h.chans _ (fun c => Tab.wf_drop (fun _ => ChanX.init) p _ (h.tables c).chans)

/-- One entry of `ends` written. -/
theorem Kept.ends_put {z s : State} (h : Kept z s) (k : Nat) (v : EndX) : Kept z { s with ends := Tab.put EndX.init s.ends k v } :=
  h.ends _ (fun c => Tab.wf_put (fun _ => EndX.init) _ k v (h.tables c).ends)

/-- Table `ends` emptied. -/
theorem Kept.ends_clear {z s : State} (h : Kept z s) : Kept z { s with ends := [] } := h.ends _ (fun _ => rfl)

/-- Entries of `ends` dropped. -/
theorem Kept.ends_drop {z s : State} (h : Kept z s) (p : Nat → Bool) : Kept z { s with ends := Tab.drop p s.ends } :=
  h.ends _ (fun c => Tab.wf_drop (fun _ => EndX.init) p _ (h.tables c).ends)

/-- One entry of `xc` written. -/
theorem Kept.xc_put {z s : State} (h : Kept z s) (k : Nat) (v : XcEnd) : Kept z { s with xc := Tab.put XcEnd.init s.xc k v } :=
  h.xc _ (fun c => Tab.wf_put (fun _ => XcEnd.init) _ k v (h.tables c).xc)

/-- Table `xc` emptied. -/
theorem Kept.xc_clear {z s : State} (h : Kept z s) : Kept z { s with xc := [] } := h.xc _ (fun _ => rfl)

/-- Entries of `xc` dropped. -/
theorem Kept.xc_drop {z s : State} (h : Kept z s) (p : Nat → Bool) : Kept z { s with xc := Tab.drop p s.xc } :=
  h.xc _ (fun c => Tab.wf_drop (fun _ => XcEnd.init) p _ (h.tables c).xc)

/-- One entry of `banks` written. -/
theorem Kept.banks_put {z s : State} (h : Kept z s) (k : Nat) (v : BankX) : Kept z { s with banks := Tab.put BankX.init s.banks k v } :=
  h.banks _ (fun c => Tab.wf_put (fun _ => BankX.init) _ k v (h.tables c).banks)

/-- Table `banks` emptied. -/
theorem Kept.banks_clear {z s : State} (h : Kept z s) : Kept z { s with banks := [] } := h.banks _ (fun _ => rfl)

/-- Entries of `banks` dropped. -/
theorem Kept.banks_drop {z s : State} (h : Kept z s) (p : Nat → Bool) : Kept z { s with banks := Tab.drop p s.banks } :=
  h.banks _ (fun c => Tab.wf_drop (fun _ => BankX.init) p _ (h.tables c).banks)

/-- One entry of `flows` written. -/
theorem Kept.flows_put {z s : State} (h : Kept z s) (k : Nat) (v : Option (Nat × Nat)) : Kept z { s with flows := Tab.put none s.flows k v } :=
  h.flows _ (fun c => Tab.wf_put (fun _ => none) _ k v (h.tables c).flows)

/-- Table `flows` emptied. -/
theorem Kept.flows_clear {z s : State} (h : Kept z s) : Kept z { s with flows := [] } := h.flows _ (fun _ => rfl)

/-- Entries of `flows` dropped. -/
theorem Kept.flows_drop {z s : State} (h : Kept z s) (p : Nat → Bool) : Kept z { s with flows := Tab.drop p s.flows } :=
  h.flows _ (fun c => Tab.wf_drop (fun _ => none) p _ (h.tables c).flows)

/-- One entry of `fifos` written. -/
theorem Kept.fifos_put {z s : State} (h : Kept z s) (k : Nat) (v : Fifo) : Kept z { s with fifos := Tab.put Fifo.init s.fifos k v } :=
  h.fifos _ (fun c => Tab.wf_put (fun _ => Fifo.init) _ k v (h.tables c).fifos)

/-- Table `fifos` emptied. -/
theorem Kept.fifos_clear {z s : State} (h : Kept z s) : Kept z { s with fifos := [] } := h.fifos _ (fun _ => rfl)

/-- Entries of `fifos` dropped. -/
theorem Kept.fifos_drop {z s : State} (h : Kept z s) (p : Nat → Bool) : Kept z { s with fifos := Tab.drop p s.fifos } :=
  h.fifos _ (fun c => Tab.wf_drop (fun _ => Fifo.init) p _ (h.tables c).fifos)

/-- One entry of `groups` written. -/
theorem Kept.groups_put {z s : State} (h : Kept z s) (k : Nat) (v : Group) : Kept z { s with groups := Tab.put Group.init s.groups k v } :=
  h.groups _ (fun c => Tab.wf_put (fun _ => Group.init) _ k v (h.tables c).groups)

/-- Table `groups` emptied. -/
theorem Kept.groups_clear {z s : State} (h : Kept z s) : Kept z { s with groups := [] } := h.groups _ (fun _ => rfl)

/-- Entries of `groups` dropped. -/
theorem Kept.groups_drop {z s : State} (h : Kept z s) (p : Nat → Bool) : Kept z { s with groups := Tab.drop p s.groups } :=
  h.groups _ (fun c => Tab.wf_drop (fun _ => Group.init) p _ (h.tables c).groups)

/-- One entry of `refs` written. -/
theorem Kept.refs_put {z s : State} (h : Kept z s) (k : Nat) (v : RefX) : Kept z { s with refs := Tab.put RefX.init s.refs k v } :=
  h.refs _ (fun c => Tab.wf_put (fun _ => RefX.init) _ k v (h.tables c).refs)

/-- Table `refs` emptied. -/
theorem Kept.refs_clear {z s : State} (h : Kept z s) : Kept z { s with refs := [] } := h.refs _ (fun _ => rfl)

/-- Entries of `refs` dropped. -/
theorem Kept.refs_drop {z s : State} (h : Kept z s) (p : Nat → Bool) : Kept z { s with refs := Tab.drop p s.refs } :=
  h.refs _ (fun c => Tab.wf_drop (fun _ => RefX.init) p _ (h.tables c).refs)

/-- One entry of `skeys` written. -/
theorem Kept.skeys_put {z s : State} (h : Kept z s) (k : Nat) (v : KeySlot) : Kept z { s with skeys := Tab.put KeySlot.init s.skeys k v } :=
  h.skeys _ (fun c => Tab.wf_put (fun _ => KeySlot.init) _ k v (h.tables c).skeys)

/-- Table `skeys` emptied. -/
theorem Kept.skeys_clear {z s : State} (h : Kept z s) : Kept z { s with skeys := [] } := h.skeys _ (fun _ => rfl)

/-- Entries of `skeys` dropped. -/
theorem Kept.skeys_drop {z s : State} (h : Kept z s) (p : Nat → Bool) : Kept z { s with skeys := Tab.drop p s.skeys } :=
  h.skeys _ (fun c => Tab.wf_drop (fun _ => KeySlot.init) p _ (h.tables c).skeys)

/-- A choice keeps what both of its sides keep. -/
theorem Kept.ite {z a b : State} {c : Prop} [Decidable c] (ha : Kept z a) (hb : Kept z b) : Kept z (if c then a else b) := by
  split
  · exact ha
  · exact hb

/-- A choice between pairs whose second part is the state. -/
theorem Kept.ite_snd {α : Type} {z : State} {a b : α × State} {c : Prop} [Decidable c] (ha : Kept z a.2) (hb : Kept z b.2) :
    Kept z (if c then a else b).2 := by
  split
  · exact ha
  · exact hb

/-- A fold keeps what each of its steps keeps. -/
theorem Kept.foldl {α : Type} {z s : State} {f : State → α → State} {l : List α} (hf : ∀ u a, Kept z u → Kept z (f u a)) (h : Kept z s) :
    Kept z (l.foldl f s) := by
  induction l generalizing s with
  | nil => exact h
  | cons a l ih => exact ih (hf s a h)

/-- A counted loop keeps what each of its steps keeps. -/
theorem Kept.iter {z s : State} {f : Nat → State → State} {lo n : Nat} (hf : ∀ i u, Kept z u → Kept z (f i u)) (h : Kept z s) :
    Kept z (iter f lo n s) := by
  induction n generalizing s lo with
  | zero => exact h
  | succ n ih => exact ih (hf lo s h)

/-- A fold over a pair whose second part is the state. -/
theorem Kept.foldl2 {α β : Type} {z : State} {f : β × State → α → β × State} {l : List α} {p : β × State}
    (hf : ∀ u a, Kept z u.2 → Kept z (f u a).2) (h : Kept z p.2) : Kept z (l.foldl f p).2 := by
  induction l generalizing p with
  | nil => exact h
  | cons a l ih => exact ih (hf p a h)

/-- The second part of a pair known by an equation. -/
theorem Kept.snd {α : Type} {z u : State} {a : α} {p : α × State} (h : Kept z p.2) (e : p = (a, u)) : Kept z u := by subst e; exact h

/-- An intermediate state whose standing is shown once. -/
theorem Kept.thru {z u : State} {P : Prop} (h : Kept z u) (k : Kept z u → P) : P := k h

/-- An intermediate state that comes with a value, whose standing is shown once. -/
theorem Kept.thruE {α : Type} {z u : State} {P : Prop} {a : α} {p : α × State} (e : p = (a, u)) (h : Kept z p.2) (k : Kept z u → P) : P :=
  k (Kept.snd h e)

/-- The same before a value. -/
theorem Kept.thruE1 {α : Type} {z u : State} {P : Prop} {a : α} {p : State × α} (e : p = (u, a)) (h : Kept z p.1) (k : Kept z u → P) : P := by
  subst e; exact k h

/-- The same behind two values. -/
theorem Kept.thruE2 {α β : Type} {z u : State} {P : Prop} {a : α} {b : β} {p : α × β × State} (e : p = (a, b, u)) (h : Kept z p.2.2)
    (k : Kept z u → P) : P := by
  subst e; exact k h

/-- The same between three values. -/
theorem Kept.thruE3 {α β γ : Type} {z u : State} {P : Prop} {a : α} {b : β} {c : γ} {p : α × β × State × γ} (e : p = (a, b, u, c))
    (h : Kept z p.2.2.1) (k : Kept z u → P) : P := by
  subst e; exact k h

/-- The second part of a pair that is known. -/
theorem Kept.pair {α : Type} {z u : State} {a : α} {p : α × State} (e : p = (a, u)) (h : Kept z u) : Kept z p.2 := by subst e; exact h

/-- What a command's outcome keeps. -/
def Keeps (z : State) (r : Res) : Prop := ∀ t, r = .next t → Kept z t

/-- A choice between outcomes. -/
theorem Keeps.ite {z : State} {a b : Res} {c : Prop} [Decidable c] (ha : Keeps z a) (hb : Keeps z b) : Keeps z (if c then a else b) := by
  split
  · exact ha
  · exact hb

theorem Keeps.next {z s : State} (h : Kept z s) : Keeps z (.next s) := by
  intro t e; cases e; exact h

end Sys2Proof.Machine
end

