-- ==== Sys2Proof/Laws/KeptAux.lean ====
section
/-! SUPPORT. What the walk over the operations needs of rebuilt tables, of the flow table and of the fuse store. -/
namespace Sys2Proof.Machine

/-- A rebuilt table is canonical. -/
theorem Tab.wf_rebuild {α : Type} [DecidableEq α] (d : Nat → α) (t : Tab α) : Tab.wf d (Tab.rebuild d t) = true := by
  have step : ∀ (l : Tab α) (a : Tab α), Tab.wf d a = true → Tab.wf d (l.foldl (fun a e => Tab.put (d e.1) a e.1 e.2) a) = true := by
    intro l
    induction l with
    | nil => intro a h; exact h
    | cons e l ih => intro a h; exact ih _ (Tab.wf_put d a e.1 e.2 h)
  exact step t [] rfl

theorem wf_placeIn (key0 n : Nat) : ∀ (flows : Tab (Option (Nat × Nat))) (k f b : Nat) (t : Tab (Option (Nat × Nat))),
    Tab.wf (fun _ => none) flows = true → placeIn flows key0 k f b n = some t → Tab.wf (fun _ => none) t = true := by
  induction n with
  | zero =>
    intro flows k f b t h e
    unfold placeIn at e
    obtain ⟨x, -, rfl⟩ := Option.map_eq_some_iff.mp e
    exact Tab.wf_put (fun _ => none) _ _ _ h
  | succ n ih =>
    intro flows k f b t h e
    unfold placeIn at e
    split at e
    · cases e; exact Tab.wf_put (fun _ => none) _ _ _ h
    · dsimp only at e
      split at e
      · cases e
      · exact ih _ _ _ _ _ (Tab.wf_put (fun _ => none) _ _ _ h) e

/-- A key placed keeps the flow table canonical. -/
theorem wf_placeFlow {flows : Tab (Option (Nat × Nat))} {k f : Nat} {t : Tab (Option (Nat × Nat))}
    (h : Tab.wf (fun _ => none) flows = true) (e : placeFlow flows k f = some t) : Tab.wf (fun _ => none) t = true := by
  unfold placeFlow at e
  dsimp only at e
  split at e
  · cases e; exact Tab.wf_put (fun _ => none) _ _ _ h
  · cases e; exact Tab.wf_put (fun _ => none) _ _ _ h
  · exact wf_placeIn _ _ _ _ _ _ _ h e

theorem listSet_length {α : Type} (l : List α) (i : Nat) (v : α) : (listSet l i v).length = l.length := by
  induction l generalizing i with
  | nil => rfl
  | cons a l ih => cases i with
    | zero => rfl
    | succ i => simp [listSet, ih]

theorem listSet_isSome {α : Type} (l : List (Option α)) (i : Nat) (v : α) (k : Nat) (h : (l.getD k none).isSome = true) :
    ((listSet l i (some v)).getD k none).isSome = true := by
  induction l generalizing i k with
  | nil => simp at h
  | cons a l ih =>
    cases i with
    | zero => cases k with
      | zero => rfl
      | succ k => exact h
    | succ i => cases k with
      | zero => exact h
      | succ k => simpa [listSet] using ih i k (by simpa using h)

/-- A key slot burned. -/
theorem Fuses.Grows.burn (f : Fuses) (i v : Nat) : f.Grows { f with keys := listSet f.keys i (some v) } :=
  ⟨Nat.le_refl _, listSet_length _ _ _, fun k h => listSet_isSome _ _ _ k h, fun _ h => h, fun _ h => h, fun h => h⟩

/-- A key slot marked as bad and revoked. -/
theorem Fuses.Grows.mark (f : Fuses) (i j : Nat) :
    f.Grows { f with bad := setBitField f.bad i 1 1, revoked := setBitField f.revoked j 1 1 } :=
  ⟨Nat.le_refl _, rfl, fun _ h => h, fun k h => testBit_mark _ _ k h, fun k h => testBit_mark _ _ k h, fun h => h⟩

/-- A key slot revoked. -/
theorem Fuses.Grows.revoke (f : Fuses) (j : Nat) : f.Grows { f with revoked := setBitField f.revoked j 1 1 } :=
  ⟨Nat.le_refl _, rfl, fun _ h => h, fun k h => testBit_mark _ _ k h, fun _ h => h, fun h => h⟩

/-- Bad words found. -/
theorem Fuses.Grows.found (f : Fuses) (b : Nat) : f.Grows { f with bad := f.bad ||| b } :=
  ⟨Nat.le_refl _, rfl, fun _ h => h, fun _ h => h, fun k h => by simp [h], fun h => h⟩

/-- The stage raised. -/
theorem Fuses.Grows.stage (f : Fuses) (n : Nat) : f.Grows { f with life := max f.life n } :=
  ⟨Nat.le_max_left _ _, rfl, fun _ h => h, fun _ h => h, fun _ h => h, fun h => h⟩

/-- The descriptor burned. -/
theorem Fuses.Grows.seal (f : Fuses) (d : List Host.Cell) : f.Grows { f with desc := some d } :=
  ⟨Nat.le_refl _, rfl, fun _ h => h, fun _ h => h, fun _ h => h, fun _ => rfl⟩

/-- A failed read-back leaves the fuse store as it is. -/
theorem State.burnField_fuses (s : State) (good : Bool) : (s.burnField good).2.fuses = s.fuses := by
  unfold State.burnField; split <;> rfl

end Sys2Proof.Machine
end

