-- ==== Sys2Proof/Laws/Kept01.lean ====
section
/-! SUPPORT. What the operations of Ops, LaneBase, GranaryOps, FifoOps, NetOps, BellOps, ProtOps, InjOps, MapOps, DefOps, LaneOps, GrnBanks keep (`Kept`): the queue as it is, the tables canonical, the fuse store one-way. -/
namespace Sys2Proof.Machine

theorem State.emit_kept {z : State} {s : State} {o : Out} (hk : Kept z s) : Kept z (@State.emit s o) := by
  unfold State.emit
  with_reducible refine Kept.upd ?_ ..
  exact hk

theorem State.setEng_kept {z : State} {s : State} {i : Nat} {x : Eng} (hk : Kept z s) : Kept z (@State.setEng s i x) := by
  unfold State.setEng
  with_reducible refine Kept.engs_put ?_ _ _
  exact hk

theorem State.setReg_kept {z : State} {s : State} {a : Nat} {v : W32} (hk : Kept z s) : Kept z (s.setReg a v) := hk.regs_put a v

theorem State.wr_kept {z : State} {s : State} {f : Fld} {i : Nat} {v : Nat} (hk : Kept z s) : Kept z (@State.wr s f i v) := by
  unfold State.wr
  refine State.setReg_kept ?_
  exact hk

theorem State.setAlign_kept {z : State} {s : State} {n : Nat} {x : AlignX} (hk : Kept z s) : Kept z (@State.setAlign s n x) := by
  unfold State.setAlign
  with_reducible refine Kept.aligns_put ?_ _ _
  exact hk

theorem State.setVtf_kept {z : State} {s : State} {n : Nat} {x : VtfX} (hk : Kept z s) : Kept z (@State.setVtf s n x) := by
  unfold State.setVtf
  with_reducible refine Kept.vtfs_put ?_ _ _
  exact hk

theorem State.latch_kept {z : State} {s : State} {f : Fld} {i : Nat} (hk : Kept z s) : Kept z (@State.latch s f i) := by
  unfold State.latch
  refine State.wr_kept ?_
  exact hk

theorem State.loseEvent_kept {z : State} {s : State} (hk : Kept z s) : Kept z (@State.loseEvent s) := by
  unfold State.loseEvent
  extract_lets -merge +onlyGivenNames u1
  have h2 : Kept z u1 := by
    unfold u1
    refine State.latch_kept ?_
    exact hk
  with_reducible refine Kept.upd ?_ ..
  exact h2

theorem State.bump_kept {z : State} {s : State} {f : Fld} {i : Nat} {k : Nat} (hk : Kept z s) : Kept z (@State.bump s f i k) := by
  unfold State.bump
  refine State.wr_kept ?_
  exact hk

theorem State.devAdvance_kept {z : State} {s : State} {x : Nat} (hk : Kept z s) : Kept z (@State.devAdvance s x) := by
  unfold State.devAdvance
  extract_lets -merge +onlyGivenNames u1
  have h2 : Kept z u1 := by
    unfold u1
    refine State.bump_kept ?_
    exact hk
  with_reducible refine Kept.upd ?_ ..
  exact h2

theorem State.sendMsix_kept {z : State} {s : State} {v : Nat} (hk : Kept z s) : Kept z (@State.sendMsix s v) := by
  unfold State.sendMsix
  extract_lets -merge +onlyGivenNames u1
  have h2 : Kept z u1 := by
    unfold u1
    with_reducible refine Kept.msixCount_put ?_ _ _
    exact hk
  refine Kept.ite ?_ ?_
  · with_reducible refine Kept.upd ?_ ..
    exact h2
  · refine State.emit_kept ?_
    exact h2

theorem State.signal_kept {z : State} {s : State} {cls : Nat} (hk : Kept z s) : Kept z (@State.signal s cls) := by
  unfold State.signal
  split
  · exact hk
  · refine Kept.ite ?_ ?_
    · refine State.sendMsix_kept ?_
      exact hk
    · extract_lets -merge +onlyGivenNames u1
      extract_lets -merge +onlyGivenNames u2
      have h3 : Kept z u2 := by
        unfold u2
        with_reducible refine Kept.msixCount_put ?_ _ _
        exact hk
      refine Kept.ite ?_ ?_
      · refine State.sendMsix_kept ?_
        exact h3
      · exact h3

theorem State.fresh_kept {z : State} {s : State} {w : Nat} (hk : Kept z s) : Kept z (@State.fresh s w).2 := by
  unfold State.fresh
  dsimp -zeta only
  with_reducible refine Kept.upd ?_ ..
  exact hk

theorem State.stamp_kept {z : State} {s : State} (hk : Kept z s) : Kept z (@State.stamp s).2 := by
  unfold State.stamp
  split
  rename_i e1
  refine Kept.thruE (z := z) e1 ?_ (fun h2 => ?_)
  · refine State.fresh_kept ?_
    exact hk
  · exact h2

theorem State.putEvent_kept {z : State} {s : State} {cls : Nat} {code : Nat} {ring : Nat} {flags : Nat} {unit : Nat} {detail : Nat} (hk : Kept z s) : Kept z (@State.putEvent s cls code ring flags unit detail) := by
  unfold State.putEvent
  split
  rename_i e1
  refine Kept.thruE (z := z) e1 ?_ (fun h2 => ?_)
  · refine State.stamp_kept ?_
    exact hk
  · extract_lets -merge +onlyGivenNames u3
    extract_lets -merge +onlyGivenNames u4
    have h5 : Kept z u4 := by
      unfold u4
      with_reducible refine Kept.upd ?_ ..
      exact h2
    refine State.signal_kept ?_
    refine State.devAdvance_kept ?_
    exact h5

theorem State.report_kept {z : State} {s : State} {cls : Nat} {code : Nat} {unit : Nat} {detail : Nat} (hk : Kept z s) : Kept z (@State.report s cls code unit detail) := by
  unfold State.report
  refine Kept.ite ?_ ?_
  · refine State.putEvent_kept ?_
    exact hk
  · refine State.loseEvent_kept ?_
    exact hk

theorem State.setChanX_kept {z : State} {s : State} {c : Nat} {x : ChanX} (hk : Kept z s) : Kept z (@State.setChanX s c x) := by
  unfold State.setChanX
  with_reducible refine Kept.chans_put ?_ _ _
  exact hk

theorem State.setPw_kept {z : State} {s : State} {c : Nat} {slot : Nat} {w : Nat} {v : Nat} (hk : Kept z s) : Kept z (@State.setPw s c slot w v) := by
  unfold State.setPw
  with_reducible refine Kept.pblk_put ?_ _ _
  exact hk

theorem State.setLane_kept {z : State} {s : State} {n : Nat} {x : LaneX} (hk : Kept z s) : Kept z (@State.setLane s n x) := by
  unfold State.setLane
  with_reducible refine Kept.lanes_put ?_ _ _
  exact hk

theorem State.count_kept {z : State} {s : State} {i : Nat} {k : Nat} (hk : Kept z s) : Kept z (@State.count s i k) := by
  unfold State.count
  with_reducible refine Kept.tally_put ?_ _ _
  exact hk

theorem State.countC_kept {z : State} {s : State} {c : Nat} {k : Nat} {by_ : Nat} (hk : Kept z s) : Kept z (@State.countC s c k by_) := by
  unfold State.countC
  refine State.count_kept ?_
  exact hk

theorem State.setGroup_kept {z : State} {s : State} {g : Nat} {x : Group} (hk : Kept z s) : Kept z (@State.setGroup s g x) := by
  unfold State.setGroup
  with_reducible refine Kept.groups_put ?_ _ _
  exact hk

theorem State.setTrib_kept {z : State} {s : State} {t : Nat} {c : Nat} {x : EndX} (hk : Kept z s) : Kept z (@State.setTrib s t c x) := by
  unfold State.setTrib
  with_reducible refine Kept.ends_put ?_ _ _
  exact hk

theorem State.reeveEvent_kept {z : State} {s : State} {k : Nat} (hk : Kept z s) : Kept z (@State.reeveEvent s k) := by
  unfold State.reeveEvent
  refine Kept.iter ?_ ?_
  · intro a1 a2 h3
    refine State.setEng_kept ?_
    exact h3
  · exact hk

theorem State.setBip_kept {z : State} {s : State} {n : Nat} {x : BipX} (hk : Kept z s) : Kept z (@State.setBip s n x) := by
  unfold State.setBip
  with_reducible refine Kept.bips_put ?_ _ _
  exact hk

theorem State.complete_kept {z : State} {s : State} {h : CmdHead} {code : Code} {reason : Nat} {offset : Nat} {result : Nat} (hk : Kept z s) : Kept z (@State.complete s h code reason offset result) := by
  unfold State.complete
  extract_lets -merge +onlyGivenNames u1
  have h2 : Kept z u1 := by
    unfold u1
    with_reducible refine Kept.upd ?_ ..
    exact hk
  extract_lets -merge +onlyGivenNames u3
  extract_lets -merge +onlyGivenNames u4
  have h5 : Kept z u4 := by
    unfold u4
    refine Kept.ite ?_ ?_
    · refine State.latch_kept ?_
      refine State.bump_kept ?_
      exact h2
    · exact h2
  refine Kept.ite ?_ ?_
  · refine State.putEvent_kept ?_
    exact h5
  · refine State.loseEvent_kept ?_
    exact h5

theorem State.fail_kept {z : State} {s : State} {h : CmdHead} {code : Code} (hk : Kept z s) : Kept z (@State.fail s h code) := by
  unfold State.fail
  refine State.complete_kept ?_
  exact hk

theorem State.ok_kept {z : State} {s : State} {h : CmdHead} {result : Nat} (hk : Kept z s) : Kept z (@State.ok s h result) := by
  unfold State.ok
  refine State.complete_kept ?_
  exact hk

theorem State.dropPlanned_kept {z : State} {s : State} (hk : Kept z s) : Kept z (@State.dropPlanned s) := by
  unfold State.dropPlanned
  split
  · refine State.fail_kept ?_
    with_reducible refine Kept.upd ?_ ..
    exact hk
  · exact hk

theorem State.toSolo_kept {z : State} {s : State} {take : Bool} (hk : Kept z s) : Kept z (@State.toSolo s take) := by
  unfold State.toSolo
  extract_lets -merge +onlyGivenNames u1
  have h2 : Kept z u1 := by
    unfold u1
    refine State.dropPlanned_kept ?_
    exact hk
  extract_lets -merge +onlyGivenNames u3
  have h4 : Kept z u3 := by
    unfold u3
    refine State.wr_kept ?_
    refine State.wr_kept ?_
    refine State.wr_kept ?_
    exact h2
  extract_lets -merge +onlyGivenNames u5
  have h6 : Kept z u5 := by
    unfold u5
    refine State.wr_kept ?_
    exact h4
  with_reducible refine Kept.upd ?_ ..
  exact h6

theorem State.internalFault_kept {z : State} {s : State} {fence : Bool} (hk : Kept z s) : Kept z (@State.internalFault s fence) := by
  unfold State.internalFault
  refine Kept.ite ?_ ?_
  · exact hk
  · extract_lets -merge +onlyGivenNames u1
    extract_lets -merge +onlyGivenNames u2
    have h3 : Kept z u2 := by
      unfold u2
      refine State.emit_kept ?_
      with_reducible refine Kept.upd ?_ ..
      exact hk
    refine Kept.ite ?_ ?_
    · refine Kept.ite ?_ ?_
      · with_reducible refine Kept.upd ?_ ..
        exact h3
      · exact h3
    · refine Kept.ite ?_ ?_
      · refine State.toSolo_kept ?_
        exact h3
      · exact h3

theorem State.lantEvent_kept {z : State} {s : State} {f : Fld} {unit : Nat} (hk : Kept z s) : Kept z (@State.lantEvent s f unit) := by
  unfold State.lantEvent
  extract_lets -merge +onlyGivenNames u1
  have h2 : Kept z u1 := by
    unfold u1
    refine State.latch_kept ?_
    exact hk
  refine State.report_kept ?_
  exact h2

theorem State.traceItem_kept {z : State} {s : State} {type : Nat} {srcKind : Nat} {unit : Nat} {code : Nat} {d2 : Option Nat} (hk : Kept z s) : Kept z (@State.traceItem s type srcKind unit code d2) := by
  unfold State.traceItem
  refine Kept.ite ?_ ?_
  · refine Kept.ite ?_ ?_
    · split
      rename_i e1
      refine Kept.thruE (z := z) e1 ?_ (fun h2 => ?_)
      · refine State.fresh_kept ?_
        exact hk
      · split
        rename_i e3
        refine Kept.thruE (z := z) e3 ?_ (fun h4 => ?_)
        · refine State.fresh_kept ?_
          exact h2
        · split
          rename_i e5
          refine Kept.thruE (z := z) e5 ?_ (fun h6 => ?_)
          · refine State.stamp_kept ?_
            exact h4
          · with_reducible refine Kept.upd ?_ ..
            exact h6
    · extract_lets -merge +onlyGivenNames u7
      have h8 : Kept z u7 := by
        unfold u7
        refine State.latch_kept ?_
        exact hk
      refine Kept.ite ?_ ?_
      · exact h8
      · refine State.lantEvent_kept ?_
        exact h8
  · exact hk

theorem State.traceFence_kept {z : State} {s : State} {kind : Nat} {unit : Nat} {cause : Nat} (hk : Kept z s) : Kept z (@State.traceFence s kind unit cause) := by
  unfold State.traceFence
  refine Kept.ite ?_ ?_
  · refine State.traceItem_kept ?_
    exact hk
  · refine Kept.ite ?_ ?_
    · refine State.traceItem_kept ?_
      exact hk
    · refine Kept.ite ?_ ?_
      · refine State.traceItem_kept ?_
        exact hk
      · exact hk

theorem State.reportFence_kept {z : State} {s : State} {kind : Nat} {unit : Nat} {cause : Nat} {set : Bool} (hk : Kept z s) : Kept z (@State.reportFence s kind unit cause set) := by
  unfold State.reportFence
  extract_lets -merge +onlyGivenNames u1
  have h2 : Kept z u1 := by
    unfold u1
    refine Kept.ite ?_ ?_
    · refine State.reeveEvent_kept ?_
      exact hk
    · exact hk
  refine State.report_kept ?_
  refine State.traceFence_kept ?_
  exact h2

theorem State.setRefx_kept {z : State} {s : State} {n : Nat} {x : RefX} (hk : Kept z s) : Kept z (@State.setRefx s n x) := by
  unfold State.setRefx
  with_reducible refine Kept.refs_put ?_ _ _
  exact hk

theorem State.setProg_kept {z : State} {s : State} {c : Nat} {slot : Nat} {p : Option Prog} (hk : Kept z s) : Kept z (@State.setProg s c slot p) := by
  unfold State.setProg
  with_reducible refine Kept.progs_put ?_ _ _
  exact hk

theorem State.countQ_kept {z : State} {s : State} {q : Nat} {k : Nat} {by_ : Nat} (hk : Kept z s) : Kept z (@State.countQ s q k by_) := by
  unfold State.countQ
  refine State.count_kept ?_
  exact hk

theorem State.setInj_kept {z : State} {s : State} {j : Nat} {x : InjX} (hk : Kept z s) : Kept z (@State.setInj s j x) := by
  unfold State.setInj
  with_reducible refine Kept.injs_put ?_ _ _
  exact hk

theorem State.setByte_kept {z : State} {s : State} {a : Nat} {b : Byte} (hk : Kept z s) : Kept z (s.setByte a b) :=
  hk.mem _ (fun c => Tab.wf_put (fun _ => 0) _ a b (hk.tables c).mem)

theorem State.clearRegs_kept {z : State} {s : State} {lo n : Nat} (hk : Kept z s) : Kept z (s.clearRegs lo n) := hk.regs_drop _

theorem State.later_kept {z : State} {s : State} {h : Option CmdHead} {d : Due} {c : Change} (hk : Kept z s) : Kept z (@State.later s h d c) := by
  unfold State.later
  with_reducible refine Kept.upd ?_ ..
  exact hk

theorem State.okOpt_kept {z : State} {s : State} {h : Option CmdHead} {result : Nat} (hk : Kept z s) : Kept z (@State.okOpt s h result) := by
  unfold State.okOpt
  split
  · refine State.ok_kept ?_
    exact hk
  · exact hk

theorem State.setBank_kept {z : State} {s : State} {b : Nat} {x : BankX} (hk : Kept z s) : Kept z (@State.setBank s b x) := by
  unfold State.setBank
  with_reducible refine Kept.banks_put ?_ _ _
  exact hk

theorem State.setBytes_kept {z : State} {s : State} {a n v : Nat} (hk : Kept z s) : Kept z (s.setBytes a n v) := by
  induction n generalizing s a v with
  | zero => exact hk
  | succ n ih => exact ih (State.setByte_kept hk)

theorem State.asAny_kept {z : State} {s : State} {m : Nat} {f : State → State} (hk : Kept z s) (hf : ∀ a0, Kept z a0 → Kept z (f a0)) : Kept z (@State.asAny s m f) := by
  unfold State.asAny
  refine Kept.ite ?_ ?_
  · refine hf _ ?_
    exact hk
  · exact hk

theorem State.denied_kept {z : State} {s : State} (hk : Kept z s) : Kept z (@State.denied s) := by
  unfold State.denied
  refine State.lantEvent_kept ?_
  exact hk

theorem State.asMaster_kept {z : State} {s : State} {m : Nat} {f : State → State} (hk : Kept z s) (hf : ∀ a0, Kept z a0 → Kept z (f a0)) : Kept z (@State.asMaster s m f) := by
  unfold State.asMaster
  refine State.asAny_kept ?_ ?_
  · exact hk
  · intro a1 h2
    refine Kept.ite ?_ ?_
    · refine State.denied_kept ?_
      exact h2
    · refine hf _ ?_
      exact h2

theorem State.asReader_kept {z : State} {s : State} {m : Nat} {a : Nat} {f : State → State} (hk : Kept z s) (hf : ∀ a0, Kept z a0 → Kept z (f a0)) : Kept z (@State.asReader s m a f) := by
  unfold State.asReader
  refine State.asAny_kept ?_ ?_
  · exact hk
  · intro a1 h2
    refine Kept.ite ?_ ?_
    · refine State.emit_kept ?_
      refine State.denied_kept ?_
      exact h2
    · refine hf _ ?_
      exact h2

theorem State.assertFault_kept {z : State} {s : State} {r : FaultReason} (hk : Kept z s) : Kept z (@State.assertFault s r) := by
  unfold State.assertFault
  refine Kept.ite ?_ ?_
  · exact hk
  · with_reducible refine Kept.upd ?_ ..
    exact hk

theorem State.pairEvent_kept {z : State} {s : State} {f : Fld} (hk : Kept z s) : Kept z (@State.pairEvent s f) := by
  unfold State.pairEvent
  refine State.report_kept ?_
  refine State.latch_kept ?_
  exact hk

theorem State.judge_kept {z : State} {s : State} {h : CmdHead} {checks : List Check} {accept : State → State} (hk : Kept z s) (haccept : ∀ a0, Kept z a0 → Kept z (accept a0)) : Kept z (@State.judge s h checks accept) := by
  unfold State.judge
  refine Kept.ite ?_ ?_
  · exact hk
  · split
    · extract_lets -merge +onlyGivenNames u1
      have h2 : Kept z u1 := by
        unfold u1
        refine Kept.ite ?_ ?_
        · refine State.pairEvent_kept ?_
          exact hk
        · exact hk
      refine State.complete_kept ?_
      exact h2
    · refine haccept _ ?_
      refine State.traceItem_kept ?_
      exact hk

theorem State.badArg_kept {z : State} {s : State} {h : CmdHead} {offset : Nat} (hk : Kept z s) : Kept z (@State.badArg s h offset) := by
  unfold State.badArg
  refine State.complete_kept ?_
  exact hk

theorem State.countD_kept {z : State} {s : State} {k : Nat} {by_ : Nat} (hk : Kept z s) : Kept z (@State.countD s k by_) := by
  unfold State.countD
  refine State.count_kept ?_
  exact hk

theorem State.countL_kept {z : State} {s : State} {n : Nat} {k : Nat} {by_ : Nat} (hk : Kept z s) : Kept z (@State.countL s n k by_) := by
  unfold State.countL
  refine State.count_kept ?_
  exact hk

theorem State.bumpSat_kept {z : State} {s : State} {f : Fld} {i : Nat} {k : Nat} (hk : Kept z s) : Kept z (@State.bumpSat s f i k) := by
  unfold State.bumpSat
  refine State.wr_kept ?_
  exact hk

theorem State.setWord_kept {z : State} {s : State} {a : Nat} {v : W32} (hk : Kept z s) : Kept z (@State.setWord s a v) := by
  unfold State.setWord
  refine State.setBytes_kept ?_
  exact hk

theorem State.releaseFault_kept {z : State} {s : State} {r : FaultReason} (hk : Kept z s) : Kept z (@State.releaseFault s r) := by
  unfold State.releaseFault
  with_reducible refine Kept.upd ?_ ..
  exact hk

theorem State.pairGate_kept {z : State} {s : State} {m : Nat} {f : State → State} (hk : Kept z s) (hf : ∀ a0, Kept z a0 → Kept z (f a0)) : Kept z (@State.pairGate s m f) := by
  unfold State.pairGate
  refine Kept.ite ?_ ?_
  · refine hf _ ?_
    exact hk
  · refine State.latch_kept ?_
    exact hk

theorem State.clearMem_kept {z : State} {s : State} {lo n : Nat} (hk : Kept z s) : Kept z (s.clearMem lo n) :=
  hk.mem _ (fun c => Tab.wf_drop (fun _ => 0) _ _ (hk.tables c).mem)

theorem State.countT_kept {z : State} {s : State} {t : Nat} {k : Nat} {by_ : Nat} (hk : Kept z s) : Kept z (@State.countT s t k by_) := by
  unfold State.countT
  refine State.count_kept ?_
  exact hk

theorem State.failOpt_kept {z : State} {s : State} {h : Option CmdHead} {code : Code} (hk : Kept z s) : Kept z (@State.failOpt s h code) := by
  unfold State.failOpt
  split
  · refine State.fail_kept ?_
    exact hk
  · exact hk

theorem State.setXc_kept {z : State} {s : State} {t : Nat} {c : Nat} {x : XcEnd} (hk : Kept z s) : Kept z (@State.setXc s t c x) := by
  unfold State.setXc
  with_reducible refine Kept.xc_put ?_ _ _
  exact hk

theorem State.gateEvent_kept {z : State} {s : State} {f : Fld} (hk : Kept z s) : Kept z (@State.gateEvent s f) := by
  unfold State.gateEvent
  extract_lets -merge +onlyGivenNames u1
  have h2 : Kept z u1 := by
    unfold u1
    refine State.latch_kept ?_
    exact hk
  refine State.report_kept ?_
  exact h2

theorem State.takeChange_kept {z : State} {s : State} {p : Pend → Bool} (hk : Kept z s) : Kept z (@State.takeChange s p).2 := by
  unfold State.takeChange
  split
  · dsimp -zeta only
    with_reducible refine Kept.upd ?_ ..
    exact hk
  · exact hk

theorem State.setLaneState_kept {z : State} {s : State} {n : Nat} {v : Nat} (hk : Kept z s) : Kept z (@State.setLaneState s n v) := by
  unfold State.setLaneState
  refine State.wr_kept ?_
  exact hk

theorem State.loadFir_kept {z : State} {s : State} {n : Nat} (hk : Kept z s) : Kept z (@State.loadFir s n) := by
  unfold State.loadFir
  extract_lets -merge +onlyGivenNames u1
  extract_lets -merge +onlyGivenNames u2
  extract_lets -merge +onlyGivenNames u3
  have h4 : Kept z u3 := by
    unfold u3
    refine State.setLane_kept ?_
    exact hk
  extract_lets -merge +onlyGivenNames u5
  have h6 : Kept z u5 := by
    unfold u5
    refine State.wr_kept ?_
    refine State.wr_kept ?_
    refine State.wr_kept ?_
    exact h4
  extract_lets -merge +onlyGivenNames u7
  have h8 : Kept z u7 := by
    unfold u7
    refine State.wr_kept ?_
    refine State.wr_kept ?_
    refine State.wr_kept ?_
    exact h6
  refine State.wr_kept ?_
  refine State.wr_kept ?_
  exact h8

theorem State.laneEvent_kept {z : State} {s : State} {n : Nat} {bitNo : Nat} (hk : Kept z s) : Kept z (@State.laneEvent s n bitNo) := by
  unfold State.laneEvent
  extract_lets -merge +onlyGivenNames u1
  extract_lets -merge +onlyGivenNames u2
  have h3 : Kept z u2 := by
    unfold u2
    refine State.setReg_kept ?_
    exact hk
  extract_lets -merge +onlyGivenNames u4
  extract_lets -merge +onlyGivenNames u5
  have h6 : Kept z u5 := by
    unfold u5
    refine Kept.ite ?_ ?_
    · refine State.reeveEvent_kept ?_
      exact h3
    · exact h3
  refine Kept.ite ?_ ?_
  · refine State.report_kept ?_
    exact h6
  · exact h6

theorem State.loadLaneDesc_kept {z : State} {s : State} {n : Nat} (hk : Kept z s) : Kept z (@State.loadLaneDesc s n) := by
  unfold State.loadLaneDesc
  refine State.wr_kept ?_
  refine State.loadFir_kept ?_
  exact hk

theorem State.setPkt_kept {z : State} {s : State} {p : Packet} (hk : Kept z s) : Kept z (@State.setPkt s p) := by
  unfold State.setPkt
  with_reducible refine Kept.upd ?_ ..
  exact hk

theorem State.showHead_kept {z : State} {s : State} {q : Nat} (hk : Kept z s) : Kept z (@State.showHead s q) := by
  unfold State.showHead
  extract_lets -merge +onlyGivenNames u1
  have h2 : Kept z u1 := by
    unfold u1
    refine State.wr_kept ?_
    exact hk
  split
  · refine State.wr_kept ?_
    refine State.wr_kept ?_
    exact h2
  · refine State.wr_kept ?_
    exact h2

theorem State.joinPkt_kept {z : State} {s : State} {id : Nat} (hk : Kept z s) : Kept z (@State.joinPkt s id) := by
  unfold State.joinPkt
  split
  · exact hk
  · refine Kept.ite ?_ ?_
    · exact hk
    · split
      rename_i e1
      refine Kept.thruE (z := z) e1 ?_ (fun h2 => ?_)
      · refine State.stamp_kept ?_
        exact hk
      · extract_lets -merge +onlyGivenNames u3
        have h4 : Kept z u3 := by
          unfold u3
          with_reducible refine Kept.upd ?_ ..
          exact h2
        refine State.showHead_kept ?_
        refine State.setPkt_kept ?_
        exact h4

theorem State.closePkt_kept {z : State} {s : State} {id : Nat} {err : Bool} {late : Bool} (hk : Kept z s) : Kept z (@State.closePkt s id err late) := by
  unfold State.closePkt
  split
  · exact hk
  · refine State.joinPkt_kept ?_
    refine State.setPkt_kept ?_
    exact hk

theorem State.openPkt_kept {z : State} {s : State} {q : Nat} {c : Nat} {arrival : Nat} (hk : Kept z s) : Kept z (@State.openPkt s q c arrival).2 := by
  unfold State.openPkt
  extract_lets -merge +onlyGivenNames u1
  dsimp -zeta only
  with_reducible refine Kept.upd ?_ ..
  exact hk

theorem State.returnCell_kept {z : State} {s : State} {q : Nat} (hk : Kept z s) : Kept z (@State.returnCell s q) := by
  unfold State.returnCell
  extract_lets -merge +onlyGivenNames u1
  extract_lets -merge +onlyGivenNames u2
  have h3 : Kept z u2 := by
    unfold u2
    refine State.wr_kept ?_
    exact hk
  extract_lets -merge +onlyGivenNames u4
  have h5 : Kept z u4 := by
    unfold u4
    refine Kept.ite ?_ ?_
    · refine State.bump_kept ?_
      exact h3
    · exact h3
  refine Kept.ite ?_ ?_
  · extract_lets -merge +onlyGivenNames u6
    refine State.wr_kept ?_
    exact h5
  · exact h5

theorem State.showFree_kept {z : State} {s : State} (hk : Kept z s) : Kept z (@State.showFree s) := by
  unfold State.showFree
  refine State.wr_kept ?_
  exact hk

theorem State.freePkt_kept {z : State} {s : State} {p : Packet} (hk : Kept z s) : Kept z (@State.freePkt s p) := by
  unfold State.freePkt
  extract_lets -merge +onlyGivenNames u1
  have h2 : Kept z u1 := by
    unfold u1
    refine Kept.foldl ?_ ?_
    · intro a3 a4 h5
      refine State.returnCell_kept ?_
      exact h5
    · with_reducible refine Kept.upd ?_ ..
      exact hk
  refine State.showHead_kept ?_
  refine State.showFree_kept ?_
  exact h2

theorem State.recordDrop_kept {z : State} {s : State} {q : Nat} {cause : Nat} (hk : Kept z s) : Kept z (@State.recordDrop s q cause) := by
  unfold State.recordDrop
  refine State.countQ_kept ?_
  refine State.wr_kept ?_
  exact hk

theorem State.dropPkt_kept {z : State} {s : State} {p : Packet} {cause : Nat} (hk : Kept z s) : Kept z (@State.dropPkt s p cause) := by
  unfold State.dropPkt
  refine State.recordDrop_kept ?_
  refine State.freePkt_kept ?_
  exact hk

theorem State.takeCell_kept {z : State} {s : State} {p : Packet} (hk : Kept z s) : Kept z (@State.takeCell s p) := by
  unfold State.takeCell
  extract_lets -merge +onlyGivenNames u1
  extract_lets -merge +onlyGivenNames u2
  extract_lets -merge +onlyGivenNames u3
  extract_lets -merge +onlyGivenNames u4
  split
  rename_i e5
  refine Kept.thruE (z := z) e5 ?_ (fun h6 => ?_)
  · refine State.fresh_kept ?_
    exact hk
  · extract_lets -merge +onlyGivenNames u7
    extract_lets -merge +onlyGivenNames u8
    have h9 : Kept z u8 := by
      unfold u8
      refine State.wr_kept ?_
      exact h6
    extract_lets -merge +onlyGivenNames u10
    have h11 : Kept z u10 := by
      unfold u10
      refine Kept.ite ?_ ?_
      · refine State.wr_kept ?_
        exact h9
      · exact h9
    extract_lets -merge +onlyGivenNames u12
    have h13 : Kept z u12 := by
      unfold u12
      refine Kept.ite ?_ ?_
      · refine State.bump_kept ?_
        exact h11
      · exact h11
    refine State.showFree_kept ?_
    refine State.setPkt_kept ?_
    exact h13

theorem State.admitCells_kept {z : State} {s : State} {id need n : Nat} (hk : Kept z s) : Kept z (s.admitCells id need n).2 := by
  induction n generalizing s with
  | zero => exact hk
  | succ n ih =>
    unfold State.admitCells
    split
    · exact hk
    · refine Kept.ite_snd hk ?_
      split
      · exact State.dropPkt_kept hk
      · exact ih (State.takeCell_kept hk)

theorem State.writePkt_kept {z : State} {s : State} {id : Nat} {bs : List Nat} (hk : Kept z s) : Kept z (@State.writePkt s id bs).2 := by
  unfold State.writePkt
  split
  · exact hk
  · extract_lets -merge +onlyGivenNames u1
    refine State.admitCells_kept ?_
    refine State.setPkt_kept ?_
    exact hk

theorem State.receivePkt_kept {z : State} {s : State} {q : Nat} {c : Nat} {arrival : Nat} {carried : Option Nat} {bytes : List Nat} {err : Bool} {late : Bool} (hk : Kept z s) : Kept z (@State.receivePkt s q c arrival carried bytes err late) := by
  unfold State.receivePkt
  refine Kept.ite ?_ ?_
  · exact hk
  · split
    rename_i e1
    refine Kept.thruE (z := z) e1 ?_ (fun h2 => ?_)
    · refine State.openPkt_kept ?_
      exact hk
    · extract_lets -merge +onlyGivenNames u3
      have h4 : Kept z u3 := by
        unfold u3
        split
        · refine State.setPkt_kept ?_
          exact h2
        · exact h2
      split
      rename_i e5
      refine Kept.thruE (z := z) e5 ?_ (fun h6 => ?_)
      · refine State.writePkt_kept ?_
        exact h4
      · refine State.closePkt_kept ?_
        exact h6

theorem State.degradedRecompute_kept {z : State} {s : State} (hk : Kept z s) : Kept z (@State.degradedRecompute s) := by
  unfold State.degradedRecompute
  extract_lets -merge +onlyGivenNames u1
  extract_lets -merge +onlyGivenNames u2
  extract_lets -merge +onlyGivenNames u3
  have h4 : Kept z u3 := by
    unfold u3
    refine Kept.foldl ?_ ?_
    · intro a5 a6 h7
      refine State.wr_kept ?_
      exact h7
    · exact hk
  extract_lets -merge +onlyGivenNames u8
  extract_lets -merge +onlyGivenNames u9
  have h10 : Kept z u9 := by
    unfold u9
    refine State.showFree_kept ?_
    refine State.wr_kept ?_
    exact h4
  extract_lets -merge +onlyGivenNames u11
  extract_lets -merge +onlyGivenNames u12
  have h13 : Kept z u12 := by
    unfold u12
    refine Kept.ite ?_ ?_
    · refine State.latch_kept ?_
      exact h10
    · exact h10
  extract_lets -merge +onlyGivenNames u14
  have h15 : Kept z u14 := by
    unfold u14
    refine State.wr_kept ?_
    refine State.wr_kept ?_
    exact h13
  refine State.wr_kept ?_
  exact h15

theorem State.choose_kept {z : State} {s : State} {kind e now : Nat} {preempt : Bool} {n : Nat} (hk : Kept z s) : Kept z (s.choose kind e now preempt n).2 := by
  induction n generalizing s with
  | zero => exact hk
  | succ n ih =>
    unfold State.choose
    split
    · exact hk
    · extract_lets q isLate pol dropLate u p'
      have hu : Kept z u := Kept.ite (State.bump_kept hk) hk
      refine Kept.ite_snd (ih (State.dropPkt_kept hk)) ?_
      exact Kept.ite_snd (ih (State.dropPkt_kept hk)) (State.showHead_kept (State.setPkt_kept hu))

theorem State.endDeparture_kept {z : State} {s : State} {id : Nat} (hk : Kept z s) : Kept z (@State.endDeparture s id) := by
  unfold State.endDeparture
  split
  · exact hk
  · refine State.countQ_kept ?_
    refine State.freePkt_kept ?_
    exact hk

theorem State.grnEvent_kept {z : State} {s : State} {f : Fld} {unit : Nat} {detail : Nat} (hk : Kept z s) : Kept z (@State.grnEvent s f unit detail) := by
  unfold State.grnEvent
  refine State.report_kept ?_
  refine State.latch_kept ?_
  exact hk

theorem State.setFifo_kept {z : State} {s : State} {q : Nat} {f : Nat} {x : Fifo} (hk : Kept z s) : Kept z (@State.setFifo s q f x) := by
  unfold State.setFifo
  extract_lets -merge +onlyGivenNames u1
  have h2 : Kept z u1 := by
    unfold u1
    with_reducible refine Kept.fifos_put ?_ _ _
    exact hk
  extract_lets -merge +onlyGivenNames u3
  refine State.wr_kept ?_
  refine State.wr_kept ?_
  refine State.wr_kept ?_
  exact h2

theorem State.flushFifo_kept {z : State} {s : State} {q : Nat} {f : Nat} (hk : Kept z s) : Kept z (@State.flushFifo s q f) := by
  unfold State.flushFifo
  extract_lets -merge +onlyGivenNames u1
  refine State.setFifo_kept ?_
  exact hk

theorem State.pushWord_kept {z : State} {s : State} {q : Nat} {f : Nat} {w : W32} (hk : Kept z s) : Kept z (@State.pushWord s q f w) := by
  unfold State.pushWord
  extract_lets -merge +onlyGivenNames u1
  extract_lets -merge +onlyGivenNames u2
  refine Kept.ite ?_ ?_
  · refine Kept.ite ?_ ?_
    · extract_lets -merge +onlyGivenNames u3
      have h4 : Kept z u3 := by
        unfold u3
        refine State.setFifo_kept ?_
        exact hk
      refine Kept.ite ?_ ?_
      · refine State.bump_kept ?_
        exact h4
      · exact h4
    · refine State.setFifo_kept ?_
      exact hk
  · extract_lets -merge +onlyGivenNames u5
    refine Kept.ite ?_ ?_
    · refine State.setFifo_kept ?_
      exact hk
    · refine State.wr_kept ?_
      refine State.setFifo_kept ?_
      exact hk

theorem State.pushItem_kept {z : State} {s : State} {q f : Nat} {ws : List W32} {u : State} (hk : Kept z s) (e : s.pushItem q f ws = some u) : Kept z u := by
  unfold State.pushItem at e
  dsimp only at e
  split at e
  · cases e; exact State.setFifo_kept hk
  · cases e

theorem State.takeItem_kept {z : State} {s : State} {q : Nat} {f : Nat} (hk : Kept z s) : Kept z (@State.takeItem s q f).2 := by
  unfold State.takeItem
  extract_lets -merge +onlyGivenNames u1
  split
  · exact hk
  · extract_lets -merge +onlyGivenNames u2
    refine Kept.ite_snd ?_ ?_
    · dsimp -zeta only
      refine State.setFifo_kept ?_
      exact hk
    · exact hk

theorem State.bumpPw_kept {z : State} {s : State} {c : Nat} {slot : Nat} {w : Nat} (hk : Kept z s) : Kept z (@State.bumpPw s c slot w) := by
  unfold State.bumpPw
  refine State.setPw_kept ?_
  exact hk

theorem State.syncCal_kept {z : State} {s : State} {c : Nat} (hk : Kept z s) : Kept z (@State.syncCal s c) := by
  unfold State.syncCal
  refine Kept.ite ?_ ?_
  · exact hk
  · extract_lets -merge +onlyGivenNames u1
    refine State.setPw_kept ?_
    refine State.setPw_kept ?_
    refine State.setPw_kept ?_
    refine State.setPw_kept ?_
    refine State.setPw_kept ?_
    exact hk

theorem State.setCal_kept {z : State} {s : State} {c : Nat} {dir : Nat} {copy : Nat} {col : Nat} {v : W32} (hk : Kept z s) : Kept z (@State.setCal s c dir copy col v) := by
  unfold State.setCal
  with_reducible refine Kept.cals_put ?_ _ _
  exact hk

theorem State.putPayload_kept {z : State} {s : State} {c : Nat} {row : Nat} {col : Nat} {v : Nat} (hk : Kept z s) : Kept z (@State.putPayload s c row col v) := by
  unfold State.putPayload
  extract_lets -merge +onlyGivenNames u1
  extract_lets -merge +onlyGivenNames u2
  refine State.setVtf_kept ?_
  exact hk

theorem State.bellShow_kept {z : State} {s : State} (hk : Kept z s) : Kept z (@State.bellShow s) := by
  unfold State.bellShow
  extract_lets -merge +onlyGivenNames u1
  have h2 : Kept z u1 := by
    unfold u1
    refine Kept.iter ?_ ?_
    · intro a3 a4 h5
      refine State.wr_kept ?_
      refine State.wr_kept ?_
      exact h5
    · exact hk
  refine State.wr_kept ?_
  refine State.wr_kept ?_
  exact h2

theorem State.freerun_kept {z : State} {s : State} {d : Nat} (hk : Kept z s) : Kept z (@State.freerun s d) := by
  unfold State.freerun
  refine State.wr_kept ?_
  refine State.wr_kept ?_
  refine State.wr_kept ?_
  exact hk

theorem State.bellEvent_kept {z : State} {s : State} {f : Fld} {unit : Nat} {detail : Nat} (hk : Kept z s) : Kept z (@State.bellEvent s f unit detail) := by
  unfold State.bellEvent
  refine State.report_kept ?_
  refine State.latch_kept ?_
  exact hk

theorem State.holdover_kept {z : State} {s : State} {d : Nat} {long : Bool} (hk : Kept z s) : Kept z (@State.holdover s d long) := by
  unfold State.holdover
  extract_lets -merge +onlyGivenNames u1
  extract_lets -merge +onlyGivenNames u2
  have h3 : Kept z u2 := by
    unfold u2
    refine State.wr_kept ?_
    refine State.wr_kept ?_
    exact hk
  refine Kept.ite ?_ ?_
  · exact h3
  · extract_lets -merge +onlyGivenNames u4
    extract_lets -merge +onlyGivenNames u5
    have h6 : Kept z u5 := by
      unfold u5
      refine State.wr_kept ?_
      refine State.wr_kept ?_
      refine State.wr_kept ?_
      exact h3
    extract_lets -merge +onlyGivenNames u7
    extract_lets -merge +onlyGivenNames u8
    have h9 : Kept z u8 := by
      unfold u8
      with_reducible refine Kept.upd ?_ ..
      exact h6
    extract_lets -merge +onlyGivenNames u10
    have h11 : Kept z u10 := by
      unfold u10
      refine State.bellEvent_kept ?_
      exact h9
    refine Kept.ite ?_ ?_
    · refine State.bellEvent_kept ?_
      exact h11
    · exact h11

theorem State.dpllForce_kept {z : State} {s : State} {d : Nat} {long : Bool} (hk : Kept z s) : Kept z (@State.dpllForce s d long) := by
  unfold State.dpllForce
  refine Kept.ite ?_ ?_
  · exact hk
  · split
    · refine State.holdover_kept ?_
      exact hk
    · refine State.freerun_kept ?_
      exact hk
    · exact hk

theorem State.fenceDpll_kept {z : State} {s : State} {d : Nat} {cause : Nat} {long : Bool} (hk : Kept z s) : Kept z (@State.fenceDpll s d cause long) := by
  unfold State.fenceDpll
  extract_lets -merge +onlyGivenNames u1
  have h2 : Kept z u1 := by
    unfold u1
    refine Kept.ite ?_ ?_
    · exact hk
    · refine State.holdover_kept ?_
      refine State.wr_kept ?_
      exact hk
  extract_lets -merge +onlyGivenNames u3
  have h4 : Kept z u3 := by
    unfold u3
    refine State.wr_kept ?_
    exact h2
  refine State.bellShow_kept ?_
  refine State.wr_kept ?_
  refine State.internalFault_kept ?_
  refine State.reportFence_kept ?_
  exact h4

theorem State.refEnable_kept {z : State} {s : State} {n : Nat} {en : Bool} (hk : Kept z s) : Kept z (@State.refEnable s n en) := by
  unfold State.refEnable
  extract_lets -merge +onlyGivenNames u1
  extract_lets -merge +onlyGivenNames u2
  have h3 : Kept z u2 := by
    unfold u2
    refine State.wr_kept ?_
    exact hk
  refine Kept.ite ?_ ?_
  · extract_lets -merge +onlyGivenNames u4
    extract_lets -merge +onlyGivenNames u5
    have h6 : Kept z u5 := by
      unfold u5
      refine State.setRefx_kept ?_
      exact h3
    refine State.bellShow_kept ?_
    refine State.wr_kept ?_
    refine State.wr_kept ?_
    exact h6
  · refine Kept.ite ?_ ?_
    · extract_lets -merge +onlyGivenNames u7
      have h8 : Kept z u7 := by
        unfold u7
        refine State.wr_kept ?_
        refine State.setRefx_kept ?_
        exact h3
      refine State.bellShow_kept ?_
      refine State.wr_kept ?_
      refine State.wr_kept ?_
      refine State.wr_kept ?_
      exact h8
    · exact h3

theorem State.failRef_kept {z : State} {s : State} {n : Nat} {cause : Nat} (hk : Kept z s) : Kept z (@State.failRef s n cause) := by
  unfold State.failRef
  refine Kept.ite ?_ ?_
  · exact hk
  · extract_lets -merge +onlyGivenNames u1
    extract_lets -merge +onlyGivenNames u2
    extract_lets -merge +onlyGivenNames u3
    have h4 : Kept z u3 := by
      unfold u3
      refine State.setRefx_kept ?_
      exact hk
    extract_lets -merge +onlyGivenNames u5
    have h6 : Kept z u5 := by
      unfold u5
      refine State.wr_kept ?_
      refine State.wr_kept ?_
      refine State.wr_kept ?_
      exact h4
    extract_lets -merge +onlyGivenNames u7
    have h8 : Kept z u7 := by
      unfold u7
      refine State.wr_kept ?_
      exact h6
    extract_lets -merge +onlyGivenNames u9
    have h10 : Kept z u9 := by
      unfold u9
      refine Kept.ite ?_ ?_
      · exact h8
      · refine State.bellEvent_kept ?_
        exact h8
    refine State.bellShow_kept ?_
    exact h10

theorem State.failTime_kept {z : State} {s : State} {n : Nat} (hk : Kept z s) : Kept z (@State.failTime s n) := by
  unfold State.failTime
  extract_lets -merge +onlyGivenNames u1
  refine Kept.ite ?_ ?_
  · exact hk
  · extract_lets -merge +onlyGivenNames u2
    have h3 : Kept z u2 := by
      unfold u2
      refine State.wr_kept ?_
      refine State.wr_kept ?_
      refine State.setRefx_kept ?_
      exact hk
    extract_lets -merge +onlyGivenNames u4
    have h5 : Kept z u4 := by
      unfold u4
      refine Kept.ite ?_ ?_
      · exact h3
      · refine State.bellEvent_kept ?_
        exact h3
    refine State.bellShow_kept ?_
    exact h5

theorem State.timeFields_kept {z : State} {s : State} (hk : Kept z s) : Kept z (@State.timeFields s).2 := by
  unfold State.timeFields
  extract_lets -merge +onlyGivenNames u1
  extract_lets -merge +onlyGivenNames u2
  extract_lets -merge +onlyGivenNames u3
  extract_lets -merge +onlyGivenNames u4
  extract_lets -merge +onlyGivenNames u5
  extract_lets -merge +onlyGivenNames u6
  extract_lets -merge +onlyGivenNames u7
  split
  rename_i e8
  refine Kept.thruE (z := z) e8 ?_ (fun h9 => ?_)
  · refine State.fresh_kept ?_
    exact hk
  · extract_lets -merge +onlyGivenNames u10
    extract_lets -merge +onlyGivenNames u11
    extract_lets -merge +onlyGivenNames u12
    have h13 : Kept z u12 := by
      unfold u12
      refine Kept.ite ?_ ?_
      · with_reducible refine Kept.upd ?_ ..
        exact h9
      · exact h9
    exact h13

theorem State.apsChanged_kept {z : State} {s : State} {g : Nat} (hk : Kept z s) : Kept z (@State.apsChanged s g) := by
  unfold State.apsChanged
  extract_lets -merge +onlyGivenNames u1
  extract_lets -merge +onlyGivenNames u2
  have h3 : Kept z u2 := by
    unfold u2
    refine State.setGroup_kept ?_
    exact hk
  refine Kept.foldl ?_ ?_
  · intro a4 a5 h6
    extract_lets -merge +onlyGivenNames u7
    refine State.setChanX_kept ?_
    exact h6
  · exact h3

theorem State.judgeGroup_kept {z : State} {s : State} {g : Nat} (hk : Kept z s) : Kept z (@State.judgeGroup s g) := by
  unfold State.judgeGroup
  refine Kept.ite ?_ ?_
  · exact hk
  · extract_lets -merge +onlyGivenNames u1
    extract_lets -merge +onlyGivenNames u2
    extract_lets -merge +onlyGivenNames u3
    extract_lets -merge +onlyGivenNames u4
    extract_lets -merge +onlyGivenNames u5
    extract_lets -merge +onlyGivenNames u6
    extract_lets -merge +onlyGivenNames u7
    extract_lets -merge +onlyGivenNames u8
    extract_lets -merge +onlyGivenNames u9
    have h10 : Kept z u9 := by
      unfold u9
      refine State.setGroup_kept ?_
      exact hk
    extract_lets -merge +onlyGivenNames u11
    extract_lets -merge +onlyGivenNames u12
    extract_lets -merge +onlyGivenNames u13
    have h14 : Kept z u13 := by
      unfold u13
      refine State.wr_kept ?_
      refine State.wr_kept ?_
      refine State.wr_kept ?_
      exact h10
    extract_lets -merge +onlyGivenNames u15
    have h16 : Kept z u15 := by
      unfold u15
      refine Kept.ite ?_ ?_
      · refine State.apsChanged_kept ?_
        exact h14
      · exact h14
    refine Kept.ite ?_ ?_
    · refine State.report_kept ?_
      refine State.latch_kept ?_
      exact h16
    · exact h16

theorem State.apsSend_kept {z : State} {s : State} {c : Nat} (hk : Kept z s) : Kept z (@State.apsSend s c).2 := by
  unfold State.apsSend
  extract_lets -merge +onlyGivenNames u1
  split
  · extract_lets -merge +onlyGivenNames u2
    dsimp -zeta only
    refine State.setChanX_kept ?_
    exact hk
  · extract_lets -merge +onlyGivenNames u3
    split
    · dsimp -zeta only
      refine State.setChanX_kept ?_
      exact hk
    · dsimp -zeta only
      refine State.setChanX_kept ?_
      exact hk
    · exact hk

theorem State.setMismatch_kept {z : State} {s : State} {g : Nat} {m : Bool} (hk : Kept z s) : Kept z (@State.setMismatch s g m) := by
  unfold State.setMismatch
  extract_lets -merge +onlyGivenNames u1
  extract_lets -merge +onlyGivenNames u2
  have h3 : Kept z u2 := by
    unfold u2
    refine State.wr_kept ?_
    exact hk
  refine State.judgeGroup_kept ?_
  refine Kept.ite ?_ ?_
  · refine State.pairEvent_kept ?_
    exact h3
  · exact h3

theorem State.sheafWrite_kept {z : State} {s : State} {c : Nat} {now : Nat} {k : Sheaf} {err : Bool} (hk : Kept z s) : Kept z (@State.sheafWrite s c now k err) := by
  unfold State.sheafWrite
  refine Kept.ite ?_ ?_
  · refine State.bumpPw_kept ?_
    exact hk
  · refine State.receivePkt_kept ?_
    exact hk

theorem State.releaseHeld_kept {z : State} {s : State} {t : Nat} {tx : List (Nat × List (Nat × Bool))} {rx : List (Nat × Nat × Sheaf × Bool)} (hk : Kept z s) : Kept z (@State.releaseHeld s t tx rx) := by
  unfold State.releaseHeld
  extract_lets -merge +onlyGivenNames u1
  have h2 : Kept z u1 := by
    unfold u1
    refine Kept.foldl ?_ ?_
    · intro a3 a4 h5
      refine State.setTrib_kept ?_
      exact h5
    · exact hk
  refine Kept.foldl ?_ ?_
  · intro a6 a7 h8
    refine State.sheafWrite_kept ?_
    exact h8
  · exact h2

theorem State.releaseWindow_kept {z : State} {s : State} {j : Nat} (hk : Kept z s) : Kept z (@State.releaseWindow s j) := by
  unfold State.releaseWindow
  extract_lets -merge +onlyGivenNames u1
  refine State.releaseHeld_kept ?_
  refine State.setInj_kept ?_
  exact hk

theorem State.stopInjector_kept {z : State} {s : State} {j : Nat} {cause : Nat} (hk : Kept z s) : Kept z (@State.stopInjector s j cause) := by
  unfold State.stopInjector
  refine Kept.ite ?_ ?_
  · refine State.releaseWindow_kept ?_
    refine State.wr_kept ?_
    refine State.wr_kept ?_
    exact hk
  · exact hk

theorem State.stopInjectorsOn_kept {z : State} {s : State} {kind : Nat} {target : Nat} {cause : Nat} (hk : Kept z s) : Kept z (@State.stopInjectorsOn s kind target cause) := by
  unfold State.stopInjectorsOn
  refine Kept.iter ?_ ?_
  · intro a1 a2 h3
    refine Kept.ite ?_ ?_
    · refine State.stopInjector_kept ?_
      exact h3
    · exact h3
  · exact hk

theorem State.injSpent_kept {z : State} {s : State} {j : Nat} (hk : Kept z s) : Kept z (@State.injSpent s j) := by
  unfold State.injSpent
  extract_lets -merge +onlyGivenNames u1
  refine Kept.ite ?_ ?_
  · refine State.wr_kept ?_
    refine State.wr_kept ?_
    exact hk
  · exact hk

theorem State.injUsed_kept {z : State} {s : State} {j : Nat} (hk : Kept z s) : Kept z (@State.injUsed s j) := by
  unfold State.injUsed
  refine State.injSpent_kept ?_
  refine State.setInj_kept ?_
  exact hk

theorem State.injectBytes_kept {z : State} {s : State} {t : Nat} {dir : Nat} {bs : List Nat} (hk : Kept z s) : Kept z (@State.injectBytes s t dir bs).2 := by
  unfold State.injectBytes
  split
  · extract_lets -merge +onlyGivenNames u1
    extract_lets -merge +onlyGivenNames u2
    dsimp -zeta only
    refine State.injUsed_kept ?_
    exact hk
  · exact hk

theorem State.reorderTx_kept {z : State} {s : State} {c : Nat} {j : Nat} {b : List (Nat × Bool)} (hk : Kept z s) : Kept z (@State.reorderTx s c j b).2 := by
  unfold State.reorderTx
  extract_lets -merge +onlyGivenNames u1
  extract_lets -merge +onlyGivenNames u2
  extract_lets -merge +onlyGivenNames u3
  have h4 : Kept z u3 := by
    unfold u3
    refine State.setInj_kept ?_
    exact hk
  refine Kept.ite_snd ?_ ?_
  · dsimp -zeta only
    refine State.injSpent_kept ?_
    refine State.setInj_kept ?_
    exact h4
  · exact h4

theorem State.injectWords_kept {z : State} {s : State} {t : Nat} {dir : Nat} {ws : List Nat} (hk : Kept z s) : Kept z (@State.injectWords s t dir ws).2 := by
  unfold State.injectWords
  split
  · extract_lets -merge +onlyGivenNames u1
    dsimp -zeta only
    refine State.injUsed_kept ?_
    exact hk
  · exact hk

theorem State.sheafDone_kept {z : State} {s : State} {t : Nat} {c : Nat} {now : Nat} {k : Sheaf} {err : Bool} (hk : Kept z s) : Kept z (@State.sheafDone s t c now k err) := by
  unfold State.sheafDone
  extract_lets -merge +onlyGivenNames u1
  have h2 : Kept z u1 := by
    unfold u1
    refine State.countT_kept ?_
    exact hk
  extract_lets -merge +onlyGivenNames u3
  have h4 : Kept z u3 := by
    unfold u3
    refine Kept.ite ?_ ?_
    · refine State.bumpPw_kept ?_
      exact h2
    · exact h2
  split
  · refine State.injUsed_kept ?_
    exact h4
  · split
    rename_i e5
    refine Kept.thruE (z := z) e5 ?_ (fun h6 => ?_)
    · refine State.injectBytes_kept ?_
      exact h4
    · extract_lets -merge +onlyGivenNames u7
      split
      · extract_lets -merge +onlyGivenNames u8
        extract_lets -merge +onlyGivenNames u9
        extract_lets -merge +onlyGivenNames u10
        have h11 : Kept z u10 := by
          unfold u10
          refine State.setInj_kept ?_
          exact h6
        refine Kept.ite ?_ ?_
        · refine State.releaseHeld_kept ?_
          refine State.injSpent_kept ?_
          exact h11
        · exact h11
      · refine State.sheafWrite_kept ?_
        exact h6

theorem State.recentre_kept {z : State} {s : State} {t : Nat} {c : Nat} (hk : Kept z s) : Kept z (@State.recentre s t c) := by
  unfold State.recentre
  extract_lets -merge +onlyGivenNames u1
  extract_lets -merge +onlyGivenNames u2
  have h3 : Kept z u2 := by
    unfold u2
    refine State.setTrib_kept ?_
    exact hk
  refine Kept.ite ?_ ?_
  · exact h3
  · refine Kept.foldl ?_ ?_
    · intro a4 a5 h6
      refine State.setTrib_kept ?_
      exact h6
    · exact h3

theorem State.bumpPw64_kept {z : State} {s : State} {c : Nat} {slot : Nat} {w : Nat} {k : Nat} (hk : Kept z s) : Kept z (@State.bumpPw64 s c slot w k) := by
  unfold State.bumpPw64
  extract_lets -merge +onlyGivenNames u1
  refine State.setPw_kept ?_
  refine State.setPw_kept ?_
  exact hk

theorem State.clientWords_kept {z : State} {s : State} {c : Nat} (hk : Kept z s) : Kept z (@State.clientWords s c).2 := by
  unfold State.clientWords
  refine Kept.foldl2 ?_ ?_
  · intro a1 a2 h3
    split
    extract_lets -merge +onlyGivenNames u4
    dsimp -zeta only
    refine State.setLane_kept ?_
    exact h3
  · exact hk

theorem State.wordsTo_kept {z : State} {s : State} {t : Nat} {e : Nat} {ws : List Nat} (hk : Kept z s) : Kept z (@State.wordsTo s t e ws) := by
  unfold State.wordsTo
  refine Kept.ite ?_ ?_
  · refine State.setTrib_kept ?_
    exact hk
  · refine State.setXc_kept ?_
    exact hk

theorem State.feedClient_kept {z : State} {s : State} {t : Nat} {cl : Nat} (hk : Kept z s) : Kept z (@State.feedClient s t cl) := by
  unfold State.feedClient
  split
  rename_i e1
  refine Kept.thruE (z := z) e1 ?_ (fun h2 => ?_)
  · refine State.clientWords_kept ?_
    exact hk
  · refine Kept.foldl ?_ ?_
    · intro a3 a4 h5
      refine State.wordsTo_kept ?_
      exact h5
    · exact h2

theorem State.nextSheaf_kept {z : State} {s : State} {t c now n : Nat} (hk : Kept z s) : Kept z (s.nextSheaf t c now n).2 := by
  induction n generalizing s with
  | zero => exact hk
  | succ n ih =>
    unfold State.nextSheaf
    split
    · exact Kept.snd (State.choose_kept hk) ‹_›
    · rename_i e
      have h1 := Kept.snd (State.choose_kept hk) e
      extract_lets ct cls u
      have hu : Kept z u := State.endDeparture_kept h1
      split
      · exact ih (State.injUsed_kept hu)
      · split
        rename_i e2
        have h2 := Kept.snd (State.injectBytes_kept hu) e2
        extract_lets blocks v
        have hv : Kept z v := State.countT_kept h2
        split
        · split
          · exact Kept.snd (State.reorderTx_kept hv) ‹_›
          · exact ih (Kept.snd (State.reorderTx_kept hv) ‹_›)
        · exact hv

theorem State.trunkBlocks_kept {z : State} {s : State} {t c now : Nat} {q : List (Nat × Bool)} {p n : Nat} (hk : Kept z s) :
    Kept z (s.trunkBlocks t c now q p n).2 := by
  induction n generalizing s q p with
  | zero => exact hk
  | succ n ih =>
    have body : ∀ (q : List (Nat × Bool)) (u : State), Kept z u →
        Kept z (match q with
          | [] => (((List.replicate (n + 1) 0), none, n + 1, []), u)
          | (w, h) :: rest =>
            let ((ws, ptr, fill, q'), s) := State.trunkBlocks u t c now rest (p + 1) n
            ((w :: ws, if h then some p else ptr, fill, q'), s)).2 := by
      intro q u hu
      split
      · exact hu
      · exact ih hu
    unfold State.trunkBlocks
    split
    rename_i e
    refine body _ _ ?_
    split at e
    · split at e
      · cases e; exact Kept.snd (State.nextSheaf_kept hk) ‹_›
      · cases e; exact Kept.snd (State.nextSheaf_kept hk) ‹_›
    · cases e; exact hk

theorem State.fillTrunk_kept {z : State} {s : State} {c : Nat} {t : Nat} (hk : Kept z s) : Kept z (@State.fillTrunk s c t) := by
  unfold State.fillTrunk
  extract_lets -merge +onlyGivenNames u1
  extract_lets -merge +onlyGivenNames u2
  refine Kept.ite ?_ ?_
  · exact hk
  · extract_lets -merge +onlyGivenNames u3
    split
    rename_i e4
    refine Kept.thruE (z := z) e4 ?_ (fun h5 => ?_)
    · refine State.trunkBlocks_kept ?_
      exact hk
    · extract_lets -merge +onlyGivenNames u6
      extract_lets -merge +onlyGivenNames u7
      have h8 : Kept z u7 := by
        unfold u7
        refine State.setTrib_kept ?_
        exact h5
      extract_lets -merge +onlyGivenNames u9
      extract_lets -merge +onlyGivenNames u10
      have h11 : Kept z u10 := by
        unfold u10
        refine Kept.foldl ?_ ?_
        · intro a12 a13 h14
          split
          refine State.putPayload_kept ?_
          exact h14
        · exact h8
      refine State.bumpPw64_kept ?_
      exact h11

theorem State.fillTrunks_kept {z : State} {s : State} {c : Nat} (hk : Kept z s) : Kept z (@State.fillTrunks s c) := by
  unfold State.fillTrunks
  refine Kept.ite ?_ ?_
  · exact hk
  · refine Kept.foldl ?_ ?_
    · intro a1 a2 h3
      refine Kept.ite ?_ ?_
      · refine State.fillTrunk_kept ?_
        exact h3
      · exact h3
    · exact hk

theorem State.replacement_kept {z : State} {s : State} (hk : Kept z s) : Kept z (@State.replacement s).2 := by
  unfold State.replacement
  refine State.fresh_kept ?_
  exact hk

theorem State.replacements_kept {z : State} {s : State} {n : Nat} (hk : Kept z s) : Kept z (s.replacements n).2 := by
  induction n generalizing s with
  | zero => exact hk
  | succ n ih => exact ih (State.replacement_kept hk)

theorem State.showTrib_kept {z : State} {s : State} {t : Nat} (hk : Kept z s) : Kept z (@State.showTrib s t) := by
  unfold State.showTrib
  extract_lets -merge +onlyGivenNames u1
  extract_lets -merge +onlyGivenNames u2
  have h3 : Kept z u2 := by
    unfold u2
    refine State.wr_kept ?_
    exact hk
  refine State.wr_kept ?_
  exact h3

theorem State.startMapper_kept {z : State} {s : State} {t : Nat} {c : Nat} (hk : Kept z s) : Kept z (@State.startMapper s t c) := by
  unfold State.startMapper
  refine State.setTrib_kept ?_
  exact hk

theorem State.groupCond_kept {z : State} {s : State} {t : Nat} (hk : Kept z s) : Kept z (@State.groupCond s t) := by
  unfold State.groupCond
  split
  · exact hk
  · split
    · extract_lets -merge +onlyGivenNames u1
      extract_lets -merge +onlyGivenNames u2
      extract_lets -merge +onlyGivenNames u3
      refine Kept.ite ?_ ?_
      · exact hk
      · refine State.judgeGroup_kept ?_
        refine State.setGroup_kept ?_
        exact hk
    · exact hk

theorem State.reportDef_kept {z : State} {s : State} {c : Nat} {unit : Nat} {old : Nat} {new : Nat} (hk : Kept z s) : Kept z (@State.reportDef s c unit old new) := by
  unfold State.reportDef
  extract_lets -merge +onlyGivenNames u1
  have h2 : Kept z u1 := by
    unfold u1
    refine Kept.ite ?_ ?_
    · refine State.reeveEvent_kept ?_
      exact hk
    · exact hk
  refine Kept.ite ?_ ?_
  · refine State.report_kept ?_
    exact h2
  · exact h2

theorem State.setEnd_kept {z : State} {s : State} {t : Nat} {c : Nat} {d : Nat} (hk : Kept z s) : Kept z (@State.setEnd s t c d) := by
  unfold State.setEnd
  extract_lets -merge +onlyGivenNames u1
  extract_lets -merge +onlyGivenNames u2
  extract_lets -merge +onlyGivenNames u3
  extract_lets -merge +onlyGivenNames u4
  extract_lets -merge +onlyGivenNames u5
  refine Kept.ite ?_ ?_
  · exact hk
  · extract_lets -merge +onlyGivenNames u6
    extract_lets -merge +onlyGivenNames u7
    have h8 : Kept z u7 := by
      unfold u7
      split
      · refine Kept.ite ?_ ?_
        · refine State.wr_kept ?_
          exact hk
        · refine State.wr_kept ?_
          exact hk
      · exact hk
    extract_lets -merge +onlyGivenNames u9
    have h10 : Kept z u9 := by
      unfold u9
      refine State.groupCond_kept ?_
      refine State.reportDef_kept ?_
      exact h8
    refine Kept.ite ?_ ?_
    · refine State.recentre_kept ?_
      exact h10
    · exact h10

theorem State.refreshEnds_kept {z : State} {s : State} {c : Nat} (hk : Kept z s) : Kept z (@State.refreshEnds s c) := by
  unfold State.refreshEnds
  refine Kept.foldl ?_ ?_
  · intro a1 a2 h3
    extract_lets -merge +onlyGivenNames u4
    refine State.setEnd_kept ?_
    exact h3
  · exact hk

theorem State.putDefs_kept {z : State} {s : State} {c : Nat} {d : Nat} (hk : Kept z s) : Kept z (@State.putDefs s c d) := by
  unfold State.putDefs
  extract_lets -merge +onlyGivenNames u1
  extract_lets -merge +onlyGivenNames u2
  have h3 : Kept z u2 := by
    unfold u2
    refine Kept.ite ?_ ?_
    · refine Kept.foldl ?_ ?_
      · intro a4 a5 h6
        extract_lets -merge +onlyGivenNames u7
        refine State.setBip_kept ?_
        exact h6
      · exact hk
    · exact hk
  extract_lets -merge +onlyGivenNames u8
  extract_lets -merge +onlyGivenNames u9
  refine Kept.ite ?_ ?_
  · exact h3
  · extract_lets -merge +onlyGivenNames u10
    extract_lets -merge +onlyGivenNames u11
    extract_lets -merge +onlyGivenNames u12
    have h13 : Kept z u12 := by
      unfold u12
      refine State.setReg_kept ?_
      refine State.setReg_kept ?_
      exact h3
    extract_lets -merge +onlyGivenNames u14
    have h15 : Kept z u14 := by
      unfold u14
      refine Kept.ite ?_ ?_
      · refine State.countC_kept ?_
        exact h13
      · exact h13
    refine State.refreshEnds_kept ?_
    refine State.reportDef_kept ?_
    exact h15

theorem State.refreshChan_kept {z : State} {s : State} {c : Nat} (hk : Kept z s) : Kept z (@State.refreshChan s c) := by
  unfold State.refreshChan
  refine State.putDefs_kept ?_
  exact hk

theorem State.startDefects_kept {z : State} {s : State} {c : Nat} (hk : Kept z s) : Kept z (@State.startDefects s c) := by
  unfold State.startDefects
  extract_lets -merge +onlyGivenNames u1
  have h2 : Kept z u1 := by
    unfold u1
    refine Kept.foldl ?_ ?_
    · intro a3 a4 h5
      refine State.setBip_kept ?_
      exact h5
    · exact hk
  refine State.putDefs_kept ?_
  exact h2

theorem State.dropBond_kept {z : State} {s : State} {n : Nat} (hk : Kept z s) : Kept z (@State.dropBond s n) := by
  unfold State.dropBond
  refine Kept.ite ?_ ?_
  · refine State.wr_kept ?_
    exact hk
  · exact hk

theorem State.dropFraming_kept {z : State} {s : State} {n : Nat} (hk : Kept z s) : Kept z (@State.dropFraming s n) := by
  unfold State.dropFraming
  refine State.setVtf_kept ?_
  exact hk

theorem State.endSearch_kept {z : State} {s : State} {n : Nat} (hk : Kept z s) : Kept z (@State.endSearch s n) := by
  unfold State.endSearch
  extract_lets -merge +onlyGivenNames u1
  extract_lets -merge +onlyGivenNames u2
  have h3 : Kept z u2 := by
    unfold u2
    refine State.setAlign_kept ?_
    exact hk
  split
  · refine Kept.ite ?_ ?_
    · refine State.report_kept ?_
      exact h3
    · exact h3
  · exact h3

theorem State.hfHunt_kept {z : State} {s : State} {n : Nat} (hk : Kept z s) : Kept z (@State.hfHunt s n) := by
  unfold State.hfHunt
  extract_lets -merge +onlyGivenNames u1
  refine Kept.ite ?_ ?_
  · refine State.setChanX_kept ?_
    refine State.setPw_kept ?_
    exact hk
  · exact hk

theorem State.qlFail_kept {z : State} {s : State} {n : Nat} (hk : Kept z s) : Kept z (@State.qlFail s n) := by
  unfold State.qlFail
  refine Kept.ite ?_ ?_
  · refine State.bellShow_kept ?_
    refine State.setPw_kept ?_
    exact hk
  · exact hk

theorem State.syncAlign_kept {z : State} {s : State} {n : Nat} (hk : Kept z s) : Kept z (@State.syncAlign s n) := by
  unfold State.syncAlign
  extract_lets -merge +onlyGivenNames u1
  extract_lets -merge +onlyGivenNames u2
  refine Kept.ite ?_ ?_
  · extract_lets -merge +onlyGivenNames u3
    refine State.setPw_kept ?_
    refine State.setPw_kept ?_
    exact hk
  · refine Kept.ite ?_ ?_
    · refine State.setPw_kept ?_
      exact hk
    · exact hk

theorem State.dropLocks_kept {z : State} {s : State} {n : Nat} (hk : Kept z s) : Kept z (@State.dropLocks s n) := by
  unfold State.dropLocks
  extract_lets -merge +onlyGivenNames u1
  extract_lets -merge +onlyGivenNames u2
  have h3 : Kept z u2 := by
    unfold u2
    refine State.setAlign_kept ?_
    exact hk
  refine State.syncAlign_kept ?_
  refine State.qlFail_kept ?_
  refine State.dropBond_kept ?_
  refine State.dropFraming_kept ?_
  refine State.hfHunt_kept ?_
  refine State.endSearch_kept ?_
  exact h3

theorem State.setRx_kept {z : State} {s : State} {n : Nat} {v : Nat} (hk : Kept z s) : Kept z (@State.setRx s n v) := by
  unfold State.setRx
  extract_lets -merge +onlyGivenNames u1
  extract_lets -merge +onlyGivenNames u2
  have h3 : Kept z u2 := by
    unfold u2
    refine Kept.ite ?_ ?_
    · refine State.dropLocks_kept ?_
      exact hk
    · exact hk
  extract_lets -merge +onlyGivenNames u4
  extract_lets -merge +onlyGivenNames u5
  have h6 : Kept z u5 := by
    unfold u5
    refine Kept.ite ?_ ?_
    · refine State.setLane_kept ?_
      refine State.wr_kept ?_
      exact h3
    · exact h3
  extract_lets -merge +onlyGivenNames u7
  extract_lets -merge +onlyGivenNames u8
  have h9 : Kept z u8 := by
    unfold u8
    refine Kept.ite ?_ ?_
    · refine State.setLane_kept ?_
      exact h6
    · exact h6
  refine State.wr_kept ?_
  exact h9

theorem State.fecWrite_kept {z : State} {s : State} {n : Nat} {v : Nat} (hk : Kept z s) : Kept z (@State.fecWrite s n v) := by
  unfold State.fecWrite
  extract_lets -merge +onlyGivenNames u1
  refine Kept.ite ?_ ?_
  · exact hk
  · extract_lets -merge +onlyGivenNames u2
    extract_lets -merge +onlyGivenNames u3
    have h4 : Kept z u3 := by
      unfold u3
      refine State.setLane_kept ?_
      with_reducible refine Kept.units_put ?_ _ _
      exact hk
    refine Kept.ite ?_ ?_
    · exact h4
    · extract_lets -merge +onlyGivenNames u5
      extract_lets -merge +onlyGivenNames u6
      have h7 : Kept z u6 := by
        unfold u6
        refine State.setAlign_kept ?_
        exact h4
      refine State.syncAlign_kept ?_
      refine State.dropBond_kept ?_
      refine State.dropFraming_kept ?_
      exact h7

theorem State.unitsByAlmanac_kept {z : State} {s : State} {us : List Nat} {n : Nat} (hk : Kept z s) : Kept z (s.unitsByAlmanac us n) := by
  induction us generalizing s with
  | nil => exact hk
  | cons u us ih => exact ih (Kept.units_put hk (8 * n + u) none)

theorem State.lineFault_kept {z : State} {s : State} {n : Nat} {holds : Bool} (hk : Kept z s) : Kept z (@State.lineFault s n holds) := by
  unfold State.lineFault
  refine Kept.ite ?_ ?_
  · refine State.qlFail_kept ?_
    exact hk
  · exact hk

theorem State.quadStart_kept {z : State} {s : State} {q : Nat} (hk : Kept z s) : Kept z (@State.quadStart s q) := by
  unfold State.quadStart
  extract_lets -merge +onlyGivenNames u1
  extract_lets -merge +onlyGivenNames u2
  have h3 : Kept z u2 := by
    unfold u2
    split
    · with_reducible refine Kept.upd ?_ ..
      exact hk
    · exact hk
  extract_lets -merge +onlyGivenNames u4
  have h5 : Kept z u4 := by
    unfold u4
    refine State.wr_kept ?_
    exact h3
  refine Kept.ite ?_ ?_
  · refine State.wr_kept ?_
    exact h5
  · exact h5

theorem State.dropSnapshot_kept {z : State} {s : State} {n : Nat} (hk : Kept z s) : Kept z (@State.dropSnapshot s n) := by
  unfold State.dropSnapshot
  refine State.wr_kept ?_
  exact hk

theorem State.dropStored_kept {z : State} {s : State} {n : Nat} (hk : Kept z s) : Kept z (@State.dropStored s n) := by
  unfold State.dropStored
  refine State.setLane_kept ?_
  refine State.wr_kept ?_
  exact hk

theorem State.endCalStep_kept {z : State} {s : State} {n : Nat} (hk : Kept z s) : Kept z (@State.endCalStep s n) := by
  unfold State.endCalStep
  refine Kept.ite ?_ ?_
  · refine State.wr_kept ?_
    exact hk
  · exact hk

theorem State.leaveService_kept {z : State} {s : State} {n : Nat} (hk : Kept z s) : Kept z (@State.leaveService s n) := by
  unfold State.leaveService
  extract_lets -merge +onlyGivenNames u1
  have h2 : Kept z u1 := by
    unfold u1
    refine Kept.ite ?_ ?_
    · refine State.wr_kept ?_
      exact hk
    · exact hk
  extract_lets -merge +onlyGivenNames u3
  have h4 : Kept z u3 := by
    unfold u3
    refine State.dropLocks_kept ?_
    exact h2
  extract_lets -merge +onlyGivenNames u5
  extract_lets -merge +onlyGivenNames u6
  have h7 : Kept z u6 := by
    unfold u6
    refine State.setLane_kept ?_
    exact h4
  refine State.stopInjectorsOn_kept ?_
  exact h7

theorem State.quadFollow_kept {z : State} {s : State} {q : Nat} (hk : Kept z s) : Kept z (@State.quadFollow s q) := by
  unfold State.quadFollow
  extract_lets -merge +onlyGivenNames u1
  extract_lets -merge +onlyGivenNames u2
  extract_lets -merge +onlyGivenNames u3
  have h4 : Kept z u3 := by
    unfold u3
    refine Kept.ite ?_ ?_
    · refine State.wr_kept ?_
      exact hk
    · exact hk
  refine Kept.ite ?_ ?_
  · refine State.wr_kept ?_
    refine State.wr_kept ?_
    exact h4
  · exact h4

theorem State.laneOff_kept {z : State} {s : State} {n : Nat} (hk : Kept z s) : Kept z (@State.laneOff s n) := by
  unfold State.laneOff
  extract_lets -merge +onlyGivenNames u1
  have h2 : Kept z u1 := by
    unfold u1
    refine State.leaveService_kept ?_
    exact hk
  extract_lets -merge +onlyGivenNames u3
  have h4 : Kept z u3 := by
    unfold u3
    refine State.endCalStep_kept ?_
    exact h2
  extract_lets -merge +onlyGivenNames u5
  extract_lets -merge +onlyGivenNames u6
  have h7 : Kept z u6 := by
    unfold u6
    refine State.setLane_kept ?_
    refine State.setReg_kept ?_
    exact h4
  extract_lets -merge +onlyGivenNames u8
  have h9 : Kept z u8 := by
    unfold u8
    refine State.wr_kept ?_
    refine State.wr_kept ?_
    exact h7
  extract_lets -merge +onlyGivenNames u10
  have h11 : Kept z u10 := by
    unfold u10
    refine State.wr_kept ?_
    refine State.wr_kept ?_
    exact h9
  extract_lets -merge +onlyGivenNames u12
  have h13 : Kept z u12 := by
    unfold u12
    refine State.setLaneState_kept ?_
    refine State.dropSnapshot_kept ?_
    refine State.dropStored_kept ?_
    exact h11
  refine State.quadFollow_kept ?_
  exact h13

theorem State.startCal_kept {z : State} {s : State} {n : Nat} (hk : Kept z s) : Kept z (@State.startCal s n) := by
  unfold State.startCal
  refine Kept.ite ?_ ?_
  · refine State.wr_kept ?_
    refine State.setLane_kept ?_
    exact hk
  · refine State.wr_kept ?_
    refine State.setLane_kept ?_
    exact hk

theorem State.enterCal_kept {z : State} {s : State} {n : Nat} (hk : Kept z s) : Kept z (@State.enterCal s n) := by
  unfold State.enterCal
  extract_lets -merge +onlyGivenNames u1
  have h2 : Kept z u1 := by
    unfold u1
    refine State.leaveService_kept ?_
    exact hk
  extract_lets -merge +onlyGivenNames u3
  extract_lets -merge +onlyGivenNames u4
  have h5 : Kept z u4 := by
    unfold u4
    refine State.setLane_kept ?_
    exact h2
  extract_lets -merge +onlyGivenNames u6
  have h7 : Kept z u6 := by
    unfold u6
    refine State.setLaneState_kept ?_
    refine State.wr_kept ?_
    refine State.wr_kept ?_
    refine State.wr_kept ?_
    exact h5
  refine State.startCal_kept ?_
  refine State.quadStart_kept ?_
  refine State.dropStored_kept ?_
  refine State.dropSnapshot_kept ?_
  exact h7

theorem State.fenceLane_kept {z : State} {s : State} {n : Nat} {cause : Nat} (hk : Kept z s) : Kept z (@State.fenceLane s n cause) := by
  unfold State.fenceLane
  refine Kept.ite ?_ ?_
  · exact hk
  · refine Kept.ite ?_ ?_
    · refine State.reportFence_kept ?_
      refine State.setLane_kept ?_
      refine State.wr_kept ?_
      exact hk
    · extract_lets -merge +onlyGivenNames u1
      extract_lets -merge +onlyGivenNames u2
      extract_lets -merge +onlyGivenNames u3
      have h4 : Kept z u3 := by
        unfold u3
        refine State.leaveService_kept ?_
        exact hk
      extract_lets -merge +onlyGivenNames u5
      have h6 : Kept z u5 := by
        unfold u5
        refine State.stopInjectorsOn_kept ?_
        exact h4
      extract_lets -merge +onlyGivenNames u7
      have h8 : Kept z u7 := by
        unfold u7
        refine Kept.ite ?_ ?_
        · exact h6
        · refine State.endCalStep_kept ?_
          exact h6
      extract_lets -merge +onlyGivenNames u9
      extract_lets -merge +onlyGivenNames u10
      extract_lets -merge +onlyGivenNames u11
      have h12 : Kept z u11 := by
        unfold u11
        refine State.setLane_kept ?_
        exact h8
      extract_lets -merge +onlyGivenNames u13
      have h14 : Kept z u13 := by
        unfold u13
        refine State.wr_kept ?_
        refine State.wr_kept ?_
        refine State.setLaneState_kept ?_
        exact h12
      extract_lets -merge +onlyGivenNames u15
      have h16 : Kept z u15 := by
        unfold u15
        refine State.wr_kept ?_
        refine State.wr_kept ?_
        refine State.wr_kept ?_
        exact h14
      extract_lets -merge +onlyGivenNames u17
      have h18 : Kept z u17 := by
        unfold u17
        refine Kept.ite ?_ ?_
        · exact h16
        · refine State.wr_kept ?_
          refine State.wr_kept ?_
          exact h16
      extract_lets -merge +onlyGivenNames u19
      have h20 : Kept z u19 := by
        unfold u19
        refine State.dropStored_kept ?_
        refine State.dropSnapshot_kept ?_
        exact h18
      extract_lets -merge +onlyGivenNames u21
      have h22 : Kept z u21 := by
        unfold u21
        refine State.reportFence_kept ?_
        refine State.laneEvent_kept ?_
        exact h20
      extract_lets -merge +onlyGivenNames u23
      have h24 : Kept z u23 := by
        unfold u23
        refine Kept.ite ?_ ?_
        · exact h22
        · refine State.reportFence_kept ?_
          exact h22
      refine State.internalFault_kept ?_
      refine State.refreshChan_kept ?_
      exact h24

theorem State.millEvent_kept {z : State} {s : State} {f : Fld} {unit : Nat} (hk : Kept z s) : Kept z (@State.millEvent s f unit) := by
  unfold State.millEvent
  extract_lets -merge +onlyGivenNames u1
  have h2 : Kept z u1 := by
    unfold u1
    refine State.reeveEvent_kept ?_
    refine State.latch_kept ?_
    exact hk
  refine State.report_kept ?_
  exact h2

theorem State.fenceTwinLane_kept {z : State} {s : State} {k : Nat} {cause : Nat} (hk : Kept z s) : Kept z (@State.fenceTwinLane s k cause) := by
  unfold State.fenceTwinLane
  extract_lets -merge +onlyGivenNames u1
  extract_lets -merge +onlyGivenNames u2
  extract_lets -merge +onlyGivenNames u3
  have h4 : Kept z u3 := by
    unfold u3
    refine Kept.ite ?_ ?_
    · exact hk
    · with_reducible refine Kept.upd ?_ ..
      exact hk
  extract_lets -merge +onlyGivenNames u5
  have h6 : Kept z u5 := by
    unfold u5
    refine State.wr_kept ?_
    exact h4
  extract_lets -merge +onlyGivenNames u7
  have h8 : Kept z u7 := by
    unfold u7
    refine State.wr_kept ?_
    exact h6
  refine State.internalFault_kept ?_
  refine State.reportFence_kept ?_
  refine State.stopInjectorsOn_kept ?_
  exact h8

theorem State.fenceSerial_kept {z : State} {s : State} {n : Nat} {cause : Nat} (hk : Kept z s) : Kept z (@State.fenceSerial s n cause) := by
  unfold State.fenceSerial
  refine Kept.ite ?_ ?_
  · refine State.fenceLane_kept ?_
    exact hk
  · refine State.fenceTwinLane_kept ?_
    exact hk

theorem State.setCoeffs_kept {z : State} {s : State} {n : Nat} {c : Coeffs} (hk : Kept z s) : Kept z (@State.setCoeffs s n c) := by
  unfold State.setCoeffs
  refine Kept.iter ?_ ?_
  · intro a1 a2 h3
    refine State.wr_kept ?_
    exact h3
  · refine State.setReg_kept ?_
    exact hk

theorem State.fromSnapshot_kept {z : State} {s : State} {n : Nat} (hk : Kept z s) : Kept z (@State.fromSnapshot s n) := by
  unfold State.fromSnapshot
  refine State.setCoeffs_kept ?_
  exact hk

theorem State.presets_kept {z : State} {s : State} {n : Nat} (hk : Kept z s) : Kept z (@State.presets s n) := by
  unfold State.presets
  extract_lets -merge +onlyGivenNames u1
  extract_lets -merge +onlyGivenNames u2
  have h3 : Kept z u2 := by
    unfold u2
    with_reducible refine Kept.upd ?_ ..
    exact hk
  refine State.setCoeffs_kept ?_
  exact h3

theorem State.closeQueue_kept {z : State} {s : State} {q : Nat} (hk : Kept z s) : Kept z (@State.closeQueue s q) := by
  unfold State.closeQueue
  refine Kept.ite ?_ ?_
  · extract_lets -merge +onlyGivenNames u1
    have h2 : Kept z u1 := by
      unfold u1
      refine State.degradedRecompute_kept ?_
      refine State.wr_kept ?_
      refine State.wr_kept ?_
      exact hk
    refine Kept.ite ?_ ?_
    · refine State.report_kept ?_
      exact h2
    · exact h2
  · exact hk

theorem State.flushQueue_kept {z : State} {s : State} {q : Nat} (hk : Kept z s) : Kept z (@State.flushQueue s q) := by
  unfold State.flushQueue
  extract_lets -merge +onlyGivenNames u1
  have h2 : Kept z u1 := by
    unfold u1
    refine Kept.foldl ?_ ?_
    · intro a3 a4 h5
      refine State.dropPkt_kept ?_
      exact h5
    · exact hk
  refine Kept.ite ?_ ?_
  · with_reducible refine Kept.upd ?_ ..
    exact h2
  · exact h2

theorem State.drainBank_kept {z : State} {s : State} {b : Nat} {cause : Nat} (hk : Kept z s) : Kept z (@State.drainBank s b cause) := by
  unfold State.drainBank
  extract_lets -merge +onlyGivenNames u1
  extract_lets -merge +onlyGivenNames u2
  have h3 : Kept z u2 := by
    unfold u2
    refine State.setBank_kept ?_
    exact hk
  extract_lets -merge +onlyGivenNames u4
  have h5 : Kept z u4 := by
    unfold u4
    refine State.wr_kept ?_
    exact h3
  extract_lets -merge +onlyGivenNames u6
  have h7 : Kept z u6 := by
    unfold u6
    refine Kept.ite ?_ ?_
    · exact h5
    · refine State.latch_kept ?_
      refine State.wr_kept ?_
      exact h5
  refine State.degradedRecompute_kept ?_
  exact h7

theorem State.askRetire_kept {z : State} {s : State} {b : Nat} {cause : Nat} (hk : Kept z s) : Kept z (@State.askRetire s b cause) := by
  unfold State.askRetire
  extract_lets -merge +onlyGivenNames u1
  refine Kept.ite ?_ ?_
  · exact hk
  · refine Kept.ite ?_ ?_
    · refine Kept.ite ?_ ?_
      · refine State.latch_kept ?_
        refine State.wr_kept ?_
        refine State.setBank_kept ?_
        exact hk
      · exact hk
    · refine State.setBank_kept ?_
      exact hk

theorem State.eccRead_kept {z : State} {s : State} {mem : Nat} {addr : Nat} {f : EccFind} (hk : Kept z s) : Kept z (@State.eccRead s mem addr f) := by
  unfold State.eccRead
  refine Kept.ite ?_ ?_
  · exact hk
  · extract_lets -merge +onlyGivenNames u1
    extract_lets -merge +onlyGivenNames u2
    have h3 : Kept z u2 := by
      unfold u2
      refine Kept.ite ?_ ?_
      · refine State.countD_kept ?_
        exact hk
      · refine State.countD_kept ?_
        exact hk
    extract_lets -merge +onlyGivenNames u4
    have h5 : Kept z u4 := by
      unfold u4
      refine Kept.ite ?_ ?_
      · refine State.setReg_kept ?_
        refine State.wr_kept ?_
        refine State.wr_kept ?_
        refine State.wr_kept ?_
        exact h3
      · exact h3
    refine Kept.ite ?_ ?_
    · refine State.internalFault_kept ?_
      refine State.latch_kept ?_
      exact h5
    · exact h5

theorem State.track_kept {z : State} {s : State} {b : Nat} {row : Nat} {pos : Nat} {cls : EccClass} {scrub : Bool} (hk : Kept z s) : Kept z (@State.track s b row pos cls scrub) := by
  unfold State.track
  extract_lets -merge +onlyGivenNames u1
  extract_lets -merge +onlyGivenNames u2
  extract_lets -merge +onlyGivenNames u3
  extract_lets -merge +onlyGivenNames u4
  extract_lets -merge +onlyGivenNames u5
  extract_lets -merge +onlyGivenNames u6
  extract_lets -merge +onlyGivenNames u7
  extract_lets -merge +onlyGivenNames u8
  clear_value u8
  split
  · exact hk
  · extract_lets -merge +onlyGivenNames u9
    have h10 : Kept z u9 := by
      unfold u9
      refine State.setBank_kept ?_
      exact hk
    refine Kept.ite ?_ ?_
    · refine State.askRetire_kept ?_
      exact h10
    · exact h10

theorem State.bankEcc_kept {z : State} {s : State} {b : Nat} {phys : Nat} {word : Nat} {f : EccFind} {scrub : Bool} (hk : Kept z s) : Kept z (@State.bankEcc s b phys word f scrub) := by
  unfold State.bankEcc
  refine Kept.ite ?_ ?_
  · exact hk
  · extract_lets -merge +onlyGivenNames u1
    have h2 : Kept z u1 := by
      unfold u1
      refine State.eccRead_kept ?_
      exact hk
    extract_lets -merge +onlyGivenNames u3
    extract_lets -merge +onlyGivenNames u4
    extract_lets -merge +onlyGivenNames u5
    have h6 : Kept z u5 := by
      unfold u5
      clear_value u4
      split
      · refine Kept.ite ?_ ?_
        · refine State.track_kept ?_
          exact h2
        · exact h2
      · exact h2
    refine Kept.ite ?_ ?_
    · extract_lets -merge +onlyGivenNames u7
      extract_lets -merge +onlyGivenNames u8
      extract_lets -merge +onlyGivenNames u9
      extract_lets -merge +onlyGivenNames u10
      have h11 : Kept z u10 := by
        unfold u10
        refine State.setBank_kept ?_
        exact h6
      refine Kept.ite ?_ ?_
      · refine State.askRetire_kept ?_
        exact h11
      · exact h11
    · exact h6

theorem State.bankLive_kept {z : State} {s : State} {b : Nat} (hk : Kept z s) : Kept z (@State.bankLive s b) := by
  unfold State.bankLive
  extract_lets -merge +onlyGivenNames u1
  extract_lets -merge +onlyGivenNames u2
  extract_lets -merge +onlyGivenNames u3
  have h4 : Kept z u3 := by
    unfold u3
    refine State.setBank_kept ?_
    exact hk
  extract_lets -merge +onlyGivenNames u5
  have h6 : Kept z u5 := by
    unfold u5
    refine State.wr_kept ?_
    refine State.wr_kept ?_
    refine State.wr_kept ?_
    exact h4
  refine State.degradedRecompute_kept ?_
  refine State.reportFence_kept ?_
  exact h6

theorem State.writeRepairRec_kept {z : State} {s : State} (hk : Kept z s) : Kept z (@State.writeRepairRec s) := by
  unfold State.writeRepairRec
  extract_lets -merge +onlyGivenNames u1
  extract_lets -merge +onlyGivenNames u2
  extract_lets -merge +onlyGivenNames u3
  refine Kept.ite ?_ ?_
  · with_reducible refine Kept.upd ?_ ..
    exact hk
  · with_reducible refine Kept.upd ?_ ..
    exact hk

theorem State.dropAll_kept {z : State} {s : State} {q : Nat} {cause : Nat} (hk : Kept z s) : Kept z (@State.dropAll s q cause) := by
  unfold State.dropAll
  refine Kept.foldl ?_ ?_
  · intro a1 a2 h3
    refine State.dropPkt_kept ?_
    exact h3
  · exact hk

theorem State.powerGated_kept {z : State} {s : State} (hk : Kept z s) : Kept z (@State.powerGated s) := by
  unfold State.powerGated
  split
  · refine State.wr_kept ?_
    refine State.setBank_kept ?_
    exact hk
  · exact hk

theorem State.endDrain_kept {z : State} {s : State} {b : Nat} (hk : Kept z s) : Kept z (@State.endDrain s b) := by
  unfold State.endDrain
  extract_lets -merge +onlyGivenNames u1
  have h2 : Kept z u1 := by
    unfold u1
    refine Kept.foldl ?_ ?_
    · intro a3 a4 h5
      refine State.dropPkt_kept ?_
      exact h5
    · exact hk
  extract_lets -merge +onlyGivenNames u6
  refine Kept.ite ?_ ?_
  · refine State.degradedRecompute_kept ?_
    refine State.wr_kept ?_
    exact h2
  · extract_lets -merge +onlyGivenNames u7
    have h8 : Kept z u7 := by
      unfold u7
      refine State.wr_kept ?_
      refine State.setBank_kept ?_
      exact h2
    extract_lets -merge +onlyGivenNames u9
    have h10 : Kept z u9 := by
      unfold u9
      refine State.wr_kept ?_
      exact h8
    extract_lets -merge +onlyGivenNames u11
    have h12 : Kept z u11 := by
      unfold u11
      refine State.reportFence_kept ?_
      refine State.grnEvent_kept ?_
      exact h10
    refine State.degradedRecompute_kept ?_
    refine Kept.ite ?_ ?_
    · refine State.powerGated_kept ?_
      exact h12
    · exact h12

theorem State.fenceQueue_kept {z : State} {s : State} {q : Nat} {cause : Nat} (hk : Kept z s) : Kept z (@State.fenceQueue s q cause) := by
  unfold State.fenceQueue
  refine Kept.ite ?_ ?_
  · refine State.reportFence_kept ?_
    with_reducible refine Kept.upd ?_ ..
    exact hk
  · extract_lets -merge +onlyGivenNames u1
    have h2 : Kept z u1 := by
      unfold u1
      with_reducible refine Kept.upd ?_ ..
      exact hk
    extract_lets -merge +onlyGivenNames u3
    have h4 : Kept z u3 := by
      unfold u3
      refine State.showHead_kept ?_
      refine State.wr_kept ?_
      refine State.wr_kept ?_
      exact h2
    refine State.reportFence_kept ?_
    refine State.grnEvent_kept ?_
    exact h4

theorem State.putMap_kept {z : State} {s : State} {b : Nat} {m : List (Nat × Nat)} (hk : Kept z s) : Kept z (@State.putMap s b m) := by
  unfold State.putMap
  refine State.wr_kept ?_
  refine State.setBank_kept ?_
  exact hk

end Sys2Proof.Machine
end

