-- ==== Sys2Proof/Laws/Kept02.lean ====
section
/-! SUPPORT. What the operations of ProgOps, LaneAct, LaneAlign, AttachOps, Vtf, Bell keep (`Kept`): the queue as it is, the tables canonical, the fuse store one-way. -/
namespace Sys2Proof.Machine

theorem State.abandon_kept {z : State} {s : State} {m : Nat} (hk : Kept z s) : Kept z (@State.abandon s m) := by
  unfold State.abandon
  extract_lets -merge +onlyGivenNames u1
  extract_lets -merge +onlyGivenNames u2
  have h3 : Kept z u2 := by
    unfold u2
    with_reducible refine Kept.upd ?_ ..
    exact hk
  refine Kept.ite ?_ ?_
  · refine Kept.foldl ?_ ?_
    · intro a4 a5 h6
      refine Kept.ite ?_ ?_
      · exact h6
      · refine State.emit_kept ?_
        exact h6
    · exact h3
  · refine Kept.ite ?_ ?_
    · extract_lets -merge +onlyGivenNames u7
      split
      · extract_lets -merge +onlyGivenNames u8
        extract_lets -merge +onlyGivenNames u9
        refine State.setEng_kept ?_
        exact h3
      · exact h3
    · exact h3

theorem State.progFec_kept {z : State} {s : State} {c : Nat} (hk : Kept z s) : Kept z (@State.progFec s c) := by
  unfold State.progFec
  split
  · refine Kept.foldl ?_ ?_
    · intro a1 a2 h3
      refine State.fecWrite_kept ?_
      exact h3
    · exact hk
  · exact hk

theorem State.afterParams_kept {z : State} {s : State} {c : Nat} {slot : Nat} {ws : List Nat} (hk : Kept z s) : Kept z (@State.afterParams s c slot ws) := by
  unfold State.afterParams
  extract_lets -merge +onlyGivenNames u1
  have h2 : Kept z u1 := by
    unfold u1
    refine Kept.ite ?_ ?_
    · refine Kept.foldl ?_ ?_
      · intro a3 a4 h5
        refine State.unitsByAlmanac_kept ?_
        exact h5
      · exact hk
    · exact hk
  extract_lets -merge +onlyGivenNames u6
  have h7 : Kept z u6 := by
    unfold u6
    refine Kept.ite ?_ ?_
    · refine State.progFec_kept ?_
      exact h2
    · exact h2
  refine Kept.ite ?_ ?_
  · refine State.setPw_kept ?_
    refine State.setChanX_kept ?_
    exact h7
  · refine Kept.ite ?_ ?_
    · refine State.refreshChan_kept ?_
      exact h7
    · exact h7

theorem State.applyParams_kept {z : State} {s : State} {c : Nat} {slot : Nat} (hk : Kept z s) : Kept z (@State.applyParams s c slot) := by
  unfold State.applyParams
  split
  · exact hk
  · extract_lets -merge +onlyGivenNames u1
    extract_lets -merge +onlyGivenNames u2
    refine Kept.ite ?_ ?_
    · exact hk
    · extract_lets -merge +onlyGivenNames u3
      have h4 : Kept z u3 := by
        unfold u3
        with_reducible refine Kept.upd ?_ ..
        exact hk
      extract_lets -merge +onlyGivenNames u5
      extract_lets -merge +onlyGivenNames u6
      extract_lets -merge +onlyGivenNames u7
      extract_lets -merge +onlyGivenNames u8
      have h9 : Kept z u8 := by
        unfold u8
        clear_value u5
        split
        · refine State.setPw_kept ?_
          exact h4
        · exact h4
      extract_lets -merge +onlyGivenNames u10
      have h11 : Kept z u10 := by
        unfold u10
        refine Kept.foldl ?_ ?_
        · intro a12 a13 h14
          refine State.setPw_kept ?_
          exact h14
        · exact h9
      extract_lets -merge +onlyGivenNames u15
      have h16 : Kept z u15 := by
        unfold u15
        refine State.setPw_kept ?_
        exact h11
      extract_lets -merge +onlyGivenNames u17
      have h18 : Kept z u17 := by
        unfold u17
        refine State.setPw_kept ?_
        exact h16
      extract_lets -merge +onlyGivenNames u19
      have h20 : Kept z u19 := by
        unfold u19
        refine State.afterParams_kept ?_
        exact h18
      extract_lets -merge +onlyGivenNames u21
      have h22 : Kept z u21 := by
        unfold u21
        refine Kept.foldl ?_ ?_
        · intro a23 a24 h25
          refine State.fail_kept ?_
          exact h25
        · exact h20
      refine Kept.foldl ?_ ?_
      · intro a26 a27 h28
        refine State.ok_kept ?_
        exact h28
      · exact h22

theorem State.followFence_kept {z : State} {s : State} {q : Nat} {was : List (Bool × Bool)} (hk : Kept z s) : Kept z (@State.followFence s q was) := by
  unfold State.followFence
  refine Kept.iter ?_ ?_
  · intro a1 a2 h3
    extract_lets -merge +onlyGivenNames u4
    extract_lets -merge +onlyGivenNames u5
    extract_lets -merge +onlyGivenNames u6
    have h7 : Kept z u6 := by
      unfold u6
      refine Kept.ite ?_ ?_
      · refine State.reportFence_kept ?_
        exact h3
      · refine Kept.ite ?_ ?_
        · refine State.reportFence_kept ?_
          exact h3
        · exact h3
    refine State.refreshChan_kept ?_
    exact h7
  · exact hk

theorem State.pendParam_kept {z : State} {s : State} {c : Nat} {slot : Nat} {w : Nat} {v : W32} {h : Option CmdHead} (hk : Kept z s) : Kept z (@State.pendParam s c slot w v h) := by
  unfold State.pendParam
  extract_lets -merge +onlyGivenNames u1
  extract_lets -merge +onlyGivenNames u2
  have h3 : Kept z u2 := by
    unfold u2
    with_reducible refine Kept.upd ?_ ..
    exact hk
  refine State.setPw_kept ?_
  exact h3

theorem State.showReeve_kept {z : State} {s : State} {r : Nat} (hk : Kept z s) : Kept z (@State.showReeve s r) := by
  unfold State.showReeve
  extract_lets -merge +onlyGivenNames u1
  extract_lets -merge +onlyGivenNames u2
  refine State.wr_kept ?_
  refine State.wr_kept ?_
  exact hk

theorem State.restartSearches_kept {z : State} {s : State} (hk : Kept z s) : Kept z (@State.restartSearches s) := by
  unfold State.restartSearches
  refine Kept.iter ?_ ?_
  · intro a1 a2 h3
    split
    · exact h3
    · exact h3
    · refine State.setAlign_kept ?_
      exact h3
  · exact hk

theorem State.giveSteward_kept {z : State} {s : State} {r : Nat} (hk : Kept z s) : Kept z (@State.giveSteward s r) := by
  unfold State.giveSteward
  extract_lets -merge +onlyGivenNames u1
  have h2 : Kept z u1 := by
    unfold u1
    refine Kept.iter ?_ ?_
    · intro a3 a4 h5
      refine State.wr_kept ?_
      exact h5
    · exact hk
  extract_lets -merge +onlyGivenNames u6
  have h7 : Kept z u6 := by
    unfold u6
    refine State.releaseFault_kept ?_
    refine State.latch_kept ?_
    refine State.wr_kept ?_
    exact h2
  refine State.restartSearches_kept ?_
  with_reducible refine Kept.upd ?_ ..
  exact h7

theorem State.moveSteward_kept {z : State} {s : State} (hk : Kept z s) : Kept z (@State.moveSteward s) := by
  unfold State.moveSteward
  split
  · split
    rename_i e1
    refine Kept.thruE (z := z) e1 ?_ (fun h2 => ?_)
    · refine State.fresh_kept ?_
      refine State.giveSteward_kept ?_
      exact hk
    · refine State.report_kept ?_
      exact h2
  · extract_lets -merge +onlyGivenNames u3
    have h4 : Kept z u3 := by
      unfold u3
      refine Kept.iter ?_ ?_
      · intro a5 a6 h7
        refine State.wr_kept ?_
        exact h7
      · exact hk
    refine State.assertFault_kept ?_
    with_reducible refine Kept.upd ?_ ..
    exact h4

theorem State.stopReeve_kept {z : State} {s : State} {r : Nat} (hk : Kept z s) : Kept z (@State.stopReeve s r) := by
  unfold State.stopReeve
  refine State.showReeve_kept ?_
  refine State.setEng_kept ?_
  exact hk

theorem State.fenceReeve_kept {z : State} {s : State} {r : Nat} {cause : Nat} (hk : Kept z s) : Kept z (@State.fenceReeve s r cause) := by
  unfold State.fenceReeve
  extract_lets -merge +onlyGivenNames u1
  have h2 : Kept z u1 := by
    unfold u1
    refine Kept.ite ?_ ?_
    · exact hk
    · refine State.wr_kept ?_
      exact hk
  extract_lets -merge +onlyGivenNames u3
  have h4 : Kept z u3 := by
    unfold u3
    refine State.stopReeve_kept ?_
    refine State.latch_kept ?_
    refine State.wr_kept ?_
    exact h2
  extract_lets -merge +onlyGivenNames u5
  have h6 : Kept z u5 := by
    unfold u5
    refine State.internalFault_kept ?_
    refine State.reportFence_kept ?_
    exact h4
  refine Kept.ite ?_ ?_
  · refine State.moveSteward_kept ?_
    exact h6
  · exact h6

theorem State.stopThread_kept {z : State} {s : State} {q : Nat} {t : Nat} (hk : Kept z s) : Kept z (@State.stopThread s q t) := by
  unfold State.stopThread
  refine State.setEng_kept ?_
  exact hk

theorem State.fenceWeaver_kept {z : State} {s : State} {q : Nat} {cause : Nat} (hk : Kept z s) : Kept z (@State.fenceWeaver s q cause) := by
  unfold State.fenceWeaver
  extract_lets -merge +onlyGivenNames u1
  extract_lets -merge +onlyGivenNames u2
  have h3 : Kept z u2 := by
    unfold u2
    refine Kept.ite ?_ ?_
    · exact hk
    · refine State.wr_kept ?_
      exact hk
  extract_lets -merge +onlyGivenNames u4
  have h5 : Kept z u4 := by
    unfold u4
    refine Kept.iter ?_ ?_
    · intro a6 a7 h8
      refine State.stopThread_kept ?_
      exact h8
    · refine State.wr_kept ?_
      exact h3
  extract_lets -merge +onlyGivenNames u9
  have h10 : Kept z u9 := by
    unfold u9
    refine State.reportFence_kept ?_
    refine State.latch_kept ?_
    exact h5
  refine State.internalFault_kept ?_
  refine State.followFence_kept ?_
  exact h10

theorem State.fenceThread_kept {z : State} {s : State} {q : Nat} {t : Nat} {cause : Nat} (hk : Kept z s) : Kept z (@State.fenceThread s q t cause) := by
  unfold State.fenceThread
  extract_lets -merge +onlyGivenNames u1
  extract_lets -merge +onlyGivenNames u2
  have h3 : Kept z u2 := by
    unfold u2
    refine Kept.ite ?_ ?_
    · exact hk
    · refine State.wr_kept ?_
      exact hk
  extract_lets -merge +onlyGivenNames u4
  have h5 : Kept z u4 := by
    unfold u4
    refine State.stopThread_kept ?_
    refine State.wr_kept ?_
    exact h3
  extract_lets -merge +onlyGivenNames u6
  have h7 : Kept z u6 := by
    unfold u6
    refine State.wr_kept ?_
    exact h5
  extract_lets -merge +onlyGivenNames u8
  have h9 : Kept z u8 := by
    unfold u8
    refine State.reportFence_kept ?_
    refine State.latch_kept ?_
    exact h7
  refine State.internalFault_kept ?_
  refine State.followFence_kept ?_
  exact h9

theorem State.reeveEcc_kept {z : State} {s : State} {r : Nat} {mem : Nat} {c : EccClass} (hk : Kept z s) : Kept z (@State.reeveEcc s r mem c) := by
  unfold State.reeveEcc
  refine Kept.ite ?_ ?_
  · exact hk
  · refine Kept.ite ?_ ?_
    · refine State.fenceReeve_kept ?_
      refine State.wr_kept ?_
      refine State.latch_kept ?_
      refine State.countD_kept ?_
      exact hk
    · refine State.countD_kept ?_
      exact hk

theorem State.weaverEcc_kept {z : State} {s : State} {q : Nat} {t : Nat} {mem : Nat} {word : Nat} {c : EccClass} (hk : Kept z s) : Kept z (@State.weaverEcc s q t mem word c) := by
  unfold State.weaverEcc
  refine Kept.ite ?_ ?_
  · exact hk
  · refine Kept.ite ?_ ?_
    · extract_lets -merge +onlyGivenNames u1
      have h2 : Kept z u1 := by
        unfold u1
        refine State.latch_kept ?_
        refine State.countD_kept ?_
        exact hk
      extract_lets -merge +onlyGivenNames u3
      have h4 : Kept z u3 := by
        unfold u3
        refine State.wr_kept ?_
        refine State.wr_kept ?_
        refine State.wr_kept ?_
        exact h2
      refine State.fenceThread_kept ?_
      exact h4
    · refine State.countD_kept ?_
      exact hk

theorem State.fenceMaster_kept {z : State} {s : State} {m : Nat} {cause : Nat} (hk : Kept z s) : Kept z (@State.fenceMaster s m cause) := by
  unfold State.fenceMaster
  extract_lets -merge +onlyGivenNames u1
  have h2 : Kept z u1 := by
    unfold u1
    refine Kept.ite ?_ ?_
    · exact hk
    · refine State.wr_kept ?_
      refine State.wr_kept ?_
      exact hk
  extract_lets -merge +onlyGivenNames u3
  have h4 : Kept z u3 := by
    unfold u3
    refine State.internalFault_kept ?_
    refine State.reportFence_kept ?_
    refine State.abandon_kept ?_
    exact h2
  extract_lets -merge +onlyGivenNames u5
  have h6 : Kept z u5 := by
    unfold u5
    refine Kept.ite ?_ ?_
    · refine State.signal_kept ?_
      refine Kept.ite ?_ ?_
      · refine State.latch_kept ?_
        exact h4
      · exact h4
    · exact h4
  refine Kept.ite ?_ ?_
  · extract_lets -merge +onlyGivenNames u7
    have h8 : Kept z u7 := by
      unfold u7
      refine State.stopReeve_kept ?_
      refine State.wr_kept ?_
      exact h6
    refine Kept.ite ?_ ?_
    · refine State.moveSteward_kept ?_
      exact h8
    · exact h8
  · exact h6

theorem State.sharedWrite_kept {z : State} {s : State} {q : Nat} {off : Nat} {n : Nat} {v : Nat} (hk : Kept z s) : Kept z (@State.sharedWrite s q off n v) := by
  unfold State.sharedWrite
  refine Kept.ite ?_ ?_
  · extract_lets -merge +onlyGivenNames u1
    have h2 : ∀ v0 v1 v2, Kept z v0 → Kept z (u1 v0 v1 v2) := by
      unfold u1
      intro a3 a4 a5 h6
      with_reducible refine Kept.pblk_put ?_ _ _
      exact h6
    refine Kept.ite ?_ ?_
    · refine h2 _ _ _ ?_
      refine h2 _ _ _ ?_
      exact hk
    · refine h2 _ _ _ ?_
      exact hk
  · refine State.setBytes_kept ?_
    exact hk

theorem State.clearTest_kept {z : State} {s : State} {n : Nat} (hk : Kept z s) : Kept z (@State.clearTest s n) := by
  unfold State.clearTest
  extract_lets -merge +onlyGivenNames u1
  extract_lets -merge +onlyGivenNames u2
  extract_lets -merge +onlyGivenNames u3
  have h4 : Kept z u3 := by
    unfold u3
    refine State.setAlign_kept ?_
    refine State.setReg_kept ?_
    exact hk
  refine Kept.ite ?_ ?_
  · refine State.setRx_kept ?_
    exact h4
  · exact h4

theorem State.guardRelease_kept {z : State} {s : State} {n : Nat} (hk : Kept z s) : Kept z (@State.guardRelease s n) := by
  unfold State.guardRelease
  refine State.setLane_kept ?_
  refine State.wr_kept ?_
  exact hk

theorem State.firApply_kept {z : State} {s : State} {n : Nat} (hk : Kept z s) : Kept z (@State.firApply s n) := by
  unfold State.firApply
  extract_lets -merge +onlyGivenNames u1
  refine Kept.ite ?_ ?_
  · refine State.wr_kept ?_
    refine State.setLane_kept ?_
    exact hk
  · refine State.laneEvent_kept ?_
    exact hk

theorem State.scanStart_kept {z : State} {s : State} {n : Nat} (hk : Kept z s) : Kept z (@State.scanStart s n) := by
  unfold State.scanStart
  refine Kept.ite ?_ ?_
  · exact hk
  · refine Kept.ite ?_ ?_
    · refine State.setLane_kept ?_
      refine State.wr_kept ?_
      exact hk
    · refine State.wr_kept ?_
      exact hk

theorem State.slip_kept {z : State} {s : State} {n : Nat} (hk : Kept z s) : Kept z (@State.slip s n) := by
  unfold State.slip
  extract_lets -merge +onlyGivenNames u1
  extract_lets -merge +onlyGivenNames u2
  have h3 : Kept z u2 := by
    unfold u2
    refine State.wr_kept ?_
    refine State.bump_kept ?_
    exact hk
  refine Kept.ite ?_ ?_
  · refine State.syncAlign_kept ?_
    refine State.qlFail_kept ?_
    refine State.dropBond_kept ?_
    refine State.dropFraming_kept ?_
    refine State.setAlign_kept ?_
    exact h3
  · exact h3

theorem State.wrField_kept {z : State} {s : State} {f : Fld} {n : Nat} {v : Nat} {lo : Nat} {hi : Nat} (hk : Kept z s) : Kept z (@State.wrField s f n v lo hi) := by
  unfold State.wrField
  extract_lets -merge +onlyGivenNames u1
  refine Kept.ite ?_ ?_
  · refine State.wr_kept ?_
    exact hk
  · exact hk

theorem State.wrTap_kept {z : State} {s : State} {f : Fld} {n : Nat} {v : Nat} (hk : Kept z s) : Kept z (@State.wrTap s f n v) := by
  unfold State.wrTap
  extract_lets -merge +onlyGivenNames u1
  refine Kept.ite ?_ ?_
  · refine State.wr_kept ?_
    exact hk
  · exact hk

theorem State.writeLolCfg_kept {z : State} {s : State} {n : Nat} {on_ : Nat} {off_ : Nat} (hk : Kept z s) : Kept z (@State.writeLolCfg s n on_ off_) := by
  unfold State.writeLolCfg
  extract_lets -merge +onlyGivenNames u1
  extract_lets -merge +onlyGivenNames u2
  refine Kept.ite ?_ ?_
  · refine State.wr_kept ?_
    refine State.wr_kept ?_
    exact hk
  · exact hk

theorem State.writeLosCfg_kept {z : State} {s : State} {n : Nat} {on_ : Nat} {off_ : Nat} (hk : Kept z s) : Kept z (@State.writeLosCfg s n on_ off_) := by
  unfold State.writeLosCfg
  extract_lets -merge +onlyGivenNames u1
  extract_lets -merge +onlyGivenNames u2
  refine Kept.ite ?_ ?_
  · refine State.wr_kept ?_
    refine State.wr_kept ?_
    exact hk
  · exact hk

theorem State.prbsRestart_kept {z : State} {s : State} {n : Nat} (hk : Kept z s) : Kept z (@State.prbsRestart s n) := by
  unfold State.prbsRestart
  refine State.setAlign_kept ?_
  refine State.wr_kept ?_
  refine State.setReg_kept ?_
  exact hk

theorem State.writeTest_kept {z : State} {s : State} {n : Nat} {loop : Nat} {gen : Nat} {chk : Nat} (hk : Kept z s) : Kept z (@State.writeTest s n loop gen chk) := by
  unfold State.writeTest
  refine Kept.ite ?_ ?_
  · exact hk
  · extract_lets -merge +onlyGivenNames u1
    extract_lets -merge +onlyGivenNames u2
    have h3 : Kept z u2 := by
      unfold u2
      refine State.wr_kept ?_
      exact hk
    extract_lets -merge +onlyGivenNames u4
    have h5 : Kept z u4 := by
      unfold u4
      refine Kept.ite ?_ ?_
      · refine State.wr_kept ?_
        exact h3
      · exact h3
    extract_lets -merge +onlyGivenNames u6
    have h7 : Kept z u6 := by
      unfold u6
      refine Kept.ite ?_ ?_
      · refine State.wr_kept ?_
        exact h5
      · exact h5
    extract_lets -merge +onlyGivenNames u8
    have h9 : Kept z u8 := by
      unfold u8
      refine State.prbsRestart_kept ?_
      exact h7
    extract_lets -merge +onlyGivenNames u10
    extract_lets -merge +onlyGivenNames u11
    have h12 : Kept z u11 := by
      unfold u11
      refine Kept.ite ?_ ?_
      · refine State.setAlign_kept ?_
        exact h9
      · exact h9
    refine Kept.ite ?_ ?_
    · refine State.setRx_kept ?_
      exact h12
    · exact h12

theorem State.laneWriteNow_kept {z : State} {s : State} {n : Nat} {off : Nat} {v : Nat} (hk : Kept z s) : Kept z (@State.laneWriteNow s n off v) := by
  unfold State.laneWriteNow
  extract_lets -merge +onlyGivenNames u1
  split
  · refine State.wr_kept ?_
    refine State.wr_kept ?_
    refine State.wr_kept ?_
    exact hk
  · refine State.setReg_kept ?_
    exact hk
  · refine State.wr_kept ?_
    exact hk
  · refine State.wrTap_kept ?_
    refine State.wrTap_kept ?_
    refine State.wr_kept ?_
    exact hk
  · refine State.wrTap_kept ?_
    refine State.wrTap_kept ?_
    refine State.wrTap_kept ?_
    exact hk
  · extract_lets -merge +onlyGivenNames u2
    have h3 : Kept z u2 := by
      unfold u2
      refine State.wr_kept ?_
      exact hk
    refine Kept.ite ?_ ?_
    · refine State.firApply_kept ?_
      exact h3
    · exact h3
  · extract_lets -merge +onlyGivenNames u4
    have h5 : Kept z u4 := by
      unfold u4
      refine State.wr_kept ?_
      refine State.wr_kept ?_
      refine State.wr_kept ?_
      exact hk
    extract_lets -merge +onlyGivenNames u6
    have h7 : Kept z u6 := by
      unfold u6
      refine State.wr_kept ?_
      refine State.wr_kept ?_
      exact h5
    refine State.wr_kept ?_
    refine State.wrField_kept ?_
    exact h7
  · extract_lets -merge +onlyGivenNames u8
    have h9 : Kept z u8 := by
      unfold u8
      refine State.wrField_kept ?_
      refine State.wr_kept ?_
      refine State.wrField_kept ?_
      exact hk
    extract_lets -merge +onlyGivenNames u10
    have h11 : Kept z u10 := by
      unfold u10
      refine State.wr_kept ?_
      refine State.wr_kept ?_
      refine State.wr_kept ?_
      exact h9
    extract_lets -merge +onlyGivenNames u12
    have h13 : Kept z u12 := by
      unfold u12
      refine State.wr_kept ?_
      refine State.wr_kept ?_
      refine State.wr_kept ?_
      exact h11
    refine Kept.ite ?_ ?_
    · refine State.guardRelease_kept ?_
      exact h13
    · exact h13
  · refine State.writeLosCfg_kept ?_
    exact hk
  · refine State.writeLolCfg_kept ?_
    exact hk
  · extract_lets -merge +onlyGivenNames u14
    have h15 : Kept z u14 := by
      unfold u14
      refine State.wrField_kept ?_
      exact hk
    refine Kept.ite ?_ ?_
    · refine State.scanStart_kept ?_
      exact h15
    · exact h15
  · refine State.wr_kept ?_
    exact hk
  · refine Kept.ite ?_ ?_
    · refine State.slip_kept ?_
      exact hk
    · exact hk
  · refine State.writeTest_kept ?_
    exact hk
  · exact hk

theorem State.laneWrite_kept {z : State} {s : State} {n : Nat} {off : Nat} {v : Nat} (hk : Kept z s) : Kept z (@State.laneWrite s n off v) := by
  unfold State.laneWrite
  refine Kept.ite ?_ ?_
  · refine State.setLane_kept ?_
    exact hk
  · refine State.laneWriteNow_kept ?_
    exact hk

theorem State.applyStored_kept {z : State} {s : State} {n : Nat} (hk : Kept z s) : Kept z (@State.applyStored s n) := by
  unfold State.applyStored
  refine Kept.foldl ?_ ?_
  · intro a1 a2 h3
    refine State.laneWriteNow_kept ?_
    exact h3
  · refine State.setLane_kept ?_
    exact hk

theorem State.laneReset_kept {z : State} {s : State} {m : Nat} {n : Nat} (hk : Kept z s) : Kept z (@State.laneReset s m n) := by
  unfold State.laneReset
  extract_lets -merge +onlyGivenNames u1
  have h2 : ∀ v0, Kept z v0 → Kept z (u1 v0) := by
    unfold u1
    intro a3 h4
    refine State.setLane_kept ?_
    exact h4
  refine Kept.ite ?_ ?_
  · refine h2 _ ?_
    refine State.dropStored_kept ?_
    exact hk
  · refine State.pairGate_kept ?_ ?_
    · exact hk
    · intro a5 h6
      refine h2 _ ?_
      refine State.laneOff_kept ?_
      exact h6

theorem State.calStepFails_kept {z : State} {s : State} {n : Nat} (hk : Kept z s) : Kept z (@State.calStepFails s n) := by
  unfold State.calStepFails
  refine Kept.ite ?_ ?_
  · extract_lets -merge +onlyGivenNames u1
    extract_lets -merge +onlyGivenNames u2
    have h3 : Kept z u2 := by
      unfold u2
      refine State.setLane_kept ?_
      exact hk
    refine State.startCal_kept ?_
    refine State.laneEvent_kept ?_
    refine State.wr_kept ?_
    exact h3
  · refine State.fenceLane_kept ?_
    exact hk

theorem State.enterActive_kept {z : State} {s : State} {n : Nat} {rx : Nat} (hk : Kept z s) : Kept z (@State.enterActive s n rx) := by
  unfold State.enterActive
  extract_lets -merge +onlyGivenNames u1
  extract_lets -merge +onlyGivenNames u2
  have h3 : Kept z u2 := by
    unfold u2
    refine State.setLane_kept ?_
    exact hk
  extract_lets -merge +onlyGivenNames u4
  have h5 : Kept z u4 := by
    unfold u4
    refine State.wr_kept ?_
    refine State.wr_kept ?_
    refine State.setLaneState_kept ?_
    exact h3
  extract_lets -merge +onlyGivenNames u6
  have h7 : Kept z u6 := by
    unfold u6
    refine Kept.ite ?_ ?_
    · refine State.wr_kept ?_
      refine State.setRx_kept ?_
      exact h5
    · exact h5
  refine State.applyStored_kept ?_
  exact h7

theorem State.loseBlockLock_kept {z : State} {s : State} {n : Nat} (hk : Kept z s) : Kept z (@State.loseBlockLock s n) := by
  unfold State.loseBlockLock
  extract_lets -merge +onlyGivenNames u1
  extract_lets -merge +onlyGivenNames u2
  have h3 : Kept z u2 := by
    unfold u2
    refine Kept.ite ?_ ?_
    · refine State.countL_kept ?_
      exact hk
    · exact hk
  refine State.syncAlign_kept ?_
  refine State.dropBond_kept ?_
  refine State.dropFraming_kept ?_
  refine State.hfHunt_kept ?_
  refine State.setAlign_kept ?_
  exact h3

theorem State.blockWindow_kept {z : State} {s : State} {n : Nat} (hk : Kept z s) : Kept z (@State.blockWindow s n) := by
  unfold State.blockWindow
  extract_lets -merge +onlyGivenNames u1
  refine Kept.ite ?_ ?_
  · refine Kept.ite ?_ ?_
    · refine State.loseBlockLock_kept ?_
      exact hk
    · refine State.setAlign_kept ?_
      exact hk
  · exact hk

theorem State.restartHunt_kept {z : State} {s : State} {n : Nat} (hk : Kept z s) : Kept z (@State.restartHunt s n) := by
  unfold State.restartHunt
  extract_lets -merge +onlyGivenNames u1
  refine State.syncAlign_kept ?_
  refine State.dropBond_kept ?_
  refine State.dropFraming_kept ?_
  refine State.hfHunt_kept ?_
  refine State.setAlign_kept ?_
  exact hk

theorem execAlignConfirmRead_kept {n : Fin 96} {s : State} : Keeps s (@execAlignConfirmRead n s) := by
  have h0 := Kept.refl s
  unfold execAlignConfirmRead
  refine Keeps.ite ?_ ?_
  · refine Keeps.next ?_
    exact h0
  · extract_lets -merge +onlyGivenNames u1
    extract_lets -merge +onlyGivenNames u2
    extract_lets -merge +onlyGivenNames u3
    split
    · refine Keeps.ite ?_ ?_
      · refine Keeps.next ?_
        exact h0
      · refine Keeps.ite ?_ ?_
        · refine Keeps.next ?_
          refine State.setAlign_kept ?_
          exact h0
        · refine Keeps.next ?_
          refine State.setAlign_kept ?_
          exact h0
    · refine Keeps.ite ?_ ?_
      · refine Keeps.next ?_
        exact h0
      · refine Keeps.ite ?_ ?_
        · refine Keeps.next ?_
          refine State.setAlign_kept ?_
          exact h0
        · refine Keeps.next ?_
          refine State.setAlign_kept ?_
          exact h0
    · refine Keeps.ite ?_ ?_
      · refine Keeps.ite ?_ ?_
        · refine Keeps.next ?_
          refine State.setAlign_kept ?_
          exact h0
        · refine Keeps.next ?_
          refine State.report_kept ?_
          refine State.setAlign_kept ?_
          exact h0
      · refine Keeps.next ?_
        refine State.setAlign_kept ?_
        exact h0
    · refine Keeps.next ?_
      exact h0

theorem execAlignMonitorRead_kept {n : Fin 96} {s : State} : Keeps s (@execAlignMonitorRead n s) := by
  have h0 := Kept.refl s
  unfold execAlignMonitorRead
  extract_lets -merge +onlyGivenNames u1
  split
  · refine Keeps.ite ?_ ?_
    · refine Keeps.next ?_
      exact h0
    · refine Keeps.ite ?_ ?_
      · refine Keeps.ite ?_ ?_
        · refine Keeps.next ?_
          refine State.setAlign_kept ?_
          exact h0
        · refine Keeps.next ?_
          refine State.report_kept ?_
          refine State.hfHunt_kept ?_
          refine State.setAlign_kept ?_
          exact h0
      · refine Keeps.next ?_
        refine State.setAlign_kept ?_
        exact h0
  · refine Keeps.next ?_
    exact h0

theorem execAlignmentMarkerLock_kept {n : Fin 96} {locked : Bool} {hiBer : Bool} {s : State} : Keeps s (@execAlignmentMarkerLock n locked hiBer s) := by
  have h0 := Kept.refl s
  unfold execAlignmentMarkerLock
  refine Keeps.ite ?_ ?_
  · refine Keeps.next ?_
    exact h0
  · extract_lets -merge +onlyGivenNames u1
    extract_lets -merge +onlyGivenNames u2
    have h3 : Kept s u2 := by
      unfold u2
      refine State.lineFault_kept ?_
      refine State.setAlign_kept ?_
      exact h0
    refine Keeps.ite ?_ ?_
    · refine Keeps.next ?_
      refine State.syncAlign_kept ?_
      exact h3
    · refine Keeps.next ?_
      refine State.loseBlockLock_kept ?_
      exact h3

theorem execBitslipSearchStart_kept {n : Fin 96} {s : State} : Keeps s (@execBitslipSearchStart n s) := by
  have h0 := Kept.refl s
  unfold execBitslipSearchStart
  refine Keeps.ite ?_ ?_
  · refine Keeps.next ?_
    refine State.setAlign_kept ?_
    exact h0
  · refine Keeps.next ?_
    exact h0

theorem execBlockLockWindowEnd_kept {n : Fin 96} {hiBer : Bool} {s : State} : Keeps s (@execBlockLockWindowEnd n hiBer s) := by
  have h0 := Kept.refl s
  unfold execBlockLockWindowEnd
  extract_lets -merge +onlyGivenNames u1
  extract_lets -merge +onlyGivenNames u2
  have h3 : Kept s u2 := by
    unfold u2
    refine Kept.ite ?_ ?_
    · refine State.lineFault_kept ?_
      refine State.setAlign_kept ?_
      exact h0
    · exact h0
  refine Keeps.next ?_
  refine State.syncAlign_kept ?_
  refine State.blockWindow_kept ?_
  exact h3

theorem execBlockRelease_kept {n : Fin 96} {s : State} : Keeps s (@execBlockRelease n s) := by
  have h0 := Kept.refl s
  unfold execBlockRelease
  extract_lets -merge +onlyGivenNames u1
  split
  · refine Keeps.next ?_
    refine State.setLane_kept ?_
    exact h0
  · refine Keeps.next ?_
    exact h0

theorem execCommaDetect_kept {n : Fin 96} {pos : BitVec 7} {s : State} : Keeps s (@execCommaDetect n pos s) := by
  have h0 := Kept.refl s
  unfold execCommaDetect
  refine Keeps.ite ?_ ?_
  · refine Keeps.next ?_
    exact h0
  · refine Keeps.next ?_
    refine State.wr_kept ?_
    refine State.wr_kept ?_
    exact h0

theorem execFarEndLoopStart_kept {n : Fin 96} {s : State} : Keeps s (@execFarEndLoopStart n s) := by
  have h0 := Kept.refl s
  unfold execFarEndLoopStart
  refine Keeps.ite ?_ ?_
  · refine Keeps.next ?_
    refine State.setAlign_kept ?_
    exact h0
  · refine Keeps.next ?_
    exact h0

theorem execLaneTestWrite_kept {m : Fin 8} {n : Fin 96} {loop : BitVec 2} {gen : BitVec 3} {chk : BitVec 3} {s : State} : Keeps s (@execLaneTestWrite m n loop gen chk s) := by
  have h0 := Kept.refl s
  unfold execLaneTestWrite
  refine Keeps.next ?_
  refine State.asMaster_kept ?_ ?_
  · exact h0
  · intro a1 h2
    refine State.pairGate_kept ?_ ?_
    · exact h2
    · intro a3 h4
      refine State.laneWrite_kept ?_
      exact h4

theorem execPatternWaitTimeout_kept {n : Fin 96} {s : State} : Keeps s (@execPatternWaitTimeout n s) := by
  have h0 := Kept.refl s
  unfold execPatternWaitTimeout
  refine Keeps.ite ?_ ?_
  · refine Keeps.next ?_
    exact h0
  · split
    · refine Keeps.next ?_
      refine State.report_kept ?_
      exact h0
    · refine Keeps.next ?_
      refine State.setAlign_kept ?_
      exact h0
    · refine Keeps.next ?_
      exact h0

theorem execPatternWindowExpiry_kept {n : Fin 96} {s : State} : Keeps s (@execPatternWindowExpiry n s) := by
  have h0 := Kept.refl s
  unfold execPatternWindowExpiry
  refine Keeps.next ?_
  refine State.wr_kept ?_
  exact h0

theorem execPrbsCheckWindow_kept {n : Fin 96} {bits : BitVec 11} {mism : BitVec 11} {s : State} : Keeps s (@execPrbsCheckWindow n bits mism s) := by
  have h0 := Kept.refl s
  unfold execPrbsCheckWindow
  extract_lets -merge +onlyGivenNames u1
  refine Keeps.ite ?_ ?_
  · refine Keeps.next ?_
    exact h0
  · extract_lets -merge +onlyGivenNames u2
    refine Keeps.ite ?_ ?_
    · extract_lets -merge +onlyGivenNames u3
      have h4 : Kept s u3 := by
        unfold u3
        refine State.bumpSat_kept ?_
        exact h0
      refine Keeps.ite ?_ ?_
      · refine Keeps.next ?_
        refine State.setAlign_kept ?_
        refine State.wr_kept ?_
        exact h4
      · refine Keeps.next ?_
        exact h4
    · extract_lets -merge +onlyGivenNames u5
      refine Keeps.ite ?_ ?_
      · refine Keeps.next ?_
        refine State.setAlign_kept ?_
        refine State.wr_kept ?_
        exact h0
      · refine Keeps.next ?_
        refine State.setAlign_kept ?_
        exact h0

theorem execPrbsChkWrite_kept {m : Fin 8} {n : Fin 96} {chk : BitVec 3} {s : State} : Keeps s (@execPrbsChkWrite m n chk s) := by
  have h0 := Kept.refl s
  unfold execPrbsChkWrite
  refine Keeps.next ?_
  refine State.asMaster_kept ?_ ?_
  · exact h0
  · intro a1 h2
    refine State.pairGate_kept ?_ ?_
    · exact h2
    · intro a3 h4
      refine State.laneWrite_kept ?_
      exact h4

theorem execRsCodewordDecode_kept {n : Fin 96} {correctable : Bool} {syms : BitVec 5} {s : State} : Keeps s (@execRsCodewordDecode n correctable syms s) := by
  have h0 := Kept.refl s
  unfold execRsCodewordDecode
  extract_lets -merge +onlyGivenNames u1
  refine Keeps.ite ?_ ?_
  · refine Keeps.next ?_
    exact h0
  · extract_lets -merge +onlyGivenNames u2
    have h3 : Kept s u2 := by
      unfold u2
      refine State.countL_kept ?_
      exact h0
    extract_lets -merge +onlyGivenNames u4
    have h5 : Kept s u4 := by
      unfold u4
      refine Kept.ite ?_ ?_
      · refine State.countL_kept ?_
        exact h3
      · refine Kept.ite ?_ ?_
        · refine State.countL_kept ?_
          refine State.countL_kept ?_
          exact h3
        · exact h3
    extract_lets -merge +onlyGivenNames u6
    extract_lets -merge +onlyGivenNames u7
    refine Keeps.ite ?_ ?_
    · refine Keeps.next ?_
      exact h5
    · refine Keeps.ite ?_ ?_
      · refine Keeps.ite ?_ ?_
        · refine Keeps.next ?_
          refine State.setAlign_kept ?_
          exact h5
        · refine Keeps.ite ?_ ?_
          · refine Keeps.next ?_
            refine State.setAlign_kept ?_
            exact h5
          · extract_lets -merge +onlyGivenNames u8
            have h9 : Kept s u8 := by
              unfold u8
              refine State.setAlign_kept ?_
              exact h5
            refine Keeps.next ?_
            refine State.loseBlockLock_kept ?_
            exact h9
      · refine Keeps.ite ?_ ?_
        · refine Keeps.ite ?_ ?_
          · refine Keeps.next ?_
            refine State.setAlign_kept ?_
            exact h5
          · refine Keeps.next ?_
            refine State.setAlign_kept ?_
            exact h5
        · refine Keeps.next ?_
          refine State.setAlign_kept ?_
          exact h5

theorem execRxWordEnqueue_kept {n : Fin 96} {w : BitVec 512} {late : Bool} {s : State} : Keeps s (@execRxWordEnqueue n w late s) := by
  have h0 := Kept.refl s
  unfold execRxWordEnqueue
  extract_lets -merge +onlyGivenNames u1
  refine Keeps.ite ?_ ?_
  · refine Keeps.next ?_
    exact h0
  · extract_lets -merge +onlyGivenNames u2
    have h3 : Kept s u2 := by
      unfold u2
      refine State.setLane_kept ?_
      exact h0
    refine Keeps.ite ?_ ?_
    · refine Keeps.next ?_
      refine State.internalFault_kept ?_
      refine State.countL_kept ?_
      refine State.laneEvent_kept ?_
      exact h3
    · refine Keeps.next ?_
      exact h3

theorem execSlip_kept {m : Fin 8} {n : Fin 96} {s : State} : Keeps s (@execSlip m n s) := by
  have h0 := Kept.refl s
  unfold execSlip
  refine Keeps.ite ?_ ?_
  · refine Keeps.next ?_
    exact h0
  · extract_lets -merge +onlyGivenNames u1
    have h2 : Kept s u1 := by
      unfold u1
      refine State.laneWrite_kept ?_
      exact h0
    extract_lets -merge +onlyGivenNames u3
    split
    · refine Keeps.ite ?_ ?_
      · refine Keeps.next ?_
        refine State.setAlign_kept ?_
        exact h2
      · refine Keeps.next ?_
        exact h2
    · refine Keeps.next ?_
      exact h2

theorem execSyncHeaderCheck_kept {n : Fin 96} {hdr : BitVec 2} {s : State} : Keeps s (@execSyncHeaderCheck n hdr s) := by
  have h0 := Kept.refl s
  unfold execSyncHeaderCheck
  refine Keeps.ite ?_ ?_
  · refine Keeps.next ?_
    exact h0
  · extract_lets -merge +onlyGivenNames u1
    have h2 : Kept s u1 := by
      unfold u1
      refine State.blockWindow_kept ?_
      exact h0
    extract_lets -merge +onlyGivenNames u3
    extract_lets -merge +onlyGivenNames u4
    extract_lets -merge +onlyGivenNames u5
    have h6 : Kept s u5 := by
      unfold u5
      refine Kept.ite ?_ ?_
      · refine State.countL_kept ?_
        exact h2
      · exact h2
    refine Keeps.ite ?_ ?_
    · refine Keeps.next ?_
      refine State.setAlign_kept ?_
      exact h6
    · refine Keeps.ite ?_ ?_
      · refine Keeps.ite ?_ ?_
        · refine Keeps.next ?_
          refine State.setAlign_kept ?_
          exact h6
        · refine Keeps.next ?_
          refine State.syncAlign_kept ?_
          refine State.setAlign_kept ?_
          exact h6
      · refine Keeps.next ?_
        refine State.setAlign_kept ?_
        exact h6

theorem State.queueEntry_kept {z : State} {s : State} {c : Nat} {slot : Nat} {k : Nat} {p : Prog} (hk : Kept z s) : Kept z (@State.queueEntry s c slot k p) := by
  unfold State.queueEntry
  split
  · refine Kept.ite ?_ ?_
    · exact hk
    · extract_lets -merge +onlyGivenNames u1
      refine State.setEng_kept ?_
      exact hk
  · exact hk

theorem State.showThreads_kept {z : State} {s : State} {q : Nat} (hk : Kept z s) : Kept z (@State.showThreads s q) := by
  unfold State.showThreads
  extract_lets -merge +onlyGivenNames u1
  refine Kept.iter ?_ ?_
  · intro a2 a3 h4
    extract_lets -merge +onlyGivenNames u5
    have h6 : ∀ v0 v1 v2 v3, Kept z v0 → Kept z (u5 v0 v1 v2 v3) := by
      unfold u5
      intro a7 a8 a9 a10 h11
      refine State.wr_kept ?_
      refine State.wr_kept ?_
      refine State.wr_kept ?_
      exact h11
    extract_lets -merge +onlyGivenNames u12
    refine Kept.ite ?_ ?_
    · extract_lets -merge +onlyGivenNames u13
      refine Kept.ite ?_ ?_
      · refine h6 _ _ _ _ ?_
        exact h4
      · refine h6 _ _ _ _ ?_
        exact h4
    · split
      · refine h6 _ _ _ _ ?_
        exact h4
      · extract_lets -merge +onlyGivenNames u14
        refine Kept.ite ?_ ?_
        · refine h6 _ _ _ _ ?_
          exact h4
        · refine h6 _ _ _ _ ?_
          exact h4
  · exact hk

theorem State.repack_kept {z : State} {s : State} {q : Nat} (hk : Kept z s) : Kept z (@State.repack s q) := by
  unfold State.repack
  extract_lets -merge +onlyGivenNames u1
  have h2 : Kept z u1 := by
    unfold u1
    split
    · refine Kept.foldl ?_ ?_
      · intro a3 a4 h5
        refine State.setProg_kept ?_
        exact h5
      · exact hk
    · exact hk
  refine State.showThreads_kept ?_
  exact h2

theorem State.detachNow_kept {z : State} {s : State} {c : Nat} {slot : Nat} (hk : Kept z s) : Kept z (@State.detachNow s c slot) := by
  unfold State.detachNow
  split
  · exact hk
  · extract_lets -merge +onlyGivenNames u1
    have h2 : Kept z u1 := by
      unfold u1
      refine Kept.foldl ?_ ?_
      · intro a3 a4 h5
        refine State.stopInjectorsOn_kept ?_
        exact h5
      · exact hk
    extract_lets -merge +onlyGivenNames u6
    have h7 : Kept z u6 := by
      unfold u6
      refine State.queueEntry_kept ?_
      exact h2
    extract_lets -merge +onlyGivenNames u8
    extract_lets -merge +onlyGivenNames u9
    extract_lets -merge +onlyGivenNames u10
    have h11 : Kept z u10 := by
      unfold u10
      refine Kept.foldl ?_ ?_
      · intro a12 a13 h14
        refine State.fail_kept ?_
        exact h14
      · exact h7
    extract_lets -merge +onlyGivenNames u15
    have h16 : Kept z u15 := by
      unfold u15
      with_reducible refine Kept.upd ?_ ..
      exact h11
    extract_lets -merge +onlyGivenNames u17
    have h18 : Kept z u17 := by
      unfold u17
      refine Kept.iter ?_ ?_
      · intro a19 a20 h21
        refine State.setPw_kept ?_
        exact h21
      · refine State.setProg_kept ?_
        exact h16
    extract_lets -merge +onlyGivenNames u22
    have h23 : Kept z u22 := by
      unfold u22
      refine State.repack_kept ?_
      exact h18
    refine Kept.ite ?_ ?_
    · refine State.refreshChan_kept ?_
      exact h23
    · exact h23

theorem State.fillBlock_kept {z : State} {s : State} {c : Nat} {slot : Nat} {p : Prog} (hk : Kept z s) : Kept z (@State.fillBlock s c slot p) := by
  unfold State.fillBlock
  extract_lets -merge +onlyGivenNames u1
  have h2 : Kept z u1 := by
    unfold u1
    refine Kept.iter ?_ ?_
    · intro a3 a4 h5
      refine State.setPw_kept ?_
      exact h5
    · exact hk
  extract_lets -merge +onlyGivenNames u6
  have h7 : Kept z u6 := by
    unfold u6
    refine State.setPw_kept ?_
    exact h2
  extract_lets -merge +onlyGivenNames u8
  have h9 : Kept z u8 := by
    unfold u8
    refine State.setPw_kept ?_
    exact h7
  extract_lets -merge +onlyGivenNames u10
  have h11 : Kept z u10 := by
    unfold u10
    refine Kept.foldl ?_ ?_
    · intro a12 a13 h14
      refine State.setPw_kept ?_
      exact h14
    · exact h9
  refine Kept.ite ?_ ?_
  · refine Kept.iter ?_ ?_
    · intro a15 a16 h17
      refine State.setPw_kept ?_
      exact h17
    · exact h11
  · exact h11

theorem State.putBytes_kept {z : State} {s : State} {a : Nat} {l : List Nat} (hk : Kept z s) : Kept z (s.putBytes a l) := by
  induction l generalizing s a with
  | nil => exact hk
  | cons b t ih => exact ih (State.setByte_kept hk)

theorem State.startProgram_kept {z : State} {s : State} {c : Nat} {slot : Nat} {p : Prog} (hk : Kept z s) : Kept z (@State.startProgram s c slot p) := by
  unfold State.startProgram
  extract_lets -merge +onlyGivenNames u1
  have h2 : Kept z u1 := by
    unfold u1
    refine Kept.ite ?_ ?_
    · refine Kept.foldl ?_ ?_
      · intro a3 a4 h5
        refine State.unitsByAlmanac_kept ?_
        exact h5
      · exact hk
    · exact hk
  extract_lets -merge +onlyGivenNames u6
  extract_lets -merge +onlyGivenNames u7
  have h8 : Kept z u7 := by
    unfold u7
    refine State.afterParams_kept ?_
    refine State.setChanX_kept ?_
    exact h2
  extract_lets -merge +onlyGivenNames u9
  have h10 : Kept z u9 := by
    unfold u9
    refine Kept.ite ?_ ?_
    · split
      · refine State.syncCal_kept ?_
        refine State.syncAlign_kept ?_
        refine Kept.foldl ?_ ?_
        · intro a11 a12 h13
          refine State.dropFraming_kept ?_
          exact h13
        · refine State.progFec_kept ?_
          exact h2
      · refine State.syncAlign_kept ?_
        refine State.lineFault_kept ?_
        exact h8
      · refine State.hfHunt_kept ?_
        refine State.progFec_kept ?_
        exact h2
      · refine State.startDefects_kept ?_
        exact h2
      · exact h2
    · exact h2
  refine State.queueEntry_kept ?_
  exact h10

theorem State.attachNow_kept {z : State} {s : State} {c : Nat} {slot : Nat} {p : Prog} (hk : Kept z s) : Kept z (@State.attachNow s c slot p) := by
  unfold State.attachNow
  extract_lets -merge +onlyGivenNames u1
  extract_lets -merge +onlyGivenNames u2
  extract_lets -merge +onlyGivenNames u3
  have h4 : Kept z u3 := by
    unfold u3
    with_reducible refine Kept.upd ?_ ..
    exact hk
  extract_lets -merge +onlyGivenNames u5
  have h6 : Kept z u5 := by
    unfold u5
    refine Kept.ite ?_ ?_
    · exact h4
    · refine State.putBytes_kept ?_
      exact h4
  extract_lets -merge +onlyGivenNames u7
  have h8 : Kept z u7 := by
    unfold u7
    refine State.repack_kept ?_
    refine State.fillBlock_kept ?_
    refine State.setProg_kept ?_
    exact h6
  extract_lets -merge +onlyGivenNames u9
  have h10 : Kept z u9 := by
    unfold u9
    split
    · refine State.startProgram_kept ?_
      exact h8
    · exact h8
  refine Kept.ite ?_ ?_
  · refine State.report_kept ?_
    exact h10
  · exact h10

theorem State.restartPrograms_kept {z : State} {s : State} {c : Nat} (hk : Kept z s) : Kept z (@State.restartPrograms s c) := by
  unfold State.restartPrograms
  refine Kept.foldl ?_ ?_
  · intro a1 a2 h3
    split
    · refine State.startProgram_kept ?_
      exact h3
    · exact h3
  · exact hk

theorem State.checkIdentity_kept {z : State} {s : State} {n : Nat} {f : Fiw} (hk : Kept z s) : Kept z (@State.checkIdentity s n f) := by
  unfold State.checkIdentity
  extract_lets -merge +onlyGivenNames u1
  extract_lets -merge +onlyGivenNames u2
  extract_lets -merge +onlyGivenNames u3
  extract_lets -merge +onlyGivenNames u4
  extract_lets -merge +onlyGivenNames u5
  refine State.setVtf_kept ?_
  exact hk

theorem State.setRxSel_kept {z : State} {s : State} {c : Nat} {sel : Nat} (hk : Kept z s) : Kept z (@State.setRxSel s c sel) := by
  unfold State.setRxSel
  extract_lets -merge +onlyGivenNames u1
  extract_lets -merge +onlyGivenNames u2
  extract_lets -merge +onlyGivenNames u3
  extract_lets -merge +onlyGivenNames u4
  have h5 : Kept z u4 := by
    unfold u4
    refine State.syncCal_kept ?_
    refine State.setChanX_kept ?_
    exact hk
  refine Kept.foldl ?_ ?_
  · intro a6 a7 h8
    refine Kept.ite ?_ ?_
    · exact h8
    · refine State.recentre_kept ?_
      exact h8
  · exact h5

theorem State.enterSync_kept {z : State} {s : State} {n : Nat} {f : Fiw} (hk : Kept z s) : Kept z (@State.enterSync s n f) := by
  unfold State.enterSync
  extract_lets -merge +onlyGivenNames u1
  extract_lets -merge +onlyGivenNames u2
  extract_lets -merge +onlyGivenNames u3
  extract_lets -merge +onlyGivenNames u4
  have h5 : Kept z u4 := by
    unfold u4
    refine State.setVtf_kept ?_
    exact hk
  extract_lets -merge +onlyGivenNames u6
  extract_lets -merge +onlyGivenNames u7
  have h8 : Kept z u7 := by
    unfold u7
    refine State.setBip_kept ?_
    exact h5
  refine Kept.ite ?_ ?_
  · refine State.setRxSel_kept ?_
    exact h8
  · exact h8

theorem State.fiwCalendar_kept {z : State} {s : State} {n : Nat} {f : Fiw} (hk : Kept z s) : Kept z (@State.fiwCalendar s n f) := by
  unfold State.fiwCalendar
  extract_lets -merge +onlyGivenNames u1
  refine Kept.ite ?_ ?_
  · exact hk
  · extract_lets -merge +onlyGivenNames u2
    extract_lets -merge +onlyGivenNames u3
    have h4 : Kept z u3 := by
      unfold u3
      refine Kept.ite ?_ ?_
      · refine State.setRxSel_kept ?_
        exact hk
      · exact hk
    extract_lets -merge +onlyGivenNames u5
    refine State.setVtf_kept ?_
    exact h4

theorem State.judgeBond_kept {z : State} {s : State} {c : Nat} (hk : Kept z s) : Kept z (@State.judgeBond s c) := by
  unfold State.judgeBond
  refine Kept.ite ?_ ?_
  · exact hk
  · extract_lets -merge +onlyGivenNames u1
    extract_lets -merge +onlyGivenNames u2
    extract_lets -merge +onlyGivenNames u3
    have h4 : Kept z u3 := by
      unfold u3
      refine Kept.ite ?_ ?_
      · refine State.wr_kept ?_
        exact hk
      · exact hk
    refine State.wr_kept ?_
    exact h4

theorem State.leaveSync_kept {z : State} {s : State} {n : Nat} (hk : Kept z s) : Kept z (@State.leaveSync s n) := by
  unfold State.leaveSync
  extract_lets -merge +onlyGivenNames u1
  extract_lets -merge +onlyGivenNames u2
  have h3 : Kept z u2 := by
    unfold u2
    refine State.setVtf_kept ?_
    exact hk
  refine State.syncAlign_kept ?_
  refine State.dropBond_kept ?_
  refine State.setBip_kept ?_
  exact h3

theorem State.mccDeliver_kept {z : State} {s : State} {c : Nat} {bytes : List Nat} (hk : Kept z s) : Kept z (@State.mccDeliver s c bytes) := by
  unfold State.mccDeliver
  extract_lets -merge +onlyGivenNames u1
  split
  · rename_i e2
    refine Kept.thru (State.pushItem_kept (z := z) ?_ e2) (fun h3 => ?_)
    · exact hk
    · exact h3
  · refine State.wr_kept ?_
    exact hk

theorem State.mccAssemble_kept {z : State} {s : State} {n : Nat} {som : Bool} {eom : Bool} {seq : Nat} {bytes : List Nat} (hk : Kept z s) : Kept z (@State.mccAssemble s n som eom seq bytes) := by
  unfold State.mccAssemble
  extract_lets -merge +onlyGivenNames u1
  extract_lets -merge +onlyGivenNames u2
  extract_lets -merge +onlyGivenNames u3
  extract_lets -merge +onlyGivenNames u4
  extract_lets -merge +onlyGivenNames u5
  extract_lets -merge +onlyGivenNames u6
  split
  split
  extract_lets -merge +onlyGivenNames u7
  have h8 : Kept z u7 := by
    unfold u7
    refine State.setVtf_kept ?_
    exact hk
  extract_lets -merge +onlyGivenNames u9
  have h10 : Kept z u9 := by
    unfold u9
    refine State.setPw_kept ?_
    exact h8
  split
  · refine Kept.ite ?_ ?_
    · refine State.mccDeliver_kept ?_
      exact h10
    · exact h10
  · exact h10

theorem State.mccCellOf_kept {z : State} {s : State} {n : Nat} {som : Bool} {eom : Bool} {bytes : List Nat} (hk : Kept z s) : Kept z (@State.mccCellOf s n som eom bytes).2 := by
  unfold State.mccCellOf
  extract_lets -merge +onlyGivenNames u1
  extract_lets -merge +onlyGivenNames u2
  extract_lets -merge +onlyGivenNames u3
  extract_lets -merge +onlyGivenNames u4
  split
  · exact hk
  · split
    rename_i e5
    refine Kept.thruE (z := z) e5 ?_ (fun h6 => ?_)
    · refine State.fresh_kept ?_
      exact hk
    · exact h6
  · exact hk

theorem State.mccTake_kept {z : State} {s : State} {c : Nat} (hk : Kept z s) : Kept z (@State.mccTake s c).2 := by
  unfold State.mccTake
  split
  · exact hk
  · refine Kept.ite_snd ?_ ?_
    · exact hk
    · split
      · rename_i e1
        refine Kept.thruE (z := z) e1 ?_ (fun h2 => ?_)
        · refine State.takeItem_kept ?_
          exact hk
        · exact h2
      · rename_i e3
        refine Kept.thruE (z := z) e3 ?_ (fun h4 => ?_)
        · refine State.takeItem_kept ?_
          exact hk
        · exact h4

theorem State.mccSend_kept {z : State} {s : State} {n : Nat} (hk : Kept z s) : Kept z (@State.mccSend s n).2 := by
  unfold State.mccSend
  extract_lets -merge +onlyGivenNames u1
  refine Kept.ite_snd ?_ ?_
  · refine State.mccCellOf_kept ?_
    exact hk
  · extract_lets -merge +onlyGivenNames u2
    split
    rename_i e3
    refine Kept.thruE (z := z) e3 ?_ (fun h4 => ?_)
    · refine Kept.ite_snd ?_ ?_
      · split
        · rename_i e5
          refine Kept.thruE (z := z) e5 ?_ (fun h6 => ?_)
          · refine State.mccTake_kept ?_
            exact hk
          · exact h6
        · rename_i e7
          refine Kept.thruE (z := z) e7 ?_ (fun h8 => ?_)
          · refine State.mccTake_kept ?_
            exact hk
          · exact h8
      · exact hk
    · extract_lets -merge +onlyGivenNames u9
      have h10 : Kept z u9 := by
        unfold u9
        refine State.setVtf_kept ?_
        exact h4
      refine Kept.ite_snd ?_ ?_
      · refine State.mccCellOf_kept ?_
        exact h10
      · extract_lets -merge +onlyGivenNames u11
        split
        rename_i e12
        refine Kept.thruE (z := z) e12 ?_ (fun h13 => ?_)
        · refine State.mccCellOf_kept ?_
          exact h10
        · dsimp -zeta only
          refine State.countC_kept ?_
          refine State.setVtf_kept ?_
          exact h13

theorem State.observe_kept {z : State} {s : State} {n : Nat} {tTx : Nat} {filtered : Int} (hk : Kept z s) : Kept z (@State.observe s n tTx filtered) := by
  unfold State.observe
  extract_lets -merge +onlyGivenNames u1
  extract_lets -merge +onlyGivenNames u2
  extract_lets -merge +onlyGivenNames u3
  extract_lets -merge +onlyGivenNames u4
  extract_lets -merge +onlyGivenNames u5
  have h6 : Kept z u5 := by
    unfold u5
    refine State.wr_kept ?_
    exact hk
  split
  · exact h6
  · extract_lets -merge +onlyGivenNames u7
    extract_lets -merge +onlyGivenNames u8
    extract_lets -merge +onlyGivenNames u9
    extract_lets -merge +onlyGivenNames u10
    extract_lets -merge +onlyGivenNames u11
    extract_lets -merge +onlyGivenNames u12
    extract_lets -merge +onlyGivenNames u13
    have h14 : Kept z u13 := by
      unfold u13
      with_reducible refine Kept.upd ?_ ..
      exact h6
    refine Kept.ite ?_ ?_
    · refine State.failTime_kept ?_
      exact h14
    · refine State.setRefx_kept ?_
      exact h14

theorem State.rxSwitch_kept {z : State} {s : State} {c : Nat} (hk : Kept z s) : Kept z (@State.rxSwitch s c) := by
  unfold State.rxSwitch
  refine State.setRxSel_kept ?_
  refine State.setVtf_kept ?_
  exact hk

theorem State.takeDelay_kept {z : State} {s : State} {d : Int} (hk : Kept z s) : Kept z (@State.takeDelay s d) := by
  unfold State.takeDelay
  extract_lets -merge +onlyGivenNames u1
  extract_lets -merge +onlyGivenNames u2
  extract_lets -merge +onlyGivenNames u3
  refine Kept.ite ?_ ?_
  · with_reducible refine Kept.upd ?_ ..
    exact hk
  · refine Kept.ite ?_ ?_
    · with_reducible refine Kept.upd ?_ ..
      exact hk
    · refine State.bellEvent_kept ?_
      with_reducible refine Kept.upd ?_ ..
      exact hk

theorem State.timingSend_kept {z : State} {s : State} {n : Nat} {rc : Nat} (hk : Kept z s) : Kept z (@State.timingSend s n rc).2 := by
  unfold State.timingSend
  extract_lets -merge +onlyGivenNames u1
  extract_lets -merge +onlyGivenNames u2
  split
  rename_i e3
  refine Kept.thruE (z := z) e3 ?_ (fun h4 => ?_)
  · refine State.timeFields_kept ?_
    exact hk
  · extract_lets -merge +onlyGivenNames u5
    extract_lets -merge +onlyGivenNames u6
    extract_lets -merge +onlyGivenNames u7
    extract_lets -merge +onlyGivenNames u8
    refine Kept.ite_snd ?_ ?_
    · exact h4
    · refine Kept.ite_snd ?_ ?_
      · exact h4
      · refine Kept.ite_snd ?_ ?_
        · dsimp -zeta only
          refine State.setVtf_kept ?_
          exact h4
        · refine Kept.ite_snd ?_ ?_
          · split
            · dsimp -zeta only
              refine State.setVtf_kept ?_
              exact h4
            · exact h4
          · exact h4

theorem execApsWordReceive_kept {n : Fin 96} {v : BitVec 64} {recent : Bool} {s : State} : Keeps s (@execApsWordReceive n v recent s) := by
  have h0 := Kept.refl s
  unfold execApsWordReceive
  extract_lets -merge +onlyGivenNames u1
  extract_lets -merge +onlyGivenNames u2
  extract_lets -merge +onlyGivenNames u3
  refine Keeps.ite ?_ ?_
  · refine Keeps.next ?_
    exact h0
  · split
    · refine Keeps.next ?_
      exact h0
    · extract_lets -merge +onlyGivenNames u4
      extract_lets -merge +onlyGivenNames u5
      extract_lets -merge +onlyGivenNames u6
      refine Keeps.ite ?_ ?_
      · refine Keeps.next ?_
        exact h0
      · extract_lets -merge +onlyGivenNames u7
        extract_lets -merge +onlyGivenNames u8
        extract_lets -merge +onlyGivenNames u9
        extract_lets -merge +onlyGivenNames u10
        extract_lets -merge +onlyGivenNames u11
        extract_lets -merge +onlyGivenNames u12
        have h13 : Kept s u12 := by
          unfold u12
          refine State.setGroup_kept ?_
          exact h0
        extract_lets -merge +onlyGivenNames u14
        have h15 : Kept s u14 := by
          unfold u14
          refine State.wr_kept ?_
          refine State.wr_kept ?_
          exact h13
        extract_lets -merge +onlyGivenNames u16
        have h17 : Kept s u16 := by
          unfold u16
          refine Kept.ite ?_ ?_
          · split
            · rename_i e18
              refine Kept.thru (State.pushItem_kept (z := s) ?_ e18) (fun h19 => ?_)
              · exact h15
              · exact h19
            · refine State.wr_kept ?_
              exact h15
          · exact h15
        extract_lets -merge +onlyGivenNames u20
        refine Keeps.next ?_
        refine State.setMismatch_kept ?_
        exact h17

theorem execCalAdvSegmentReceive_kept {n : Fin 96} {ca : List (BitVec 64)} {s : State} : Keeps s (@execCalAdvSegmentReceive n ca s) := by
  have h0 := Kept.refl s
  unfold execCalAdvSegmentReceive
  extract_lets -merge +onlyGivenNames u1
  extract_lets -merge +onlyGivenNames u2
  refine Keeps.ite ?_ ?_
  · refine Keeps.next ?_
    exact h0
  · extract_lets -merge +onlyGivenNames u3
    extract_lets -merge +onlyGivenNames u4
    refine Keeps.ite ?_ ?_
    · refine Keeps.next ?_
      refine State.countC_kept ?_
      exact h0
    · extract_lets -merge +onlyGivenNames u5
      extract_lets -merge +onlyGivenNames u6
      extract_lets -merge +onlyGivenNames u7
      extract_lets -merge +onlyGivenNames u8
      extract_lets -merge +onlyGivenNames u9
      extract_lets -merge +onlyGivenNames u10
      extract_lets -merge +onlyGivenNames u11
      extract_lets -merge +onlyGivenNames u12
      have h13 : Kept s u12 := by
        unfold u12
        refine State.setChanX_kept ?_
        exact h0
      refine Keeps.ite ?_ ?_
      · refine Keeps.ite ?_ ?_
        · refine Keeps.next ?_
          refine State.setVtf_kept ?_
          exact h13
        · refine Keeps.ite ?_ ?_
          · refine Keeps.next ?_
            refine State.setVtf_kept ?_
            exact h13
          · refine Keeps.next ?_
            exact h13
      · refine Keeps.ite ?_ ?_
        · refine Keeps.next ?_
          refine State.setPw_kept ?_
          exact h13
        · refine Keeps.ite ?_ ?_
          · refine Keeps.next ?_
            refine State.setPw_kept ?_
            exact h13
          · refine Keeps.next ?_
            exact h13

theorem execCalibrationFrameReceive_kept {n : Fin 96} {diff : BitVec 32} {s : State} : Keeps s (@execCalibrationFrameReceive n diff s) := by
  have h0 := Kept.refl s
  unfold execCalibrationFrameReceive
  extract_lets -merge +onlyGivenNames u1
  refine Keeps.ite ?_ ?_
  · refine Keeps.next ?_
    exact h0
  · extract_lets -merge +onlyGivenNames u2
    refine Keeps.next ?_
    refine State.setVtf_kept ?_
    exact h0

theorem execExpectedFasCheck_kept {n : Fin 96} {good : Bool} {s : State} : Keeps s (@execExpectedFasCheck n good s) := by
  have h0 := Kept.refl s
  unfold execExpectedFasCheck
  extract_lets -merge +onlyGivenNames u1
  split
  · refine Keeps.next ?_
    exact h0
  · extract_lets -merge +onlyGivenNames u2
    refine Keeps.ite ?_ ?_
    · refine Keeps.next ?_
      refine State.setVtf_kept ?_
      exact h0
    · refine Keeps.ite ?_ ?_
      · refine Keeps.next ?_
        refine State.setVtf_kept ?_
        exact h0
      · extract_lets -merge +onlyGivenNames u3
        extract_lets -merge +onlyGivenNames u4
        clear_value u4
        split
        · extract_lets -merge +onlyGivenNames u5
          have h6 : Kept s u5 := by
            unfold u5
            refine State.setVtf_kept ?_
            exact h0
          extract_lets -merge +onlyGivenNames u7
          have h8 : Kept s u7 := by
            unfold u7
            refine State.leaveSync_kept ?_
            exact h6
          refine Keeps.next ?_
          refine State.syncAlign_kept ?_
          refine State.setVtf_kept ?_
          exact h8
        · refine Keeps.next ?_
          refine State.syncAlign_kept ?_
          refine State.leaveSync_kept ?_
          refine State.setVtf_kept ?_
          exact h0

theorem execFasSearchMatch_kept {n : Fin 96} {p : BitVec 64} {fiw : BitVec 64} {s : State} : Keeps s (@execFasSearchMatch n p fiw s) := by
  have h0 := Kept.refl s
  unfold execFasSearchMatch
  extract_lets -merge +onlyGivenNames u1
  extract_lets -merge +onlyGivenNames u2
  split
  · refine Keeps.next ?_
    exact h0
  · refine Keeps.ite ?_ ?_
    · refine Keeps.next ?_
      exact h0
    · extract_lets -merge +onlyGivenNames u3
      extract_lets -merge +onlyGivenNames u4
      extract_lets -merge +onlyGivenNames u5
      extract_lets -merge +onlyGivenNames u6
      extract_lets -merge +onlyGivenNames u7
      clear_value u6
      split
      · extract_lets -merge +onlyGivenNames u8
        refine Keeps.ite ?_ ?_
        · extract_lets -merge +onlyGivenNames u9
          have h10 : Kept s u9 := by
            unfold u9
            refine State.setVtf_kept ?_
            exact h0
          extract_lets -merge +onlyGivenNames u11
          have h12 : Kept s u11 := by
            unfold u11
            refine State.checkIdentity_kept ?_
            refine State.enterSync_kept ?_
            exact h10
          refine Keeps.next ?_
          refine State.judgeBond_kept ?_
          refine State.syncAlign_kept ?_
          exact h12
        · refine Keeps.next ?_
          refine State.setVtf_kept ?_
          exact h0
      · refine Keeps.ite ?_ ?_
        · refine Keeps.next ?_
          refine State.setVtf_kept ?_
          exact h0
        · refine Keeps.next ?_
          refine State.bumpPw_kept ?_
          refine State.setVtf_kept ?_
          exact h0

theorem execFiwReceive_kept {n : Fin 96} {v : BitVec 64} {arrival : BitVec 96} {s : State} : Keeps s (@execFiwReceive n v arrival s) := by
  have h0 := Kept.refl s
  unfold execFiwReceive
  extract_lets -merge +onlyGivenNames u1
  extract_lets -merge +onlyGivenNames u2
  refine Keeps.ite ?_ ?_
  · refine Keeps.next ?_
    exact h0
  · extract_lets -merge +onlyGivenNames u3
    extract_lets -merge +onlyGivenNames u4
    have h5 : Kept s u4 := by
      unfold u4
      refine Kept.ite ?_ ?_
      · refine State.countC_kept ?_
        exact h0
      · exact h0
    extract_lets -merge +onlyGivenNames u6
    refine Keeps.ite ?_ ?_
    · extract_lets -merge +onlyGivenNames u7
      extract_lets -merge +onlyGivenNames u8
      extract_lets -merge +onlyGivenNames u9
      extract_lets -merge +onlyGivenNames u10
      extract_lets -merge +onlyGivenNames u11
      have h12 : Kept s u11 := by
        unfold u11
        refine State.setVtf_kept ?_
        exact h5
      extract_lets -merge +onlyGivenNames u13
      have h14 : Kept s u13 := by
        unfold u13
        refine State.countC_kept ?_
        exact h12
      extract_lets -merge +onlyGivenNames u15
      have h16 : Kept s u15 := by
        unfold u15
        refine Kept.ite ?_ ?_
        · refine State.rxSwitch_kept ?_
          exact h14
        · exact h14
      extract_lets -merge +onlyGivenNames u17
      extract_lets -merge +onlyGivenNames u18
      have h19 : Kept s u18 := by
        unfold u18
        clear_value u3
        split
        · refine State.fiwCalendar_kept ?_
          refine State.checkIdentity_kept ?_
          exact h16
        · exact h16
      extract_lets -merge +onlyGivenNames u20
      extract_lets -merge +onlyGivenNames u21
      extract_lets -merge +onlyGivenNames u22
      have h23 : Kept s u22 := by
        unfold u22
        refine Kept.ite ?_ ?_
        · refine State.setVtf_kept ?_
          exact h19
        · refine Kept.ite ?_ ?_
          · refine State.setVtf_kept ?_
            exact h19
          · refine State.leaveSync_kept ?_
            exact h19
      refine Keeps.next ?_
      refine State.judgeBond_kept ?_
      exact h23
    · clear_value u3
      split
      · refine Keeps.next ?_
        refine State.setVtf_kept ?_
        exact h5
      · extract_lets -merge +onlyGivenNames u24
        extract_lets -merge +onlyGivenNames u25
        have h26 : Kept s u25 := by
          unfold u25
          refine State.setVtf_kept ?_
          exact h5
        extract_lets -merge +onlyGivenNames u27
        have h28 : Kept s u27 := by
          unfold u27
          refine State.checkIdentity_kept ?_
          exact h26
        refine Keeps.ite ?_ ?_
        · refine Keeps.next ?_
          refine State.judgeBond_kept ?_
          refine State.syncAlign_kept ?_
          refine State.enterSync_kept ?_
          exact h28
        · refine Keeps.next ?_
          refine State.setVtf_kept ?_
          exact h28

theorem execMccCellReceive_kept {n : Fin 96} {mc : List (BitVec 64)} {s : State} : Keeps s (@execMccCellReceive n mc s) := by
  have h0 := Kept.refl s
  unfold execMccCellReceive
  extract_lets -merge +onlyGivenNames u1
  extract_lets -merge +onlyGivenNames u2
  refine Keeps.ite ?_ ?_
  · refine Keeps.next ?_
    exact h0
  · extract_lets -merge +onlyGivenNames u3
    extract_lets -merge +onlyGivenNames u4
    extract_lets -merge +onlyGivenNames u5
    extract_lets -merge +onlyGivenNames u6
    extract_lets -merge +onlyGivenNames u7
    extract_lets -merge +onlyGivenNames u8
    extract_lets -merge +onlyGivenNames u9
    extract_lets -merge +onlyGivenNames u10
    extract_lets -merge +onlyGivenNames u11
    extract_lets -merge +onlyGivenNames u12
    extract_lets -merge +onlyGivenNames u13
    extract_lets -merge +onlyGivenNames u14
    extract_lets -merge +onlyGivenNames u15
    extract_lets -merge +onlyGivenNames u16
    extract_lets -merge +onlyGivenNames u17
    refine Keeps.ite ?_ ?_
    · refine Keeps.next ?_
      refine State.bumpPw_kept ?_
      refine State.setVtf_kept ?_
      exact h0
    · refine Keeps.ite ?_ ?_
      · refine Keeps.next ?_
        refine State.bumpPw_kept ?_
        refine State.setVtf_kept ?_
        exact h0
      · refine Keeps.ite ?_ ?_
        · refine Keeps.next ?_
          refine State.bumpPw_kept ?_
          refine State.setVtf_kept ?_
          exact h0
        · extract_lets -merge +onlyGivenNames u18
          have h19 : Kept s u18 := by
            unfold u18
            refine Kept.ite ?_ ?_
            · refine State.setVtf_kept ?_
              exact h0
            · exact h0
          extract_lets -merge +onlyGivenNames u20
          extract_lets -merge +onlyGivenNames u21
          have h22 : Kept s u21 := by
            unfold u21
            refine Kept.ite ?_ ?_
            · refine State.setVtf_kept ?_
              exact h19
            · exact h19
          extract_lets -merge +onlyGivenNames u23
          refine Keeps.ite ?_ ?_
          · refine Keeps.next ?_
            exact h22
          · extract_lets -merge +onlyGivenNames u24
            have h25 : Kept s u24 := by
              unfold u24
              refine State.countC_kept ?_
              exact h22
            refine Keeps.next ?_
            refine State.mccAssemble_kept ?_
            exact h25

theorem execMwrReceive_kept {n : Fin 96} {v : BitVec 64} {payloadBip : BitVec 8} {s : State} : Keeps s (@execMwrReceive n v payloadBip s) := by
  have h0 := Kept.refl s
  unfold execMwrReceive
  extract_lets -merge +onlyGivenNames u1
  extract_lets -merge +onlyGivenNames u2
  refine Keeps.ite ?_ ?_
  · refine Keeps.next ?_
    exact h0
  · extract_lets -merge +onlyGivenNames u3
    extract_lets -merge +onlyGivenNames u4
    extract_lets -merge +onlyGivenNames u5
    have h6 : Kept s u5 := by
      unfold u5
      refine State.countC_kept ?_
      exact h0
    split
    · refine Keeps.next ?_
      refine State.setVtf_kept ?_
      exact h6
    · extract_lets -merge +onlyGivenNames u7
      extract_lets -merge +onlyGivenNames u8
      have h9 : Kept s u8 := by
        unfold u8
        refine State.countC_kept ?_
        exact h6
      extract_lets -merge +onlyGivenNames u10
      have h11 : Kept s u10 := by
        unfold u10
        refine Kept.ite ?_ ?_
        · exact h9
        · refine State.countC_kept ?_
          exact h9
      extract_lets -merge +onlyGivenNames u12
      extract_lets -merge +onlyGivenNames u13
      have h14 : Kept s u13 := by
        unfold u13
        refine State.setBip_kept ?_
        exact h11
      refine Keeps.next ?_
      refine State.setVtf_kept ?_
      exact h14

theorem execRxCalendarSwitch_kept {n : Fin 96} {s : State} : Keeps s (@execRxCalendarSwitch n s) := by
  have h0 := Kept.refl s
  unfold execRxCalendarSwitch
  extract_lets -merge +onlyGivenNames u1
  refine Keeps.ite ?_ ?_
  · refine Keeps.next ?_
    refine State.rxSwitch_kept ?_
    exact h0
  · refine Keeps.next ?_
    exact h0

theorem execTimingMessageReceive_kept {n : Fin 96} {tc0 : BitVec 64} {tc1 : BitVec 64} {tc2 : BitVec 64} {tc3 : BitVec 64} {filtered : BitVec 64} {s : State} : Keeps s (@execTimingMessageReceive n tc0 tc1 tc2 tc3 filtered s) := by
  have h0 := Kept.refl s
  unfold execTimingMessageReceive
  extract_lets -merge +onlyGivenNames u1
  extract_lets -merge +onlyGivenNames u2
  refine Keeps.ite ?_ ?_
  · refine Keeps.next ?_
    exact h0
  · extract_lets -merge +onlyGivenNames u3
    refine Keeps.ite ?_ ?_
    · refine Keeps.next ?_
      refine State.countC_kept ?_
      exact h0
    · extract_lets -merge +onlyGivenNames u4
      refine Keeps.ite ?_ ?_
      · refine Keeps.next ?_
        exact h0
      · extract_lets -merge +onlyGivenNames u5
        extract_lets -merge +onlyGivenNames u6
        have h7 : Kept s u6 := by
          unfold u6
          with_reducible refine Kept.upd ?_ ..
          exact h0
        extract_lets -merge +onlyGivenNames u8
        extract_lets -merge +onlyGivenNames u9
        extract_lets -merge +onlyGivenNames u10
        refine Keeps.ite ?_ ?_
        · refine Keeps.ite ?_ ?_
          · refine Keeps.next ?_
            refine State.bellShow_kept ?_
            exact h7
          · extract_lets -merge +onlyGivenNames u11
            extract_lets -merge +onlyGivenNames u12
            have h13 : Kept s u12 := by
              unfold u12
              with_reducible refine Kept.upd ?_ ..
              exact h7
            refine Keeps.next ?_
            refine State.bellShow_kept ?_
            refine State.observe_kept ?_
            exact h13
        · refine Keeps.ite ?_ ?_
          · refine Keeps.next ?_
            refine State.bellShow_kept ?_
            refine State.setVtf_kept ?_
            exact h7
          · refine Keeps.ite ?_ ?_
            · split
              · refine Keeps.next ?_
                refine State.bellShow_kept ?_
                exact h7
              · extract_lets -merge +onlyGivenNames u14
                have h15 : Kept s u14 := by
                  unfold u14
                  refine State.setVtf_kept ?_
                  exact h7
                refine Keeps.ite ?_ ?_
                · refine Keeps.next ?_
                  refine State.bellShow_kept ?_
                  refine State.takeDelay_kept ?_
                  exact h15
                · refine Keeps.next ?_
                  refine State.bellShow_kept ?_
                  exact h15
            · refine Keeps.next ?_
              refine State.bellShow_kept ?_
              exact h7

theorem execVtfFrameSend_kept {n : Fin 96} {s : State} : Keeps s (@execVtfFrameSend n s) := by
  have h0 := Kept.refl s
  unfold execVtfFrameSend
  extract_lets -merge +onlyGivenNames u1
  split
  · refine Keeps.next ?_
    exact h0
  · refine Keeps.ite ?_ ?_
    · refine Keeps.next ?_
      exact h0
    · extract_lets -merge +onlyGivenNames u2
      extract_lets -merge +onlyGivenNames u3
      extract_lets -merge +onlyGivenNames u4
      extract_lets -merge +onlyGivenNames u5
      have h6 : Kept s u5 := by
        unfold u5
        refine Kept.ite ?_ ?_
        · refine State.fillTrunks_kept ?_
          exact h0
        · exact h0
      extract_lets -merge +onlyGivenNames u7
      extract_lets -merge +onlyGivenNames u8
      extract_lets -merge +onlyGivenNames u9
      extract_lets -merge +onlyGivenNames u10
      extract_lets -merge +onlyGivenNames u11
      extract_lets -merge +onlyGivenNames u12
      extract_lets -merge +onlyGivenNames u13
      extract_lets -merge +onlyGivenNames u14
      have h15 : Kept s u14 := by
        unfold u14
        refine State.setVtf_kept ?_
        exact h6
      split
      rename_i e16
      refine Kept.thruE (z := s) e16 ?_ (fun h17 => ?_)
      · refine Kept.ite_snd ?_ ?_
        · refine State.apsSend_kept ?_
          exact h15
        · exact h15
      · split
        rename_i e18
        refine Kept.thruE (z := s) e18 ?_ (fun h19 => ?_)
        · refine State.timingSend_kept ?_
          exact h17
        · extract_lets -merge +onlyGivenNames u20
          split
          rename_i e21
          refine Kept.thruE (z := s) e21 ?_ (fun h22 => ?_)
          · refine State.mccSend_kept ?_
            exact h19
          · extract_lets -merge +onlyGivenNames u23
            refine Keeps.next ?_
            refine State.syncCal_kept ?_
            refine State.emit_kept ?_
            exact h22

theorem State.clkoutWrite_kept {z : State} {s : State} {k : Nat} {v : Nat} (hk : Kept z s) : Kept z (@State.clkoutWrite s k v) := by
  unfold State.clkoutWrite
  extract_lets -merge +onlyGivenNames u1
  refine Kept.ite ?_ ?_
  · refine State.wr_kept ?_
    exact hk
  · exact hk

theorem State.dpllReset_kept {z : State} {s : State} {d : Nat} (hk : Kept z s) : Kept z (@State.dpllReset s d) := by
  unfold State.dpllReset
  refine Kept.ite ?_ ?_
  · exact hk
  · with_reducible refine Kept.upd ?_ ..
    exact hk

theorem State.frameOfsWrite_kept {z : State} {s : State} {v : Nat} (hk : Kept z s) : Kept z (@State.frameOfsWrite s v) := by
  unfold State.frameOfsWrite
  refine Kept.ite ?_ ?_
  · refine State.wr_kept ?_
    exact hk
  · refine State.latch_kept ?_
    exact hk

theorem State.ppsChange_kept {z : State} {s : State} {k : Nat} {f : State → State} (hk : Kept z s) (hf : ∀ a0, Kept z a0 → Kept z (f a0)) : Kept z (@State.ppsChange s k f) := by
  unfold State.ppsChange
  extract_lets -merge +onlyGivenNames u1
  refine hf _ ?_
  with_reducible refine Kept.upd ?_ ..
  exact hk

theorem State.ppsCfgWrite_kept {z : State} {s : State} {k : Nat} {v : Nat} (hk : Kept z s) : Kept z (@State.ppsCfgWrite s k v) := by
  unfold State.ppsCfgWrite
  extract_lets -merge +onlyGivenNames u1
  extract_lets -merge +onlyGivenNames u2
  extract_lets -merge +onlyGivenNames u3
  refine Kept.ite ?_ ?_
  · exact hk
  · refine State.ppsChange_kept ?_ ?_
    · exact hk
    · intro a4 h5
      refine State.setReg_kept ?_
      exact h5

theorem State.ppsOfsWrite_kept {z : State} {s : State} {k : Nat} {v : Nat} (hk : Kept z s) : Kept z (@State.ppsOfsWrite s k v) := by
  unfold State.ppsOfsWrite
  refine Kept.ite ?_ ?_
  · refine State.ppsChange_kept ?_ ?_
    · exact hk
    · intro a1 h2
      refine State.wr_kept ?_
      exact h2
  · exact hk

theorem State.consensus_kept {z : State} {s : State} {old : State} {n : Nat} {ofs : Int} (hk : Kept z s) : Kept z (@State.consensus s old n ofs) := by
  unfold State.consensus
  extract_lets -merge +onlyGivenNames u1
  extract_lets -merge +onlyGivenNames u2
  extract_lets -merge +onlyGivenNames u3
  extract_lets -merge +onlyGivenNames u4
  extract_lets -merge +onlyGivenNames u5
  have h6 : Kept z u5 := by
    unfold u5
    refine State.setRefx_kept ?_
    exact hk
  refine Kept.ite ?_ ?_
  · refine State.failRef_kept ?_
    refine State.bellEvent_kept ?_
    exact h6
  · exact h6

theorem State.decideRef_kept {z : State} {s : State} {d : Nat} {n : Nat} (hk : Kept z s) : Kept z (@State.decideRef s d n) := by
  unfold State.decideRef
  extract_lets -merge +onlyGivenNames u1
  extract_lets -merge +onlyGivenNames u2
  extract_lets -merge +onlyGivenNames u3
  have h4 : Kept z u3 := by
    unfold u3
    refine State.wr_kept ?_
    exact hk
  extract_lets -merge +onlyGivenNames u5
  have h6 : Kept z u5 := by
    unfold u5
    refine Kept.ite ?_ ?_
    · refine Kept.ite ?_ ?_
      · refine State.wr_kept ?_
        exact h4
      · exact h4
    · refine State.wr_kept ?_
      exact h4
  refine State.bellEvent_kept ?_
  exact h6

theorem State.drift_kept {z : State} {s : State} {n : Nat} {ofs : Int} (hk : Kept z s) : Kept z (@State.drift s n ofs) := by
  unfold State.drift
  extract_lets -merge +onlyGivenNames u1
  extract_lets -merge +onlyGivenNames u2
  extract_lets -merge +onlyGivenNames u3
  extract_lets -merge +onlyGivenNames u4
  have h5 : Kept z u4 := by
    unfold u4
    refine State.wr_kept ?_
    exact hk
  extract_lets -merge +onlyGivenNames u6
  extract_lets -merge +onlyGivenNames u7
  have h8 : Kept z u7 := by
    unfold u7
    refine State.wr_kept ?_
    exact h5
  extract_lets -merge +onlyGivenNames u9
  have h10 : Kept z u9 := by
    unfold u9
    refine Kept.ite ?_ ?_
    · refine Kept.ite ?_ ?_
      · exact h8
      · refine State.bellEvent_kept ?_
        exact h8
    · refine Kept.ite ?_ ?_
      · refine State.wr_kept ?_
        exact h5
      · exact h5
  extract_lets -merge +onlyGivenNames u11
  extract_lets -merge +onlyGivenNames u12
  extract_lets -merge +onlyGivenNames u13
  have h14 : Kept z u13 := by
    unfold u13
    refine State.setRefx_kept ?_
    exact h10
  refine Kept.ite ?_ ?_
  · refine State.failRef_kept ?_
    exact h14
  · exact h14

theorem State.judgeDpll_kept {z : State} {s : State} {d : Nat} {long : Bool} (hk : Kept z s) : Kept z (@State.judgeDpll s d long) := by
  unfold State.judgeDpll
  refine Kept.ite ?_ ?_
  · exact hk
  · refine Kept.ite ?_ ?_
    · refine Kept.ite ?_ ?_
      · refine State.wr_kept ?_
        refine State.wr_kept ?_
        refine State.wr_kept ?_
        exact hk
      · exact hk
    · extract_lets -merge +onlyGivenNames u1
      have h2 : Kept z u1 := by
        unfold u1
        refine Kept.ite ?_ ?_
        · refine State.holdover_kept ?_
          exact hk
        · exact hk
      split
      · refine State.holdover_kept ?_
        exact h2
      · refine State.freerun_kept ?_
        exact h2
      · refine State.wr_kept ?_
        refine State.wr_kept ?_
        exact h2
      · refine Kept.ite ?_ ?_
        · exact h2
        · split
          · refine Kept.ite ?_ ?_
            · exact h2
            · refine State.decideRef_kept ?_
              exact h2
          · refine Kept.ite ?_ ?_
            · refine State.holdover_kept ?_
              exact h2
            · refine Kept.ite ?_ ?_
              · refine State.holdover_kept ?_
                exact h2
              · exact h2

theorem State.judgeDpll3_kept {z : State} {s : State} {long : Bool} (hk : Kept z s) : Kept z (@State.judgeDpll3 s long) := by
  unfold State.judgeDpll3
  refine Kept.ite ?_ ?_
  · exact hk
  · refine Kept.ite ?_ ?_
    · refine State.wr_kept ?_
      refine State.wr_kept ?_
      refine State.wr_kept ?_
      exact hk
    · refine Kept.ite ?_ ?_
      · refine Kept.ite ?_ ?_
        · exact hk
        · refine State.decideRef_kept ?_
          exact hk
      · refine State.wr_kept ?_
        refine State.holdover_kept ?_
        exact hk

theorem State.oscLoss_kept {z : State} {s : State} {long : BitVec 4} (hk : Kept z s) : Kept z (@State.oscLoss s long) := by
  unfold State.oscLoss
  extract_lets -merge +onlyGivenNames u1
  extract_lets -merge +onlyGivenNames u2
  have h3 : Kept z u2 := by
    unfold u2
    refine State.wr_kept ?_
    with_reducible refine Kept.upd ?_ ..
    exact hk
  extract_lets -merge +onlyGivenNames u4
  have h5 : Kept z u4 := by
    unfold u4
    refine State.latch_kept ?_
    exact h3
  refine Kept.iter ?_ ?_
  · intro a6 a7 h8
    refine State.fenceDpll_kept ?_
    exact h8
  · exact h5

theorem State.putPpsTs_kept {z : State} {s : State} {k : Nat} {t : Nat} (hk : Kept z s) : Kept z (@State.putPpsTs s k t) := by
  unfold State.putPpsTs
  refine Kept.iter ?_ ?_
  · intro a1 a2 h3
    refine State.setReg_kept ?_
    exact h3
  · exact hk

theorem execAlignmentWindowEnd_kept {d : Fin 4} {long : Bool} {s : State} : Keeps s (@execAlignmentWindowEnd d long s) := by
  have h0 := Kept.refl s
  unfold execAlignmentWindowEnd
  refine Keeps.ite ?_ ?_
  · refine Keeps.ite ?_ ?_
    · refine Keeps.next ?_
      refine State.bellShow_kept ?_
      refine State.wr_kept ?_
      exact h0
    · refine Keeps.next ?_
      refine State.bellShow_kept ?_
      refine State.holdover_kept ?_
      exact h0
  · refine Keeps.next ?_
    exact h0

theorem execBellFrameOfsWrite_kept {m : Fin 8} {v : BitVec 32} {s : State} : Keeps s (@execBellFrameOfsWrite m v s) := by
  have h0 := Kept.refl s
  unfold execBellFrameOfsWrite
  refine Keeps.next ?_
  refine State.asMaster_kept ?_ ?_
  · exact h0
  · intro a1 h2
    refine State.pairGate_kept ?_ ?_
    · exact h2
    · intro a3 h4
      refine State.frameOfsWrite_kept ?_
      exact h4

theorem execClkoutFreqWrite_kept {m : Fin 8} {k : Fin 8} {v : BitVec 32} {s : State} : Keeps s (@execClkoutFreqWrite m k v s) := by
  have h0 := Kept.refl s
  unfold execClkoutFreqWrite
  refine Keeps.next ?_
  refine State.asMaster_kept ?_ ?_
  · exact h0
  · intro a1 h2
    refine State.pairGate_kept ?_ ?_
    · exact h2
    · intro a3 h4
      refine State.clkoutWrite_kept ?_
      exact h4

theorem execDpllFenceReq_kept {m : Fin 8} {d : Fin 4} {long : Bool} {s : State} : Keeps s (@execDpllFenceReq m d long s) := by
  have h0 := Kept.refl s
  unfold execDpllFenceReq
  refine Keeps.next ?_
  refine State.asMaster_kept ?_ ?_
  · exact h0
  · intro a1 h2
    refine State.fenceDpll_kept ?_
    exact h2

theorem execDpllLock_kept {d : Fin 4} {s : State} : Keeps s (@execDpllLock d s) := by
  have h0 := Kept.refl s
  unfold execDpllLock
  refine Keeps.ite ?_ ?_
  · extract_lets -merge +onlyGivenNames u1
    have h2 : Kept s u1 := by
      unfold u1
      refine State.wr_kept ?_
      exact h0
    refine Keeps.next ?_
    refine State.bellShow_kept ?_
    refine Kept.ite ?_ ?_
    · refine State.wr_kept ?_
      exact h2
    · exact h2
  · refine Keeps.next ?_
    exact h0

theorem execDpllParity_kept {d : Fin 4} {long : Bool} {s : State} : Keeps s (@execDpllParity d long s) := by
  have h0 := Kept.refl s
  unfold execDpllParity
  refine Keeps.next ?_
  refine State.fenceDpll_kept ?_
  exact h0

theorem execDpllReset_kept {m : Fin 8} {d : Fin 4} {s : State} : Keeps s (@execDpllReset m d s) := by
  have h0 := Kept.refl s
  unfold execDpllReset
  refine Keeps.next ?_
  refine State.asMaster_kept ?_ ?_
  · exact h0
  · intro a1 h2
    refine State.dpllReset_kept ?_
    exact h2

theorem execDpllResetDone_kept {d : Fin 4} {s : State} : Keeps s (@execDpllResetDone d s) := by
  have h0 := Kept.refl s
  unfold execDpllResetDone
  refine Keeps.ite ?_ ?_
  · extract_lets -merge +onlyGivenNames u1
    extract_lets -merge +onlyGivenNames u2
    have h3 : Kept s u2 := by
      unfold u2
      with_reducible refine Kept.upd ?_ ..
      exact h0
    extract_lets -merge +onlyGivenNames u4
    have h5 : Kept s u4 := by
      unfold u4
      refine State.wr_kept ?_
      refine State.wr_kept ?_
      exact h3
    extract_lets -merge +onlyGivenNames u6
    have h7 : Kept s u6 := by
      unfold u6
      refine Kept.ite ?_ ?_
      · refine State.wr_kept ?_
        exact h5
      · exact h5
    refine Keeps.next ?_
    refine State.bellShow_kept ?_
    refine Kept.ite ?_ ?_
    · refine State.wr_kept ?_
      exact h7
    · exact h7
  · refine Keeps.next ?_
    exact h0

theorem execFramePhaseSaturation_kept {s : State} : Keeps s (@execFramePhaseSaturation s) := by
  have h0 := Kept.refl s
  unfold execFramePhaseSaturation
  refine Keeps.ite ?_ ?_
  · refine Keeps.next ?_
    exact h0
  · refine Keeps.next ?_
    refine State.bellEvent_kept ?_
    exact h0

theorem execFreqMeasurementUpdate_kept {ofs : List (Fin 18 × BitVec 32)} {s : State} : Keeps s (@execFreqMeasurementUpdate ofs s) := by
  have h0 := Kept.refl s
  unfold execFreqMeasurementUpdate
  extract_lets -merge +onlyGivenNames u1
  have h2 : Kept s u1 := by
    unfold u1
    exact h0
  extract_lets -merge +onlyGivenNames u3
  extract_lets -merge +onlyGivenNames u4
  have h5 : Kept s u4 := by
    unfold u4
    refine Kept.foldl ?_ ?_
    · intro a6 a7 h8
      refine State.drift_kept ?_
      exact h8
    · exact h0
  refine Keeps.next ?_
  refine Kept.foldl ?_ ?_
  · intro a9 a10 h11
    refine State.consensus_kept ?_
    exact h11
  · exact h5

theorem execHoldoverSpecExpiry_kept {d : Fin 4} {s : State} : Keeps s (@execHoldoverSpecExpiry d s) := by
  have h0 := Kept.refl s
  unfold execHoldoverSpecExpiry
  refine Keeps.ite ?_ ?_
  · extract_lets -merge +onlyGivenNames u1
    have h2 : Kept s u1 := by
      unfold u1
      refine State.wr_kept ?_
      exact h0
    refine Keeps.next ?_
    refine State.bellShow_kept ?_
    refine State.bellEvent_kept ?_
    exact h2
  · refine Keeps.next ?_
    exact h0

theorem execOscInLoss_kept {long : BitVec 4} {s : State} : Keeps s (@execOscInLoss long s) := by
  have h0 := Kept.refl s
  unfold execOscInLoss
  refine Keeps.next ?_
  refine State.oscLoss_kept ?_
  exact h0

theorem execOscInReturn_kept {s : State} : Keeps s (@execOscInReturn s) := by
  have h0 := Kept.refl s
  unfold execOscInReturn
  refine Keeps.next ?_
  refine State.wr_kept ?_
  with_reducible refine Kept.upd ?_ ..
  exact h0

theorem execPpsCfgWrite_kept {m : Fin 8} {k : Fin 4} {v : BitVec 32} {s : State} : Keeps s (@execPpsCfgWrite m k v s) := by
  have h0 := Kept.refl s
  unfold execPpsCfgWrite
  refine Keeps.next ?_
  refine State.asMaster_kept ?_ ?_
  · exact h0
  · intro a1 h2
    refine State.pairGate_kept ?_ ?_
    · exact h2
    · intro a3 h4
      refine State.ppsCfgWrite_kept ?_
      exact h4

theorem execPpsInEdge_kept {k : Fin 2} {t : BitVec 80} {dev : BitVec 64} {s : State} : Keeps s (@execPpsInEdge k t dev s) := by
  have h0 := Kept.refl s
  unfold execPpsInEdge
  extract_lets -merge +onlyGivenNames u1
  extract_lets -merge +onlyGivenNames u2
  extract_lets -merge +onlyGivenNames u3
  extract_lets -merge +onlyGivenNames u4
  extract_lets -merge +onlyGivenNames u5
  extract_lets -merge +onlyGivenNames u6
  have h7 : Kept s u6 := by
    unfold u6
    refine State.wr_kept ?_
    refine State.putPpsTs_kept ?_
    exact h0
  extract_lets -merge +onlyGivenNames u8
  extract_lets -merge +onlyGivenNames u9
  extract_lets -merge +onlyGivenNames u10
  extract_lets -merge +onlyGivenNames u11
  extract_lets -merge +onlyGivenNames u12
  have h13 : Kept s u12 := by
    unfold u12
    refine Kept.ite ?_ ?_
    · refine State.latch_kept ?_
      exact h7
    · exact h7
  extract_lets -merge +onlyGivenNames u14
  extract_lets -merge +onlyGivenNames u15
  extract_lets -merge +onlyGivenNames u16
  have h17 : Kept s u16 := by
    unfold u16
    with_reducible refine Kept.upd ?_ ..
    exact h13
  split
  · refine Keeps.next ?_
    exact h17
  · extract_lets -merge +onlyGivenNames u18
    extract_lets -merge +onlyGivenNames u19
    refine Keeps.next ?_
    refine Kept.ite ?_ ?_
    · refine State.failTime_kept ?_
      exact h17
    · refine State.setRefx_kept ?_
      exact h17

theorem execPpsInMissing_kept {k : Fin 2} {s : State} : Keeps s (@execPpsInMissing k s) := by
  have h0 := Kept.refl s
  unfold execPpsInMissing
  extract_lets -merge +onlyGivenNames u1
  extract_lets -merge +onlyGivenNames u2
  have h3 : Kept s u2 := by
    unfold u2
    refine State.latch_kept ?_
    refine State.wr_kept ?_
    exact h0
  extract_lets -merge +onlyGivenNames u4
  extract_lets -merge +onlyGivenNames u5
  have h6 : Kept s u5 := by
    unfold u5
    with_reducible refine Kept.upd ?_ ..
    exact h3
  refine Keeps.next ?_
  split
  · refine State.failTime_kept ?_
    exact h6
  · exact h6

theorem execPpsOutPulse_kept {k : Fin 4} {j : BitVec 64} {s : State} : Keeps s (@execPpsOutPulse k j s) := by
  have h0 := Kept.refl s
  unfold execPpsOutPulse
  extract_lets -merge +onlyGivenNames u1
  extract_lets -merge +onlyGivenNames u2
  split
  rename_i e3
  refine Kept.thruE2 (z := s) e3 ?_ (fun h4 => ?_)
  · split
    · exact h0
    · split
      · split
        · dsimp -zeta only
          with_reducible refine Kept.upd ?_ ..
          exact h0
        · exact h0
      · exact h0
  · refine Keeps.ite ?_ ?_
    · split
      · refine Keeps.next ?_
        refine State.emit_kept ?_
        exact h4
      · refine Keeps.next ?_
        exact h4
    · refine Keeps.next ?_
      exact h4

theorem execQualificationTimerEnd_kept {n : Fin 18} {time : Bool} {s : State} : Keeps s (@execQualificationTimerEnd n time s) := by
  have h0 := Kept.refl s
  unfold execQualificationTimerEnd
  extract_lets -merge +onlyGivenNames u1
  extract_lets -merge +onlyGivenNames u2
  have h3 : ∀ v0, Kept s v0 → Kept s (u2 v0) := by
    unfold u2
    intro a4 h5
    refine State.bellShow_kept ?_
    refine State.bellEvent_kept ?_
    exact h5
  refine Keeps.ite ?_ ?_
  · refine Keeps.ite ?_ ?_
    · refine Keeps.next ?_
      refine h3 _ ?_
      refine State.wr_kept ?_
      refine State.setRefx_kept ?_
      exact h0
    · refine Keeps.next ?_
      exact h0
  · refine Keeps.ite ?_ ?_
    · refine Keeps.next ?_
      refine h3 _ ?_
      refine State.wr_kept ?_
      refine State.wr_kept ?_
      exact h0
    · refine Keeps.next ?_
      exact h0

theorem execRefActivityLoss_kept {n : Fin 18} {long : Bool} {s : State} : Keeps s (@execRefActivityLoss n long s) := by
  have h0 := Kept.refl s
  unfold execRefActivityLoss
  extract_lets -merge +onlyGivenNames u1
  have h2 : Kept s u1 := by
    unfold u1
    refine State.failRef_kept ?_
    exact h0
  refine Keeps.next ?_
  refine Kept.ite ?_ ?_
  · refine State.bellShow_kept ?_
    refine State.wr_kept ?_
    refine State.holdover_kept ?_
    refine State.holdover_kept ?_
    refine State.holdover_kept ?_
    exact h2
  · exact h2

theorem execRefEnableWrite_kept {m : Fin 8} {n : Fin 18} {en : Bool} {s : State} : Keeps s (@execRefEnableWrite m n en s) := by
  have h0 := Kept.refl s
  unfold execRefEnableWrite
  refine Keeps.next ?_
  refine State.asMaster_kept ?_ ?_
  · exact h0
  · intro a1 h2
    refine State.pairGate_kept ?_ ?_
    · exact h2
    · intro a3 h4
      refine State.refEnable_kept ?_
      exact h4

theorem execRefFailureClear_kept {n : Fin 18} {time : Bool} {s : State} : Keeps s (@execRefFailureClear n time s) := by
  have h0 := Kept.refl s
  unfold execRefFailureClear
  extract_lets -merge +onlyGivenNames u1
  refine Keeps.ite ?_ ?_
  · refine Keeps.ite ?_ ?_
    · refine Keeps.next ?_
      refine State.setRefx_kept ?_
      exact h0
    · refine Keeps.next ?_
      exact h0
  · refine Keeps.ite ?_ ?_
    · extract_lets -merge +onlyGivenNames u2
      have h3 : Kept s u2 := by
        unfold u2
        refine State.setRefx_kept ?_
        exact h0
      extract_lets -merge +onlyGivenNames u4
      refine Keeps.next ?_
      refine State.bellShow_kept ?_
      refine State.wr_kept ?_
      refine State.wr_kept ?_
      exact h3
    · refine Keeps.next ?_
      exact h0

theorem execSelectionJudgement_kept {d : Fin 4} {long : Bool} {s : State} : Keeps s (@execSelectionJudgement d long s) := by
  have h0 := Kept.refl s
  unfold execSelectionJudgement
  refine Keeps.next ?_
  refine State.bellShow_kept ?_
  refine Kept.ite ?_ ?_
  · refine State.judgeDpll3_kept ?_
    exact h0
  · refine State.judgeDpll_kept ?_
    exact h0

theorem execSlewComplete_kept {s : State} : Keeps s (@execSlewComplete s) := by
  have h0 := Kept.refl s
  unfold execSlewComplete
  split
  · refine Keeps.next ?_
    exact h0
  · extract_lets -merge +onlyGivenNames u1
    extract_lets -merge +onlyGivenNames u2
    have h3 : Kept s u2 := by
      unfold u2
      with_reducible refine Kept.upd ?_ ..
      exact h0
    refine Keeps.next ?_
    refine State.ok_kept ?_
    refine State.bellEvent_kept ?_
    exact h3

theorem execTodMessageReceive_kept {bytes : List (BitVec 8)} {inTime : Bool} {s : State} : Keeps s (@execTodMessageReceive bytes inTime s) := by
  have h0 := Kept.refl s
  unfold execTodMessageReceive
  extract_lets -merge +onlyGivenNames u1
  refine Keeps.ite ?_ ?_
  · refine Keeps.next ?_
    exact h0
  · refine Keeps.ite ?_ ?_
    · refine Keeps.ite ?_ ?_
      · refine Keeps.next ?_
        with_reducible refine Kept.upd ?_ ..
        exact h0
      · refine Keeps.next ?_
        exact h0
    · refine Keeps.next ?_
      refine State.latch_kept ?_
      exact h0

theorem execTodMessageSend_kept {s : State} : Keeps s (execTodMessageSend s) := by
  have h0 := Kept.refl s
  unfold execTodMessageSend
  refine Keeps.ite ?_ (Keeps.next h0)
  split
  rename_i e
  exact Keeps.next (State.emit_kept (Kept.snd (State.timeFields_kept h0) e))

end Sys2Proof.Machine
end

