-- ==== Sys2Proof/Laws/Kept03.lean ====
section
/-! SUPPORT. What the operations of LedgOps, ChgProg, ChgCal, ChgGrn, ChgLane, ChgMode, RegWrite, WeaverCtl, Change, Client, Granary, Defects keep (`Kept`): the queue as it is, the tables canonical, the fuse store one-way. -/
namespace Sys2Proof.Machine

theorem State.showLedg_kept {z : State} {s : State} (hk : Kept z s) : Kept z (@State.showLedg s) := by
  unfold State.showLedg
  extract_lets -merge +onlyGivenNames u1
  extract_lets -merge +onlyGivenNames u2
  have h3 : Kept z u2 := by
    unfold u2
    refine State.wr_kept ?_
    exact hk
  extract_lets -merge +onlyGivenNames u4
  have h5 : Kept z u4 := by
    unfold u4
    refine State.wr_kept ?_
    exact h3
  refine State.wr_kept ?_
  exact h5

theorem State.setLedg_kept {z : State} {s : State} {l : LedgX} (hk : Kept z s) : Kept z (@State.setLedg s l) := by
  unfold State.setLedg
  refine State.showLedg_kept ?_
  with_reducible refine Kept.upd ?_ ..
  exact hk

theorem State.openGen_kept {z : State} {s : State} {own : Bool} (hk : Kept z s) : Kept z (@State.openGen s own) := by
  unfold State.openGen
  extract_lets -merge +onlyGivenNames u1
  extract_lets -merge +onlyGivenNames u2
  extract_lets -merge +onlyGivenNames u3
  refine State.setLedg_kept ?_
  exact hk

theorem State.append_kept {z : State} {s : State} {frame : Nat} {c : Option Change} (hk : Kept z s) : Kept z (@State.append s frame c) := by
  unfold State.append
  extract_lets -merge +onlyGivenNames u1
  extract_lets -merge +onlyGivenNames u2
  have h3 : Kept z u2 := by
    unfold u2
    refine State.setLedg_kept ?_
    exact hk
  extract_lets -merge +onlyGivenNames u4
  have h5 : Kept z u4 := by
    unfold u4
    split
    · refine Kept.ite ?_ ?_
      · refine State.emit_kept ?_
        exact h3
      · exact h3
    · exact h3
  refine Kept.ite ?_ ?_
  · refine State.openGen_kept ?_
    exact h5
  · exact h5

theorem State.sched_kept {z : State} {s : State} {h : Option CmdHead} {j : Bool} {d : Due} {c : Change} (hk : Kept z s) : Kept z (@State.sched s h j d c) := by
  unfold State.sched
  refine State.later_kept ?_
  refine Kept.ite ?_ ?_
  · refine State.append_kept ?_
    exact hk
  · exact hk

theorem State.putGen_kept {z : State} {s : State} {slot : Nat} {g : Gen} (hk : Kept z s) : Kept z (@State.putGen s slot g) := by
  unfold State.putGen
  extract_lets -merge +onlyGivenNames u1
  extract_lets -merge +onlyGivenNames u2
  extract_lets -merge +onlyGivenNames u3
  have h4 : Kept z u3 := by
    unfold u3
    refine State.setLedg_kept ?_
    exact hk
  extract_lets -merge +onlyGivenNames u5
  have h6 : Kept z u5 := by
    unfold u5
    refine State.wr_kept ?_
    refine State.wr_kept ?_
    exact h4
  extract_lets -merge +onlyGivenNames u7
  have h8 : Kept z u7 := by
    unfold u7
    refine State.pairEvent_kept ?_
    exact h6
  split
  · refine State.ok_kept ?_
    exact h8
  · exact h8

theorem State.commitGen_kept {z : State} {s : State} (hk : Kept z s) : Kept z (@State.commitGen s) := by
  unfold State.commitGen
  split
  · exact hk
  · extract_lets -merge +onlyGivenNames u1
    have h2 : Kept z u1 := by
      unfold u1
      refine State.putGen_kept ?_
      exact hk
    refine Kept.ite ?_ ?_
    · refine State.emit_kept ?_
      exact h2
    · exact h2

theorem State.loadReg_kept {z : State} {s : State} {a : Nat} {v : W32} (hk : Kept z s) : Kept z (@State.loadReg s a v) := by
  unfold State.loadReg
  extract_lets -merge +onlyGivenNames u1
  refine State.setReg_kept ?_
  exact hk

theorem State.doAttach_kept {z : State} {s : State} {c : Nat} {slot : Nat} {p : Prog} (hk : Kept z s) : Kept z (@State.doAttach s c slot p) := by
  unfold State.doAttach
  refine State.attachNow_kept ?_
  refine State.detachNow_kept ?_
  exact hk

theorem State.pendParams_kept {z : State} {s : State} {h : Option CmdHead} {c : Nat} {slot : Nat} {first : Nat} {vs : List W32} (hk : Kept z s) : Kept z (@State.pendParams s h c slot first vs) := by
  unfold State.pendParams
  refine Kept.foldl ?_ ?_
  · intro a1 a2 h3
    refine State.pendParam_kept ?_
    exact h3
  · exact hk

theorem State.asAttached_kept {z : State} {s : State} {c : Nat} {slot : Nat} {p : Prog} (hk : Kept z s) : Kept z (@State.asAttached s c slot p) := by
  unfold State.asAttached
  extract_lets -merge +onlyGivenNames u1
  have h2 : Kept z u1 := by
    unfold u1
    refine State.setProg_kept ?_
    exact hk
  with_reducible refine Kept.upd ?_ ..
  exact h2

theorem State.doSwitch_kept {z : State} {s : State} {chans : List Nat} {at_ : Nat} (hk : Kept z s) : Kept z (@State.doSwitch s chans at_) := by
  unfold State.doSwitch
  refine Kept.foldl ?_ ?_
  · intro a1 a2 h3
    refine State.syncCal_kept ?_
    refine State.setChanX_kept ?_
    exact h3
  · exact hk

theorem State.stageSec_kept {z : State} {s : State} {x : CalSec} (hk : Kept z s) : Kept z (@State.stageSec s x) := by
  unfold State.stageSec
  extract_lets -merge +onlyGivenNames u1
  have h2 : Kept z u1 := by
    unfold u1
    refine Kept.foldl ?_ ?_
    · intro a3 a4 h5
      refine State.setCal_kept ?_
      exact h5
    · exact hk
  extract_lets -merge +onlyGivenNames u6
  extract_lets -merge +onlyGivenNames u7
  refine State.syncCal_kept ?_
  refine State.setChanX_kept ?_
  exact h2

theorem State.doConfig_kept {z : State} {s : State} {g : Nat} {a : ProtArgs} (hk : Kept z s) : Kept z (@State.doConfig s g a) := by
  unfold State.doConfig
  extract_lets -merge +onlyGivenNames u1
  extract_lets -merge +onlyGivenNames u2
  have h3 : Kept z u2 := by
    unfold u2
    refine Kept.ite ?_ ?_
    · exact hk
    · refine State.setReg_kept ?_
      refine State.setGroup_kept ?_
      exact hk
  extract_lets -merge +onlyGivenNames u4
  have h5 : Kept z u4 := by
    unfold u4
    refine State.setReg_kept ?_
    exact h3
  extract_lets -merge +onlyGivenNames u6
  extract_lets -merge +onlyGivenNames u7
  have h8 : Kept z u7 := by
    unfold u7
    refine State.setGroup_kept ?_
    exact h5
  refine State.judgeGroup_kept ?_
  refine State.groupCond_kept ?_
  exact h8

theorem State.queueTiming_kept {z : State} {s : State} {q : Nat} {a : QueueArgs} (hk : Kept z s) : Kept z (@State.queueTiming s q a) := by
  unfold State.queueTiming
  extract_lets -merge +onlyGivenNames u1
  have h2 : Kept z u1 := by
    unfold u1
    refine State.wr_kept ?_
    refine State.wr_kept ?_
    refine State.wr_kept ?_
    exact hk
  refine State.wr_kept ?_
  refine State.wr_kept ?_
  exact h2

theorem State.doCreate_kept {z : State} {s : State} {q : Nat} {a : QueueArgs} (hk : Kept z s) : Kept z (s.doCreate q a) := by
  unfold State.doCreate
  extract_lets s1 s2 s3 s4
  have h3 : Kept z s3 := State.wr_kept (State.wr_kept (State.queueTiming_kept (State.wr_kept (State.wr_kept (State.wr_kept (State.wr_kept (State.clearRegs_kept hk)))))))
  refine State.degradedRecompute_kept ?_
  unfold s4
  split
  · split
    · rename_i e
      exact h3.flows _ (fun c => wf_placeFlow (h3.tables c).flows e)
    · exact h3
  · exact h3

theorem State.dropKey_kept {z : State} {s : State} {q : Nat} (hk : Kept z s) : Kept z (s.dropKey q) :=
  hk.flows _ (fun c => Tab.wf_filter _ _ _ (hk.tables c).flows)

theorem State.doDelete_kept {z : State} {s : State} {q : Nat} (hk : Kept z s) : Kept z (@State.doDelete s q) := by
  unfold State.doDelete
  refine State.closeQueue_kept ?_
  refine State.flushQueue_kept ?_
  refine State.dropKey_kept ?_
  refine State.wr_kept ?_
  exact hk

theorem State.doProt_kept {z : State} {s : State} {op : Nat} {g : Nat} (hk : Kept z s) : Kept z (@State.doProt s op g) := by
  unfold State.doProt
  extract_lets -merge +onlyGivenNames u1
  split
  · refine State.judgeGroup_kept ?_
    refine State.setGroup_kept ?_
    exact hk
  · refine State.judgeGroup_kept ?_
    refine State.setGroup_kept ?_
    exact hk
  · refine State.judgeGroup_kept ?_
    refine State.setGroup_kept ?_
    exact hk
  · refine State.judgeGroup_kept ?_
    refine State.setGroup_kept ?_
    exact hk
  · refine State.judgeGroup_kept ?_
    refine State.setGroup_kept ?_
    exact hk
  · refine State.setReg_kept ?_
    refine State.setReg_kept ?_
    refine State.setGroup_kept ?_
    exact hk

theorem State.startSleep_kept {z : State} {s : State} {n : Nat} {dormant : Bool} (hk : Kept z s) : Kept z (@State.startSleep s n dormant) := by
  unfold State.startSleep
  extract_lets -merge +onlyGivenNames u1
  refine Kept.ite ?_ ?_
  · refine State.setLane_kept ?_
    exact hk
  · refine Kept.ite ?_ ?_
    · refine State.setLane_kept ?_
      exact hk
    · exact hk

theorem State.startWake_kept {z : State} {s : State} {n : Nat} (hk : Kept z s) : Kept z (@State.startWake s n) := by
  unfold State.startWake
  extract_lets -merge +onlyGivenNames u1
  refine Kept.ite ?_ ?_
  · refine State.setLane_kept ?_
    exact hk
  · refine Kept.ite ?_ ?_
    · extract_lets -merge +onlyGivenNames u2
      have h3 : Kept z u2 := by
        unfold u2
        refine State.quadStart_kept ?_
        exact hk
      refine State.setLane_kept ?_
      exact h3
    · exact hk

theorem State.doLanePower_kept {z : State} {s : State} {h : Option CmdHead} {lane : Nat} {wake : Bool} {dormant : Bool} (hk : Kept z s) : Kept z (@State.doLanePower s h lane wake dormant) := by
  unfold State.doLanePower
  extract_lets -merge +onlyGivenNames u1
  extract_lets -merge +onlyGivenNames u2
  have h3 : Kept z u2 := by
    unfold u2
    refine Kept.foldl ?_ ?_
    · intro a4 a5 h6
      refine Kept.ite ?_ ?_
      · refine State.startWake_kept ?_
        exact h6
      · refine State.startSleep_kept ?_
        exact h6
    · exact hk
  refine Kept.ite ?_ ?_
  · refine State.later_kept ?_
    exact h3
  · refine State.okOpt_kept ?_
    exact h3

theorem State.setRole_kept {z : State} {s : State} {n : Nat} {role : Bool} (hk : Kept z s) : Kept z (@State.setRole s n role) := by
  unfold State.setRole
  refine State.loadFir_kept ?_
  refine State.wr_kept ?_
  exact hk

theorem State.startLane_kept {z : State} {s : State} {n : Nat} {width : Nat} {role : Bool} {pam4 : Bool} {rate : Nat} (hk : Kept z s) : Kept z (@State.startLane s n width role pam4 rate) := by
  unfold State.startLane
  extract_lets -merge +onlyGivenNames u1
  have h2 : Kept z u1 := by
    unfold u1
    refine State.leaveService_kept ?_
    exact hk
  extract_lets -merge +onlyGivenNames u3
  extract_lets -merge +onlyGivenNames u4
  have h5 : Kept z u4 := by
    unfold u4
    refine State.setLane_kept ?_
    exact h2
  extract_lets -merge +onlyGivenNames u6
  have h7 : Kept z u6 := by
    unfold u6
    refine State.wr_kept ?_
    refine State.wr_kept ?_
    refine State.wr_kept ?_
    exact h5
  refine State.enterCal_kept ?_
  refine State.guardRelease_kept ?_
  refine State.setRole_kept ?_
  exact h7

theorem State.doLaneRate_kept {z : State} {s : State} {lane : Nat} {width : Nat} {role : Bool} {pam4 : Bool} {rate : Nat} (hk : Kept z s) : Kept z (@State.doLaneRate s lane width role pam4 rate) := by
  unfold State.doLaneRate
  extract_lets -merge +onlyGivenNames u1
  extract_lets -merge +onlyGivenNames u2
  refine Kept.ite ?_ ?_
  · refine Kept.foldl ?_ ?_
    · intro a3 a4 h5
      refine Kept.ite ?_ ?_
      · exact h5
      · refine State.laneOff_kept ?_
        exact h5
    · exact hk
  · refine Kept.ite ?_ ?_
    · refine Kept.ite ?_ ?_
      · exact hk
      · refine Kept.foldl ?_ ?_
        · intro a6 a7 h8
          refine State.guardRelease_kept ?_
          refine State.setRole_kept ?_
          exact h8
        · exact hk
    · extract_lets -merge +onlyGivenNames u9
      have h10 : Kept z u9 := by
        unfold u9
        refine Kept.foldl ?_ ?_
        · intro a11 a12 h13
          refine Kept.ite ?_ ?_
          · exact h13
          · refine State.laneOff_kept ?_
            exact h13
        · exact hk
      extract_lets -merge +onlyGivenNames u14
      have h15 : Kept z u14 := by
        unfold u14
        refine Kept.foldl ?_ ?_
        · intro a16 a17 h18
          refine State.startLane_kept ?_
          exact h18
        · exact h10
      refine State.showThreads_kept ?_
      refine State.refreshChan_kept ?_
      refine State.progFec_kept ?_
      exact h15

theorem State.asAwake_kept {z : State} {s : State} {lane : Nat} (hk : Kept z s) : Kept z (@State.asAwake s lane) := by
  unfold State.asAwake
  refine State.wr_kept ?_
  refine Kept.foldl ?_ ?_
  · intro a1 a2 h3
    refine State.setLaneState_kept ?_
    exact h3
  · exact hk

theorem State.asRated_kept {z : State} {s : State} {lane : Nat} {width : Nat} {rate : Nat} (hk : Kept z s) : Kept z (@State.asRated s lane width rate) := by
  unfold State.asRated
  extract_lets -merge +onlyGivenNames u1
  have h2 : Kept z u1 := by
    unfold u1
    refine Kept.foldl ?_ ?_
    · intro a3 a4 h5
      refine State.setLaneState_kept ?_
      refine State.setLane_kept ?_
      exact h5
    · exact hk
  extract_lets -merge +onlyGivenNames u6
  have h7 : Kept z u6 := by
    unfold u6
    refine Kept.foldl ?_ ?_
    · intro a8 a9 h10
      refine State.setLaneState_kept ?_
      refine State.setLane_kept ?_
      exact h10
    · exact h2
  refine State.wr_kept ?_
  exact h7

theorem State.enterDormant_kept {z : State} {s : State} {n : Nat} (hk : Kept z s) : Kept z (@State.enterDormant s n) := by
  unfold State.enterDormant
  extract_lets -merge +onlyGivenNames u1
  extract_lets -merge +onlyGivenNames u2
  extract_lets -merge +onlyGivenNames u3
  have h4 : Kept z u3 := by
    unfold u3
    refine Kept.ite ?_ ?_
    · refine State.wr_kept ?_
      refine State.setLane_kept ?_
      exact hk
    · refine State.dropStored_kept ?_
      exact hk
  extract_lets -merge +onlyGivenNames u5
  have h6 : Kept z u5 := by
    unfold u5
    refine State.setLaneState_kept ?_
    refine State.wr_kept ?_
    refine State.leaveService_kept ?_
    exact h4
  refine State.quadFollow_kept ?_
  exact h6

theorem State.endMove_kept {z : State} {s : State} {n : Nat} {dur : Nat} (hk : Kept z s) : Kept z (@State.endMove s n dur) := by
  unfold State.endMove
  split
  · exact hk
  · refine State.setLaneState_kept ?_
    refine State.leaveService_kept ?_
    exact hk
  · refine State.enterDormant_kept ?_
    exact hk
  · refine State.wr_kept ?_
    refine State.enterActive_kept ?_
    exact hk
  · refine Kept.ite ?_ ?_
    · refine State.wr_kept ?_
      refine State.enterActive_kept ?_
      exact hk
    · exact hk

theorem State.takeLane_kept {z : State} {s : State} {c : Nat} (hk : Kept z s) : Kept z (@State.takeLane s c).2 := by
  unfold State.takeLane
  dsimp -zeta only
  with_reducible refine Kept.upd ?_ ..
  exact hk

theorem State.modeBanks_kept {z : State} {s : State} {m : Mode} (hk : Kept z s) : Kept z (@State.modeBanks s m) := by
  unfold State.modeBanks
  refine Kept.ite ?_ ?_
  · extract_lets -merge +onlyGivenNames u1
    refine Kept.iter ?_ ?_
    · intro a2 a3 h4
      refine Kept.ite ?_ ?_
      · refine State.drainBank_kept ?_
        exact h4
      · exact h4
    · exact hk
  · refine Kept.ite ?_ ?_
    · refine Kept.iter ?_ ?_
      · intro a5 a6 h7
        refine Kept.ite ?_ ?_
        · refine State.wr_kept ?_
          refine State.setBank_kept ?_
          exact h7
        · exact h7
      · exact hk
    · exact hk

theorem State.doMode_kept {z : State} {s : State} {m : Mode} (hk : Kept z s) : Kept z (@State.doMode s m) := by
  unfold State.doMode
  extract_lets -merge +onlyGivenNames u1
  extract_lets -merge +onlyGivenNames u2
  have h3 : Kept z u2 := by
    unfold u2
    refine State.modeBanks_kept ?_
    exact hk
  extract_lets -merge +onlyGivenNames u4
  have h5 : Kept z u4 := by
    unfold u4
    refine Kept.ite ?_ ?_
    · refine Kept.iter ?_ ?_
      · intro a6 a7 h8
        refine State.clearTest_kept ?_
        exact h8
      · exact h3
    · exact h3
  extract_lets -merge +onlyGivenNames u9
  have h10 : Kept z u9 := by
    unfold u9
    refine Kept.ite ?_ ?_
    · refine Kept.iter ?_ ?_
      · intro a11 a12 h13
        refine State.stopInjector_kept ?_
        exact h13
      · exact h5
    · exact h5
  extract_lets -merge +onlyGivenNames u14
  have h15 : Kept z u14 := by
    unfold u14
    with_reducible refine Kept.upd ?_ ..
    exact h10
  extract_lets -merge +onlyGivenNames u16
  have h17 : Kept z u16 := by
    unfold u16
    refine Kept.ite ?_ ?_
    · refine Kept.foldl ?_ ?_
      · intro a18 a19 h20
        refine State.startSleep_kept ?_
        exact h20
      · exact h15
    · exact h15
  refine State.degradedRecompute_kept ?_
  refine Kept.iter ?_ ?_
  · intro a21 a22 h23
    refine Kept.ite ?_ ?_
    · exact h23
    · refine State.repack_kept ?_
      exact h23
  · exact h17

theorem State.debugNone_kept {z : State} {s : State} (hk : Kept z s) : Kept z (@State.debugNone s) := by
  unfold State.debugNone
  extract_lets -merge +onlyGivenNames u1
  extract_lets -merge +onlyGivenNames u2
  have h3 : Kept z u2 := by
    unfold u2
    refine State.wr_kept ?_
    refine State.wr_kept ?_
    exact hk
  refine Kept.ite ?_ ?_
  · refine State.lantEvent_kept ?_
    exact h3
  · exact h3

theorem State.restPart_kept {z : State} {s : State} (hk : Kept z s) : Kept z (@State.restPart s) := by
  unfold State.restPart
  extract_lets -merge +onlyGivenNames u1
  extract_lets -merge +onlyGivenNames u2
  extract_lets -merge +onlyGivenNames u3
  have h4 : Kept z u3 := by
    unfold u3
    with_reducible refine Kept.upd ?_ ..
    exact hk
  extract_lets -merge +onlyGivenNames u5
  have h6 : Kept z u5 := by
    unfold u5
    refine Kept.foldl ?_ ?_
    · intro a7 a8 h9
      refine State.startSleep_kept ?_
      exact h9
    · exact h4
  refine State.debugNone_kept ?_
  refine Kept.foldl ?_ ?_
  · intro a10 a11 h12
    refine State.dropPkt_kept ?_
    exact h12
  · exact h6

theorem State.wakePart_kept {z : State} {s : State} (hk : Kept z s) : Kept z (@State.wakePart s) := by
  unfold State.wakePart
  extract_lets -merge +onlyGivenNames u1
  have h2 : Kept z u1 := by
    unfold u1
    refine Kept.foldl ?_ ?_
    · intro a3 a4 h5
      refine State.startWake_kept ?_
      exact h5
    · exact hk
  refine State.degradedRecompute_kept ?_
  refine Kept.iter ?_ ?_
  · intro a6 a7 h8
    refine Kept.ite ?_ ?_
    · refine State.wr_kept ?_
      refine State.setBank_kept ?_
      exact h8
    · exact h8
  · exact h2

theorem State.doPower_kept {z : State} {s : State} {h : Option CmdHead} {p : Nat} (hk : Kept z s) : Kept z (@State.doPower s h p) := by
  unfold State.doPower
  split
  · refine State.okOpt_kept ?_
    refine Kept.iter ?_ ?_
    · intro a1 a2 h3
      refine State.quadFollow_kept ?_
      exact h3
    · refine State.wr_kept ?_
      exact hk
  · refine State.later_kept ?_
    refine Kept.ite ?_ ?_
    · refine State.wakePart_kept ?_
      exact hk
    · exact hk
  · refine State.later_kept ?_
    refine State.restPart_kept ?_
    exact hk
  · extract_lets -merge +onlyGivenNames u4
    have h5 : Kept z u4 := by
      unfold u4
      refine State.okOpt_kept ?_
      exact hk
    with_reducible refine Kept.upd ?_ ..
    exact h5

theorem State.asMode_kept {z : State} {s : State} {m : Mode} (hk : Kept z s) : Kept z (@State.asMode s m) := by
  unfold State.asMode
  extract_lets -merge +onlyGivenNames u1
  have h2 : Kept z u1 := by
    unfold u1
    with_reducible refine Kept.upd ?_ ..
    exact hk
  refine Kept.ite ?_ ?_
  · extract_lets -merge +onlyGivenNames u3
    have h4 : Kept z u3 := by
      unfold u3
      refine Kept.foldl ?_ ?_
      · intro a5 a6 h7
        refine State.setLaneState_kept ?_
        exact h7
      · exact h2
    extract_lets -merge +onlyGivenNames u8
    refine Kept.iter ?_ ?_
    · intro a9 a10 h11
      refine Kept.ite ?_ ?_
      · refine State.wr_kept ?_
        exact h11
      · exact h11
    · exact h4
  · refine Kept.iter ?_ ?_
    · intro a12 a13 h14
      refine Kept.ite ?_ ?_
      · refine State.wr_kept ?_
        exact h14
      · exact h14
    · exact h2

theorem State.asP0_kept {z : State} {s : State} (hk : Kept z s) : Kept z (@State.asP0 s) := by
  unfold State.asP0
  extract_lets -merge +onlyGivenNames u1
  have h2 : Kept z u1 := by
    unfold u1
    refine Kept.foldl ?_ ?_
    · intro a3 a4 h5
      refine Kept.ite ?_ ?_
      · refine State.setLaneState_kept ?_
        exact h5
      · exact h5
    · exact hk
  extract_lets -merge +onlyGivenNames u6
  have h7 : Kept z u6 := by
    unfold u6
    refine Kept.ite ?_ ?_
    · refine Kept.iter ?_ ?_
      · intro a8 a9 h10
        refine Kept.ite ?_ ?_
        · refine State.wr_kept ?_
          exact h10
        · exact h10
      · exact h2
    · exact h2
  refine Kept.iter ?_ ?_
  · intro a11 a12 h13
    refine Kept.ite ?_ ?_
    · exact h13
    · refine State.wr_kept ?_
      exact h13
  · exact h7

theorem State.powerLanes_kept {z : State} {s : State} {p : Nat} (hk : Kept z s) : Kept z (@State.powerLanes s p) := by
  unfold State.powerLanes
  refine Kept.ite ?_ ?_
  · refine Kept.foldl ?_ ?_
    · intro a1 a2 h3
      refine Kept.ite ?_ ?_
      · exact h3
      · extract_lets -merge +onlyGivenNames u4
        extract_lets -merge +onlyGivenNames u5
        have h6 : Kept z u5 := by
          unfold u5
          with_reducible refine Kept.upd ?_ ..
          exact h3
        refine State.startSleep_kept ?_
        exact h6
    · exact hk
  · refine Kept.ite ?_ ?_
    · refine Kept.foldl ?_ ?_
      · intro a7 a8 h9
        refine Kept.ite ?_ ?_
        · refine State.startSleep_kept ?_
          exact h9
        · exact h9
      · exact hk
    · exact hk

theorem State.powerReached_kept {z : State} {s : State} {p : Nat} (hk : Kept z s) : Kept z (@State.powerReached s p) := by
  unfold State.powerReached
  refine Kept.ite ?_ ?_
  · extract_lets -merge +onlyGivenNames u1
    have h2 : Kept z u1 := by
      unfold u1
      refine Kept.iter ?_ ?_
      · intro a3 a4 h5
        refine Kept.ite ?_ ?_
        · refine State.wr_kept ?_
          refine State.setBank_kept ?_
          exact h5
        · exact h5
      · exact hk
    refine State.degradedRecompute_kept ?_
    refine State.wr_kept ?_
    exact h2
  · extract_lets -merge +onlyGivenNames u6
    extract_lets -merge +onlyGivenNames u7
    have h8 : Kept z u7 := by
      unfold u7
      refine Kept.ite ?_ ?_
      · refine Kept.iter ?_ ?_
        · intro a9 a10 h11
          refine State.restartPrograms_kept ?_
          exact h11
        · with_reducible refine Kept.upd ?_ ..
          exact hk
      · exact hk
    extract_lets -merge +onlyGivenNames u12
    have h13 : Kept z u12 := by
      unfold u12
      refine Kept.iter ?_ ?_
      · intro a14 a15 h16
        refine Kept.ite ?_ ?_
        · exact h16
        · refine State.wr_kept ?_
          exact h16
      · exact h8
    refine State.wr_kept ?_
    exact h13

theorem State.writeRw_kept {z : State} {s : State} {a : Nat} {v : Nat} {mask : Nat} (hk : Kept z s) : Kept z (@State.writeRw s a v mask) := by
  unfold State.writeRw
  refine Kept.foldl ?_ ?_
  · intro a1 a2 h3
    refine Kept.ite ?_ ?_
    · refine State.setReg_kept ?_
      exact h3
    · exact h3
  · exact hk

theorem State.bellWrite_kept {z : State} {s : State} {off : Nat} {v : Nat} (hk : Kept z s) : Kept z (@State.bellWrite s off v) := by
  unfold State.bellWrite
  extract_lets -merge +onlyGivenNames u1
  refine Kept.ite ?_ ?_
  · refine State.setReg_kept ?_
    exact hk
  · refine Kept.ite ?_ ?_
    · refine State.frameOfsWrite_kept ?_
      exact hk
    · refine Kept.ite ?_ ?_
      · refine State.bellShow_kept ?_
        refine State.refEnable_kept ?_
        refine State.writeRw_kept ?_
        exact hk
      · refine Kept.ite ?_ ?_
        · extract_lets -merge +onlyGivenNames u2
          have h3 : Kept z u2 := by
            unfold u2
            refine State.writeRw_kept ?_
            exact hk
          refine Kept.ite ?_ ?_
          · exact h3
          · exact hk
        · refine Kept.ite ?_ ?_
          · extract_lets -merge +onlyGivenNames u4
            extract_lets -merge +onlyGivenNames u5
            have h6 : Kept z u5 := by
              unfold u5
              refine State.writeRw_kept ?_
              exact hk
            split
            rename_i e7
            refine Kept.thruE (z := z) e7 ?_ (fun h8 => ?_)
            · refine State.fresh_kept ?_
              exact h6
            · extract_lets -merge +onlyGivenNames u9
              have h10 : Kept z u9 := by
                unfold u9
                refine State.dpllForce_kept ?_
                exact h8
              extract_lets -merge +onlyGivenNames u11
              have h12 : Kept z u11 := by
                unfold u11
                refine Kept.ite ?_ ?_
                · refine State.fenceDpll_kept ?_
                  exact h10
                · exact h10
              refine State.bellShow_kept ?_
              refine Kept.ite ?_ ?_
              · refine State.dpllReset_kept ?_
                exact h12
              · exact h12
          · refine Kept.ite ?_ ?_
            · refine State.clkoutWrite_kept ?_
              exact hk
            · refine Kept.ite ?_ ?_
              · refine Kept.ite ?_ ?_
                · refine State.ppsCfgWrite_kept ?_
                  exact hk
                · refine State.ppsOfsWrite_kept ?_
                  exact hk
              · refine State.bellShow_kept ?_
                refine State.writeRw_kept ?_
                exact hk

theorem State.regEntry_kept {z : State} {s : State} {a : Nat} {v : Nat} (hk : Kept z s) : Kept z (@State.regEntry s a v) := by
  unfold State.regEntry
  refine Kept.ite ?_ ?_
  · refine State.laneWrite_kept ?_
    exact hk
  · refine Kept.ite ?_ ?_
    · refine State.quadFollow_kept ?_
      refine State.writeRw_kept ?_
      exact hk
    · refine State.writeRw_kept ?_
      exact hk

theorem State.asFifo_kept {z : State} {s : State} {m : Nat} {f : State → State} (hk : Kept z s) (hf : ∀ a0, Kept z a0 → Kept z (f a0)) : Kept z (@State.asFifo s m f) := by
  unfold State.asFifo
  refine Kept.ite ?_ ?_
  · refine Kept.ite ?_ ?_
    · refine hf _ ?_
      exact hk
    · exact hk
  · refine State.asMaster_kept ?_ ?_
    · exact hk
    · intro a1 h2
      refine hf _ ?_
      exact h2

theorem State.blockWrite_kept {z : State} {s : State} {m : Nat} {c : Nat} {slot : Nat} {w : Nat} {v : Nat} (hk : Kept z s) : Kept z (@State.blockWrite s m c slot w v) := by
  unfold State.blockWrite
  refine Kept.ite ?_ ?_
  · refine State.setPw_kept ?_
    exact hk
  · refine Kept.ite ?_ ?_
    · refine State.latch_kept ?_
      exact hk
    · split
      · refine Kept.ite ?_ ?_
        · refine State.pendParam_kept ?_
          exact hk
        · refine State.latch_kept ?_
          exact hk
      · refine State.latch_kept ?_
        exact hk

theorem State.fifoRead_kept {z : State} {s : State} {q : Nat} {f : Nat} (hk : Kept z s) : Kept z (@State.fifoRead s q f).2 := by
  unfold State.fifoRead
  extract_lets -merge +onlyGivenNames u1
  refine Kept.ite_snd ?_ ?_
  · exact hk
  · split
    · dsimp -zeta only
      refine State.setFifo_kept ?_
      exact hk
    · dsimp -zeta only
      refine State.wr_kept ?_
      exact hk

theorem State.fifoFlushReq_kept {z : State} {s : State} {m : Nat} {q : Nat} {f : Nat} (hk : Kept z s) : Kept z (@State.fifoFlushReq s m q f) := by
  unfold State.fifoFlushReq
  refine Kept.ite ?_ ?_
  · refine State.flushFifo_kept ?_
    exact hk
  · refine Kept.ite ?_ ?_
    · refine Kept.ite ?_ ?_
      · exact hk
      · refine State.later_kept ?_
        refine State.wr_kept ?_
        exact hk
    · refine State.latch_kept ?_
      exact hk

theorem State.fifoWrite_kept {z : State} {s : State} {m : Nat} {q : Nat} {f : Nat} {v : Nat} (hk : Kept z s) : Kept z (@State.fifoWrite s m q f v) := by
  unfold State.fifoWrite
  refine Kept.ite ?_ ?_
  · exact hk
  · refine Kept.ite ?_ ?_
    · refine State.latch_kept ?_
      exact hk
    · extract_lets -merge +onlyGivenNames u1
      have h2 : Kept z u1 := by
        unfold u1
        refine State.pushWord_kept ?_
        exact hk
      extract_lets -merge +onlyGivenNames u3
      refine Kept.ite ?_ ?_
      · refine State.emit_kept ?_
        exact h2
      · exact h2

theorem State.threadReset_kept {z : State} {s : State} {m : Nat} {q : Nat} {t : Nat} (hk : Kept z s) : Kept z (@State.threadReset s m q t) := by
  unfold State.threadReset
  extract_lets -merge +onlyGivenNames u1
  have h2 : ∀ v0, Kept z v0 → Kept z (u1 v0) := by
    unfold u1
    intro a3 h4
    refine State.setEng_kept ?_
    exact h4
  refine Kept.ite ?_ ?_
  · refine h2 _ ?_
    exact hk
  · refine State.pairGate_kept ?_ ?_
    · exact hk
    · intro a5 h6
      refine h2 _ ?_
      refine State.fenceThread_kept ?_
      exact h6

theorem State.wvrReset_kept {z : State} {s : State} {m : Nat} {q : Nat} (hk : Kept z s) : Kept z (@State.wvrReset s m q) := by
  unfold State.wvrReset
  extract_lets -merge +onlyGivenNames u1
  have h2 : ∀ v0, Kept z v0 → Kept z (u1 v0) := by
    unfold u1
    intro a3 h4
    refine Kept.ite ?_ ?_
    · exact h4
    · with_reducible refine Kept.upd ?_ ..
      exact h4
  refine Kept.ite ?_ ?_
  · refine h2 _ ?_
    exact hk
  · refine State.pairGate_kept ?_ ?_
    · exact hk
    · intro a5 h6
      refine h2 _ ?_
      refine State.fenceWeaver_kept ?_
      exact h6

theorem State.clearThread_kept {z : State} {s : State} {q : Nat} {t : Nat} (hk : Kept z s) : Kept z (@State.clearThread s q t) := by
  unfold State.clearThread
  refine State.clearMem_kept ?_
  refine State.setEng_kept ?_
  exact hk

theorem execBeatHandlerStart_kept {q : Fin 24} {t : Fin 16} {first : BitVec 7} {row : BitVec 5} {col : BitVec 8} {epoch : BitVec 12} {s : State} :
    Keeps s (execBeatHandlerStart q t first row col epoch s) := by
  have h0 := Kept.refl s
  unfold execBeatHandlerStart
  extract_lets n c k hs x
  generalize hs = l
  cases l with
  | nil => exact Keeps.next h0
  | cons h t => exact Keeps.ite (Keeps.next h0) (Keeps.next (State.setEng_kept (Kept.ite (State.setLane_kept h0) h0)))

theorem execBundleRewrite_kept {q : Fin 24} {t : Fin 16} {first : BitVec 14} {ae : Bool} {s : State} : Keeps s (@execBundleRewrite q t first ae s) := by
  have h0 := Kept.refl s
  unfold execBundleRewrite
  extract_lets -merge +onlyGivenNames u1
  have h2 : Kept s u1 := by
    unfold u1
    refine State.weaverEcc_kept ?_
    exact h0
  refine Keeps.next ?_
  refine Kept.ite ?_ ?_
  · refine State.report_kept ?_
    refine State.latch_kept ?_
    exact h2
  · exact h2

theorem execFifoDataRead_kept {m : Fin 8} {q : Fin 24} {f : Fin 5} {s : State} : Keeps s (@execFifoDataRead m q f s) := by
  have h0 := Kept.refl s
  unfold execFifoDataRead
  refine Keeps.next ?_
  refine State.asReader_kept ?_ ?_
  · exact h0
  · intro a1 h2
    split
    rename_i e3
    refine Kept.thruE (z := s) e3 ?_ (fun h4 => ?_)
    · refine State.fifoRead_kept ?_
      exact h2
    · refine State.emit_kept ?_
      exact h4

theorem execFifoDataWrite_kept {m : Fin 8} {q : Fin 24} {f : Fin 5} {v : BitVec 32} {s : State} : Keeps s (@execFifoDataWrite m q f v s) := by
  have h0 := Kept.refl s
  unfold execFifoDataWrite
  refine Keeps.next ?_
  refine State.asFifo_kept ?_ ?_
  · exact h0
  · intro a1 h2
    refine State.fifoWrite_kept ?_
    exact h2

theorem execFifoFlush_kept {m : Fin 8} {q : Fin 24} {f : Fin 5} {s : State} : Keeps s (@execFifoFlush m q f s) := by
  have h0 := Kept.refl s
  unfold execFifoFlush
  refine Keeps.next ?_
  refine State.asFifo_kept ?_ ?_
  · exact h0
  · intro a1 h2
    refine State.fifoFlushReq_kept ?_
    exact h2

theorem execServiceThreadStart_kept {q : Fin 24} {t : Fin 16} {s : State} : Keeps s (@execServiceThreadStart q t s) := by
  have h0 := Kept.refl s
  unfold execServiceThreadStart
  extract_lets -merge +onlyGivenNames u1
  extract_lets -merge +onlyGivenNames u2
  split
  · refine Keeps.next ?_
    exact h0
  · refine Keeps.ite ?_ ?_
    · refine Keeps.next ?_
      exact h0
    · refine Keeps.next ?_
      refine State.setEng_kept ?_
      exact h0

theorem execThreadFenceReq_kept {m : Fin 8} {q : Fin 24} {t : Fin 16} {s : State} : Keeps s (@execThreadFenceReq m q t s) := by
  have h0 := Kept.refl s
  unfold execThreadFenceReq
  refine Keeps.next ?_
  refine State.asMaster_kept ?_ ?_
  · exact h0
  · intro a1 h2
    refine State.fenceThread_kept ?_
    exact h2

theorem execThreadOverrun_kept {q : Fin 24} {t : Fin 16} {s : State} : Keeps s (@execThreadOverrun q t s) := by
  have h0 := Kept.refl s
  unfold execThreadOverrun
  extract_lets -merge +onlyGivenNames u1
  extract_lets -merge +onlyGivenNames u2
  refine Keeps.ite ?_ ?_
  · refine Keeps.next ?_
    refine State.fenceThread_kept ?_
    exact h0
  · refine Keeps.next ?_
    exact h0

theorem execThreadReset_kept {m : Fin 8} {q : Fin 24} {t : Fin 16} {s : State} : Keeps s (@execThreadReset m q t s) := by
  have h0 := Kept.refl s
  unfold execThreadReset
  refine Keeps.next ?_
  refine State.asMaster_kept ?_ ?_
  · exact h0
  · intro a1 h2
    refine State.threadReset_kept ?_
    exact h2

theorem execThreadResetDone_kept {q : Fin 24} {t : Fin 16} {s : State} : Keeps s (@execThreadResetDone q t s) := by
  have h0 := Kept.refl s
  unfold execThreadResetDone
  refine Keeps.ite ?_ ?_
  · refine Keeps.next ?_
    refine State.wr_kept ?_
    refine State.clearThread_kept ?_
    exact h0
  · refine Keeps.next ?_
    exact h0

theorem execWeaverParity_kept {q : Fin 24} {s : State} : Keeps s (@execWeaverParity q s) := by
  have h0 := Kept.refl s
  unfold execWeaverParity
  refine Keeps.next ?_
  refine State.fenceWeaver_kept ?_
  exact h0

theorem execWvrFenceReq_kept {m : Fin 8} {q : Fin 24} {s : State} : Keeps s (@execWvrFenceReq m q s) := by
  have h0 := Kept.refl s
  unfold execWvrFenceReq
  refine Keeps.next ?_
  refine State.asMaster_kept ?_ ?_
  · exact h0
  · intro a1 h2
    refine State.fenceWeaver_kept ?_
    exact h2

theorem execWvrReset_kept {m : Fin 8} {q : Fin 24} {s : State} : Keeps s (@execWvrReset m q s) := by
  have h0 := Kept.refl s
  unfold execWvrReset
  refine Keeps.next ?_
  refine State.asMaster_kept ?_ ?_
  · exact h0
  · intro a1 h2
    refine State.wvrReset_kept ?_
    exact h2

theorem execWvrResetDone_kept {q : Fin 24} {s : State} : Keeps s (@execWvrResetDone q s) := by
  have h0 := Kept.refl s
  unfold execWvrResetDone
  refine Keeps.ite ?_ ?_
  · extract_lets -merge +onlyGivenNames u1
    have h2 : Kept s u1 := by
      unfold u1
      refine Kept.iter ?_ ?_
      · intro a3 a4 h5
        refine State.clearThread_kept ?_
        exact h5
      · with_reducible refine Kept.upd ?_ ..
        exact h0
    refine Keeps.next ?_
    refine State.wr_kept ?_
    exact h2
  · refine Keeps.next ?_
    exact h0

theorem State.liftQueue_kept {z : State} {s : State} {q : Nat} (hk : Kept z s) : Kept z (@State.liftQueue s q) := by
  unfold State.liftQueue
  extract_lets -merge +onlyGivenNames u1
  extract_lets -merge +onlyGivenNames u2
  have h3 : Kept z u2 := by
    unfold u2
    with_reducible refine Kept.upd ?_ ..
    exact hk
  refine State.reportFence_kept ?_
  refine State.showHead_kept ?_
  refine State.wr_kept ?_
  refine State.wr_kept ?_
  exact h3

theorem State.liftThread_kept {z : State} {s : State} {q : Nat} {t : Nat} (hk : Kept z s) : Kept z (@State.liftThread s q t) := by
  unfold State.liftThread
  extract_lets -merge +onlyGivenNames u1
  extract_lets -merge +onlyGivenNames u2
  extract_lets -merge +onlyGivenNames u3
  have h4 : Kept z u3 := by
    unfold u3
    refine State.wr_kept ?_
    refine State.wr_kept ?_
    exact hk
  extract_lets -merge +onlyGivenNames u5
  have h6 : Kept z u5 := by
    unfold u5
    refine State.wr_kept ?_
    exact h4
  extract_lets -merge +onlyGivenNames u7
  have h8 : Kept z u7 := by
    unfold u7
    refine State.followFence_kept ?_
    refine State.reportFence_kept ?_
    exact h6
  refine Kept.foldl ?_ ?_
  · intro a9 a10 h11
    refine State.restartPrograms_kept ?_
    exact h11
  · exact h8

theorem State.liftWeaver_kept {z : State} {s : State} {q : Nat} (hk : Kept z s) : Kept z (@State.liftWeaver s q) := by
  unfold State.liftWeaver
  extract_lets -merge +onlyGivenNames u1
  extract_lets -merge +onlyGivenNames u2
  extract_lets -merge +onlyGivenNames u3
  have h4 : Kept z u3 := by
    unfold u3
    refine State.wr_kept ?_
    refine State.wr_kept ?_
    exact hk
  extract_lets -merge +onlyGivenNames u5
  have h6 : Kept z u5 := by
    unfold u5
    refine State.followFence_kept ?_
    refine State.reportFence_kept ?_
    exact h4
  refine Kept.iter ?_ ?_
  · intro a7 a8 h9
    refine State.restartPrograms_kept ?_
    exact h9
  · exact h6

theorem State.setSkey_kept {z : State} {s : State} {k : Nat} {x : KeySlot} (hk : Kept z s) : Kept z (@State.setSkey s k x) := by
  unfold State.setSkey
  with_reducible refine Kept.skeys_put ?_ _ _
  exact hk

theorem State.putChange_kept {z : State} {s : State} {h : Option CmdHead} {x2 : Change} (hk : Kept z s) : Kept z (@State.putChange s h x2) := by
  unfold State.putChange
  split
  · refine State.okOpt_kept ?_
    refine State.doLaneRate_kept ?_
    exact hk
  · refine State.doLanePower_kept ?_
    exact hk
  · refine State.doLanePower_kept ?_
    exact hk
  · exact hk
  · refine State.okOpt_kept ?_
    refine State.doAttach_kept ?_
    exact hk
  · refine State.okOpt_kept ?_
    refine State.detachNow_kept ?_
    exact hk
  · refine State.applyParams_kept ?_
    refine State.pendParams_kept ?_
    exact hk
  · refine State.okOpt_kept ?_
    refine Kept.foldl ?_ ?_
    · intro a1 a2 h3
      refine State.stageSec_kept ?_
      exact h3
    · exact hk
  · refine State.doSwitch_kept ?_
    exact hk
  · refine State.okOpt_kept ?_
    refine State.doCreate_kept ?_
    exact hk
  · refine State.okOpt_kept ?_
    refine State.queueTiming_kept ?_
    exact hk
  · refine State.okOpt_kept ?_
    refine State.doDelete_kept ?_
    exact hk
  · refine State.okOpt_kept ?_
    refine State.flushQueue_kept ?_
    exact hk
  · refine State.okOpt_kept ?_
    refine State.wr_kept ?_
    exact hk
  · refine State.okOpt_kept ?_
    refine State.setReg_kept ?_
    exact hk
  · refine State.okOpt_kept ?_
    refine State.doConfig_kept ?_
    exact hk
  · refine State.okOpt_kept ?_
    refine State.doProt_kept ?_
    exact hk
  · refine State.okOpt_kept ?_
    refine State.doMode_kept ?_
    exact hk
  · refine State.doPower_kept ?_
    exact hk
  · refine State.okOpt_kept ?_
    refine Kept.foldl ?_ ?_
    · intro a4 a5 h6
      refine State.bellWrite_kept ?_
      exact h6
    · exact hk
  · refine State.okOpt_kept ?_
    refine Kept.foldl ?_ ?_
    · intro a7 a8 h9
      refine State.regEntry_kept ?_
      exact h9
    · exact hk
  · refine State.writeRw_kept ?_
    exact hk
  · refine State.setSkey_kept ?_
    exact hk
  · refine State.setSkey_kept ?_
    exact hk
  · refine State.setSkey_kept ?_
    exact hk
  · refine State.flushFifo_kept ?_
    exact hk
  · exact hk
  · refine State.okOpt_kept ?_
    split
    · refine State.liftThread_kept ?_
      exact hk
    · refine State.liftWeaver_kept ?_
      exact hk
    · refine State.liftQueue_kept ?_
      exact hk
  · refine State.okOpt_kept ?_
    refine State.toSolo_kept ?_
    exact hk
  · exact hk

theorem State.acceptLane_kept {z : State} {s : State} {h : CmdHead} {c : Change} (hk : Kept z s) : Kept z (@State.acceptLane s h c) := by
  unfold State.acceptLane
  split
  · extract_lets -merge +onlyGivenNames u1
    have h2 : Kept z u1 := by
      unfold u1
      refine Kept.foldl ?_ ?_
      · intro a3 a4 h5
        refine State.clearTest_kept ?_
        exact h5
      · exact hk
    refine Kept.ite ?_ ?_
    · refine State.putChange_kept ?_
      refine State.append_kept ?_
      exact h2
    · refine State.sched_kept ?_
      exact h2
  · refine Kept.ite ?_ ?_
    · refine State.putChange_kept ?_
      refine State.append_kept ?_
      exact hk
    · refine State.sched_kept ?_
      exact hk

theorem State.applyChange_kept {z : State} {s : State} {h : Option CmdHead} {c : Change} (hk : Kept z s) : Kept z (@State.applyChange s h c) := by
  unfold State.applyChange
  split
  · split
    · refine State.complete_kept ?_
      exact hk
    · exact hk
  · refine State.putChange_kept ?_
    exact hk

theorem State.ahead_kept {z : State} {s : State} {d : Due} (hk : Kept z s) : Kept z (@State.ahead s d) := by
  unfold State.ahead
  refine Kept.foldl ?_ ?_
  · intro a1 a2 h3
    refine State.applyChange_kept ?_
    exact h3
  · exact hk

theorem State.applyDue_kept {z : State} {s : State} {p : Pend → Bool} (hk : Kept z s) : Kept z (@State.applyDue s p) := by
  unfold State.applyDue
  extract_lets -merge +onlyGivenNames u1
  extract_lets -merge +onlyGivenNames u2
  refine Kept.foldl ?_ ?_
  · intro a3 a4 h5
    refine State.applyChange_kept ?_
    exact h5
  · with_reducible refine Kept.upd ?_ ..
    exact hk

theorem State.judgeChange_kept {z : State} {s : State} {h : CmdHead} {j : Bool} {p2 : Bool} {d : Due} {extra : List Check} {c : Change} (hk : Kept z s) : Kept z (@State.judgeChange s h j p2 d extra c) := by
  unfold State.judgeChange
  refine State.judge_kept ?_ ?_
  · exact hk
  · intro a1 h2
    refine State.sched_kept ?_
    exact h2

theorem State.laneAhead_kept {z : State} {s : State} {c : Change} (hk : Kept z s) : Kept z (@State.laneAhead s c) := by
  unfold State.laneAhead
  split
  · refine Kept.ite ?_ ?_
    · exact hk
    · refine State.ahead_kept ?_
      exact hk
  · refine Kept.ite ?_ ?_
    · exact hk
    · refine State.ahead_kept ?_
      exact hk

theorem State.judgeLane_kept {z : State} {s : State} {h : CmdHead} {lane : Nat} {c : Change} (hk : Kept z s) : Kept z (@State.judgeLane s h lane c) := by
  unfold State.judgeLane
  refine Kept.ite ?_ ?_
  · refine State.later_kept ?_
    exact hk
  · refine State.judge_kept ?_ ?_
    · exact hk
    · intro a1 h2
      refine State.acceptLane_kept ?_
      exact h2

theorem State.settleOne_kept {z : State} {s : State} {e : Pend} (hk : Kept z s) : Kept z (@State.settleOne s e) := by
  unfold State.settleOne
  split
  · refine Kept.ite ?_ ?_
    · refine State.failOpt_kept ?_
      exact hk
    · refine State.okOpt_kept ?_
      exact hk
  · refine State.judgeLane_kept ?_
    exact hk
  · refine State.judgeLane_kept ?_
    exact hk
  · refine State.judgeLane_kept ?_
    exact hk
  · refine State.applyChange_kept ?_
    exact hk
  · exact hk

theorem State.settleLanes_kept {z : State} {s : State} {c : Nat} (hk : Kept z s) : Kept z (@State.settleLanes s c) := by
  unfold State.settleLanes
  refine Kept.ite ?_ ?_
  · exact hk
  · split
    rename_i e1
    refine Kept.thruE (z := z) e1 ?_ (fun h2 => ?_)
    · refine State.takeLane_kept ?_
      exact hk
    · refine Kept.foldl ?_ ?_
      · intro a3 a4 h5
        refine State.settleOne_kept ?_
        exact h5
      · exact h2

theorem State.settleAll_kept {z : State} {s : State} (hk : Kept z s) : Kept z (@State.settleAll s) := by
  unfold State.settleAll
  refine Kept.foldl ?_ ?_
  · intro a1 a2 h3
    refine State.settleLanes_kept ?_
    exact h3
  · exact hk

theorem State.capture_kept {z : State} {s : State} {c : Nat} {cause : Nat} {bs : List Nat} {ts : Nat} (hk : Kept z s) : Kept z (@State.capture s c cause bs ts) := by
  unfold State.capture
  extract_lets -merge +onlyGivenNames u1
  extract_lets -merge +onlyGivenNames u2
  split
  · rename_i e3
    refine Kept.thru (State.pushItem_kept (z := z) ?_ e3) (fun h4 => ?_)
    · exact hk
    · exact h4
  · refine State.bumpPw_kept ?_
    exact hk

theorem State.captureTx_kept {z : State} {s : State} {c : Nat} {tag : Nat} {ts : Nat} (hk : Kept z s) : Kept z (@State.captureTx s c tag ts) := by
  unfold State.captureTx
  extract_lets -merge +onlyGivenNames u1
  split
  · rename_i e2
    refine Kept.thru (State.pushItem_kept (z := z) ?_ e2) (fun h3 => ?_)
    · exact hk
    · exact h3
  · refine State.bumpPw_kept ?_
    exact hk

theorem State.chooseFrame_kept {z : State} {s : State} {c : Nat} {now : Nat} (hk : Kept z s) : Kept z (@State.chooseFrame s c now).2 := by
  unfold State.chooseFrame
  split
  · rename_i e1
    refine Kept.thruE (z := z) e1 ?_ (fun h2 => ?_)
    · refine State.choose_kept ?_
      exact hk
    · exact h2
  · rename_i e3
    refine Kept.thruE (z := z) e3 ?_ (fun h4 => ?_)
    · refine State.choose_kept ?_
      exact hk
    · dsimp -zeta only
      refine State.endDeparture_kept ?_
      exact h4

theorem State.defaultAction_kept {z : State} {s : State} {c : Nat} {bs : List Nat} {ts : Nat} (hk : Kept z s) : Kept z (@State.defaultAction s c bs ts) := by
  unfold State.defaultAction
  extract_lets -merge +onlyGivenNames u1
  have h2 : Kept z u1 := by
    unfold u1
    refine State.countC_kept ?_
    exact hk
  refine Kept.ite ?_ ?_
  · exact h2
  · split
    · refine State.receivePkt_kept ?_
      exact h2
    · refine State.capture_kept ?_
      exact h2
    · exact h2

theorem State.vlanLookup_kept {z : State} {s : State} {c : Nat} {p : Parsed} {bs : List Nat} {ts : Nat} (hk : Kept z s) : Kept z (@State.vlanLookup s c p bs ts) := by
  unfold State.vlanLookup
  split
  · refine State.receivePkt_kept ?_
    exact hk
  · refine State.defaultAction_kept ?_
    exact hk

theorem State.ecpri_kept {z : State} {s : State} {c : Nat} {p : Parsed} {o : Nat} {bs : List Nat} {ts : Nat} (hk : Kept z s) : Kept z (@State.ecpri s c p o bs ts) := by
  unfold State.ecpri
  extract_lets -merge +onlyGivenNames u1
  have h2 : Kept z u1 := by
    unfold u1
    refine State.countC_kept ?_
    exact hk
  extract_lets -merge +onlyGivenNames u3
  refine Kept.ite ?_ ?_
  · refine State.defaultAction_kept ?_
    refine State.bumpPw_kept ?_
    exact h2
  · refine Kept.ite ?_ ?_
    · split
      · refine State.receivePkt_kept ?_
        exact h2
      · refine State.vlanLookup_kept ?_
        exact h2
    · refine Kept.ite ?_ ?_
      · refine State.capture_kept ?_
        exact h2
      · refine State.vlanLookup_kept ?_
        exact h2

theorem State.esmcReceive_kept {z : State} {s : State} {c : Nat} {bs : List Nat} {o : Nat} (hk : Kept z s) : Kept z (@State.esmcReceive s c bs o) := by
  unfold State.esmcReceive
  extract_lets -merge +onlyGivenNames u1
  refine Kept.ite ?_ ?_
  · refine State.bumpPw_kept ?_
    exact hk
  · extract_lets -merge +onlyGivenNames u2
    have h3 : Kept z u2 := by
      unfold u2
      refine State.countC_kept ?_
      exact hk
    extract_lets -merge +onlyGivenNames u4
    have h5 : Kept z u4 := by
      unfold u4
      refine State.setPw_kept ?_
      exact h3
    extract_lets -merge +onlyGivenNames u6
    have h7 : Kept z u6 := by
      unfold u6
      refine Kept.ite ?_ ?_
      · refine State.setPw_kept ?_
        exact h5
      · exact h5
    refine State.bellShow_kept ?_
    refine State.setPw_kept ?_
    exact h7

theorem State.classify_kept {z : State} {s : State} {c : Nat} {bs : List Nat} {ts : Nat} (hk : Kept z s) : Kept z (@State.classify s c bs ts) := by
  unfold State.classify
  extract_lets -merge +onlyGivenNames u1
  extract_lets -merge +onlyGivenNames u2
  extract_lets -merge +onlyGivenNames u3
  extract_lets -merge +onlyGivenNames u4
  extract_lets -merge +onlyGivenNames u5
  extract_lets -merge +onlyGivenNames u6
  refine Kept.ite ?_ ?_
  · refine State.countC_kept ?_
    exact hk
  · refine Kept.ite ?_ ?_
    · refine Kept.ite ?_ ?_
      · refine State.esmcReceive_kept ?_
        exact hk
      · exact hk
    · refine Kept.ite ?_ ?_
      · refine Kept.ite ?_ ?_
        · exact hk
        · refine State.defaultAction_kept ?_
          exact hk
      · refine Kept.ite ?_ ?_
        · refine Kept.ite ?_ ?_
          · refine State.capture_kept ?_
            exact hk
          · refine Kept.ite ?_ ?_
            · refine State.countC_kept ?_
              exact hk
            · refine State.defaultAction_kept ?_
              exact hk
        · refine Kept.ite ?_ ?_
          · exact hk
          · refine Kept.ite ?_ ?_
            · refine State.ecpri_kept ?_
              exact hk
            · refine State.vlanLookup_kept ?_
              exact hk

theorem State.cutThroughBad_kept {z : State} {s : State} {c : Nat} {bs : List Nat} {ts : Nat} (hk : Kept z s) : Kept z (@State.cutThroughBad s c bs ts) := by
  unfold State.cutThroughBad
  split
  · refine State.receivePkt_kept ?_
    exact hk
  · exact hk

theorem State.esmcSend_kept {z : State} {s : State} {c : Nat} {event : Bool} (hk : Kept z s) : Kept z (@State.esmcSend s c event) := by
  unfold State.esmcSend
  extract_lets -merge +onlyGivenNames u1
  refine Kept.ite ?_ ?_
  · exact hk
  · extract_lets -merge +onlyGivenNames u2
    extract_lets -merge +onlyGivenNames u3
    extract_lets -merge +onlyGivenNames u4
    have h5 : Kept z u4 := by
      unfold u4
      refine State.setChanX_kept ?_
      exact hk
    refine State.countC_kept ?_
    refine State.emit_kept ?_
    exact h5

theorem State.macReceive_kept {z : State} {s : State} {c : Nat} {sfd : Bool} {fcs : Bool} {departed : Bool} {bs : List Nat} {ts : Nat} (hk : Kept z s) : Kept z (@State.macReceive s c sfd fcs departed bs ts) := by
  unfold State.macReceive
  refine Kept.ite ?_ ?_
  · refine State.countC_kept ?_
    exact hk
  · refine Kept.ite ?_ ?_
    · refine State.countC_kept ?_
      exact hk
    · refine Kept.ite ?_ ?_
      · refine State.countC_kept ?_
        exact hk
      · refine Kept.ite ?_ ?_
        · extract_lets -merge +onlyGivenNames u1
          have h2 : Kept z u1 := by
            unfold u1
            refine State.countC_kept ?_
            exact hk
          refine Kept.ite ?_ ?_
          · refine State.cutThroughBad_kept ?_
            exact h2
          · exact h2
        · refine State.classify_kept ?_
          refine State.countC_kept ?_
          refine State.countC_kept ?_
          exact hk

theorem State.nextInsert_kept {z : State} {s : State} {c : Nat} (hk : Kept z s) : Kept z (@State.nextInsert s c).2 := by
  unfold State.nextInsert
  refine Kept.ite_snd ?_ ?_
  · split
    · dsimp -zeta only
      refine State.setChanX_kept ?_
      exact hk
    · exact hk
  · split
    · exact hk
    · refine Kept.ite_snd ?_ ?_
      · exact hk
      · split
        · rename_i e1
          refine Kept.thruE (z := z) e1 ?_ (fun h2 => ?_)
          · refine State.takeItem_kept ?_
            exact hk
          · split
            · exact h2
            · dsimp -zeta only
              refine State.bumpPw_kept ?_
              exact h2
        · rename_i e3
          refine Kept.thruE (z := z) e3 ?_ (fun h4 => ?_)
          · refine State.takeItem_kept ?_
            exact hk
          · exact h4

theorem State.sendFrame_kept {z : State} {s : State} {c : Nat} {f : Frame} (hk : Kept z s) : Kept z (@State.sendFrame s c f) := by
  unfold State.sendFrame
  extract_lets -merge +onlyGivenNames u1
  have h2 : Kept z u1 := by
    unfold u1
    refine State.emit_kept ?_
    exact hk
  extract_lets -merge +onlyGivenNames u3
  have h4 : Kept z u3 := by
    unfold u3
    refine State.countC_kept ?_
    refine State.countC_kept ?_
    exact h2
  refine Kept.ite ?_ ?_
  · refine State.countC_kept ?_
    exact h4
  · exact h4

theorem execCpriHyperframeReceive_kept {c : Fin 96} {start : Bool} {atExpected : Bool} {hfn : BitVec 8} {l1 : BitVec 8} {bfn : BitVec 12} {ts : BitVec 96} {s : State} : Keeps s (@execCpriHyperframeReceive c start atExpected hfn l1 bfn ts s) := by
  have h0 := Kept.refl s
  unfold execCpriHyperframeReceive
  refine Keeps.ite ?_ ?_
  · refine Keeps.next ?_
    exact h0
  · refine Keeps.ite ?_ ?_
    · refine Keeps.next ?_
      refine State.hfHunt_kept ?_
      exact h0
    · extract_lets -merge +onlyGivenNames u1
      extract_lets -merge +onlyGivenNames u2
      extract_lets -merge +onlyGivenNames u3
      extract_lets -merge +onlyGivenNames u4
      refine Keeps.ite ?_ ?_
      · refine Keeps.ite ?_ ?_
        · refine Keeps.next ?_
          refine State.setPw_kept ?_
          refine State.setChanX_kept ?_
          exact h0
        · refine Keeps.next ?_
          exact h0
      · refine Keeps.ite ?_ ?_
        · refine Keeps.ite ?_ ?_
          · refine Keeps.next ?_
            refine State.hfHunt_kept ?_
            exact h0
          · refine Keeps.ite ?_ ?_
            · refine Keeps.next ?_
              refine State.setChanX_kept ?_
              exact h0
            · refine Keeps.next ?_
              refine State.setPw_kept ?_
              refine State.setPw_kept ?_
              refine State.setChanX_kept ?_
              exact h0
        · extract_lets -merge +onlyGivenNames u5
          have h6 : Kept s u5 := by
            unfold u5
            refine State.countC_kept ?_
            exact h0
          refine Keeps.ite ?_ ?_
          · extract_lets -merge +onlyGivenNames u7
            have h8 : Kept s u7 := by
              unfold u7
              refine State.countC_kept ?_
              exact h6
            refine Keeps.ite ?_ ?_
            · refine Keeps.next ?_
              refine State.setChanX_kept ?_
              exact h8
            · refine Keeps.next ?_
              refine State.hfHunt_kept ?_
              exact h8
          · extract_lets -merge +onlyGivenNames u9
            extract_lets -merge +onlyGivenNames u10
            extract_lets -merge +onlyGivenNames u11
            extract_lets -merge +onlyGivenNames u12
            have h13 : Kept s u12 := by
              unfold u12
              refine State.setChanX_kept ?_
              exact h6
            extract_lets -merge +onlyGivenNames u14
            have h15 : Kept s u14 := by
              unfold u14
              refine State.setPw_kept ?_
              refine State.setPw_kept ?_
              exact h13
            refine Keeps.ite ?_ ?_
            · extract_lets -merge +onlyGivenNames u16
              refine Keeps.next ?_
              refine State.setPw_kept ?_
              refine State.setPw_kept ?_
              refine State.setPw_kept ?_
              refine State.setPw_kept ?_
              exact h15
            · refine Keeps.next ?_
              exact h15

theorem execEsmcEventSend_kept {c : Fin 96} {s : State} : Keeps s (@execEsmcEventSend c s) := by
  have h0 := Kept.refl s
  unfold execEsmcEventSend
  refine Keeps.ite ?_ ?_
  · refine Keeps.next ?_
    refine State.esmcSend_kept ?_
    exact h0
  · refine Keeps.next ?_
    exact h0

theorem execEsmcInfoSend_kept {c : Fin 96} {s : State} : Keeps s (@execEsmcInfoSend c s) := by
  have h0 := Kept.refl s
  unfold execEsmcInfoSend
  refine Keeps.ite ?_ ?_
  · refine Keeps.next ?_
    refine State.esmcSend_kept ?_
    exact h0
  · refine Keeps.next ?_
    exact h0

theorem execEsmcPduReceive_kept {c : Fin 96} {bytes : List (BitVec 8)} {s : State} : Keeps s (@execEsmcPduReceive c bytes s) := by
  have h0 := Kept.refl s
  unfold execEsmcPduReceive
  extract_lets -merge +onlyGivenNames u1
  refine Keeps.ite ?_ ?_
  · refine Keeps.next ?_
    exact h0
  · refine Keeps.next ?_
    refine State.esmcReceive_kept ?_
    exact h0

theorem execEsmcTimeout_kept {c : Fin 96} {s : State} : Keeps s (@execEsmcTimeout c s) := by
  have h0 := Kept.refl s
  unfold execEsmcTimeout
  refine Keeps.ite ?_ ?_
  · refine Keeps.next ?_
    exact h0
  · refine Keeps.next ?_
    refine State.bellShow_kept ?_
    refine State.setPw_kept ?_
    refine State.setPw_kept ?_
    exact h0

theorem execEthFrameReceive_kept {c : Fin 96} {sfd : Bool} {fcs : Bool} {departed : Bool} {bytes : List (BitVec 8)} {ts : BitVec 96} {s : State} : Keeps s (@execEthFrameReceive c sfd fcs departed bytes ts s) := by
  have h0 := Kept.refl s
  unfold execEthFrameReceive
  refine Keeps.ite ?_ ?_
  · refine Keeps.next ?_
    refine State.macReceive_kept ?_
    exact h0
  · refine Keeps.next ?_
    exact h0

theorem execEthFrameSend_kept {c : Fin 96} {now : BitVec 64} {cut : Option (BitVec 14)} {s : State} : Keeps s (@execEthFrameSend c now cut s) := by
  have h0 := Kept.refl s
  unfold execEthFrameSend
  refine Keeps.ite ?_ ?_
  · refine Keeps.next ?_
    exact h0
  · refine Keeps.ite ?_ ?_
    · refine Keeps.next ?_
      refine State.emit_kept ?_
      exact h0
    · refine Keeps.ite ?_ ?_
      · refine Keeps.next ?_
        refine State.emit_kept ?_
        exact h0
      · extract_lets -merge +onlyGivenNames u1
        split
        · refine Keeps.ite ?_ ?_
          · split
            · rename_i e2
              refine Kept.thruE (z := s) e2 ?_ (fun h3 => ?_)
              · refine State.chooseFrame_kept ?_
                exact h0
              · refine Keeps.next ?_
                refine State.sendFrame_kept ?_
                exact h3
            · rename_i e4
              refine Kept.thruE (z := s) e4 ?_ (fun h5 => ?_)
              · refine State.chooseFrame_kept ?_
                exact h0
              · refine Keeps.next ?_
                exact h5
          · extract_lets -merge +onlyGivenNames u6
            extract_lets -merge +onlyGivenNames u7
            have h8 : Kept s u7 := by
              unfold u7
              refine State.setChanX_kept ?_
              exact h0
            extract_lets -merge +onlyGivenNames u9
            have h10 : Kept s u9 := by
              unfold u9
              refine State.emit_kept ?_
              exact h8
            extract_lets -merge +onlyGivenNames u11
            have h12 : Kept s u11 := by
              unfold u11
              refine State.countC_kept ?_
              refine State.countC_kept ?_
              exact h10
            refine Keeps.next ?_
            refine Kept.ite ?_ ?_
            · refine State.countC_kept ?_
              exact h12
            · exact h12
        · split
          · rename_i e13
            refine Kept.thruE (z := s) e13 ?_ (fun h14 => ?_)
            · refine State.chooseFrame_kept ?_
              exact h0
            · refine Keeps.next ?_
              refine State.emit_kept ?_
              exact h14
          · rename_i e15
            refine Kept.thruE (z := s) e15 ?_ (fun h16 => ?_)
            · refine State.chooseFrame_kept ?_
              exact h0
            · extract_lets -merge +onlyGivenNames u17
              split
              · refine Keeps.ite ?_ ?_
                · extract_lets -merge +onlyGivenNames u18
                  have h19 : Kept s u18 := by
                    unfold u18
                    refine State.emit_kept ?_
                    exact h16
                  refine Keeps.next ?_
                  refine State.setChanX_kept ?_
                  exact h19
                · refine Keeps.next ?_
                  refine State.sendFrame_kept ?_
                  exact h16
              · refine Keeps.next ?_
                refine State.sendFrame_kept ?_
                exact h16

theorem execFaultOrderedSetReceive_kept {c : Fin 96} {lf : Bool} {rf : Bool} {s : State} : Keeps s (@execFaultOrderedSetReceive c lf rf s) := by
  have h0 := Kept.refl s
  unfold execFaultOrderedSetReceive
  refine Keeps.ite ?_ ?_
  · refine Keeps.next ?_
    exact h0
  · extract_lets -merge +onlyGivenNames u1
    have h2 : Kept s u1 := by
      unfold u1
      refine State.setPw_kept ?_
      refine State.setPw_kept ?_
      exact h0
    extract_lets -merge +onlyGivenNames u3
    have h4 : Kept s u3 := by
      unfold u3
      refine Kept.ite ?_ ?_
      · refine State.bellShow_kept ?_
        refine State.setPw_kept ?_
        exact h2
      · exact h2
    refine Keeps.ite ?_ ?_
    · refine Keeps.ite ?_ ?_
      · refine Keeps.next ?_
        refine State.emit_kept ?_
        exact h4
      · refine Keeps.ite ?_ ?_
        · refine Keeps.next ?_
          refine State.emit_kept ?_
          exact h4
        · refine Keeps.next ?_
          exact h4
    · refine Keeps.next ?_
      exact h4

theorem execInsertFrameSend_kept {c : Fin 96} {ts : BitVec 96} {s : State} : Keeps s (@execInsertFrameSend c ts s) := by
  have h0 := Kept.refl s
  unfold execInsertFrameSend
  refine Keeps.ite ?_ ?_
  · refine Keeps.next ?_
    exact h0
  · split
    · rename_i e1
      refine Kept.thruE (z := s) e1 ?_ (fun h2 => ?_)
      · refine State.nextInsert_kept ?_
        exact h0
      · refine Keeps.next ?_
        exact h2
    · rename_i e3
      refine Kept.thruE (z := s) e3 ?_ (fun h4 => ?_)
      · refine State.nextInsert_kept ?_
        exact h0
      · extract_lets -merge +onlyGivenNames u5
        extract_lets -merge +onlyGivenNames u6
        have h7 : Kept s u6 := by
          unfold u6
          refine State.sendFrame_kept ?_
          exact h4
        refine Keeps.next ?_
        refine Kept.ite ?_ ?_
        · refine State.captureTx_kept ?_
          exact h7
        · exact h7

theorem execPreemptFragmentReceive_kept {c : Fin 96} {first : Bool} {last : Bool} {ok : Bool} {smd : BitVec 2} {frag : BitVec 2} {bytes : List (BitVec 8)} {ts : BitVec 96} {s : State} : Keeps s (@execPreemptFragmentReceive c first last ok smd frag bytes ts s) := by
  have h0 := Kept.refl s
  unfold execPreemptFragmentReceive
  refine Keeps.ite ?_ ?_
  · refine Keeps.next ?_
    exact h0
  · extract_lets -merge +onlyGivenNames u1
    extract_lets -merge +onlyGivenNames u2
    extract_lets -merge +onlyGivenNames u3
    have h4 : ∀ v0 v1, Kept s v0 → Kept s (u3 v0 v1) := by
      unfold u3
      intro a5 a6 h7
      refine State.macReceive_kept ?_
      exact h7
    refine Keeps.ite ?_ ?_
    · extract_lets -merge +onlyGivenNames u8
      have h9 : Kept s u8 := by
        unfold u8
        refine Kept.ite ?_ ?_
        · refine State.countC_kept ?_
          exact h0
        · exact h0
      refine Keeps.ite ?_ ?_
      · refine Keeps.next ?_
        refine h4 _ _ ?_
        refine State.setChanX_kept ?_
        exact h9
      · refine Keeps.ite ?_ ?_
        · refine Keeps.next ?_
          refine State.setChanX_kept ?_
          exact h9
        · refine Keeps.next ?_
          refine State.countC_kept ?_
          refine State.setChanX_kept ?_
          exact h9
    · extract_lets -merge +onlyGivenNames u10
      have h11 : Kept s u10 := by
        unfold u10
        refine State.countC_kept ?_
        refine State.setChanX_kept ?_
        exact h0
      split
      · refine Keeps.next ?_
        refine State.countC_kept ?_
        exact h0
      · refine Keeps.ite ?_ ?_
        · refine Keeps.next ?_
          exact h11
        · refine Keeps.ite ?_ ?_
          · refine Keeps.next ?_
            refine h4 _ _ ?_
            refine State.setChanX_kept ?_
            exact h0
          · refine Keeps.ite ?_ ?_
            · refine Keeps.next ?_
              refine State.setChanX_kept ?_
              exact h0
            · refine Keeps.next ?_
              exact h11

theorem execRespondMpacketReceive_kept {c : Fin 96} {s : State} : Keeps s (@execRespondMpacketReceive c s) := by
  have h0 := Kept.refl s
  unfold execRespondMpacketReceive
  refine Keeps.ite ?_ ?_
  · refine Keeps.next ?_
    refine State.setChanX_kept ?_
    refine State.setPw_kept ?_
    exact h0
  · refine Keeps.next ?_
    exact h0

theorem execVerifyMpacketReceive_kept {c : Fin 96} {s : State} : Keeps s (@execVerifyMpacketReceive c s) := by
  have h0 := Kept.refl s
  unfold execVerifyMpacketReceive
  refine Keeps.ite ?_ ?_
  · refine Keeps.next ?_
    refine State.emit_kept ?_
    exact h0
  · refine Keeps.next ?_
    exact h0

theorem execVerifyMpacketSend_kept {c : Fin 96} {s : State} : Keeps s (@execVerifyMpacketSend c s) := by
  have h0 := Kept.refl s
  unfold execVerifyMpacketSend
  refine Keeps.ite ?_ ?_
  · refine Keeps.next ?_
    exact h0
  · extract_lets -merge +onlyGivenNames u1
    refine Keeps.ite ?_ ?_
    · refine Keeps.next ?_
      refine State.setPw_kept ?_
      exact h0
    · refine Keeps.next ?_
      refine State.emit_kept ?_
      refine State.setChanX_kept ?_
      exact h0

theorem State.bankFenceReq_kept {z : State} {s : State} {b : Nat} (hk : Kept z s) : Kept z (@State.bankFenceReq s b) := by
  unfold State.bankFenceReq
  refine State.askRetire_kept ?_
  exact hk

theorem State.bankReset_kept {z : State} {s : State} {b : Nat} (hk : Kept z s) : Kept z (@State.bankReset s b) := by
  unfold State.bankReset
  refine Kept.ite ?_ ?_
  · refine State.wr_kept ?_
    refine State.setBank_kept ?_
    exact hk
  · exact hk

theorem State.sweepQueue_kept {z : State} {s : State} {q now n : Nat} (hk : Kept z s) : Kept z (s.sweepQueue q now n) := by
  induction n generalizing s with
  | zero => exact hk
  | succ n ih =>
    unfold State.sweepQueue
    split
    · exact Kept.ite (ih (State.dropPkt_kept hk)) hk
    · exact hk

theorem execBankDrainEnd_kept {b : Fin 96} {s : State} : Keeps s (@execBankDrainEnd b s) := by
  have h0 := Kept.refl s
  unfold execBankDrainEnd
  refine Keeps.ite ?_ ?_
  · refine Keeps.next ?_
    refine State.endDrain_kept ?_
    exact h0
  · refine Keeps.next ?_
    exact h0

theorem execBankDrainStart_kept {b : Fin 96} {twin : Option (BitVec 8)} {s : State} : Keeps s (@execBankDrainStart b twin s) := by
  have h0 := Kept.refl s
  unfold execBankDrainStart
  extract_lets -merge +onlyGivenNames u1
  have h2 : Kept s u1 := by
    unfold u1
    split
    · refine Kept.ite ?_ ?_
      · exact h0
      · refine State.askRetire_kept ?_
        exact h0
    · exact h0
  extract_lets -merge +onlyGivenNames u3
  refine Keeps.ite ?_ ?_
  · refine Keeps.next ?_
    refine State.drainBank_kept ?_
    exact h2
  · refine Keeps.next ?_
    exact h2

theorem execBankFenceReq_kept {m : Fin 8} {b : Fin 96} {s : State} : Keeps s (@execBankFenceReq m b s) := by
  have h0 := Kept.refl s
  unfold execBankFenceReq
  refine Keeps.next ?_
  refine State.asMaster_kept ?_ ?_
  · exact h0
  · intro a1 h2
    refine State.bankFenceReq_kept ?_
    exact h2

theorem execBankReset_kept {m : Fin 8} {b : Fin 96} {s : State} : Keeps s (@execBankReset m b s) := by
  have h0 := Kept.refl s
  unfold execBankReset
  refine Keeps.next ?_
  refine State.asMaster_kept ?_ ?_
  · exact h0
  · intro a1 h2
    refine State.bankReset_kept ?_
    exact h2

theorem execBankResetDone_kept {b : Fin 96} {failing : List (BitVec 15)} {s : State} : Keeps s (@execBankResetDone b failing s) := by
  have h0 := Kept.refl s
  unfold execBankResetDone
  refine Keeps.ite ?_ ?_
  · refine Keeps.next ?_
    exact h0
  · extract_lets -merge +onlyGivenNames u1
    extract_lets -merge +onlyGivenNames u2
    have h3 : Kept s u2 := by
      unfold u2
      refine State.setBank_kept ?_
      exact h0
    split
    · refine Keeps.next ?_
      refine State.wr_kept ?_
      refine State.putMap_kept ?_
      exact h3
    · refine Keeps.next ?_
      exact h3

theorem execFencedQueueWalk_kept {q : BitVec 16} {s : State} : Keeps s (@execFencedQueueWalk q s) := by
  have h0 := Kept.refl s
  unfold execFencedQueueWalk
  refine Keeps.ite ?_ ?_
  · refine Keeps.next ?_
    refine State.dropAll_kept ?_
    exact h0
  · refine Keeps.next ?_
    exact h0

theorem execFlowEntryRewrite_kept {e : BitVec 17} {s : State} : Keeps s (@execFlowEntryRewrite e s) := by
  have h0 := Kept.refl s
  unfold execFlowEntryRewrite
  extract_lets -merge +onlyGivenNames u1
  refine Keeps.ite ?_ ?_
  · refine Keeps.next ?_
    refine State.report_kept ?_
    with_reducible refine Kept.upd ?_ ..
    exact h0
  · refine Keeps.next ?_
    exact h0

theorem execFlushPoint_kept {q : BitVec 16} {s : State} : Keeps s (@execFlushPoint q s) := by
  have h0 := Kept.refl s
  unfold execFlushPoint
  split
  · rename_i e1
    refine Kept.thruE (z := s) e1 ?_ (fun h2 => ?_)
    · refine State.takeChange_kept ?_
      exact h0
    · refine Keeps.ite ?_ ?_
      · refine Keeps.next ?_
        refine State.okOpt_kept ?_
        refine State.flushQueue_kept ?_
        exact h2
      · refine Keeps.next ?_
        refine State.failOpt_kept ?_
        exact h2
  · rename_i e3
    refine Kept.thruE (z := s) e3 ?_ (fun h4 => ?_)
    · refine State.takeChange_kept ?_
      exact h0
    · refine Keeps.next ?_
      exact h4

theorem execQueueClosed_kept {q : BitVec 16} {s : State} : Keeps s (@execQueueClosed q s) := by
  have h0 := Kept.refl s
  unfold execQueueClosed
  refine Keeps.next ?_
  refine State.closeQueue_kept ?_
  exact h0

theorem execRepairRecordWrite_kept {s : State} : Keeps s (@execRepairRecordWrite s) := by
  have h0 := Kept.refl s
  unfold execRepairRecordWrite
  refine Keeps.next ?_
  refine Kept.ite ?_ ?_
  · refine State.writeRepairRec_kept ?_
    exact h0
  · exact h0

theorem execRepairScanPassEnd_kept {s : State} : Keeps s (@execRepairScanPassEnd s) := by
  have h0 := Kept.refl s
  unfold execRepairScanPassEnd
  extract_lets -merge +onlyGivenNames u1
  refine Keeps.ite ?_ ?_
  · refine Keeps.next ?_
    exact h0
  · extract_lets -merge +onlyGivenNames u2
    have h3 : Kept s u2 := by
      unfold u2
      refine Kept.foldl ?_ ?_
      · intro a4 a5 h6
        extract_lets -merge +onlyGivenNames u7
        extract_lets -merge +onlyGivenNames u8
        have h9 : Kept s u8 := by
          unfold u8
          refine State.setBank_kept ?_
          exact h6
        refine Kept.ite ?_ ?_
        · refine State.report_kept ?_
          exact h9
        · exact h9
      · exact h0
    refine Keeps.next ?_
    refine State.latch_kept ?_
    refine State.wr_kept ?_
    exact h3

theorem execResidencySweep_kept {now : BitVec 64} {s : State} : Keeps s (@execResidencySweep now s) := by
  have h0 := Kept.refl s
  unfold execResidencySweep
  refine Keeps.ite ?_ ?_
  · refine Keeps.next ?_
    exact h0
  · refine Keeps.next ?_
    refine Kept.foldl ?_ ?_
    · intro a1 a2 h3
      refine State.sweepQueue_kept ?_
      exact h3
    · exact h0

theorem execRetestDone_kept {b : Fin 96} {failing : List (BitVec 15)} {s : State} : Keeps s (@execRetestDone b failing s) := by
  have h0 := Kept.refl s
  unfold execRetestDone
  refine Keeps.ite ?_ ?_
  · refine Keeps.next ?_
    exact h0
  · extract_lets -merge +onlyGivenNames u1
    extract_lets -merge +onlyGivenNames u2
    have h3 : Kept s u2 := by
      unfold u2
      refine State.setBank_kept ?_
      exact h0
    split
    rename_i e4
    refine Kept.thruE (z := s) e4 ?_ (fun h5 => ?_)
    · split
      · dsimp -zeta only
        refine State.bankLive_kept ?_
        refine State.putMap_kept ?_
        exact h3
      · exact h3
    · extract_lets -merge +onlyGivenNames u6
      have h7 : Kept s u6 := by
        unfold u6
        refine Kept.ite ?_ ?_
        · refine State.report_kept ?_
          exact h5
        · exact h5
      refine Keeps.ite ?_ ?_
      · refine Keeps.next ?_
        exact h7
      · extract_lets -merge +onlyGivenNames u8
        have h9 : Kept s u8 := by
          unfold u8
          refine State.latch_kept ?_
          refine State.wr_kept ?_
          exact h7
        split
        · rename_i e10
          refine Kept.thruE (z := s) e10 ?_ (fun h11 => ?_)
          · refine State.takeChange_kept ?_
            exact h9
          · refine Keeps.next ?_
            refine State.okOpt_kept ?_
            exact h11
        · rename_i e12
          refine Kept.thruE (z := s) e12 ?_ (fun h13 => ?_)
          · refine State.takeChange_kept ?_
            exact h9
          · refine Keeps.next ?_
            exact h13

theorem execRowRemap_kept {b : Fin 96} {s : State} : Keeps s (@execRowRemap b s) := by
  have h0 := Kept.refl s
  unfold execRowRemap
  extract_lets -merge +onlyGivenNames u1
  split
  · refine Keeps.next ?_
    exact h0
  · refine Keeps.ite ?_ ?_
    · refine Keeps.next ?_
      exact h0
    · extract_lets -merge +onlyGivenNames u2
      extract_lets -merge +onlyGivenNames u3
      have h4 : Kept s u3 := by
        unfold u3
        refine State.setBank_kept ?_
        exact h0
      extract_lets -merge +onlyGivenNames u5
      have h6 : Kept s u5 := by
        unfold u5
        refine State.wr_kept ?_
        exact h4
      refine Keeps.next ?_
      refine State.grnEvent_kept ?_
      exact h6

theorem execRowRepairCopy_kept {b : Fin 96} {s : State} : Keeps s (@execRowRepairCopy b s) := by
  have h0 := Kept.refl s
  unfold execRowRepairCopy
  extract_lets -merge +onlyGivenNames u1
  refine Keeps.ite ?_ ?_
  · refine Keeps.next ?_
    exact h0
  · split
    · refine Keeps.next ?_
      refine State.setBank_kept ?_
      exact h0
    · refine Keeps.next ?_
      exact h0

theorem execScrubCycle_kept {b : Fin 96} {finds : List (BitVec 2 × BitVec 3 × EccFind)} {s : State} : Keeps s (@execScrubCycle b finds s) := by
  have h0 := Kept.refl s
  unfold execScrubCycle
  extract_lets -merge +onlyGivenNames u1
  extract_lets -merge +onlyGivenNames u2
  refine Keeps.ite ?_ ?_
  · refine Keeps.next ?_
    exact h0
  · extract_lets -merge +onlyGivenNames u3
    have h4 : Kept s u3 := by
      unfold u3
      refine Kept.foldl ?_ ?_
      · intro a5 a6 h7
        refine State.bankEcc_kept ?_
        exact h7
      · exact h0
    extract_lets -merge +onlyGivenNames u8
    refine Keeps.ite ?_ ?_
    · refine Keeps.next ?_
      refine State.setBank_kept ?_
      exact h4
    · extract_lets -merge +onlyGivenNames u9
      have h10 : Kept s u9 := by
        unfold u9
        refine State.setBank_kept ?_
        exact h4
      refine Keeps.next ?_
      refine Kept.ite ?_ ?_
      · refine State.bump_kept ?_
        exact h10
      · exact h10

theorem State.holdWords_kept {z : State} {s : State} {m : Nat} {a : Nat} {words : List W32} (hk : Kept z s) : Kept z (@State.holdWords s m a words) := by
  unfold State.holdWords
  with_reducible refine Kept.upd ?_ ..
  exact hk

theorem State.liveRead_kept {z : State} {s : State} {m : Nat} (hk : Kept z s) : Kept z (@State.liveRead s m).2 := by
  unfold State.liveRead
  extract_lets -merge +onlyGivenNames u1
  dsimp -zeta only
  refine State.holdWords_kept ?_
  refine State.wr_kept ?_
  exact hk

theorem State.injWrite_kept {z : State} {s : State} {j : Nat} {r : Nat} {v : Nat} (hk : Kept z s) : Kept z (@State.injWrite s j r v) := by
  unfold State.injWrite
  refine Kept.ite ?_ ?_
  · refine State.latch_kept ?_
    exact hk
  · split
    · extract_lets -merge +onlyGivenNames u1
      have h2 : Kept z u1 := by
        unfold u1
        refine Kept.ite ?_ ?_
        · refine State.wr_kept ?_
          exact hk
        · exact hk
      extract_lets -merge +onlyGivenNames u3
      have h4 : Kept z u3 := by
        unfold u3
        refine Kept.ite ?_ ?_
        · refine State.wr_kept ?_
          exact h2
        · exact h2
      refine State.wr_kept ?_
      refine State.wr_kept ?_
      exact h4
    · refine State.wr_kept ?_
      refine State.wr_kept ?_
      exact hk
    · refine Kept.ite ?_ ?_
      · exact hk
      · refine State.wr_kept ?_
        exact hk
    · refine State.wr_kept ?_
      exact hk

theorem State.startArm_kept {z : State} {s : State} {a : Arm} (hk : Kept z s) : Kept z (@State.startArm s a) := by
  unfold State.startArm
  extract_lets -merge +onlyGivenNames u1
  refine Kept.ite ?_ ?_
  · extract_lets -merge +onlyGivenNames u2
    have h3 : Kept z u2 := by
      unfold u2
      refine Kept.foldl ?_ ?_
      · intro a4 a5 h6
        refine State.setInj_kept ?_
        refine State.wr_kept ?_
        exact h6
      · exact hk
    refine State.ok_kept ?_
    exact h3
  · extract_lets -merge +onlyGivenNames u7
    extract_lets -merge +onlyGivenNames u8
    have h9 : Kept z u8 := by
      unfold u8
      refine Kept.foldl ?_ ?_
      · intro a10 a11 h12
        refine Kept.ite ?_ ?_
        · refine State.wr_kept ?_
          exact h12
        · exact h12
      · exact hk
    refine State.fail_kept ?_
    exact h9

theorem execBipWindowEnd_kept {n : Fin 96} {s : State} : Keeps s (@execBipWindowEnd n s) := by
  have h0 := Kept.refl s
  unfold execBipWindowEnd
  extract_lets -merge +onlyGivenNames u1
  extract_lets -merge +onlyGivenNames u2
  extract_lets -merge +onlyGivenNames u3
  refine Keeps.ite ?_ ?_
  · refine Keeps.next ?_
    refine State.setBip_kept ?_
    exact h0
  · refine Keeps.ite ?_ ?_
    · refine Keeps.next ?_
      refine State.setBip_kept ?_
      exact h0
    · extract_lets -merge +onlyGivenNames u4
      extract_lets -merge +onlyGivenNames u5
      extract_lets -merge +onlyGivenNames u6
      extract_lets -merge +onlyGivenNames u7
      extract_lets -merge +onlyGivenNames u8
      extract_lets -merge +onlyGivenNames u9
      have h10 : Kept s u9 := by
        unfold u9
        refine State.countC_kept ?_
        refine State.countC_kept ?_
        exact h0
      extract_lets -merge +onlyGivenNames u11
      extract_lets -merge +onlyGivenNames u12
      extract_lets -merge +onlyGivenNames u13
      extract_lets -merge +onlyGivenNames u14
      extract_lets -merge +onlyGivenNames u15
      extract_lets -merge +onlyGivenNames u16
      extract_lets -merge +onlyGivenNames u17
      extract_lets -merge +onlyGivenNames u18
      have h19 : Kept s u18 := by
        unfold u18
        refine State.setBip_kept ?_
        exact h10
      extract_lets -merge +onlyGivenNames u20
      extract_lets -merge +onlyGivenNames u21
      extract_lets -merge +onlyGivenNames u22
      extract_lets -merge +onlyGivenNames u23
      extract_lets -merge +onlyGivenNames u24
      extract_lets -merge +onlyGivenNames u25
      extract_lets -merge +onlyGivenNames u26
      refine Keeps.next ?_
      refine State.putDefs_kept ?_
      exact h19

theorem execDefectClear_kept {d : DefectOf} {s : State} : Keeps s (@execDefectClear d s) := by
  have h0 := Kept.refl s
  unfold execDefectClear
  split
  · extract_lets -merge +onlyGivenNames u1
    refine Keeps.ite ?_ ?_
    · extract_lets -merge +onlyGivenNames u2
      refine Keeps.next ?_
      refine State.putDefs_kept ?_
      exact h0
    · refine Keeps.next ?_
      exact h0
  · split
    · refine Keeps.next ?_
      exact h0
    · extract_lets -merge +onlyGivenNames u3
      extract_lets -merge +onlyGivenNames u4
      refine Keeps.ite ?_ ?_
      · refine Keeps.next ?_
        exact h0
      · refine Keeps.next ?_
        refine State.setEnd_kept ?_
        exact h0

theorem execDefectSet_kept {d : DefectOf} {s : State} : Keeps s (@execDefectSet d s) := by
  have h0 := Kept.refl s
  unfold execDefectSet
  split
  · extract_lets -merge +onlyGivenNames u1
    refine Keeps.ite ?_ ?_
    · refine Keeps.next ?_
      refine State.putDefs_kept ?_
      exact h0
    · refine Keeps.next ?_
      exact h0
  · split
    · refine Keeps.next ?_
      exact h0
    · refine Keeps.ite ?_ ?_
      · refine Keeps.next ?_
        refine State.setEnd_kept ?_
        exact h0
      · refine Keeps.next ?_
        exact h0

theorem execInjectorEvent_kept {j : Fin 16} {s : State} : Keeps s (@execInjectorEvent j s) := by
  have h0 := Kept.refl s
  unfold execInjectorEvent
  extract_lets -merge +onlyGivenNames u1
  refine Keeps.ite ?_ ?_
  · refine Keeps.next ?_
    exact h0
  · extract_lets -merge +onlyGivenNames u2
    extract_lets -merge +onlyGivenNames u3
    extract_lets -merge +onlyGivenNames u4
    have h5 : Kept s u4 := by
      unfold u4
      refine State.countD_kept ?_
      exact h0
    extract_lets -merge +onlyGivenNames u6
    have h7 : Kept s u6 := by
      unfold u6
      refine Kept.ite ?_ ?_
      · refine State.countL_kept ?_
        exact h5
      · exact h5
    extract_lets -merge +onlyGivenNames u8
    have h9 : Kept s u8 := by
      unfold u8
      refine Kept.ite ?_ ?_
      · refine State.setInj_kept ?_
        exact h7
      · refine State.emit_kept ?_
        refine State.setInj_kept ?_
        exact h7
    refine Keeps.next ?_
    refine State.injSpent_kept ?_
    exact h9

theorem execInjectorRegWrite_kept {m : Fin 8} {j : Fin 16} {r : Fin 4} {v : BitVec 32} {s : State} : Keeps s (@execInjectorRegWrite m j r v s) := by
  have h0 := Kept.refl s
  unfold execInjectorRegWrite
  refine Keeps.next ?_
  refine State.asMaster_kept ?_ ?_
  · exact h0
  · intro a1 h2
    refine State.injWrite_kept ?_
    exact h2

theorem execInjectorStart_kept {s : State} : Keeps s (@execInjectorStart s) := by
  have h0 := Kept.refl s
  unfold execInjectorStart
  extract_lets -merge +onlyGivenNames u1
  extract_lets -merge +onlyGivenNames u2
  extract_lets -merge +onlyGivenNames u3
  have h4 : Kept s u3 := by
    unfold u3
    with_reducible refine Kept.upd ?_ ..
    exact h0
  refine Keeps.next ?_
  refine Kept.foldl ?_ ?_
  · intro a5 a6 h7
    refine State.startArm_kept ?_
    exact h7
  · exact h4

theorem execReorderWindowTimeout_kept {j : Fin 16} {s : State} : Keeps s (@execReorderWindowTimeout j s) := by
  have h0 := Kept.refl s
  unfold execReorderWindowTimeout
  refine Keeps.next ?_
  refine State.injSpent_kept ?_
  refine State.releaseWindow_kept ?_
  exact h0

theorem execSnapshotImageWrite_kept {bufLen : BitVec 32} {s : State} : Keeps s (@execSnapshotImageWrite bufLen s) := by
  have h0 := Kept.refl s
  unfold execSnapshotImageWrite
  split
  · refine Keeps.next ?_
    exact h0
  · refine Keeps.ite ?_ ?_
    · refine Keeps.next ?_
      exact h0
    · extract_lets -merge +onlyGivenNames u1
      extract_lets -merge +onlyGivenNames u2
      have h3 : Kept s u2 := by
        unfold u2
        refine State.emit_kept ?_
        exact h0
      extract_lets -merge +onlyGivenNames u4
      extract_lets -merge +onlyGivenNames u5
      have h6 : Kept s u5 := by
        unfold u5
        with_reducible refine Kept.upd ?_ ..
        exact h3
      extract_lets -merge +onlyGivenNames u7
      have h8 : Kept s u7 := by
        unfold u7
        refine State.wr_kept ?_
        exact h6
      extract_lets -merge +onlyGivenNames u9
      have h10 : Kept s u9 := by
        unfold u9
        refine Kept.ite ?_ ?_
        · refine State.latch_kept ?_
          refine State.countD_kept ?_
          exact h8
        · refine State.latch_kept ?_
          exact h8
      refine Keeps.next ?_
      refine State.signal_kept ?_
      refine State.devAdvance_kept ?_
      exact h10

theorem execTallyLiveRead_kept {m : Fin 8} {s : State} : Keeps s (@execTallyLiveRead m s) := by
  have h0 := Kept.refl s
  unfold execTallyLiveRead
  refine Keeps.next ?_
  refine State.asReader_kept ?_ ?_
  · exact h0
  · intro a1 h2
    split
    rename_i e3
    refine Kept.thruE (z := s) e3 ?_ (fun h4 => ?_)
    · refine State.liveRead_kept ?_
      exact h2
    · refine State.emit_kept ?_
      exact h4

end Sys2Proof.Machine
end

