-- ==== Sys2Proof/Laws/Kept04.lean ====
section
/-! SUPPORT. What the operations of Boundary, VsiOps, VsiC, DebugOps, ResetOps, MillOps, ReeveOps, BusRead, Gate, Lantern, Mill, LaneEv keep (`Kept`): the queue as it is, the tables canonical, the fuse store one-way. -/
namespace Sys2Proof.Machine

theorem State.applySet_kept {z : State} {s : State} (hk : Kept z s) : Kept z (@State.applySet s) := by
  unfold State.applySet
  split
  · exact hk
  · extract_lets -merge +onlyGivenNames u1
    refine State.ok_kept ?_
    with_reducible refine Kept.upd ?_ ..
    exact hk

theorem State.copyShadow_kept {z : State} {s : State} (hk : Kept z s) : Kept z (@State.copyShadow s) := by
  unfold State.copyShadow
  refine Kept.foldl ?_ ?_
  · intro a1 a2 h3
    split
    · with_reducible refine Kept.pblk_put ?_ _ _
      exact h3
    · exact h3
  · with_reducible refine Kept.shadow_clear ?_
    exact hk

theorem State.copyTally_kept {z : State} {s : State} (hk : Kept z s) : Kept z (@State.copyTally s) := by
  unfold State.copyTally
  refine Kept.foldl ?_ ?_
  · intro a1 a2 h3
    refine State.setBytes_kept ?_
    exact h3
  · refine State.clearMem_kept ?_
    exact hk

theorem State.countSeconds_kept {z : State} {s : State} (hk : Kept z s) : Kept z (@State.countSeconds s) := by
  unfold State.countSeconds
  extract_lets -merge +onlyGivenNames u1
  have h2 : Kept z u1 := by
    unfold u1
    refine Kept.iter ?_ ?_
    · intro a3 a4 h5
      refine Kept.ite ?_ ?_
      · refine State.wr_kept ?_
        exact h5
      · exact h5
    · exact hk
  refine Kept.iter ?_ ?_
  · intro a6 a7 h8
    refine Kept.ite ?_ ?_
    · extract_lets -merge +onlyGivenNames u9
      refine State.wr_kept ?_
      with_reducible refine Kept.upd ?_ ..
      exact h8
    · exact h8
  · exact h2

theorem State.frameParams_kept {z : State} {s : State} (hk : Kept z s) : Kept z (@State.frameParams s) := by
  unfold State.frameParams
  refine Kept.foldl ?_ ?_
  · intro a1 a2 h3
    refine State.applyParams_kept ?_
    exact h3
  · exact hk

theorem State.gateForward_kept {z : State} {s : State} {twin : Nat} (hk : Kept z s) : Kept z (@State.gateForward s twin) := by
  unfold State.gateForward
  extract_lets -merge +onlyGivenNames u1
  with_reducible refine Kept.upd ?_ ..
  exact hk

theorem State.multiframeParams_kept {z : State} {s : State} (hk : Kept z s) : Kept z (@State.multiframeParams s) := by
  unfold State.multiframeParams
  refine Kept.foldl ?_ ?_
  · intro a1 a2 h3
    refine State.applyParams_kept ?_
    exact h3
  · exact hk

theorem State.oweEsmc_kept {z : State} {s : State} (hk : Kept z s) : Kept z (@State.oweEsmc s) := by
  unfold State.oweEsmc
  refine Kept.iter ?_ ?_
  · intro a1 a2 h3
    refine Kept.ite ?_ ?_
    · refine State.setChanX_kept ?_
      exact h3
    · exact h3
  · exact hk

theorem State.showGrid_kept {z : State} {s : State} (hk : Kept z s) : Kept z (@State.showGrid s) := by
  unfold State.showGrid
  extract_lets -merge +onlyGivenNames u1
  refine State.wr_kept ?_
  refine State.wr_kept ?_
  exact hk

theorem State.takeHostFreq_kept {z : State} {s : State} (hk : Kept z s) : Kept z (@State.takeHostFreq s).2 := by
  unfold State.takeHostFreq
  refine Kept.ite_snd ?_ ?_
  · extract_lets -merge +onlyGivenNames u1
    dsimp -zeta only
    with_reducible refine Kept.upd ?_ ..
    exact hk
  · exact hk

theorem State.takeSlew_kept {z : State} {s : State} (hk : Kept z s) : Kept z (@State.takeSlew s).2 := by
  unfold State.takeSlew
  split
  · exact hk
  · extract_lets -merge +onlyGivenNames u1
    extract_lets -merge +onlyGivenNames u2
    extract_lets -merge +onlyGivenNames u3
    dsimp -zeta only
    with_reducible refine Kept.upd ?_ ..
    exact hk

theorem State.passFrame_kept {z : State} {s : State} {drift : Int} (hk : Kept z s) : Kept z (@State.passFrame s drift) := by
  unfold State.passFrame
  extract_lets -merge +onlyGivenNames u1
  split
  rename_i e2
  refine Kept.thruE (z := z) e2 ?_ (fun h3 => ?_)
  · refine State.takeSlew_kept ?_
    exact hk
  · split
    rename_i e4
    refine Kept.thruE (z := z) e4 ?_ (fun h5 => ?_)
    · refine State.takeHostFreq_kept ?_
      exact h3
    · extract_lets -merge +onlyGivenNames u6
      extract_lets -merge +onlyGivenNames u7
      have h8 : Kept z u7 := by
        unfold u7
        with_reducible refine Kept.upd ?_ ..
        exact h5
      extract_lets -merge +onlyGivenNames u9
      extract_lets -merge +onlyGivenNames u10
      extract_lets -merge +onlyGivenNames u11
      have h12 : Kept z u11 := by
        unfold u11
        refine Kept.ite ?_ ?_
        · exact h8
        · with_reducible refine Kept.upd ?_ ..
          exact h8
      refine State.showGrid_kept ?_
      with_reducible refine Kept.upd ?_ ..
      exact h12

theorem State.releaseInserts_kept {z : State} {s : State} {q n : Nat} (hk : Kept z s) : Kept z (s.releaseInserts q n) := by
  induction n generalizing s with
  | zero => exact hk
  | succ n ih =>
    unfold State.releaseInserts
    split
    · rename_i e
      have h1 := Kept.snd (State.takeItem_kept hk) e
      extract_lets c v u
      have hu : Kept z u := by
        unfold u
        split
        · exact State.setChanX_kept h1
        · exact State.bumpPw_kept h1
      exact ih hu
    · exact hk

theorem State.releaseLate_kept {z : State} {s : State} (hk : Kept z s) : Kept z (@State.releaseLate s) := by
  unfold State.releaseLate
  refine Kept.foldl ?_ ?_
  · intro a1 a2 h3
    refine Kept.ite ?_ ?_
    · refine State.setLane_kept ?_
      exact h3
    · exact h3
  · exact hk

theorem State.snapGrid_kept {z : State} {s : State} (hk : Kept z s) : Kept z (@State.snapGrid s) := by
  unfold State.snapGrid
  extract_lets -merge +onlyGivenNames u1
  refine Kept.ite ?_ ?_
  · refine State.showGrid_kept ?_
    with_reducible refine Kept.upd ?_ ..
    exact hk
  · exact hk

theorem State.swapPlanned_kept {z : State} {s : State} (hk : Kept z s) : Kept z (@State.swapPlanned s) := by
  unfold State.swapPlanned
  split
  · refine Kept.ite ?_ ?_
    · refine State.ok_kept ?_
      refine State.wr_kept ?_
      with_reducible refine Kept.upd ?_ ..
      exact hk
    · exact hk
  · exact hk

theorem State.tickTime_kept {z : State} {s : State} (hk : Kept z s) : Kept z (@State.tickTime s).2 := by
  unfold State.tickTime
  refine Kept.ite_snd ?_ ?_
  · exact hk
  · refine State.stamp_kept ?_
    exact hk

theorem State.takeSnapshot_kept {z : State} {s : State} (hk : Kept z s) : Kept z (@State.takeSnapshot s) := by
  unfold State.takeSnapshot
  extract_lets -merge +onlyGivenNames u1
  extract_lets -merge +onlyGivenNames u2
  refine Kept.ite ?_ ?_
  · refine Kept.ite ?_ ?_
    · split
      rename_i e3
      refine Kept.thruE (z := z) e3 ?_ (fun h4 => ?_)
      · refine State.tickTime_kept ?_
        exact hk
      · extract_lets -merge +onlyGivenNames u5
        extract_lets -merge +onlyGivenNames u6
        refine State.wr_kept ?_
        with_reducible refine Kept.upd ?_ ..
        exact h4
    · refine State.latch_kept ?_
      refine State.countD_kept ?_
      with_reducible refine Kept.upd ?_ ..
      exact hk
  · exact hk

theorem execFrameBoundary_kept {drift : BitVec 16} {s : State} : Keeps s (@execFrameBoundary drift s) := by
  have h0 := Kept.refl s
  unfold execFrameBoundary
  refine Keeps.ite ?_ ?_
  · refine Keeps.next ?_
    exact h0
  · extract_lets -merge +onlyGivenNames u1
    have h2 : Kept s u1 := by
      unfold u1
      refine State.releaseLate_kept ?_
      refine State.passFrame_kept ?_
      exact h0
    extract_lets -merge +onlyGivenNames u3
    have h4 : Kept s u3 := by
      unfold u3
      refine State.frameParams_kept ?_
      refine State.copyShadow_kept ?_
      exact h2
    refine Keeps.next ?_
    refine State.swapPlanned_kept ?_
    refine State.settleAll_kept ?_
    refine State.applyDue_kept ?_
    exact h4

theorem execLaneTransitionEnd_kept {n : Fin 96} {dur : BitVec 16} {s : State} : Keeps s (@execLaneTransitionEnd n dur s) := by
  have h0 := Kept.refl s
  unfold execLaneTransitionEnd
  refine Keeps.next ?_
  refine State.settleLanes_kept ?_
  refine State.endMove_kept ?_
  exact h0

theorem execMultiframeBoundary_kept {twin : BitVec 96} {s : State} : Keeps s (@execMultiframeBoundary twin s) := by
  have h0 := Kept.refl s
  unfold execMultiframeBoundary
  refine Keeps.ite ?_ ?_
  · refine Keeps.next ?_
    exact h0
  · extract_lets -merge +onlyGivenNames u1
    have h2 : Kept s u1 := by
      unfold u1
      refine State.multiframeParams_kept ?_
      exact h0
    extract_lets -merge +onlyGivenNames u3
    have h4 : Kept s u3 := by
      unfold u3
      refine State.applyDue_kept ?_
      exact h2
    extract_lets -merge +onlyGivenNames u5
    have h6 : Kept s u5 := by
      unfold u5
      refine State.settleAll_kept ?_
      refine State.snapGrid_kept ?_
      exact h4
    extract_lets -merge +onlyGivenNames u7
    have h8 : Kept s u7 := by
      unfold u7
      refine Kept.ite ?_ ?_
      · exact h6
      · refine Kept.iter ?_ ?_
        · intro a9 a10 h11
          refine State.releaseInserts_kept ?_
          exact h11
        · refine State.gateForward_kept ?_
          exact h6
    refine Keeps.next ?_
    refine State.reeveEvent_kept ?_
    exact h8

theorem execOneSecondTick_kept {s : State} : Keeps s (@execOneSecondTick s) := by
  have h0 := Kept.refl s
  unfold execOneSecondTick
  refine Keeps.ite ?_ ?_
  · refine Keeps.next ?_
    exact h0
  · extract_lets -merge +onlyGivenNames u1
    have h2 : Kept s u1 := by
      unfold u1
      refine State.applySet_kept ?_
      exact h0
    extract_lets -merge +onlyGivenNames u3
    have h4 : Kept s u3 := by
      unfold u3
      refine State.countD_kept ?_
      refine State.takeSnapshot_kept ?_
      refine State.copyTally_kept ?_
      exact h2
    extract_lets -merge +onlyGivenNames u5
    have h6 : Kept s u5 := by
      unfold u5
      refine State.wr_kept ?_
      exact h4
    extract_lets -merge +onlyGivenNames u7
    extract_lets -merge +onlyGivenNames u8
    extract_lets -merge +onlyGivenNames u9
    have h10 : Kept s u9 := by
      unfold u9
      with_reducible refine Kept.upd ?_ ..
      exact h6
    refine Keeps.next ?_
    refine State.reeveEvent_kept ?_
    refine State.oweEsmc_kept ?_
    refine State.countSeconds_kept ?_
    exact h10

theorem State.issue_kept {z : State} {s : State} {e : Engine} {f : Eng → Eng} (hk : Kept z s) : Kept z (@State.issue s e f) := by
  unfold State.issue
  refine Kept.ite ?_ ?_
  · refine State.setEng_kept ?_
    exact hk
  · exact hk

theorem State.issueIf_kept {z : State} {s : State} {e : Engine} {pg : Nat} {f : Eng → Eng} (hk : Kept z s) : Kept z (@State.issueIf s e pg f) := by
  unfold State.issueIf
  refine State.issue_kept ?_
  exact hk

theorem State.landDue_kept {z : State} {s : State} {i : Nat} (hk : Kept z s) : Kept z (@State.landDue s i) := by
  unfold State.landDue
  extract_lets -merge +onlyGivenNames u1
  extract_lets -merge +onlyGivenNames u2
  extract_lets -merge +onlyGivenNames u3
  refine State.setEng_kept ?_
  exact hk

theorem State.passCycles_kept {z : State} {s : State} {i : Nat} {k : Nat} (hk : Kept z s) : Kept z (@State.passCycles s i k) := by
  unfold State.passCycles
  refine State.landDue_kept ?_
  refine State.setEng_kept ?_
  exact hk

theorem State.closeBundle_kept {z : State} {s : State} {i : Nat} {target : Option Nat} (hk : Kept z s) : Kept z (@State.closeBundle s i target) := by
  unfold State.closeBundle
  extract_lets -merge +onlyGivenNames u1
  split
  extract_lets -merge +onlyGivenNames u2
  refine State.passCycles_kept ?_
  refine State.setEng_kept ?_
  exact hk

theorem State.close_kept {z : State} {s : State} {e : Engine} {target : Option Nat} (hk : Kept z s) : Kept z (@State.close s e target) := by
  unfold State.close
  extract_lets -merge +onlyGivenNames u1
  have h2 : Kept z u1 := by
    unfold u1
    refine State.closeBundle_kept ?_
    exact hk
  split
  · refine State.showReeve_kept ?_
    exact h2
  · exact h2

theorem State.issueS_kept {z : State} {s : State} {e : Engine} {pg : Nat} {f : Eng → State → State} (hk : Kept z s) (hf : ∀ a0 a1, Kept z a1 → Kept z (f a0 a1)) : Kept z (@State.issueS s e pg f) := by
  unfold State.issueS
  refine Kept.ite ?_ ?_
  · refine hf _ _ ?_
    exact hk
  · exact hk

theorem State.haltEng_kept {z : State} {s : State} {e : Engine} (hk : Kept z s) : Kept z (@State.haltEng s e) := by
  unfold State.haltEng
  extract_lets -merge +onlyGivenNames u1
  extract_lets -merge +onlyGivenNames u2
  have h3 : Kept z u2 := by
    unfold u2
    refine State.lantEvent_kept ?_
    refine State.setEng_kept ?_
    exact hk
  split
  · refine State.showReeve_kept ?_
    exact h3
  · exact h3

theorem State.closeC_kept {z : State} {s : State} {e : Engine} {target : Option Nat} (hk : Kept z s) : Kept z (@State.closeC s e target) := by
  unfold State.closeC
  refine Kept.ite ?_ ?_
  · refine State.close_kept ?_
    exact hk
  · exact hk

theorem State.endHandler_kept {z : State} {s : State} {q : Nat} {t : Nat} (hk : Kept z s) : Kept z (@State.endHandler s q t) := by
  unfold State.endHandler
  extract_lets -merge +onlyGivenNames u1
  extract_lets -merge +onlyGivenNames u2
  split
  · refine State.setEng_kept ?_
    exact hk
  · extract_lets -merge +onlyGivenNames u3
    have h4 : Kept z u3 := by
      unfold u3
      refine State.setEng_kept ?_
      exact hk
    refine Kept.ite ?_ ?_
    · exact h4
    · extract_lets -merge +onlyGivenNames u5
      extract_lets -merge +onlyGivenNames u6
      extract_lets -merge +onlyGivenNames u7
      have h8 : Kept z u7 := by
        unfold u7
        refine Kept.foldl ?_ ?_
        · intro a9 a10 h11
          refine State.setEng_kept ?_
          exact h11
        · exact h4
      refine Kept.ite ?_ ?_
      · refine State.emit_kept ?_
        exact h8
      · exact h8

theorem State.closeRun_kept {z : State} {s : State} {e : Engine} {target : Option Nat} (hk : Kept z s) : Kept z (@State.closeRun s e target) := by
  unfold State.closeRun
  refine Kept.ite ?_ ?_
  · extract_lets -merge +onlyGivenNames u1
    have h2 : Kept z u1 := by
      unfold u1
      refine State.close_kept ?_
      exact hk
    split
    · extract_lets -merge +onlyGivenNames u3
      split
      · split
        · refine Kept.ite ?_ ?_
          · refine State.endHandler_kept ?_
            exact h2
          · exact h2
        · exact h2
      · exact h2
    · exact h2
  · exact hk

theorem State.closeWith_kept {z : State} {s : State} {r : Fin 4} {pg : Nat} {f : Eng → State → State} (hk : Kept z s) (hf : ∀ a0 a1, Kept z a1 → Kept z (f a0 a1)) : Kept z (@State.closeWith s r pg f) := by
  unfold State.closeWith
  extract_lets -merge +onlyGivenNames u1
  refine Kept.ite ?_ ?_
  · exact hk
  · extract_lets -merge +onlyGivenNames u2
    refine State.close_kept ?_
    refine Kept.ite ?_ ?_
    · refine hf _ _ ?_
      exact hk
    · exact hk

theorem State.startRep_kept {z : State} {s : State} {e : Engine} {b : Nat} {n : Nat} (hk : Kept z s) : Kept z (@State.startRep s e b n) := by
  unfold State.startRep
  extract_lets -merge +onlyGivenNames u1
  refine Kept.ite ?_ ?_
  · exact hk
  · refine Kept.ite ?_ ?_
    · refine State.closeRun_kept ?_
      exact hk
    · refine State.closeRun_kept ?_
      refine State.setEng_kept ?_
      exact hk

theorem State.timerEvent_kept {z : State} {s : State} {r : Nat} (hk : Kept z s) : Kept z (@State.timerEvent s r) := by
  unfold State.timerEvent
  refine State.setEng_kept ?_
  exact hk

theorem execAwait_kept {r : Fin 4} {rd : Fin 32} {s : State} : Keeps s (@execAwait r rd s) := by
  have h0 := Kept.refl s
  unfold execAwait
  extract_lets -merge +onlyGivenNames u1
  refine Keeps.ite ?_ ?_
  · refine Keeps.next ?_
    exact h0
  · extract_lets -merge +onlyGivenNames u2
    have h3 : Kept s u2 := by
      unfold u2
      refine State.close_kept ?_
      exact h0
    refine Keeps.next ?_
    refine State.showReeve_kept ?_
    refine State.setEng_kept ?_
    exact h3

theorem execBr_kept {e : Engine} {neg : Bool} {pc : Fin 8} {target : BitVec 14} {s : State} : Keeps s (@execBr e neg pc target s) := by
  have h0 := Kept.refl s
  unfold execBr
  refine Keeps.next ?_
  refine State.closeRun_kept ?_
  exact h0

theorem execBrk_kept {e : Engine} {code : BitVec 8} {s : State} : Keeps s (@execBrk e code s) := by
  have h0 := Kept.refl s
  unfold execBrk
  refine Keeps.ite ?_ ?_
  · refine Keeps.next ?_
    exact h0
  · extract_lets -merge +onlyGivenNames u1
    extract_lets -merge +onlyGivenNames u2
    have h3 : Kept s u2 := by
      unfold u2
      split
      · refine State.traceItem_kept ?_
        exact h0
      · refine State.traceItem_kept ?_
        exact h0
    extract_lets -merge +onlyGivenNames u4
    extract_lets -merge +onlyGivenNames u5
    have h6 : Kept s u5 := by
      unfold u5
      refine State.closeRun_kept ?_
      exact h3
    refine Keeps.next ?_
    refine Kept.ite ?_ ?_
    · refine State.haltEng_kept ?_
      exact h6
    · exact h6

theorem execCall_kept {e : Engine} {neg : Bool} {pc : Fin 8} {target : BitVec 14} {s : State} : Keeps s (@execCall e neg pc target s) := by
  have h0 := Kept.refl s
  unfold execCall
  extract_lets -merge +onlyGivenNames u1
  refine Keeps.ite ?_ ?_
  · refine Keeps.next ?_
    refine State.closeRun_kept ?_
    refine State.setEng_kept ?_
    exact h0
  · refine Keeps.next ?_
    refine State.closeRun_kept ?_
    exact h0

theorem execCnop_kept {e : Engine} {s : State} : Keeps s (@execCnop e s) := by
  have h0 := Kept.refl s
  unfold execCnop
  refine Keeps.next ?_
  refine State.closeRun_kept ?_
  exact h0

theorem execEvt_kept {r : Fin 4} {pg : Fin 8} {f : Fin 3} {rd : Fin 32} {ra : Fin 32} {s : State} : Keeps s (@execEvt r pg f rd ra s) := by
  have h0 := Kept.refl s
  unfold execEvt
  refine Keeps.next ?_
  refine State.closeWith_kept ?_ ?_
  · exact h0
  · intro a1 a2 h3
    refine State.setEng_kept ?_
    exact h3

theorem execPwr_kept {r : Fin 4} {pg : Fin 8} {f : Fin 4} {rd : Fin 32} {ra : Fin 32} {s : State} : Keeps s (@execPwr r pg f rd ra s) := by
  have h0 := Kept.refl s
  unfold execPwr
  extract_lets -merge +onlyGivenNames u1
  refine Keeps.ite ?_ ?_
  · refine Keeps.next ?_
    exact h0
  · extract_lets -merge +onlyGivenNames u2
    extract_lets -merge +onlyGivenNames u3
    have h4 : Kept s u3 := by
      unfold u3
      refine State.close_kept ?_
      exact h0
    refine Keeps.next ?_
    refine Kept.ite ?_ ?_
    · refine State.showReeve_kept ?_
      refine State.setEng_kept ?_
      exact h4
    · exact h4

theorem execRep_kept {e : Engine} {blen : BitVec 10} {count : BitVec 16} {s : State} : Keeps s (@execRep e blen count s) := by
  have h0 := Kept.refl s
  unfold execRep
  refine Keeps.next ?_
  refine State.startRep_kept ?_
  exact h0

theorem execRepg_kept {e : Engine} {blen : BitVec 5} {ra : Fin 32} {bound : BitVec 16} {s : State} : Keeps s (@execRepg e blen ra bound s) := by
  have h0 := Kept.refl s
  unfold execRepg
  refine Keeps.next ?_
  refine State.startRep_kept ?_
  exact h0

theorem execRet_kept {e : Engine} {pg : Fin 8} {s : State} : Keeps s (@execRet e pg s) := by
  have h0 := Kept.refl s
  unfold execRet
  extract_lets -merge +onlyGivenNames u1
  refine Keeps.ite ?_ ?_
  · split
    · refine Keeps.next ?_
      refine State.closeRun_kept ?_
      refine State.setEng_kept ?_
      exact h0
    · split
      rename_i e2
      refine Kept.thruE (z := s) e2 ?_ (fun h3 => ?_)
      · refine State.fresh_kept ?_
        exact h0
      · refine Keeps.next ?_
        refine State.closeRun_kept ?_
        exact h3
  · refine Keeps.next ?_
    refine State.closeRun_kept ?_
    exact h0

theorem execSys_kept {r : Fin 4} {pg : Fin 8} {f : Fin 4} {rd : Fin 32} {ra : Fin 32} {s : State} : Keeps s (@execSys r pg f rd ra s) := by
  have h0 := Kept.refl s
  unfold execSys
  refine Keeps.next ?_
  refine State.closeWith_kept ?_ ?_
  · exact h0
  · intro a1 a2 h3
    split
    · refine State.setEng_kept ?_
      exact h3
    · refine State.setEng_kept ?_
      exact h3
    · refine State.bump_kept ?_
      exact h3
    · refine State.setEng_kept ?_
      exact h3

theorem execTmr_kept {r : Fin 4} {pg : Fin 8} {f : Fin 3} {rd : Fin 32} {ra : Fin 32} {s : State} : Keeps s (@execTmr r pg f rd ra s) := by
  have h0 := Kept.refl s
  unfold execTmr
  refine Keeps.next ?_
  refine State.closeWith_kept ?_ ?_
  · exact h0
  · intro a1 a2 h3
    split
    rename_i e4
    refine Kept.thruE (z := s) e4 ?_ (fun h5 => ?_)
    · refine State.stamp_kept ?_
      exact h3
    · extract_lets -merge +onlyGivenNames u6
      split
      · refine State.setEng_kept ?_
        exact h5
      · refine Kept.ite ?_ ?_
        · refine State.timerEvent_kept ?_
          exact h5
        · refine State.setEng_kept ?_
          exact h5
      · refine State.setEng_kept ?_
        exact h5

theorem execYield_kept {q : Fin 24} {t : Fin 16} {s : State} : Keeps s (@execYield q t s) := by
  have h0 := Kept.refl s
  unfold execYield
  extract_lets -merge +onlyGivenNames u1
  extract_lets -merge +onlyGivenNames u2
  extract_lets -merge +onlyGivenNames u3
  extract_lets -merge +onlyGivenNames u4
  refine Keeps.ite ?_ ?_
  · refine Keeps.next ?_
    exact h0
  · refine Keeps.ite ?_ ?_
    · refine Keeps.next ?_
      refine State.closeRun_kept ?_
      exact h0
    · refine Keeps.next ?_
      refine State.endHandler_kept ?_
      refine State.close_kept ?_
      exact h0

theorem State.toLevel_kept {z : State} {s : State} {l : Nat} {mask : Nat} (hk : Kept z s) : Kept z (@State.toLevel s l mask) := by
  unfold State.toLevel
  extract_lets -merge +onlyGivenNames u1
  extract_lets -merge +onlyGivenNames u2
  have h3 : Kept z u2 := by
    unfold u2
    refine State.wr_kept ?_
    refine State.wr_kept ?_
    exact hk
  refine Kept.ite ?_ ?_
  · exact h3
  · refine State.lantEvent_kept ?_
    exact h3

theorem State.enterTinker_kept {z : State} {s : State} {mask : Nat} (hk : Kept z s) : Kept z (@State.enterTinker s mask) := by
  unfold State.enterTinker
  extract_lets -merge +onlyGivenNames u1
  extract_lets -merge +onlyGivenNames u2
  have h3 : Kept z u2 := by
    unfold u2
    refine State.toLevel_kept ?_
    exact hk
  extract_lets -merge +onlyGivenNames u4
  extract_lets -merge +onlyGivenNames u5
  have h6 : Kept z u5 := by
    unfold u5
    refine Kept.iter ?_ ?_
    · intro a7 a8 h9
      refine Kept.ite ?_ ?_
      · refine State.fenceWeaver_kept ?_
        exact h9
      · exact h9
    · exact h3
  refine Kept.iter ?_ ?_
  · intro a10 a11 h12
    refine Kept.ite ?_ ?_
    · extract_lets -merge +onlyGivenNames u13
      have h14 : Kept z u13 := by
        unfold u13
        refine Kept.ite ?_ ?_
        · refine State.moveSteward_kept ?_
          exact h12
        · exact h12
      refine State.showReeve_kept ?_
      refine State.lantEvent_kept ?_
      refine State.setEng_kept ?_
      exact h14
    · exact h12
  · exact h6

theorem State.requestLevel_kept {z : State} {s : State} {l : Nat} (hk : Kept z s) : Kept z (@State.requestLevel s l) := by
  unfold State.requestLevel
  refine Kept.ite ?_ ?_
  · refine State.denied_kept ?_
    exact hk
  · split
    · refine State.debugNone_kept ?_
      exact hk
    · refine State.toLevel_kept ?_
      exact hk
    · refine State.enterTinker_kept ?_
      exact hk

theorem State.showFuses_kept {z : State} {s : State} (hk : Kept z s) : Kept z (@State.showFuses s) := by
  unfold State.showFuses
  extract_lets -merge +onlyGivenNames u1
  extract_lets -merge +onlyGivenNames u2
  have h3 : Kept z u2 := by
    unfold u2
    refine State.wr_kept ?_
    refine State.wr_kept ?_
    refine State.wr_kept ?_
    exact hk
  refine State.wr_kept ?_
  refine State.wr_kept ?_
  exact h3

theorem State.clearMbox_kept {z : State} {s : State} (hk : Kept z s) : Kept z (@State.clearMbox s) := by
  unfold State.clearMbox
  refine State.clearRegs_kept ?_
  exact hk

theorem State.putMbox_kept {z : State} {s : State} {k : Nat} {l : List Nat} (hk : Kept z s) : Kept z (s.putMbox k l) := by
  induction l generalizing s k with
  | nil => exact hk
  | cons b t ih => exact ih (State.setReg_kept hk)

theorem State.setFuses_kept {z : State} {s : State} {f : Fuses} (hk : Kept z s) (hf : s.fuses.Grows f) : Kept z (s.setFuses f) :=
  State.showFuses_kept ⟨hk.pending, fun c => let k := hk.tables c; ⟨k.regs, k.mem, k.msixTable, k.msixCount, k.progs, k.engs, k.units, k.shadow, k.pblk, k.tally, k.injs, k.lanes, k.aligns, k.vtfs, k.bips, k.cals, k.chans, k.ends, k.xc, k.banks, k.flows, k.fifos, k.groups, k.refs, k.skeys⟩, hk.fuses.trans hf⟩

theorem State.beginStep_kept {z : State} {s : State} {n : Nat} (hk : Kept z s) : Kept z (@State.beginStep s n) := by
  unfold State.beginStep
  extract_lets -merge +onlyGivenNames u1
  have h2 : Kept z u1 := by
    unfold u1
    with_reducible refine Kept.upd ?_ ..
    exact hk
  refine Kept.ite ?_ ?_
  · extract_lets -merge +onlyGivenNames u3
    with_reducible refine Kept.upd ?_ ..
    exact h2
  · exact h2

theorem State.millOff_kept {z : State} {s : State} (hk : Kept z s) : Kept z (@State.millOff s) := by
  unfold State.millOff
  extract_lets -merge +onlyGivenNames u1
  extract_lets -merge +onlyGivenNames u2
  have h3 : Kept z u2 := by
    unfold u2
    refine Kept.foldl ?_ ?_
    · intro a4 a5 h6
      refine State.emit_kept ?_
      exact h6
    · exact hk
  with_reducible refine Kept.upd ?_ ..
  exact h3

theorem State.warmReset_kept {z : State} {s : State} {powered : Bool} (hk : Kept z s) : Kept z (s.warmReset powered) := by
  unfold State.warmReset
  extract_lets r g t
  have ht : Kept z t :=
    ⟨hk.pending, fun c => ⟨Tab.wf_filter _ _ _ (hk.tables c).regs, Tab.wf_filter _ _ _ (hk.tables c).mem, rfl, rfl, rfl, rfl, rfl, rfl, rfl,
      by unfold t
         dsimp only
         split
         · exact (hk.tables c).tally
         · rfl, rfl, rfl, rfl, rfl, rfl, rfl, rfl, rfl, rfl, rfl, rfl, rfl, rfl, rfl, rfl⟩, hk.fuses⟩
  exact Kept.iter (fun i s h => State.loadLaneDesc_kept h) (State.showLedg_kept (State.showFuses_kept (State.wr_kept (State.wr_kept ht))))

theorem State.slumber_kept {z : State} {s : State} {cause : Nat} {st : Startup} (hk : Kept z s) : Kept z (@State.slumber s cause st) := by
  unfold State.slumber
  extract_lets -merge +onlyGivenNames u1
  have h2 : Kept z u1 := by
    unfold u1
    refine State.warmReset_kept ?_
    refine State.millOff_kept ?_
    exact hk
  extract_lets -merge +onlyGivenNames u3
  have h4 : Kept z u3 := by
    unfold u3
    refine State.wr_kept ?_
    refine State.wr_kept ?_
    exact h2
  with_reducible refine Kept.upd ?_ ..
  exact h4

theorem State.leaveP3_kept {z : State} {s : State} (hk : Kept z s) : Kept z (@State.leaveP3 s) := by
  unfold State.leaveP3
  extract_lets -merge +onlyGivenNames u1
  have h2 : Kept z u1 := by
    unfold u1
    refine State.latch_kept ?_
    exact hk
  refine State.beginStep_kept ?_
  with_reducible refine Kept.upd ?_ ..
  exact h2

theorem State.powerOnReset_kept {z : State} {s : State} (hk : Kept z s) : Kept z s.powerOnReset :=
  ⟨hk.pending, fun c => ⟨rfl, Tab.wf_filter _ _ _ (hk.tables c).mem, rfl, rfl, rfl, rfl, rfl, rfl, rfl, rfl, rfl, rfl, rfl, rfl, rfl, rfl, rfl,
    rfl, rfl, rfl, rfl, rfl, rfl, rfl, rfl⟩, hk.fuses⟩

theorem State.failSequence_kept {z : State} {s : State} {d : Nat} (hk : Kept z s) : Kept z (@State.failSequence s d) := by
  unfold State.failSequence
  refine State.assertFault_kept ?_
  extract_lets -merge +onlyGivenNames u1
  have h2 : Kept z u1 := by
    unfold u1
    refine State.millEvent_kept ?_
    refine State.millOff_kept ?_
    exact hk
  with_reducible refine Kept.upd ?_ ..
  exact h2

theorem State.criticalFault_kept {z : State} {s : State} {d : Nat} (hk : Kept z s) : Kept z (@State.criticalFault s d) := by
  unfold State.criticalFault
  refine Kept.ite ?_ ?_
  · refine State.failSequence_kept ?_
    exact hk
  · refine Kept.ite ?_ ?_
    · refine State.assertFault_kept ?_
      refine State.slumber_kept ?_
      exact hk
    · exact hk

theorem State.nextDevice_kept {z : State} {s : State} (hk : Kept z s) : Kept z (@State.nextDevice s) := by
  unfold State.nextDevice
  extract_lets -merge +onlyGivenNames u1
  with_reducible refine Kept.upd ?_ ..
  exact hk

theorem State.fencePmb_kept {z : State} {s : State} {d : Nat} {cause : Nat} (hk : Kept z s) : Kept z (@State.fencePmb s d cause) := by
  unfold State.fencePmb
  refine Kept.ite ?_ ?_
  · exact hk
  · extract_lets -merge +onlyGivenNames u1
    have h2 : Kept z u1 := by
      unfold u1
      refine Kept.ite ?_ ?_
      · exact hk
      · refine State.wr_kept ?_
        exact hk
    extract_lets -merge +onlyGivenNames u3
    extract_lets -merge +onlyGivenNames u4
    have h5 : Kept z u4 := by
      unfold u4
      refine State.wr_kept ?_
      with_reducible refine Kept.upd ?_ ..
      exact h2
    extract_lets -merge +onlyGivenNames u6
    have h7 : Kept z u6 := by
      unfold u6
      refine State.internalFault_kept ?_
      refine State.reportFence_kept ?_
      refine State.millEvent_kept ?_
      exact h5
    refine Kept.ite ?_ ?_
    · refine State.criticalFault_kept ?_
      exact h7
    · refine Kept.ite ?_ ?_
      · refine State.nextDevice_kept ?_
        exact h7
      · exact h7

theorem State.followThrottle_kept {z : State} {s : State} (hk : Kept z s) : Kept z (@State.followThrottle s) := by
  unfold State.followThrottle
  extract_lets -merge +onlyGivenNames u1
  extract_lets -merge +onlyGivenNames u2
  extract_lets -merge +onlyGivenNames u3
  have h4 : Kept z u3 := by
    unfold u3
    refine State.wr_kept ?_
    exact hk
  refine Kept.ite ?_ ?_
  · refine Kept.iter ?_ ?_
    · intro a5 a6 h7
      refine Kept.ite ?_ ?_
      · refine State.setLane_kept ?_
        refine State.wr_kept ?_
        exact h7
      · exact h7
    · exact h4
  · exact h4

theorem State.pmbSend_kept {z : State} {s : State} {d : Nat} {code : Nat} {value : Nat} (hk : Kept z s) : Kept z (@State.pmbSend s d code value) := by
  unfold State.pmbSend
  refine Kept.ite ?_ ?_
  · exact hk
  · refine State.emit_kept ?_
    exact hk

theorem State.pwrDo_kept {z : State} {s : State} {f : Nat} {unit : Nat} (hk : Kept z s) : Kept z (@State.pwrDo s f unit) := by
  unfold State.pwrDo
  extract_lets -merge +onlyGivenNames u1
  extract_lets -merge +onlyGivenNames u2
  have h3 : Kept z u2 := by
    unfold u2
    with_reducible refine Kept.upd ?_ ..
    exact hk
  split
  · refine State.wr_kept ?_
    refine State.wr_kept ?_
    exact h3
  · refine State.wr_kept ?_
    exact h3
  · refine State.degradedRecompute_kept ?_
    refine State.wr_kept ?_
    exact h3
  · refine Kept.ite ?_ ?_
    · refine State.degradedRecompute_kept ?_
      refine State.wr_kept ?_
      refine State.setBank_kept ?_
      exact h3
    · exact h3

theorem State.readStatus_kept {z : State} {s : State} {d : Nat} {status : Nat} {fault : Bool} (hk : Kept z s) : Kept z (@State.readStatus s d status fault) := by
  unfold State.readStatus
  extract_lets -merge +onlyGivenNames u1
  have h2 : Kept z u1 := by
    unfold u1
    refine State.wr_kept ?_
    exact hk
  refine Kept.ite ?_ ?_
  · refine State.fencePmb_kept ?_
    exact h2
  · exact h2

theorem State.reeveReset_kept {z : State} {s : State} {r : Nat} {burst : Bool} (hk : Kept z s) : Kept z (@State.reeveReset s r burst) := by
  unfold State.reeveReset
  extract_lets -merge +onlyGivenNames u1
  refine Kept.ite ?_ ?_
  · exact hk
  · extract_lets -merge +onlyGivenNames u2
    have h3 : Kept z u2 := by
      unfold u2
      refine State.wr_kept ?_
      refine State.setEng_kept ?_
      exact hk
    extract_lets -merge +onlyGivenNames u4
    have h5 : Kept z u4 := by
      unfold u4
      refine Kept.ite ?_ ?_
      · refine State.moveSteward_kept ?_
        exact h3
      · exact h3
    extract_lets -merge +onlyGivenNames u6
    have h7 : Kept z u6 := by
      unfold u6
      with_reducible refine Kept.upd ?_ ..
      exact h5
    extract_lets -merge +onlyGivenNames u8
    have h9 : Kept z u8 := by
      unfold u8
      refine Kept.ite ?_ ?_
      · refine State.latch_kept ?_
        exact h7
      · exact h7
    refine State.stopReeve_kept ?_
    exact h9

theorem State.ckptDo_kept {z : State} {s : State} {r : Nat} {f : Nat} {b : Nat} {err : Bool} {ack : Bool} (hk : Kept z s) : Kept z (@State.ckptDo s r f b err ack).2 := by
  unfold State.ckptDo
  split
  · dsimp -zeta only
    refine State.openGen_kept ?_
    exact hk
  · exact hk
  · refine Kept.ite_snd ?_ ?_
    · exact hk
    · dsimp -zeta only
      refine State.commitGen_kept ?_
      exact hk
  · refine Kept.ite_snd ?_ ?_
    · dsimp -zeta only
      refine State.emit_kept ?_
      exact hk
    · dsimp -zeta only
      refine State.pairEvent_kept ?_
      exact hk
  · refine Kept.ite_snd ?_ ?_
    · exact hk
    · refine Kept.ite_snd ?_ ?_
      · split
        rename_i e1
        refine Kept.thruE (z := z) e1 ?_ (fun h2 => ?_)
        · refine State.fresh_kept ?_
          exact hk
        · dsimp -zeta only
          refine State.append_kept ?_
          with_reducible refine Kept.upd ?_ ..
          exact h2
      · dsimp -zeta only
        with_reducible refine Kept.upd ?_ ..
        exact hk
  · refine Kept.ite_snd ?_ ?_
    · exact hk
    · dsimp -zeta only
      refine State.writeRepairRec_kept ?_
      exact hk

theorem State.endReeveFence_kept {z : State} {s : State} {r : Nat} (hk : Kept z s) : Kept z (@State.endReeveFence s r) := by
  unfold State.endReeveFence
  refine Kept.ite ?_ ?_
  · exact hk
  · refine State.wr_kept ?_
    exact hk

theorem State.endStall_kept {z : State} {s : State} {r : Nat} {k : Nat} {rd : Option Nat} {v : Nat} {fault : Nat} (hk : Kept z s) : Kept z (@State.endStall s r k rd v fault) := by
  unfold State.endStall
  extract_lets -merge +onlyGivenNames u1
  have h2 : Kept z u1 := by
    unfold u1
    refine State.passCycles_kept ?_
    exact hk
  extract_lets -merge +onlyGivenNames u3
  extract_lets -merge +onlyGivenNames u4
  refine State.showReeve_kept ?_
  refine State.setEng_kept ?_
  exact h2

theorem State.liftMaster_kept {z : State} {s : State} {m : Nat} (hk : Kept z s) : Kept z (@State.liftMaster s m) := by
  unfold State.liftMaster
  extract_lets -merge +onlyGivenNames u1
  extract_lets -merge +onlyGivenNames u2
  have h3 : Kept z u2 := by
    unfold u2
    refine State.reportFence_kept ?_
    refine State.wr_kept ?_
    refine State.wr_kept ?_
    exact hk
  refine Kept.ite ?_ ?_
  · refine State.showReeve_kept ?_
    refine State.endReeveFence_kept ?_
    exact h3
  · exact h3

theorem State.liftReeve_kept {z : State} {s : State} {r : Nat} (hk : Kept z s) : Kept z (@State.liftReeve s r) := by
  unfold State.liftReeve
  extract_lets -merge +onlyGivenNames u1
  extract_lets -merge +onlyGivenNames u2
  have h3 : Kept z u2 := by
    unfold u2
    refine State.endReeveFence_kept ?_
    refine State.wr_kept ?_
    exact hk
  refine State.showReeve_kept ?_
  refine State.reportFence_kept ?_
  exact h3

theorem State.reeveIsBack_kept {z : State} {s : State} {r : Nat} (hk : Kept z s) : Kept z (@State.reeveIsBack s r) := by
  unfold State.reeveIsBack
  split
  · rename_i e1
    refine Kept.thruE (z := z) e1 ?_ (fun h2 => ?_)
    · refine State.takeChange_kept ?_
      exact hk
    · refine State.okOpt_kept ?_
      exact h2
  · rename_i e3
    refine Kept.thruE (z := z) e3 ?_ (fun h4 => ?_)
    · refine State.takeChange_kept ?_
      exact hk
    · exact h4

theorem execCkptLedgerReport_kept {r : Fin 4} {cycles : BitVec 32} {err : Bool} {ack : Bool} {s : State} : Keeps s (@execCkptLedgerReport r cycles err ack s) := by
  have h0 := Kept.refl s
  unfold execCkptLedgerReport
  split
  · split
    rename_i e1
    refine Kept.thruE (z := s) e1 ?_ (fun h2 => ?_)
    · refine State.ckptDo_kept ?_
      exact h0
    · extract_lets -merge +onlyGivenNames u3
      have h4 : Kept s u3 := by
        unfold u3
        refine Kept.ite ?_ ?_
        · refine State.latch_kept ?_
          exact h2
        · exact h2
      refine Keeps.next ?_
      refine State.endStall_kept ?_
      exact h4
  · refine Keeps.next ?_
    exact h0

theorem execPwrMillraceReply_kept {r : Fin 4} {cycles : BitVec 32} {s : State} : Keeps s (@execPwrMillraceReply r cycles s) := by
  have h0 := Kept.refl s
  unfold execPwrMillraceReply
  split
  · refine Keeps.ite ?_ ?_
    · refine Keeps.next ?_
      refine State.endStall_kept ?_
      exact h0
    · refine Keeps.next ?_
      refine State.endStall_kept ?_
      refine State.pwrDo_kept ?_
      exact h0
  · refine Keeps.next ?_
    exact h0

theorem execReeveAwaitWake_kept {r : Fin 4} {s : State} : Keeps s (@execReeveAwaitWake r s) := by
  have h0 := Kept.refl s
  unfold execReeveAwaitWake
  extract_lets -merge +onlyGivenNames u1
  split
  · refine Keeps.ite ?_ ?_
    · refine Keeps.next ?_
      exact h0
    · extract_lets -merge +onlyGivenNames u2
      have h3 : Kept s u2 := by
        unfold u2
        refine State.setEng_kept ?_
        exact h0
      refine Keeps.next ?_
      refine State.traceItem_kept ?_
      refine State.endStall_kept ?_
      exact h3
  · refine Keeps.next ?_
    exact h0

theorem execReeveTimerAlarm_kept {r : Fin 4} {s : State} : Keeps s (@execReeveTimerAlarm r s) := by
  have h0 := Kept.refl s
  unfold execReeveTimerAlarm
  split
  · refine Keeps.ite ?_ ?_
    · refine Keeps.next ?_
      refine State.timerEvent_kept ?_
      exact h0
    · refine Keeps.next ?_
      exact h0
  · refine Keeps.next ?_
    exact h0

theorem execReeveWatchdog_kept {r : Fin 4} {s : State} : Keeps s (@execReeveWatchdog r s) := by
  have h0 := Kept.refl s
  unfold execReeveWatchdog
  refine Keeps.ite ?_ ?_
  · refine Keeps.next ?_
    refine State.fenceReeve_kept ?_
    exact h0
  · refine Keeps.next ?_
    exact h0

theorem execRveFenceReq_kept {m : Fin 8} {r : Fin 4} {s : State} : Keeps s (@execRveFenceReq m r s) := by
  have h0 := Kept.refl s
  unfold execRveFenceReq
  refine Keeps.next ?_
  refine State.asMaster_kept ?_ ?_
  · exact h0
  · intro a1 h2
    refine State.fenceReeve_kept ?_
    exact h2

theorem execRveReset_kept {m : Fin 8} {r : Fin 4} {burst : Bool} {s : State} : Keeps s (@execRveReset m r burst s) := by
  have h0 := Kept.refl s
  unfold execRveReset
  refine Keeps.next ?_
  refine State.asMaster_kept ?_ ?_
  · exact h0
  · intro a1 h2
    refine State.reeveReset_kept ?_
    exact h2

theorem execRveResetDone_kept {r : Fin 4} {s : State} : Keeps s (@execRveResetDone r s) := by
  have h0 := Kept.refl s
  unfold execRveResetDone
  refine Keeps.ite ?_ ?_
  · refine Keeps.next ?_
    exact h0
  · extract_lets -merge +onlyGivenNames u1
    extract_lets -merge +onlyGivenNames u2
    have h3 : Kept s u2 := by
      unfold u2
      refine State.setEng_kept ?_
      exact h0
    extract_lets -merge +onlyGivenNames u4
    have h5 : Kept s u4 := by
      unfold u4
      refine State.showReeve_kept ?_
      refine State.wr_kept ?_
      exact h3
    refine Keeps.ite ?_ ?_
    · extract_lets -merge +onlyGivenNames u6
      have h7 : Kept s u6 := by
        unfold u6
        refine Kept.ite ?_ ?_
        · refine State.liftReeve_kept ?_
          exact h5
        · exact h5
      extract_lets -merge +onlyGivenNames u8
      have h9 : Kept s u8 := by
        unfold u8
        refine Kept.ite ?_ ?_
        · refine State.liftMaster_kept ?_
          exact h7
        · exact h7
      refine Keeps.next ?_
      refine State.reeveIsBack_kept ?_
      refine State.moveSteward_kept ?_
      exact h9
    · refine Keeps.next ?_
      refine State.reeveIsBack_kept ?_
      exact h5

theorem State.hang_kept {z : State} {s : State} {m : Nat} {a : Nat} {write : Bool} (hk : Kept z s) : Kept z (@State.hang s m a write) := by
  unfold State.hang
  with_reducible refine Kept.upd ?_ ..
  exact hk

theorem State.heldWord_kept {z : State} {s : State} {m : Nat} {base : Nat} {w : Nat} {n : Nat} {full : Bool} (hk : Kept z s) : Kept z (@State.heldWord s m base w n full).2 := by
  unfold State.heldWord
  split
  · exact hk
  · dsimp -zeta only
    refine Kept.ite ?_ ?_
    · with_reducible refine Kept.upd ?_ ..
      exact hk
    · exact hk

theorem State.felomRead_kept {z : State} {s : State} {m : Nat} {a : Nat} {full : Bool} (hk : Kept z s) : Kept z (@State.felomRead s m a full).2 := by
  unfold State.felomRead
  extract_lets -merge +onlyGivenNames u1
  refine Kept.ite_snd ?_ ?_
  · exact hk
  · refine Kept.ite_snd ?_ ?_
    · exact hk
    · refine Kept.ite_snd ?_ ?_
      · exact hk
      · refine Kept.ite_snd ?_ ?_
        · extract_lets -merge +onlyGivenNames u2
          dsimp -zeta only
          refine Kept.ite ?_ ?_
          · refine State.holdWords_kept ?_
            exact hk
          · exact hk
        · refine Kept.ite_snd ?_ ?_
          · refine State.heldWord_kept ?_
            exact hk
          · exact hk

theorem State.felomWord_kept {z : State} {s : State} {m a : Nat} {full : Bool} (hk : Kept z s) : Kept z (s.felomWord m a full).2 := by
  have e : s.felomWord m a full =
    ((s.felomRead m a full).1 + 2 ^ 16 * ((s.felomRead m a full).2.felomRead m (a + 2) full).1, ((s.felomRead m a full).2.felomRead m (a + 2) full).2) := rfl
  exact Kept.pair e (State.felomRead_kept (m := m) (a := a + 2) (full := full) (State.felomRead_kept hk))

theorem State.ledgerRead_kept {z : State} {s : State} {a : Nat} (hk : Kept z s) : Kept z (@State.ledgerRead s a).2 := by
  unfold State.ledgerRead
  refine Kept.ite_snd ?_ ?_
  · exact hk
  · refine Kept.ite_snd ?_ ?_
    · refine State.fresh_kept ?_
      exact hk
    · exact hk

theorem State.firstWord_kept {z : State} {s : State} {m : Nat} {base : Nat} {v : Nat} {n : Nat} {full : Bool} (hk : Kept z s) : Kept z (@State.firstWord s m base v n full).2 := by
  unfold State.firstWord
  dsimp -zeta only
  refine Kept.ite ?_ ?_
  · refine State.holdWords_kept ?_
    exact hk
  · exact hk

theorem State.wholeValue_kept {z : State} {s : State} {base : Nat} (hk : Kept z s) : Kept z (@State.wholeValue s base).2 := by
  unfold State.wholeValue
  refine Kept.ite_snd ?_ ?_
  · split
    rename_i e1
    refine Kept.thruE (z := z) e1 ?_ (fun h2 => ?_)
    · refine State.stamp_kept ?_
      exact hk
    · exact h2
  · refine Kept.ite_snd ?_ ?_
    · exact hk
    · refine Kept.ite_snd ?_ ?_
      · exact hk
      · refine Kept.ite_snd ?_ ?_
        · exact hk
        · exact hk

theorem State.multiRead_kept {z : State} {s : State} {m : Nat} {a : Nat} {base : Nat} {n : Nat} {full : Bool} (hk : Kept z s) : Kept z (@State.multiRead s m a base n full).2 := by
  unfold State.multiRead
  refine Kept.ite_snd ?_ ?_
  · split
    rename_i e1
    refine Kept.thruE (z := z) e1 ?_ (fun h2 => ?_)
    · refine State.wholeValue_kept ?_
      exact hk
    · refine Kept.ite_snd ?_ ?_
      · refine State.liveRead_kept ?_
        exact h2
      · refine State.firstWord_kept ?_
        exact h2
  · refine State.heldWord_kept ?_
    exact hk

theorem State.reeveRead_kept {z : State} {s : State} {a : Nat} (hk : Kept z s) : Kept z (@State.reeveRead s a).2 := by
  unfold State.reeveRead
  refine Kept.ite_snd ?_ ?_
  · refine Kept.ite_snd ?_ ?_
    · exact hk
    · refine State.fresh_kept ?_
      exact hk
  · refine Kept.ite_snd ?_ ?_
    · exact hk
    · exact hk

theorem State.tracePop_kept {z : State} {s : State} (hk : Kept z s) : Kept z (@State.tracePop s).2 := by
  unfold State.tracePop
  split
  · dsimp -zeta only
    extract_lets -merge +onlyGivenNames u1
    have h2 : Kept z u1 := by
      unfold u1
      refine State.setReg_kept ?_
      exact hk
    with_reducible refine Kept.upd ?_ ..
    exact h2
  · dsimp -zeta only
    refine State.latch_kept ?_
    exact hk

theorem State.readMapped_kept {z : State} {s : State} {m : Nat} {a : Nat} {full : Bool} (hk : Kept z s) : Kept z (@State.readMapped s m a full).2 := by
  unfold State.readMapped
  split
  · refine State.multiRead_kept ?_
    exact hk
  · refine Kept.ite_snd ?_ ?_
    · refine Kept.ite_snd ?_ ?_
      · refine State.felomWord_kept ?_
        exact hk
      · exact hk
    · refine Kept.ite_snd ?_ ?_
      · refine Kept.ite_snd ?_ ?_
        · refine State.tracePop_kept ?_
          exact hk
        · exact hk
      · refine Kept.ite_snd ?_ ?_
        · refine Kept.ite_snd ?_ ?_
          · split
            extract_lets -merge +onlyGivenNames u1
            have h2 : Kept z u1.2 := by
              unfold u1
              refine State.fifoRead_kept ?_
              exact hk
            refine Kept.ite_snd ?_ ?_
            · exact h2
            · exact hk
          · exact hk
        · refine Kept.ite_snd ?_ ?_
          · refine State.ledgerRead_kept ?_
            exact hk
          · refine Kept.ite_snd ?_ ?_
            · exact hk
            · refine Kept.ite_snd ?_ ?_
              · refine State.reeveRead_kept ?_
                exact hk
              · refine Kept.ite_snd ?_ ?_
                · exact hk
                · exact hk

theorem State.readAt_kept {z : State} {s : State} {m : Nat} {a : Nat} {full : Bool} (hk : Kept z s) : Kept z (@State.readAt s m a full).2.2 := by
  unfold State.readAt
  split
  · dsimp -zeta only
    refine State.denied_kept ?_
    exact hk
  · split
    · dsimp -zeta only
      refine State.latch_kept ?_
      exact hk
    · extract_lets -merge +onlyGivenNames u1
      have h2 : Kept z u1.2 := by
        unfold u1
        refine State.readMapped_kept ?_
        exact hk
      exact h2

theorem State.busRead_kept {z : State} {s : State} {m : Nat} {a : Nat} (hk : Kept z s) : Kept z (@State.busRead s m a) := by
  unfold State.busRead
  refine Kept.ite ?_ ?_
  · exact hk
  · refine Kept.ite ?_ ?_
    · refine Kept.ite ?_ ?_
      · refine State.emit_kept ?_
        exact hk
      · exact hk
    · refine Kept.ite ?_ ?_
      · refine State.hang_kept ?_
        exact hk
      · refine Kept.ite ?_ ?_
        · refine State.hang_kept ?_
          exact hk
        · split
          rename_i e1
          refine Kept.thruE2 (z := z) e1 ?_ (fun h2 => ?_)
          · refine State.readAt_kept ?_
            exact hk
          · refine State.emit_kept ?_
            exact h2

theorem State.burnField_kept {z : State} {s : State} {good : Bool} (hk : Kept z s) : Kept z (@State.burnField s good).2 := by
  unfold State.burnField
  refine Kept.ite_snd ?_ ?_
  · exact hk
  · split
    rename_i e1
    refine Kept.thruE (z := z) e1 ?_ (fun h2 => ?_)
    · refine State.fresh_kept ?_
      exact hk
    · exact h2

theorem State.gateBegin_kept {z : State} {s : State} {o : GateOp} (hk : Kept z s) : Kept z (@State.gateBegin s o) := by
  unfold State.gateBegin
  extract_lets -merge +onlyGivenNames u1
  have h2 : Kept z u1 := by
    unfold u1
    refine State.wr_kept ?_
    exact hk
  with_reducible refine Kept.upd ?_ ..
  exact h2

theorem State.gateWrite_kept {z : State} {s : State} {m : Nat} {op : Nat} {slot : Nat} {signer : Nat} {go : Bool} (hk : Kept z s) : Kept z (@State.gateWrite s m op slot signer go) := by
  unfold State.gateWrite
  refine Kept.ite ?_ ?_
  · exact hk
  · extract_lets -merge +onlyGivenNames u1
    have h2 : Kept z u1 := by
      unfold u1
      refine Kept.ite ?_ ?_
      · refine State.wr_kept ?_
        exact hk
      · exact hk
    extract_lets -merge +onlyGivenNames u3
    have h4 : Kept z u3 := by
      unfold u3
      refine State.wr_kept ?_
      exact h2
    extract_lets -merge +onlyGivenNames u5
    have h6 : Kept z u5 := by
      unfold u5
      refine Kept.ite ?_ ?_
      · refine State.wr_kept ?_
        exact h4
      · exact h4
    refine Kept.ite ?_ ?_
    · refine State.gateBegin_kept ?_
      exact h6
    · exact h6

theorem State.gateComplete_kept {z : State} {s : State} {o : GateOp} {res : Nat} (hk : Kept z s) : Kept z (@State.gateComplete s o res) := by
  unfold State.gateComplete
  split
  · exact hk
  · refine Kept.ite ?_ ?_
    · extract_lets -merge +onlyGivenNames u1
      have h2 : Kept z u1 := by
        unfold u1
        split
        · refine Kept.ite ?_ ?_
          · refine State.emit_kept ?_
            exact hk
          · exact hk
        · exact hk
      refine State.complete_kept ?_
      exact h2
    · refine State.complete_kept ?_
      exact hk

theorem State.skeyChange_kept {z : State} {s : State} {c : Change} (hk : Kept z s) : Kept z (@State.skeyChange s c) := by
  unfold State.skeyChange
  refine Kept.ite ?_ ?_
  · refine State.putChange_kept ?_
    exact hk
  · refine State.sched_kept ?_
    exact hk

theorem State.gateEffect_kept {z : State} {s : State} {o : GateOp} {readBack : Bool} {nonce : Nat} (hk : Kept z s) :
    Kept z (s.gateEffect o readBack nonce).2 := by
  unfold State.gateEffect
  extract_lets f burnt
  split
  · refine State.setFuses_kept hk ?_
    refine (Fuses.Grows.burn s.fuses o.slot (s.mbox 0 48)).trans ?_
    split
    · exact Fuses.Grows.refl _
    · exact Fuses.Grows.mark _ o.slot o.slot
  · split
    rename_i e
    have h := Kept.snd (State.burnField_kept hk) e
    have hf := State.burnField_fuses s readBack
    rw [e] at hf
    refine Kept.ite (State.setFuses_kept h ?_) h
    rw [show _ = s.fuses from hf]
    exact Fuses.Grows.revoke _ o.slot
  · exact State.setFuses_kept hk (Fuses.Grows.seal _ _)
  · split
    rename_i e
    have h := Kept.snd (State.burnField_kept hk) e
    have hf := State.burnField_fuses s readBack
    rw [e] at hf
    refine Kept.ite (State.setFuses_kept h ?_) h
    rw [show _ = s.fuses from hf]
    exact Fuses.Grows.stage _ o.slot
  · exact State.skeyChange_kept hk
  · exact State.sched_kept hk
  · exact State.skeyChange_kept hk
  · exact State.putMbox_kept (hk.upd ..)
  · have h1 : Kept z ({ s with gate := { s.gate with challenge := none } } : State) := hk.upd ..
    split
    · exact State.lantEvent_kept (State.enterTinker_kept (h1.upd ..))
    · exact State.denied_kept h1
  · exact State.debugNone_kept hk

theorem State.responseFails_kept {z : State} {s : State} (hk : Kept z s) : Kept z (@State.responseFails s) := by
  unfold State.responseFails
  extract_lets -merge +onlyGivenNames u1
  extract_lets -merge +onlyGivenNames u2
  extract_lets -merge +onlyGivenNames u3
  have h4 : Kept z u3 := by
    unfold u3
    refine State.gateEvent_kept ?_
    with_reducible refine Kept.upd ?_ ..
    exact hk
  refine Kept.ite ?_ ?_
  · refine State.gateEvent_kept ?_
    exact h4
  · exact h4

theorem State.gatePerform_kept {z : State} {s : State} {o : GateOp} {readBack : Bool} {sigOk : Bool} {digestOk : Bool} {late : Bool} {nonce : Nat} (hk : Kept z s) : Kept z (@State.gatePerform s o readBack sigOk digestOk late nonce).2 := by
  unfold State.gatePerform
  refine Kept.ite_snd ?_ ?_
  · dsimp -zeta only
    refine State.gateEvent_kept ?_
    exact hk
  · split
    · dsimp -zeta only
      refine Kept.ite ?_ ?_
      · refine State.responseFails_kept ?_
        exact hk
      · exact hk
    · refine State.gateEffect_kept ?_
      exact hk

theorem execChallenge_kept {m : Fin 8} {slot : BitVec 8} {signer : BitVec 4} {s : State} : Keeps s (@execChallenge m slot signer s) := by
  have h0 := Kept.refl s
  unfold execChallenge
  refine Keeps.next ?_
  refine State.asAny_kept ?_ ?_
  · exact h0
  · intro a1 h2
    refine State.gateWrite_kept ?_
    exact h2

theorem execDescBurn_kept {m : Fin 8} {slot : BitVec 8} {signer : BitVec 4} {s : State} : Keeps s (@execDescBurn m slot signer s) := by
  have h0 := Kept.refl s
  unfold execDescBurn
  refine Keeps.next ?_
  refine State.asAny_kept ?_ ?_
  · exact h0
  · intro a1 h2
    refine State.gateWrite_kept ?_
    exact h2

theorem execEntropyHealthFail_kept {s : State} : Keeps s (@execEntropyHealthFail s) := by
  have h0 := Kept.refl s
  unfold execEntropyHealthFail
  refine Keeps.next ?_
  refine State.gateEvent_kept ?_
  refine State.wr_kept ?_
  exact h0

theorem execEntropyHealthRecover_kept {s : State} : Keeps s (@execEntropyHealthRecover s) := by
  have h0 := Kept.refl s
  unfold execEntropyHealthRecover
  refine Keeps.next ?_
  refine State.wr_kept ?_
  exact h0

theorem execGateOpDone_kept {readBack : Bool} {sigOk : Bool} {digestOk : Bool} {late : Bool} {nonce : BitVec 256} {s : State} : Keeps s (@execGateOpDone readBack sigOk digestOk late nonce s) := by
  have h0 := Kept.refl s
  unfold execGateOpDone
  split
  · refine Keeps.next ?_
    exact h0
  · extract_lets -merge +onlyGivenNames u1
    extract_lets -merge +onlyGivenNames u2
    have h3 : Kept s u2 := by
      unfold u2
      with_reducible refine Kept.upd ?_ ..
      exact h0
    split
    rename_i e4
    refine Kept.thruE (z := s) e4 ?_ (fun h5 => ?_)
    · refine State.gatePerform_kept ?_
      exact h3
    · extract_lets -merge +onlyGivenNames u6
      have h7 : Kept s u6 := by
        unfold u6
        refine State.wr_kept ?_
        refine State.wr_kept ?_
        exact h5
      extract_lets -merge +onlyGivenNames u8
      have h9 : Kept s u8 := by
        unfold u8
        refine State.gateEvent_kept ?_
        exact h7
      extract_lets -merge +onlyGivenNames u10
      have h11 : Kept s u10 := by
        unfold u10
        refine Kept.ite ?_ ?_
        · exact h9
        · refine State.gateEvent_kept ?_
          exact h9
      extract_lets -merge +onlyGivenNames u12
      have h13 : Kept s u12 := by
        unfold u12
        refine State.reeveEvent_kept ?_
        refine State.gateComplete_kept ?_
        exact h11
      refine Keeps.next ?_
      refine Kept.ite ?_ ?_
      · exact h13
      · refine State.clearMbox_kept ?_
        exact h13

theorem execKeyBurn_kept {m : Fin 8} {slot : BitVec 8} {signer : BitVec 4} {s : State} : Keeps s (@execKeyBurn m slot signer s) := by
  have h0 := Kept.refl s
  unfold execKeyBurn
  refine Keeps.next ?_
  refine State.asAny_kept ?_ ?_
  · exact h0
  · intro a1 h2
    refine State.gateWrite_kept ?_
    exact h2

theorem execKeyRevoke_kept {m : Fin 8} {slot : BitVec 8} {signer : BitVec 4} {s : State} : Keeps s (@execKeyRevoke m slot signer s) := by
  have h0 := Kept.refl s
  unfold execKeyRevoke
  refine Keeps.next ?_
  refine State.asAny_kept ?_ ?_
  · exact h0
  · intro a1 h2
    refine State.gateWrite_kept ?_
    exact h2

theorem execLifeAdvance_kept {m : Fin 8} {slot : BitVec 8} {signer : BitVec 4} {s : State} : Keeps s (@execLifeAdvance m slot signer s) := by
  have h0 := Kept.refl s
  unfold execLifeAdvance
  refine Keeps.next ?_
  refine State.asAny_kept ?_ ?_
  · exact h0
  · intro a1 h2
    refine State.gateWrite_kept ?_
    exact h2

theorem execLock_kept {m : Fin 8} {slot : BitVec 8} {signer : BitVec 4} {s : State} : Keeps s (@execLock m slot signer s) := by
  have h0 := Kept.refl s
  unfold execLock
  refine Keeps.next ?_
  refine State.asAny_kept ?_ ?_
  · exact h0
  · intro a1 h2
    refine State.gateWrite_kept ?_
    exact h2

theorem execResponse_kept {m : Fin 8} {slot : BitVec 8} {signer : BitVec 4} {s : State} : Keeps s (@execResponse m slot signer s) := by
  have h0 := Kept.refl s
  unfold execResponse
  refine Keeps.next ?_
  refine State.asAny_kept ?_ ?_
  · exact h0
  · intro a1 h2
    refine State.gateWrite_kept ?_
    exact h2

theorem execSkeyErase_kept {m : Fin 8} {slot : BitVec 8} {signer : BitVec 4} {s : State} : Keeps s (@execSkeyErase m slot signer s) := by
  have h0 := Kept.refl s
  unfold execSkeyErase
  refine Keeps.next ?_
  refine State.asAny_kept ?_ ?_
  · exact h0
  · intro a1 h2
    refine State.gateWrite_kept ?_
    exact h2

theorem execSkeyInstall_kept {m : Fin 8} {slot : BitVec 8} {signer : BitVec 4} {s : State} : Keeps s (@execSkeyInstall m slot signer s) := by
  have h0 := Kept.refl s
  unfold execSkeyInstall
  refine Keeps.next ?_
  refine State.asAny_kept ?_ ?_
  · exact h0
  · intro a1 h2
    refine State.gateWrite_kept ?_
    exact h2

theorem execSkeyPromote_kept {m : Fin 8} {slot : BitVec 8} {signer : BitVec 4} {s : State} : Keeps s (@execSkeyPromote m slot signer s) := by
  have h0 := Kept.refl s
  unfold execSkeyPromote
  refine Keeps.next ?_
  refine State.asAny_kept ?_ ?_
  · exact h0
  · intro a1 h2
    refine State.gateWrite_kept ?_
    exact h2

theorem execUnlockLockoutEnd_kept {s : State} : Keeps s (@execUnlockLockoutEnd s) := by
  have h0 := Kept.refl s
  unfold execUnlockLockoutEnd
  refine Keeps.next ?_
  refine Kept.ite ?_ ?_
  · with_reducible refine Kept.upd ?_ ..
    exact h0
  · exact h0

theorem State.lantLevel_kept {z : State} {s : State} {level : Nat} {trace : Bool} (hk : Kept z s) : Kept z (@State.lantLevel s level trace) := by
  unfold State.lantLevel
  extract_lets -merge +onlyGivenNames u1
  have h2 : Kept z u1 := by
    unfold u1
    refine State.wr_kept ?_
    exact hk
  refine Kept.ite ?_ ?_
  · refine State.requestLevel_kept ?_
    refine State.wr_kept ?_
    exact h2
  · exact h2

theorem State.lantReset_kept {z : State} {s : State} {burst : Bool} (hk : Kept z s) : Kept z (@State.lantReset s burst) := by
  unfold State.lantReset
  extract_lets -merge +onlyGivenNames u1
  extract_lets -merge +onlyGivenNames u2
  extract_lets -merge +onlyGivenNames u3
  have h4 : Kept z u3 := by
    unfold u3
    with_reducible refine Kept.upd ?_ ..
    exact hk
  extract_lets -merge +onlyGivenNames u5
  have h6 : Kept z u5 := by
    unfold u5
    refine State.setReg_kept ?_
    exact h4
  extract_lets -merge +onlyGivenNames u7
  have h8 : Kept z u7 := by
    unfold u7
    refine Kept.ite ?_ ?_
    · refine State.latch_kept ?_
      exact h6
    · exact h6
  refine Kept.ite ?_ ?_
  · refine State.reportFence_kept ?_
    refine State.wr_kept ?_
    refine State.wr_kept ?_
    exact h8
  · exact h8

theorem State.lantSelect_kept {z : State} {s : State} {reeve : Bool} {unit : Nat} (hk : Kept z s) : Kept z (@State.lantSelect s reeve unit) := by
  unfold State.lantSelect
  refine Kept.ite ?_ ?_
  · refine State.wr_kept ?_
    refine State.wr_kept ?_
    exact hk
  · exact hk

theorem State.onTarget_kept {z : State} {s : State} {f : Engine → State → State} (hk : Kept z s) (hf : ∀ a0 a1, Kept z a1 → Kept z (f a0 a1)) : Kept z (@State.onTarget s f) := by
  unfold State.onTarget
  refine Kept.ite ?_ ?_
  · refine hf _ _ ?_
    exact hk
  · refine State.denied_kept ?_
    exact hk

theorem State.selHalt_kept {z : State} {s : State} (hk : Kept z s) : Kept z (@State.selHalt s) := by
  unfold State.selHalt
  refine State.onTarget_kept ?_ ?_
  · exact hk
  · intro a1 a2 h3
    refine Kept.ite ?_ ?_
    · exact h3
    · refine State.haltEng_kept ?_
      exact h3

theorem State.selResume_kept {z : State} {s : State} {missed : Bool} (hk : Kept z s) : Kept z (@State.selResume s missed) := by
  unfold State.selResume
  refine State.onTarget_kept ?_ ?_
  · exact hk
  · intro a1 a2 h3
    extract_lets -merge +onlyGivenNames u4
    refine Kept.ite ?_ ?_
    · exact h3
    · split
      · refine State.showReeve_kept ?_
        refine State.setEng_kept ?_
        exact h3
      · extract_lets -merge +onlyGivenNames u5
        refine State.setEng_kept ?_
        exact h3

theorem State.selStep_kept {z : State} {s : State} (hk : Kept z s) : Kept z (@State.selStep s) := by
  unfold State.selStep
  refine State.onTarget_kept ?_ ?_
  · exact hk
  · intro a1 a2 h3
    refine Kept.ite ?_ ?_
    · refine State.setEng_kept ?_
      exact h3
    · exact h3

theorem execLantHalt_kept {m : Fin 8} {reeve : Bool} {unit : BitVec 9} {s : State} : Keeps s (@execLantHalt m reeve unit s) := by
  have h0 := Kept.refl s
  unfold execLantHalt
  refine Keeps.next ?_
  refine State.asAny_kept ?_ ?_
  · exact h0
  · intro a1 h2
    refine State.selHalt_kept ?_
    refine State.lantSelect_kept ?_
    exact h2

theorem execLantLock_kept {m : Fin 8} {s : State} : Keeps s (@execLantLock m s) := by
  have h0 := Kept.refl s
  unfold execLantLock
  refine Keeps.next ?_
  refine State.asAny_kept ?_ ?_
  · exact h0
  · intro a1 h2
    refine State.debugNone_kept ?_
    exact h2

theorem execLantReset_kept {m : Fin 8} {burst : Bool} {s : State} : Keeps s (@execLantReset m burst s) := by
  have h0 := Kept.refl s
  unfold execLantReset
  refine Keeps.next ?_
  refine State.asAny_kept ?_ ?_
  · exact h0
  · intro a1 h2
    refine State.lantReset_kept ?_
    exact h2

theorem execLantResume_kept {m : Fin 8} {reeve : Bool} {unit : BitVec 9} {missed : Bool} {s : State} : Keeps s (@execLantResume m reeve unit missed s) := by
  have h0 := Kept.refl s
  unfold execLantResume
  refine Keeps.next ?_
  refine State.asAny_kept ?_ ?_
  · exact h0
  · intro a1 h2
    refine State.selResume_kept ?_
    refine State.lantSelect_kept ?_
    exact h2

theorem execLantStep_kept {m : Fin 8} {reeve : Bool} {unit : BitVec 9} {s : State} : Keeps s (@execLantStep m reeve unit s) := by
  have h0 := Kept.refl s
  unfold execLantStep
  refine Keeps.next ?_
  refine State.asAny_kept ?_ ?_
  · exact h0
  · intro a1 h2
    refine State.selStep_kept ?_
    refine State.lantSelect_kept ?_
    exact h2

theorem execLevelReqWrite_kept {m : Fin 8} {level : BitVec 2} {trace : Bool} {s : State} : Keeps s (@execLevelReqWrite m level trace s) := by
  have h0 := Kept.refl s
  unfold execLevelReqWrite
  refine Keeps.next ?_
  refine State.asAny_kept ?_ ?_
  · exact h0
  · intro a1 h2
    refine State.lantLevel_kept ?_
    exact h2

theorem State.pmbReset_kept {z : State} {s : State} {d : Nat} (hk : Kept z s) : Kept z (@State.pmbReset s d) := by
  unfold State.pmbReset
  refine Kept.ite ?_ ?_
  · exact hk
  · extract_lets -merge +onlyGivenNames u1
    have h2 : Kept z u1 := by
      unfold u1
      refine State.emit_kept ?_
      exact hk
    with_reducible refine Kept.upd ?_ ..
    exact h2

theorem State.judgeHeat_kept {z : State} {s : State} {tmax : Int} {k : Nat} (hk : Kept z s) : Kept z (@State.judgeHeat s tmax k) := by
  unfold State.judgeHeat
  extract_lets -merge +onlyGivenNames u1
  extract_lets -merge +onlyGivenNames u2
  extract_lets -merge +onlyGivenNames u3
  have h4 : Kept z u3 := by
    unfold u3
    refine Kept.ite ?_ ?_
    · refine State.millEvent_kept ?_
      refine State.wr_kept ?_
      exact hk
    · refine Kept.ite ?_ ?_
      · refine State.wr_kept ?_
        exact hk
      · exact hk
  extract_lets -merge +onlyGivenNames u5
  have h6 : Kept z u5 := by
    unfold u5
    refine State.followThrottle_kept ?_
    exact h4
  refine Kept.ite ?_ ?_
  · refine State.millEvent_kept ?_
    exact h6
  · exact h6

theorem State.showPower_kept {z : State} {s : State} {ps : List (BitVec 16)} (hk : Kept z s) : Kept z (@State.showPower s ps) := by
  unfold State.showPower
  extract_lets -merge +onlyGivenNames u1
  have h2 : Kept z u1 := by
    unfold u1
    refine Kept.foldl ?_ ?_
    · intro a3 a4 h5
      refine Kept.ite ?_ ?_
      · refine State.wr_kept ?_
        exact h5
      · exact h5
    · exact hk
  refine State.wr_kept ?_
  exact h2

theorem State.showTemps_kept {z : State} {s : State} {temps : List (BitVec 16)} (hk : Kept z s) : Kept z (@State.showTemps s temps) := by
  unfold State.showTemps
  refine Kept.foldl ?_ ?_
  · intro a1 a2 h3
    refine Kept.ite ?_ ?_
    · refine State.wr_kept ?_
      refine State.wr_kept ?_
      exact h3
    · exact h3
  · exact hk

theorem State.showVolts_kept {z : State} {s : State} {mvs : List (BitVec 16)} (hk : Kept z s) : Kept z (@State.showVolts s mvs) := by
  unfold State.showVolts
  refine Kept.foldl ?_ ?_
  · intro a1 a2 h3
    refine Kept.ite ?_ ?_
    · extract_lets -merge +onlyGivenNames u4
      have h5 : Kept z u4 := by
        unfold u4
        refine State.wr_kept ?_
        refine State.wr_kept ?_
        exact h3
      split
      · extract_lets -merge +onlyGivenNames u6
        with_reducible refine Kept.upd ?_ ..
        exact h5
      · exact h5
    · exact h3
  · exact hk

theorem State.ungate_kept {z : State} {s : State} (hk : Kept z s) : Kept z (@State.ungate s) := by
  unfold State.ungate
  extract_lets -merge +onlyGivenNames u1
  extract_lets -merge +onlyGivenNames u2
  have h3 : Kept z u2 := by
    unfold u2
    with_reducible refine Kept.upd ?_ ..
    exact hk
  refine Kept.ite ?_ ?_
  · refine Kept.iter ?_ ?_
    · intro a4 a5 h6
      extract_lets -merge +onlyGivenNames u7
      refine Kept.ite ?_ ?_
      · exact h6
      · refine State.wr_kept ?_
        exact h6
    · exact h3
  · exact h3

theorem execAvsUpdate_kept {safe : BitVec 16} {measured : BitVec 16} {ok : Bool} {s : State} : Keeps s (@execAvsUpdate safe measured ok s) := by
  have h0 := Kept.refl s
  unfold execAvsUpdate
  refine Keeps.ite ?_ ?_
  · refine Keeps.next ?_
    exact h0
  · refine Keeps.ite ?_ ?_
    · extract_lets -merge +onlyGivenNames u1
      extract_lets -merge +onlyGivenNames u2
      extract_lets -merge +onlyGivenNames u3
      have h4 : Kept s u3 := by
        unfold u3
        with_reducible refine Kept.upd ?_ ..
        exact h0
      refine Keeps.ite ?_ ?_
      · refine Keeps.next ?_
        exact h4
      · extract_lets -merge +onlyGivenNames u5
        extract_lets -merge +onlyGivenNames u6
        have h7 : Kept s u6 := by
          unfold u6
          refine State.millEvent_kept ?_
          with_reducible refine Kept.upd ?_ ..
          exact h4
        extract_lets -merge +onlyGivenNames u8
        have h9 : Kept s u8 := by
          unfold u8
          refine State.wr_kept ?_
          exact h7
        refine Keeps.next ?_
        refine Kept.foldl ?_ ?_
        · intro a10 a11 h12
          refine State.pmbSend_kept ?_
          exact h12
        · exact h9
    · extract_lets -merge +onlyGivenNames u13
      extract_lets -merge +onlyGivenNames u14
      extract_lets -merge +onlyGivenNames u15
      extract_lets -merge +onlyGivenNames u16
      extract_lets -merge +onlyGivenNames u17
      have h18 : Kept s u17 := by
        unfold u17
        with_reducible refine Kept.upd ?_ ..
        exact h0
      refine Keeps.next ?_
      refine State.emit_kept ?_
      refine State.wr_kept ?_
      refine State.wr_kept ?_
      exact h18

theorem execCapLoop_kept {s : State} : Keeps s (@execCapLoop s) := by
  have h0 := Kept.refl s
  unfold execCapLoop
  refine Keeps.ite ?_ ?_
  · refine Keeps.next ?_
    exact h0
  · refine Keeps.ite ?_ ?_
    · extract_lets -merge +onlyGivenNames u1
      extract_lets -merge +onlyGivenNames u2
      have h3 : Kept s u2 := by
        unfold u2
        with_reducible refine Kept.upd ?_ ..
        exact h0
      refine Keeps.next ?_
      refine Kept.iter ?_ ?_
      · intro a4 a5 h6
        refine State.quadFollow_kept ?_
        exact h6
      · exact h3
    · extract_lets -merge +onlyGivenNames u7
      have h8 : Kept s u7 := by
        unfold u7
        refine Kept.ite ?_ ?_
        · refine State.ungate_kept ?_
          exact h0
        · exact h0
      refine Keeps.next ?_
      with_reducible refine Kept.upd ?_ ..
      exact h8

theorem execCapViolation_kept {s : State} : Keeps s (@execCapViolation s) := by
  have h0 := Kept.refl s
  unfold execCapViolation
  refine Keeps.next ?_
  refine Kept.ite ?_ ?_
  · refine State.millEvent_kept ?_
    exact h0
  · exact h0

theorem execIoutRecalibrate_kept {powers : List (BitVec 16)} {s : State} : Keeps s (@execIoutRecalibrate powers s) := by
  have h0 := Kept.refl s
  unfold execIoutRecalibrate
  refine Keeps.next ?_
  refine State.showPower_kept ?_
  refine Kept.foldl ?_ ?_
  · intro a1 a2 h3
    refine State.pmbSend_kept ?_
    exact h3
  · exact h0

theorem execMillWakeExpiry_kept {s : State} : Keeps s (@execMillWakeExpiry s) := by
  have h0 := Kept.refl s
  unfold execMillWakeExpiry
  refine Keeps.next ?_
  refine Kept.ite ?_ ?_
  · refine State.leaveP3_kept ?_
    exact h0
  · exact h0

theorem execP3Entry_kept {s : State} : Keeps s (@execP3Entry s) := by
  have h0 := Kept.refl s
  unfold execP3Entry
  refine Keeps.ite ?_ ?_
  · extract_lets -merge +onlyGivenNames u1
    have h2 : Kept s u1 := by
      unfold u1
      refine State.debugNone_kept ?_
      refine State.commitGen_kept ?_
      refine State.openGen_kept ?_
      exact h0
    refine Keeps.next ?_
    refine State.slumber_kept ?_
    with_reducible refine Kept.upd ?_ ..
    exact h2
  · refine Keeps.next ?_
    exact h0

theorem execPgTimeout_kept {s : State} : Keeps s (@execPgTimeout s) := by
  have h0 := Kept.refl s
  unfold execPgTimeout
  split
  · refine Keeps.next ?_
    refine State.fencePmb_kept ?_
    exact h0
  · refine Keeps.next ?_
    exact h0

theorem execPmbAlert_kept {d : Fin 8} {status : BitVec 16} {fault : Bool} {s : State} : Keeps s (@execPmbAlert d status fault s) := by
  have h0 := Kept.refl s
  unfold execPmbAlert
  refine Keeps.ite ?_ ?_
  · refine Keeps.next ?_
    exact h0
  · refine Keeps.next ?_
    refine State.readStatus_kept ?_
    refine State.pmbSend_kept ?_
    refine State.millEvent_kept ?_
    exact h0

theorem execPmbFenceReq_kept {m : Fin 8} {d : Fin 8} {s : State} : Keeps s (@execPmbFenceReq m d s) := by
  have h0 := Kept.refl s
  unfold execPmbFenceReq
  refine Keeps.next ?_
  refine State.asMaster_kept ?_ ?_
  · exact h0
  · intro a1 h2
    refine State.fencePmb_kept ?_
    exact h2

theorem execPmbReset_kept {m : Fin 8} {d : Fin 8} {s : State} : Keeps s (@execPmbReset m d s) := by
  have h0 := Kept.refl s
  unfold execPmbReset
  refine Keeps.next ?_
  refine State.asMaster_kept ?_ ?_
  · exact h0
  · intro a1 h2
    refine State.pmbReset_kept ?_
    exact h2

theorem execPmbResetDone_kept {d : Fin 8} {status : BitVec 16} {clean : Bool} {s : State} : Keeps s (@execPmbResetDone d status clean s) := by
  have h0 := Kept.refl s
  unfold execPmbResetDone
  refine Keeps.ite ?_ ?_
  · extract_lets -merge +onlyGivenNames u1
    extract_lets -merge +onlyGivenNames u2
    have h3 : Kept s u2 := by
      unfold u2
      with_reducible refine Kept.upd ?_ ..
      exact h0
    extract_lets -merge +onlyGivenNames u4
    have h5 : Kept s u4 := by
      unfold u4
      refine State.wr_kept ?_
      exact h3
    refine Keeps.next ?_
    refine Kept.ite ?_ ?_
    · refine State.wr_kept ?_
      exact h5
    · exact h5
  · refine Keeps.next ?_
    exact h0

theorem execPmbusTransactionError_kept {d : Fin 8} {pec : Bool} {s : State} : Keeps s (@execPmbusTransactionError d pec s) := by
  have h0 := Kept.refl s
  unfold execPmbusTransactionError
  refine Keeps.ite ?_ ?_
  · refine Keeps.next ?_
    exact h0
  · refine Keeps.ite ?_ ?_
    · refine Keeps.next ?_
      with_reducible refine Kept.upd ?_ ..
      exact h0
    · refine Keeps.next ?_
      refine State.fencePmb_kept ?_
      with_reducible refine Kept.upd ?_ ..
      exact h0

theorem execPowerGoodPoll_kept {status : BitVec 16} {fault : Bool} {s : State} : Keeps s (@execPowerGoodPoll status fault s) := by
  have h0 := Kept.refl s
  unfold execPowerGoodPoll
  split
  · extract_lets -merge +onlyGivenNames u1
    have h2 : Kept s u1 := by
      unfold u1
      refine State.readStatus_kept ?_
      refine State.pmbSend_kept ?_
      exact h0
    refine Keeps.ite ?_ ?_
    · refine Keeps.next ?_
      exact h2
    · refine Keeps.next ?_
      refine Kept.ite ?_ ?_
      · exact h2
      · with_reducible refine Kept.upd ?_ ..
        exact h2
  · refine Keeps.next ?_
    exact h0

theorem execPowerStateReached_kept {s : State} : Keeps s (@execPowerStateReached s) := by
  have h0 := Kept.refl s
  unfold execPowerStateReached
  split
  · refine Keeps.next ?_
    exact h0
  · extract_lets -merge +onlyGivenNames u1
    have h2 : Kept s u1 := by
      unfold u1
      refine State.powerLanes_kept ?_
      exact h0
    refine Keeps.ite ?_ ?_
    · extract_lets -merge +onlyGivenNames u3
      have h4 : Kept s u3 := by
        unfold u3
        with_reducible refine Kept.upd ?_ ..
        exact h2
      refine Keeps.next ?_
      refine State.okOpt_kept ?_
      refine State.powerReached_kept ?_
      exact h4
    · refine Keeps.next ?_
      exact h2

theorem execRailSequenceStep_kept {up : BitVec 3} {mvs : List (BitVec 16)} {s : State} : Keeps s (@execRailSequenceStep up mvs s) := by
  have h0 := Kept.refl s
  unfold execRailSequenceStep
  split
  · extract_lets -merge +onlyGivenNames u1
    have h2 : Kept s u1 := by
      unfold u1
      refine State.emit_kept ?_
      refine State.emit_kept ?_
      exact h0
    extract_lets -merge +onlyGivenNames u3
    have h4 : Kept s u3 := by
      unfold u3
      refine State.emit_kept ?_
      refine State.emit_kept ?_
      exact h2
    refine Keeps.next ?_
    with_reducible refine Kept.upd ?_ ..
    exact h4
  · refine Keeps.next ?_
    refine Kept.ite ?_ ?_
    · refine State.nextDevice_kept ?_
      exact h0
    · refine State.failSequence_kept ?_
      exact h0
  · refine Keeps.next ?_
    exact h0

theorem execSensorRead_kept {temps : List (BitVec 16)} {mvs : List (BitVec 16)} {powers : List (BitVec 16)} {s : State} : Keeps s (@execSensorRead temps mvs powers s) := by
  have h0 := Kept.refl s
  unfold execSensorRead
  extract_lets -merge +onlyGivenNames u1
  have h2 : Kept s u1 := by
    unfold u1
    refine State.showTemps_kept ?_
    exact h0
  extract_lets -merge +onlyGivenNames u3
  have h4 : Kept s u3 := by
    unfold u3
    split
    · refine State.judgeHeat_kept ?_
      exact h2
    · exact h2
  extract_lets -merge +onlyGivenNames u5
  have h6 : Kept s u5 := by
    unfold u5
    refine State.showPower_kept ?_
    refine State.showVolts_kept ?_
    exact h4
  refine Keeps.ite ?_ ?_
  · refine Keeps.next ?_
    refine State.criticalFault_kept ?_
    with_reducible refine Kept.upd ?_ ..
    exact h6
  · refine Keeps.next ?_
    exact h6

theorem execThermalTrip_kept {s : State} : Keeps s (@execThermalTrip s) := by
  have h0 := Kept.refl s
  unfold execThermalTrip
  extract_lets -merge +onlyGivenNames u1
  have h2 : Kept s u1 := by
    unfold u1
    refine State.latch_kept ?_
    refine State.slumber_kept ?_
    exact h0
  refine Keeps.next ?_
  refine State.assertFault_kept ?_
  with_reducible refine Kept.upd ?_ ..
  exact h2

theorem execThermalTripRecovery_kept {s : State} : Keeps s (@execThermalTripRecovery s) := by
  have h0 := Kept.refl s
  unfold execThermalTripRecovery
  extract_lets -merge +onlyGivenNames u1
  extract_lets -merge +onlyGivenNames u2
  have h3 : Kept s u2 := by
    unfold u2
    with_reducible refine Kept.upd ?_ ..
    exact h0
  refine Keeps.next ?_
  refine Kept.ite ?_ ?_
  · with_reducible refine Kept.upd ?_ ..
    exact h3
  · exact h3

theorem State.phaseServo_kept {z : State} {s : State} {n : Nat} {target : Int} (hk : Kept z s) : Kept z (@State.phaseServo s n target) := by
  unfold State.phaseServo
  refine Kept.ite ?_ ?_
  · extract_lets -merge +onlyGivenNames u1
    have h2 : Kept z u1 := by
      unfold u1
      refine State.wr_kept ?_
      exact hk
    refine Kept.ite ?_ ?_
    · refine State.pairEvent_kept ?_
      exact h2
    · extract_lets -merge +onlyGivenNames u3
      extract_lets -merge +onlyGivenNames u4
      refine State.wr_kept ?_
      exact h2
  · refine State.wr_kept ?_
    exact hk

theorem State.twinCalibrated_kept {z : State} {s : State} {k : Nat} {pass : Bool} (hk : Kept z s) : Kept z (@State.twinCalibrated s k pass) := by
  unfold State.twinCalibrated
  refine Kept.ite ?_ ?_
  · with_reducible refine Kept.upd ?_ ..
    exact hk
  · refine Kept.ite ?_ ?_
    · refine State.fenceTwinLane_kept ?_
      with_reducible refine Kept.upd ?_ ..
      exact hk
    · with_reducible refine Kept.upd ?_ ..
      exact hk

theorem execAcqTimeout_kept {n : Fin 96} {s : State} : Keeps s (@execAcqTimeout n s) := by
  have h0 := Kept.refl s
  unfold execAcqTimeout
  refine Keeps.ite ?_ ?_
  · refine Keeps.next ?_
    refine State.laneEvent_kept ?_
    refine State.presets_kept ?_
    refine State.setRx_kept ?_
    exact h0
  · refine Keeps.next ?_
    exact h0

theorem execAdaptConverged_kept {n : Fin 96} {s : State} : Keeps s (@execAdaptConverged n s) := by
  have h0 := Kept.refl s
  unfold execAdaptConverged
  refine Keeps.ite ?_ ?_
  · extract_lets -merge +onlyGivenNames u1
    have h2 : Kept s u1 := by
      unfold u1
      refine State.setRx_kept ?_
      exact h0
    extract_lets -merge +onlyGivenNames u3
    extract_lets -merge +onlyGivenNames u4
    have h5 : Kept s u4 := by
      unfold u4
      refine State.setLane_kept ?_
      exact h2
    refine Keeps.next ?_
    refine State.laneEvent_kept ?_
    exact h5
  · refine Keeps.next ?_
    exact h0

theorem execCalStepEnd_kept {n : Fin 104} {pass : Bool} {dlyTx : BitVec 16} {dlyRx : BitVec 16} {s : State} : Keeps s (@execCalStepEnd n pass dlyTx dlyRx s) := by
  have h0 := Kept.refl s
  unfold execCalStepEnd
  extract_lets -merge +onlyGivenNames u1
  refine Keeps.ite ?_ ?_
  · refine Keeps.next ?_
    refine State.twinCalibrated_kept ?_
    exact h0
  · refine Keeps.ite ?_ ?_
    · refine Keeps.next ?_
      exact h0
    · refine Keeps.ite ?_ ?_
      · refine Keeps.next ?_
        refine State.calStepFails_kept ?_
        exact h0
      · refine Keeps.ite ?_ ?_
        · refine Keeps.next ?_
          refine State.wr_kept ?_
          refine State.wr_kept ?_
          exact h0
        · refine Keeps.ite ?_ ?_
          · refine Keeps.next ?_
            refine State.wr_kept ?_
            exact h0
          · extract_lets -merge +onlyGivenNames u2
            have h3 : Kept s u2 := by
              unfold u2
              refine State.wr_kept ?_
              refine State.wr_kept ?_
              exact h0
            extract_lets -merge +onlyGivenNames u4
            have h5 : Kept s u4 := by
              unfold u4
              refine State.wr_kept ?_
              refine State.wr_kept ?_
              exact h3
            refine Keeps.next ?_
            refine State.enterActive_kept ?_
            refine State.presets_kept ?_
            refine State.wr_kept ?_
            exact h5

theorem execCdrLock_kept {n : Fin 96} {s : State} : Keeps s (@execCdrLock n s) := by
  have h0 := Kept.refl s
  unfold execCdrLock
  refine Keeps.ite ?_ ?_
  · refine Keeps.next ?_
    refine State.setRx_kept ?_
    exact h0
  · refine Keeps.next ?_
    exact h0

theorem execDelayReplicaUpdate_kept {n : Fin 96} {dTx : BitVec 16} {dRx : BitVec 16} {s : State} : Keeps s (@execDelayReplicaUpdate n dTx dRx s) := by
  have h0 := Kept.refl s
  unfold execDelayReplicaUpdate
  refine Keeps.ite ?_ ?_
  · refine Keeps.next ?_
    refine State.bump_kept ?_
    refine State.bump_kept ?_
    exact h0
  · refine Keeps.next ?_
    exact h0

theorem execDormantWakeTrimEnd_kept {n : Fin 96} {pass : Bool} {s : State} : Keeps s (@execDormantWakeTrimEnd n pass s) := by
  have h0 := Kept.refl s
  unfold execDormantWakeTrimEnd
  extract_lets -merge +onlyGivenNames u1
  split
  · refine Keeps.ite ?_ ?_
    · refine Keeps.next ?_
      refine State.laneEvent_kept ?_
      refine State.setLane_kept ?_
      exact h0
    · refine Keeps.ite ?_ ?_
      · refine Keeps.next ?_
        refine State.setLane_kept ?_
        exact h0
      · refine Keeps.ite ?_ ?_
        · refine Keeps.next ?_
          refine State.setLane_kept ?_
          exact h0
        · refine Keeps.ite ?_ ?_
          · refine Keeps.next ?_
            refine State.guardRelease_kept ?_
            refine State.presets_kept ?_
            refine State.setLane_kept ?_
            exact h0
          · split
            · refine Keeps.next ?_
              refine State.setCoeffs_kept ?_
              refine State.setLane_kept ?_
              exact h0
            · refine Keeps.next ?_
              exact h0
  · refine Keeps.next ?_
    exact h0

theorem execDriverFault_kept {n : Fin 104} {s : State} : Keeps s (@execDriverFault n s) := by
  have h0 := Kept.refl s
  unfold execDriverFault
  refine Keeps.next ?_
  refine State.fenceSerial_kept ?_
  exact h0

theorem execEnvelopeCheck_kept {n : Fin 96} {s : State} : Keeps s (@execEnvelopeCheck n s) := by
  have h0 := Kept.refl s
  unfold execEnvelopeCheck
  refine Keeps.ite ?_ ?_
  · refine Keeps.next ?_
    exact h0
  · extract_lets -merge +onlyGivenNames u1
    extract_lets -merge +onlyGivenNames u2
    extract_lets -merge +onlyGivenNames u3
    refine Keeps.ite ?_ ?_
    · extract_lets -merge +onlyGivenNames u4
      extract_lets -merge +onlyGivenNames u5
      have h6 : Kept s u5 := by
        unfold u5
        refine State.setLane_kept ?_
        refine State.fromSnapshot_kept ?_
        exact h0
      extract_lets -merge +onlyGivenNames u7
      have h8 : Kept s u7 := by
        unfold u7
        refine State.laneEvent_kept ?_
        refine State.bumpSat_kept ?_
        exact h6
      refine Keeps.ite ?_ ?_
      · refine Keeps.next ?_
        refine State.laneEvent_kept ?_
        refine State.wr_kept ?_
        exact h8
      · refine Keeps.next ?_
        exact h8
    · refine Keeps.next ?_
      refine State.setLane_kept ?_
      exact h0

theorem execEyeScanEnd_kept {n : Fin 96} {h : BitVec 8} {v : BitVec 8} {aborted : Bool} {s : State} : Keeps s (@execEyeScanEnd n h v aborted s) := by
  have h0 := Kept.refl s
  unfold execEyeScanEnd
  refine Keeps.ite ?_ ?_
  · refine Keeps.next ?_
    exact h0
  · extract_lets -merge +onlyGivenNames u1
    extract_lets -merge +onlyGivenNames u2
    have h3 : Kept s u2 := by
      unfold u2
      refine State.setLane_kept ?_
      exact h0
    refine Keeps.ite ?_ ?_
    · refine Keeps.next ?_
      refine State.wr_kept ?_
      exact h3
    · extract_lets -merge +onlyGivenNames u4
      have h5 : Kept s u4 := by
        unfold u4
        refine State.wr_kept ?_
        refine State.wr_kept ?_
        exact h3
      refine Keeps.next ?_
      refine State.laneEvent_kept ?_
      refine State.wr_kept ?_
      exact h5

theorem execEyeScanStart_kept {m : Fin 8} {n : Fin 96} {s : State} : Keeps s (@execEyeScanStart m n s) := by
  have h0 := Kept.refl s
  unfold execEyeScanStart
  refine Keeps.next ?_
  refine State.asMaster_kept ?_ ?_
  · exact h0
  · intro a1 h2
    refine State.laneWrite_kept ?_
    exact h2

theorem execFirApply_kept {m : Fin 8} {n : Fin 96} {s : State} : Keeps s (@execFirApply m n s) := by
  have h0 := Kept.refl s
  unfold execFirApply
  refine Keeps.next ?_
  refine State.asMaster_kept ?_ ?_
  · exact h0
  · intro a1 h2
    refine State.laneWrite_kept ?_
    exact h2

theorem execGuardRelease_kept {m : Fin 8} {n : Fin 96} {s : State} : Keeps s (@execGuardRelease m n s) := by
  have h0 := Kept.refl s
  unfold execGuardRelease
  refine Keeps.next ?_
  refine State.asMaster_kept ?_ ?_
  · exact h0
  · intro a1 h2
    refine State.laneWrite_kept ?_
    exact h2

theorem execLaneFenceReq_kept {m : Fin 8} {n : Fin 96} {s : State} : Keeps s (@execLaneFenceReq m n s) := by
  have h0 := Kept.refl s
  unfold execLaneFenceReq
  refine Keeps.next ?_
  refine State.asMaster_kept ?_ ?_
  · exact h0
  · intro a1 h2
    refine State.fenceLane_kept ?_
    exact h2

theorem execLaneLoopUpdate_kept {n : Fin 96} {u : LoopUpdate} {s : State} : Keeps s (@execLaneLoopUpdate n u s) := by
  have h0 := Kept.refl s
  unfold execLaneLoopUpdate
  split
  · refine Keeps.ite ?_ ?_
    · refine Keeps.next ?_
      refine State.wr_kept ?_
      exact h0
    · refine Keeps.next ?_
      exact h0
  · refine Keeps.ite ?_ ?_
    · refine Keeps.next ?_
      refine State.wr_kept ?_
      exact h0
    · refine Keeps.next ?_
      exact h0
  · refine Keeps.ite ?_ ?_
    · refine Keeps.next ?_
      refine State.wr_kept ?_
      exact h0
    · refine Keeps.next ?_
      exact h0
  · refine Keeps.ite ?_ ?_
    · refine Keeps.next ?_
      refine State.wr_kept ?_
      exact h0
    · refine Keeps.next ?_
      exact h0
  · refine Keeps.next ?_
    refine State.phaseServo_kept ?_
    exact h0
  · refine Keeps.next ?_
    exact h0
  · refine Keeps.next ?_
    exact h0
  · refine Keeps.next ?_
    exact h0

theorem execLaneReset_kept {m : Fin 8} {n : Fin 96} {s : State} : Keeps s (@execLaneReset m n s) := by
  have h0 := Kept.refl s
  unfold execLaneReset
  refine Keeps.next ?_
  refine State.asMaster_kept ?_ ?_
  · exact h0
  · intro a1 h2
    refine State.laneReset_kept ?_
    exact h2

theorem execLaneResetDone_kept {n : Fin 96} {s : State} : Keeps s (@execLaneResetDone n s) := by
  have h0 := Kept.refl s
  unfold execLaneResetDone
  extract_lets -merge +onlyGivenNames u1
  refine Keeps.ite ?_ ?_
  · refine Keeps.next ?_
    exact h0
  · extract_lets -merge +onlyGivenNames u2
    extract_lets -merge +onlyGivenNames u3
    extract_lets -merge +onlyGivenNames u4
    have h5 : Kept s u4 := by
      unfold u4
      refine State.loadLaneDesc_kept ?_
      refine State.clearRegs_kept ?_
      exact h0
    extract_lets -merge +onlyGivenNames u6
    extract_lets -merge +onlyGivenNames u7
    have h8 : Kept s u7 := by
      unfold u7
      refine State.setLane_kept ?_
      exact h5
    extract_lets -merge +onlyGivenNames u9
    have h10 : Kept s u9 := by
      unfold u9
      refine State.wr_kept ?_
      refine State.setAlign_kept ?_
      exact h8
    refine Keeps.ite ?_ ?_
    · refine Keeps.next ?_
      refine State.wr_kept ?_
      refine State.wr_kept ?_
      refine State.setLaneState_kept ?_
      exact h10
    · refine Keeps.next ?_
      exact h10

theorem execLcPllLock_kept {q : Fin 24} {us : BitVec 16} {s : State} : Keeps s (@execLcPllLock q us s) := by
  have h0 := Kept.refl s
  unfold execLcPllLock
  extract_lets -merge +onlyGivenNames u1
  refine Keeps.ite ?_ ?_
  · extract_lets -merge +onlyGivenNames u2
    have h3 : Kept s u2 := by
      unfold u2
      refine State.latch_kept ?_
      refine State.wr_kept ?_
      refine State.wr_kept ?_
      exact h0
    refine Keeps.next ?_
    refine Kept.iter ?_ ?_
    · intro a4 a5 h6
      extract_lets -merge +onlyGivenNames u7
      refine Kept.ite ?_ ?_
      · refine State.startCal_kept ?_
        exact h6
      · refine Kept.ite ?_ ?_
        · refine State.setLane_kept ?_
          exact h6
        · exact h6
    · exact h3
  · refine Keeps.next ?_
    exact h0

theorem execLcPllLockLoss_kept {q : Fin 24} {s : State} : Keeps s (@execLcPllLockLoss q s) := by
  have h0 := Kept.refl s
  unfold execLcPllLockLoss
  refine Keeps.ite ?_ ?_
  · refine Keeps.next ?_
    refine State.latch_kept ?_
    refine State.wr_kept ?_
    exact h0
  · refine Keeps.next ?_
    exact h0

theorem execLolCfgWrite_kept {m : Fin 8} {n : Fin 96} {lolOn : BitVec 10} {lolOff : BitVec 10} {s : State} : Keeps s (@execLolCfgWrite m n lolOn lolOff s) := by
  have h0 := Kept.refl s
  unfold execLolCfgWrite
  refine Keeps.next ?_
  refine State.asMaster_kept ?_ ?_
  · exact h0
  · intro a1 h2
    refine State.pairGate_kept ?_ ?_
    · exact h2
    · intro a3 h4
      refine State.laneWrite_kept ?_
      exact h4

theorem execLolWindowEnd_kept {n : Fin 96} {ofs : BitVec 32} {pdOut : Bool} {s : State} : Keeps s (@execLolWindowEnd n ofs pdOut s) := by
  have h0 := Kept.refl s
  unfold execLolWindowEnd
  refine Keeps.ite ?_ ?_
  · refine Keeps.next ?_
    exact h0
  · extract_lets -merge +onlyGivenNames u1
    have h2 : Kept s u1 := by
      unfold u1
      refine State.wr_kept ?_
      exact h0
    extract_lets -merge +onlyGivenNames u3
    extract_lets -merge +onlyGivenNames u4
    extract_lets -merge +onlyGivenNames u5
    extract_lets -merge +onlyGivenNames u6
    extract_lets -merge +onlyGivenNames u7
    have h8 : Kept s u7 := by
      unfold u7
      refine State.setLane_kept ?_
      exact h2
    refine Keeps.ite ?_ ?_
    · refine Keeps.next ?_
      refine State.wr_kept ?_
      exact h8
    · refine Keeps.ite ?_ ?_
      · refine Keeps.ite ?_ ?_
        · refine Keeps.next ?_
          exact h8
        · extract_lets -merge +onlyGivenNames u9
          have h10 : Kept s u9 := by
            unfold u9
            refine State.countL_kept ?_
            refine State.wr_kept ?_
            exact h8
          extract_lets -merge +onlyGivenNames u11
          extract_lets -merge +onlyGivenNames u12
          have h13 : Kept s u12 := by
            unfold u12
            refine State.setLane_kept ?_
            exact h10
          extract_lets -merge +onlyGivenNames u14
          have h15 : Kept s u14 := by
            unfold u14
            refine Kept.ite ?_ ?_
            · refine State.setRx_kept ?_
              exact h13
            · exact h13
          refine Keeps.next ?_
          refine State.laneEvent_kept ?_
          refine State.qlFail_kept ?_
          exact h15
      · refine Keeps.ite ?_ ?_
        · refine Keeps.next ?_
          refine State.laneEvent_kept ?_
          refine State.wr_kept ?_
          exact h8
        · refine Keeps.next ?_
          exact h8

theorem execLosCfgWrite_kept {m : Fin 8} {n : Fin 96} {losOn : BitVec 6} {losOff : BitVec 6} {s : State} : Keeps s (@execLosCfgWrite m n losOn losOff s) := by
  have h0 := Kept.refl s
  unfold execLosCfgWrite
  refine Keeps.next ?_
  refine State.asMaster_kept ?_ ?_
  · exact h0
  · intro a1 h2
    refine State.pairGate_kept ?_ ?_
    · exact h2
    · intro a3 h4
      refine State.laneWrite_kept ?_
      exact h4

theorem execPatternGateCheck_kept {n : Fin 96} {sig : BitVec 16} {s : State} : Keeps s (@execPatternGateCheck n sig s) := by
  have h0 := Kept.refl s
  unfold execPatternGateCheck
  refine Keeps.ite ?_ ?_
  · refine Keeps.next ?_
    exact h0
  · extract_lets -merge +onlyGivenNames u1
    extract_lets -merge +onlyGivenNames u2
    extract_lets -merge +onlyGivenNames u3
    refine Keeps.ite ?_ ?_
    · extract_lets -merge +onlyGivenNames u4
      extract_lets -merge +onlyGivenNames u5
      have h6 : Kept s u5 := by
        unfold u5
        refine State.setLane_kept ?_
        exact h0
      refine Keeps.ite ?_ ?_
      · refine Keeps.next ?_
        refine State.wr_kept ?_
        exact h6
      · refine Keeps.next ?_
        exact h6
    · split
      · extract_lets -merge +onlyGivenNames u7
        have h8 : Kept s u7 := by
          unfold u7
          refine State.setLane_kept ?_
          exact h0
        refine Keeps.ite ?_ ?_
        · refine Keeps.next ?_
          refine State.wr_kept ?_
          exact h8
        · refine Keeps.next ?_
          exact h8
      · refine Keeps.next ?_
        refine State.setLane_kept ?_
        exact h0

theorem execQuadPllUnlock_kept {q : Fin 25} {s : State} : Keeps s (@execQuadPllUnlock q s) := by
  have h0 := Kept.refl s
  unfold execQuadPllUnlock
  refine Keeps.ite ?_ ?_
  · refine Keeps.next ?_
    refine Kept.iter ?_ ?_
    · intro a1 a2 h3
      refine State.fenceTwinLane_kept ?_
      exact h3
    · exact h0
  · refine Keeps.ite ?_ ?_
    · refine Keeps.next ?_
      refine Kept.iter ?_ ?_
      · intro a4 a5 h6
        refine Kept.ite ?_ ?_
        · refine State.fenceLane_kept ?_
          exact h6
        · exact h6
      · exact h0
    · refine Keeps.next ?_
      exact h0

theorem execRawLosAssert_kept {n : Fin 96} {mvpp : BitVec 16} {s : State} : Keeps s (@execRawLosAssert n mvpp s) := by
  have h0 := Kept.refl s
  unfold execRawLosAssert
  refine Keeps.ite ?_ ?_
  · extract_lets -merge +onlyGivenNames u1
    have h2 : Kept s u1 := by
      unfold u1
      refine State.countL_kept ?_
      refine State.wr_kept ?_
      exact h0
    extract_lets -merge +onlyGivenNames u3
    have h4 : Kept s u3 := by
      unfold u3
      refine Kept.ite ?_ ?_
      · refine State.wr_kept ?_
        refine State.setRx_kept ?_
        exact h2
      · exact h2
    extract_lets -merge +onlyGivenNames u5
    extract_lets -merge +onlyGivenNames u6
    have h7 : Kept s u6 := by
      unfold u6
      refine State.setLane_kept ?_
      exact h4
    refine Keeps.next ?_
    refine State.laneEvent_kept ?_
    refine State.qlFail_kept ?_
    exact h7
  · refine Keeps.next ?_
    exact h0

theorem execRawLosClear_kept {n : Fin 96} {mvpp : BitVec 16} {over10ms : Bool} {s : State} : Keeps s (@execRawLosClear n mvpp over10ms s) := by
  have h0 := Kept.refl s
  unfold execRawLosClear
  refine Keeps.ite ?_ ?_
  · extract_lets -merge +onlyGivenNames u1
    have h2 : Kept s u1 := by
      unfold u1
      refine State.laneEvent_kept ?_
      refine State.wr_kept ?_
      exact h0
    refine Keeps.ite ?_ ?_
    · extract_lets -merge +onlyGivenNames u3
      have h4 : Kept s u3 := by
        unfold u3
        refine State.setRx_kept ?_
        exact h2
      refine Keeps.ite ?_ ?_
      · refine Keeps.next ?_
        exact h4
      · refine Keeps.ite ?_ ?_
        · refine Keeps.next ?_
          refine State.fromSnapshot_kept ?_
          exact h4
        · refine Keeps.next ?_
          refine State.presets_kept ?_
          exact h4
    · refine Keeps.next ?_
      exact h2
  · refine Keeps.next ?_
    exact h0

theorem execShellParity_kept {n : Fin 104} {shared : Bool} {s : State} : Keeps s (@execShellParity n shared s) := by
  have h0 := Kept.refl s
  unfold execShellParity
  refine Keeps.next ?_
  refine State.fenceSerial_kept ?_
  refine Kept.ite ?_ ?_
  · refine State.latch_kept ?_
    exact h0
  · exact h0

theorem execSnapshotWindowEnd_kept {n : Fin 96} {errs : BitVec 64} {units : BitVec 64} {s : State} : Keeps s (@execSnapshotWindowEnd n errs units s) := by
  have h0 := Kept.refl s
  unfold execSnapshotWindowEnd
  refine Keeps.ite ?_ ?_
  · refine Keeps.next ?_
    exact h0
  · extract_lets -merge +onlyGivenNames u1
    extract_lets -merge +onlyGivenNames u2
    extract_lets -merge +onlyGivenNames u3
    refine Keeps.ite ?_ ?_
    · extract_lets -merge +onlyGivenNames u4
      have h5 : Kept s u4 := by
        unfold u4
        refine Kept.iter ?_ ?_
        · intro a6 a7 h8
          refine State.wr_kept ?_
          exact h8
        · exact h0
      extract_lets -merge +onlyGivenNames u9
      have h10 : Kept s u9 := by
        unfold u9
        refine State.setLane_kept ?_
        exact h5
      refine Keeps.next ?_
      refine State.wr_kept ?_
      refine State.wr_kept ?_
      exact h10
    · extract_lets -merge +onlyGivenNames u11
      have h12 : Kept s u11 := by
        unfold u11
        refine State.setLane_kept ?_
        exact h0
      refine Keeps.next ?_
      refine State.bumpSat_kept ?_
      exact h12

theorem execSnrUpdate_kept {n : Fin 96} {snr : BitVec 9} {lo : BitVec 7} {mid : BitVec 7} {hi : BitVec 7} {s : State} : Keeps s (@execSnrUpdate n snr lo mid hi s) := by
  have h0 := Kept.refl s
  unfold execSnrUpdate
  refine Keeps.ite ?_ ?_
  · extract_lets -merge +onlyGivenNames u1
    extract_lets -merge +onlyGivenNames u2
    have h3 : Kept s u2 := by
      unfold u2
      refine State.wr_kept ?_
      refine State.wr_kept ?_
      exact h0
    refine Keeps.next ?_
    refine State.wr_kept ?_
    refine State.wr_kept ?_
    exact h3
  · refine Keeps.next ?_
    exact h0

theorem execTransitionWindowEnd_kept {n : Fin 96} {transitions : BitVec 11} {s : State} : Keeps s (@execTransitionWindowEnd n transitions s) := by
  have h0 := Kept.refl s
  unfold execTransitionWindowEnd
  refine Keeps.ite ?_ ?_
  · refine Keeps.next ?_
    exact h0
  · extract_lets -merge +onlyGivenNames u1
    refine Keeps.ite ?_ ?_
    · extract_lets -merge +onlyGivenNames u2
      have h3 : Kept s u2 := by
        unfold u2
        refine State.setLane_kept ?_
        exact h0
      refine Keeps.ite ?_ ?_
      · refine Keeps.next ?_
        refine State.wr_kept ?_
        exact h3
      · refine Keeps.next ?_
        exact h3
    · extract_lets -merge +onlyGivenNames u4
      extract_lets -merge +onlyGivenNames u5
      have h6 : Kept s u5 := by
        unfold u5
        refine State.setLane_kept ?_
        exact h0
      refine Keeps.ite ?_ ?_
      · refine Keeps.next ?_
        refine State.wr_kept ?_
        exact h6
      · refine Keeps.next ?_
        exact h6

theorem execTxgenUnlock_kept {n : Fin 104} {s : State} : Keeps s (@execTxgenUnlock n s) := by
  have h0 := Kept.refl s
  unfold execTxgenUnlock
  extract_lets -merge +onlyGivenNames u1
  refine Keeps.ite ?_ ?_
  · refine Keeps.next ?_
    refine State.fenceTwinLane_kept ?_
    exact h0
  · refine Keeps.ite ?_ ?_
    · refine Keeps.ite ?_ ?_
      · refine Keeps.next ?_
        refine State.calStepFails_kept ?_
        exact h0
      · refine Keeps.next ?_
        exact h0
    · refine Keeps.ite ?_ ?_
      · refine Keeps.next ?_
        refine State.fenceLane_kept ?_
        refine State.wr_kept ?_
        exact h0
      · refine Keeps.next ?_
        exact h0

theorem execWakeFallback_kept {n : Fin 96} {s : State} : Keeps s (@execWakeFallback n s) := by
  have h0 := Kept.refl s
  unfold execWakeFallback
  refine Keeps.ite ?_ ?_
  · extract_lets -merge +onlyGivenNames u1
    extract_lets -merge +onlyGivenNames u2
    have h3 : Kept s u2 := by
      unfold u2
      refine State.setLane_kept ?_
      exact h0
    refine Keeps.next ?_
    refine State.laneEvent_kept ?_
    refine State.guardRelease_kept ?_
    refine State.presets_kept ?_
    refine State.setRx_kept ?_
    exact h3
  · refine Keeps.next ?_
    exact h0

end Sys2Proof.Machine
end

