-- ==== Sys2Proof/Laws/Kept05.lean ====
section
/-! SUPPORT. What the operations of BusWrite, Bus, Restore, TwinOps, CmdDevice, CmdLane, CmdNet, CmdProg, CmdTime, LiftOps, CmdUnit, Mapping keep (`Kept`): the queue as it is, the tables canonical, the fuse store one-way. -/
namespace Sys2Proof.Machine

theorem State.bellRegWrite_kept {z : State} {s : State} {m : Nat} {off : Nat} {v : Nat} (hk : Kept z s) : Kept z (@State.bellRegWrite s m off v) := by
  unfold State.bellRegWrite
  refine Kept.ite ?_ ?_
  · refine State.bellWrite_kept ?_
    exact hk
  · refine Kept.ite ?_ ?_
    · exact hk
    · extract_lets -merge +onlyGivenNames u1
      have h2 : Kept z u1 := by
        unfold u1
        refine State.latch_kept ?_
        exact hk
      refine Kept.ite ?_ ?_
      · extract_lets -merge +onlyGivenNames u3
        split
        rename_i e4
        refine Kept.thruE (z := z) e4 ?_ (fun h5 => ?_)
        · refine State.fresh_kept ?_
          exact h2
        · extract_lets -merge +onlyGivenNames u6
          have h7 : Kept z u6 := by
            unfold u6
            refine Kept.ite ?_ ?_
            · refine State.fenceDpll_kept ?_
              exact h5
            · exact h5
          refine State.bellShow_kept ?_
          refine Kept.ite ?_ ?_
          · refine State.dpllReset_kept ?_
            exact h7
          · exact h7
      · exact h2

theorem State.ledgerWrite_kept {z : State} {s : State} {m : Nat} {a : Nat} {v : Nat} (hk : Kept z s) : Kept z (@State.ledgerWrite s m a v) := by
  unfold State.ledgerWrite
  refine Kept.ite ?_ ?_
  · refine State.setWord_kept ?_
    exact hk
  · exact hk

theorem State.clearLatches_kept {z : State} {s : State} {a : Nat} {v : Nat} (hk : Kept z s) : Kept z (@State.clearLatches s a v) := by
  unfold State.clearLatches
  extract_lets -merge +onlyGivenNames u1
  refine State.setReg_kept ?_
  exact hk

theorem State.onceWrite_kept {z : State} {s : State} {m : Nat} {a : Nat} {v : Nat} (hk : Kept z s) : Kept z (@State.onceWrite s m a v) := by
  unfold State.onceWrite
  refine Kept.ite ?_ ?_
  · refine State.bump_kept ?_
    refine State.latch_kept ?_
    exact hk
  · extract_lets -merge +onlyGivenNames u1
    refine State.setReg_kept ?_
    with_reducible refine Kept.upd ?_ ..
    exact hk

theorem State.gateRegWrite_kept {z : State} {s : State} {m : Nat} {a : Nat} {v : Nat} (hk : Kept z s) : Kept z (@State.gateRegWrite s m a v) := by
  unfold State.gateRegWrite
  refine Kept.ite ?_ ?_
  · refine State.clearLatches_kept ?_
    exact hk
  · refine Kept.ite ?_ ?_
    · refine State.gateWrite_kept ?_
      exact hk
    · refine Kept.ite ?_ ?_
      · refine State.onceWrite_kept ?_
        exact hk
      · refine Kept.ite ?_ ?_
        · refine Kept.ite ?_ ?_
          · refine State.setReg_kept ?_
            exact hk
          · exact hk
        · exact hk

theorem State.grnWrite_kept {z : State} {s : State} {m : Nat} {a : Nat} {v : Nat} (hk : Kept z s) : Kept z (@State.grnWrite s m a v) := by
  unfold State.grnWrite
  refine Kept.ite ?_ ?_
  · refine State.clearLatches_kept ?_
    exact hk
  · refine Kept.ite ?_ ?_
    · extract_lets -merge +onlyGivenNames u1
      extract_lets -merge +onlyGivenNames u2
      have h3 : Kept z u2 := by
        unfold u2
        refine Kept.ite ?_ ?_
        · refine State.bankReset_kept ?_
          exact hk
        · exact hk
      refine Kept.ite ?_ ?_
      · refine State.bankFenceReq_kept ?_
        exact h3
      · exact h3
    · refine Kept.ite ?_ ?_
      · refine State.pairGate_kept ?_ ?_
        · exact hk
        · intro a4 h5
          refine State.later_kept ?_
          exact h5
      · exact hk

theorem State.doorbell_kept {z : State} {s : State} {x : Nat} {v : Nat} (hk : Kept z s) : Kept z (@State.doorbell s x v) := by
  unfold State.doorbell
  refine Kept.ite ?_ ?_
  · refine State.signal_kept ?_
    refine State.latch_kept ?_
    exact hk
  · extract_lets -merge +onlyGivenNames u1
    extract_lets -merge +onlyGivenNames u2
    have h3 : Kept z u2 := by
      unfold u2
      refine State.wr_kept ?_
      exact hk
    refine Kept.ite ?_ ?_
    · refine State.reeveEvent_kept ?_
      exact h3
    · refine Kept.ite ?_ ?_
      · with_reducible refine Kept.upd ?_ ..
        exact h3
      · exact h3

theorem State.msixWrite_kept {z : State} {s : State} {off : Nat} {v : Nat} (hk : Kept z s) : Kept z (@State.msixWrite s off v) := by
  unfold State.msixWrite
  extract_lets -merge +onlyGivenNames u1
  extract_lets -merge +onlyGivenNames u2
  have h3 : Kept z u2 := by
    unfold u2
    with_reducible refine Kept.msixTable_put ?_ _ _
    exact hk
  refine Kept.ite ?_ ?_
  · refine State.emit_kept ?_
    with_reducible refine Kept.upd ?_ ..
    exact h3
  · exact h3

theorem State.zeroRing_kept {z : State} {s : State} {x : Nat} (hk : Kept z s) : Kept z (@State.zeroRing s x) := by
  unfold State.zeroRing
  extract_lets -merge +onlyGivenNames u1
  have h2 : Kept z u1 := by
    unfold u1
    refine State.wr_kept ?_
    refine State.wr_kept ?_
    exact hk
  refine Kept.ite ?_ ?_
  · with_reducible refine Kept.upd ?_ ..
    exact h2
  · exact h2

theorem State.ringCfg_kept {z : State} {s : State} {x : Nat} {en : Bool} {lg : Nat} (hk : Kept z s) : Kept z (@State.ringCfg s x en lg) := by
  unfold State.ringCfg
  extract_lets -merge +onlyGivenNames u1
  extract_lets -merge +onlyGivenNames u2
  have h3 : Kept z u2 := by
    unfold u2
    refine Kept.ite ?_ ?_
    · refine State.wr_kept ?_
      exact hk
    · exact hk
  refine Kept.ite ?_ ?_
  · refine State.zeroRing_kept ?_
    refine State.wr_kept ?_
    refine State.wr_kept ?_
    exact h3
  · refine Kept.ite ?_ ?_
    · refine State.wr_kept ?_
      refine State.wr_kept ?_
      exact h3
    · exact h3

theorem State.hostWrite_kept {z : State} {s : State} {a : Nat} {v : Nat} (hk : Kept z s) : Kept z (@State.hostWrite s a v) := by
  unfold State.hostWrite
  refine Kept.ite ?_ ?_
  · refine State.clearLatches_kept ?_
    exact hk
  · refine Kept.ite ?_ ?_
    · refine State.msixWrite_kept ?_
      exact hk
    · refine Kept.ite ?_ ?_
      · extract_lets -merge +onlyGivenNames u1
        split
        · refine Kept.ite ?_ ?_
          · exact hk
          · refine State.writeRw_kept ?_
            exact hk
        · refine Kept.ite ?_ ?_
          · exact hk
          · refine State.writeRw_kept ?_
            exact hk
        · refine State.ringCfg_kept ?_
          exact hk
        · refine State.doorbell_kept ?_
          exact hk
        · exact hk
      · refine State.writeRw_kept ?_
        exact hk

theorem State.laneRegWrite_kept {z : State} {s : State} {m : Nat} {n : Nat} {off : Nat} {v : Nat} (hk : Kept z s) : Kept z (@State.laneRegWrite s m n off v) := by
  unfold State.laneRegWrite
  extract_lets -merge +onlyGivenNames u1
  refine Kept.ite ?_ ?_
  · extract_lets -merge +onlyGivenNames u2
    have h3 : Kept z u2 := by
      unfold u2
      refine Kept.ite ?_ ?_
      · exact hk
      · refine State.pairGate_kept ?_ ?_
        · exact hk
        · intro a4 h5
          refine State.laneWrite_kept ?_
          exact h5
    extract_lets -merge +onlyGivenNames u6
    have h7 : Kept z u6 := by
      unfold u6
      refine Kept.ite ?_ ?_
      · refine State.laneReset_kept ?_
        exact h3
      · exact h3
    refine Kept.ite ?_ ?_
    · refine State.fenceLane_kept ?_
      exact h7
    · exact h7
  · refine Kept.ite ?_ ?_
    · refine State.laneWrite_kept ?_
      exact hk
    · refine Kept.ite ?_ ?_
      · refine State.laneWrite_kept ?_
        exact hk
      · extract_lets -merge +onlyGivenNames u8
        have h9 : Kept z u8 := by
          unfold u8
          refine Kept.ite ?_ ?_
          · refine State.latch_kept ?_
            exact hk
          · exact hk
        extract_lets -merge +onlyGivenNames u10
        refine Kept.ite ?_ ?_
        · exact h9
        · refine State.laneWrite_kept ?_
          exact h9

theorem State.selWrite_kept {z : State} {s : State} {v : Nat} (hk : Kept z s) : Kept z (@State.selWrite s v) := by
  unfold State.selWrite
  extract_lets -merge +onlyGivenNames u1
  have h2 : Kept z u1 := by
    unfold u1
    refine State.lantSelect_kept ?_
    exact hk
  extract_lets -merge +onlyGivenNames u3
  have h4 : Kept z u3 := by
    unfold u3
    refine Kept.ite ?_ ?_
    · refine State.selHalt_kept ?_
      exact h2
    · exact h2
  extract_lets -merge +onlyGivenNames u5
  have h6 : Kept z u5 := by
    unfold u5
    refine Kept.ite ?_ ?_
    · refine State.selStep_kept ?_
      exact h4
    · exact h4
  refine Kept.ite ?_ ?_
  · split
    rename_i e7
    refine Kept.thruE (z := z) e7 ?_ (fun h8 => ?_)
    · refine State.fresh_kept ?_
      exact h6
    · refine State.selResume_kept ?_
      exact h8
  · exact h6

theorem State.lantWrite_kept {z : State} {s : State} {a : Nat} {v : Nat} (hk : Kept z s) : Kept z (@State.lantWrite s a v) := by
  unfold State.lantWrite
  refine Kept.ite ?_ ?_
  · extract_lets -merge +onlyGivenNames u1
    have h2 : Kept z u1 := by
      unfold u1
      refine State.lantLevel_kept ?_
      exact hk
    extract_lets -merge +onlyGivenNames u3
    have h4 : Kept z u3 := by
      unfold u3
      refine Kept.ite ?_ ?_
      · refine State.debugNone_kept ?_
        exact h2
      · exact h2
    refine Kept.ite ?_ ?_
    · refine State.lantReset_kept ?_
      exact h4
    · exact h4
  · refine Kept.ite ?_ ?_
    · refine State.selWrite_kept ?_
      exact hk
    · refine Kept.ite ?_ ?_
      · refine Kept.ite ?_ ?_
        · with_reducible refine Kept.upd ?_ ..
          exact hk
        · exact hk
      · refine Kept.ite ?_ ?_
        · refine State.clearLatches_kept ?_
          exact hk
        · refine State.writeRw_kept ?_
          exact hk

theorem State.mcfgWrite_kept {z : State} {s : State} {m : Nat} {v : Nat} (hk : Kept z s) : Kept z (@State.mcfgWrite s m v) := by
  unfold State.mcfgWrite
  extract_lets -merge +onlyGivenNames u1
  have h2 : Kept z u1 := by
    unfold u1
    refine Kept.ite ?_ ?_
    · refine State.wr_kept ?_
      exact hk
    · exact hk
  refine Kept.ite ?_ ?_
  · exact h2
  · refine State.wr_kept ?_
    exact h2

theorem State.millWrite_kept {z : State} {s : State} {a : Nat} {v : Nat} (hk : Kept z s) : Kept z (@State.millWrite s a v) := by
  unfold State.millWrite
  refine Kept.ite ?_ ?_
  · refine State.followThrottle_kept ?_
    refine State.writeRw_kept ?_
    exact hk
  · refine Kept.ite ?_ ?_
    · refine State.clearLatches_kept ?_
      exact hk
    · refine Kept.ite ?_ ?_
      · extract_lets -merge +onlyGivenNames u1
        extract_lets -merge +onlyGivenNames u2
        have h3 : Kept z u2 := by
          unfold u2
          refine Kept.ite ?_ ?_
          · refine State.fencePmb_kept ?_
            exact hk
          · exact hk
        refine Kept.ite ?_ ?_
        · refine State.pmbReset_kept ?_
          exact h3
        · exact h3
      · refine State.writeRw_kept ?_
        exact hk

theorem State.pairCtrlWrite_kept {z : State} {s : State} {v : Nat} (hk : Kept z s) : Kept z (@State.pairCtrlWrite s v) := by
  unfold State.pairCtrlWrite
  extract_lets -merge +onlyGivenNames u1
  have h2 : Kept z u1 := by
    unfold u1
    refine State.writeRw_kept ?_
    exact hk
  refine State.wr_kept ?_
  exact h2

theorem State.pairWrite_kept {z : State} {s : State} {m : Nat} {a : Nat} {v : Nat} (hk : Kept z s) : Kept z (@State.pairWrite s m a v) := by
  unfold State.pairWrite
  refine Kept.ite ?_ ?_
  · refine State.pairGate_kept ?_ ?_
    · exact hk
    · intro a1 h2
      refine State.pairCtrlWrite_kept ?_
      exact h2
  · refine Kept.ite ?_ ?_
    · refine State.clearLatches_kept ?_
      exact hk
    · exact hk

theorem State.quadWrite_kept {z : State} {s : State} {m : Nat} {q : Nat} {off : Nat} {v : Nat} (hk : Kept z s) : Kept z (@State.quadWrite s m q off v) := by
  unfold State.quadWrite
  extract_lets -merge +onlyGivenNames u1
  refine Kept.ite ?_ ?_
  · refine State.pairGate_kept ?_ ?_
    · exact hk
    · intro a2 h3
      refine State.quadFollow_kept ?_
      refine State.writeRw_kept ?_
      exact h3
  · refine Kept.ite ?_ ?_
    · extract_lets -merge +onlyGivenNames u4
      have h5 : Kept z u4 := by
        unfold u4
        refine Kept.ite ?_ ?_
        · refine State.wvrReset_kept ?_
          exact hk
        · exact hk
      refine Kept.ite ?_ ?_
      · refine State.fenceWeaver_kept ?_
        exact h5
      · exact h5
    · refine Kept.ite ?_ ?_
      · extract_lets -merge +onlyGivenNames u6
        extract_lets -merge +onlyGivenNames u7
        have h8 : Kept z u7 := by
          unfold u7
          refine Kept.ite ?_ ?_
          · refine State.threadReset_kept ?_
            exact hk
          · exact hk
        refine Kept.ite ?_ ?_
        · refine State.fenceThread_kept ?_
          exact h8
        · exact h8
      · refine Kept.ite ?_ ?_
        · extract_lets -merge +onlyGivenNames u9
          split
          · refine State.fifoWrite_kept ?_
            exact hk
          · refine State.clearLatches_kept ?_
            exact hk
          · refine Kept.ite ?_ ?_
            · refine State.fifoFlushReq_kept ?_
              exact hk
            · exact hk
          · exact hk
        · refine State.clearLatches_kept ?_
          exact hk

theorem State.liveIdx_kept {z : State} {s : State} {v : Nat} (hk : Kept z s) : Kept z (@State.liveIdx s v) := by
  unfold State.liveIdx
  refine Kept.ite ?_ ?_
  · refine State.wr_kept ?_
    exact hk
  · refine State.latch_kept ?_
    exact hk

theorem State.tallyWrite_kept {z : State} {s : State} {a : Nat} {v : Nat} (hk : Kept z s) : Kept z (@State.tallyWrite s a v) := by
  unfold State.tallyWrite
  refine Kept.ite ?_ ?_
  · refine State.clearLatches_kept ?_
    exact hk
  · refine Kept.ite ?_ ?_
    · refine State.liveIdx_kept ?_
      exact hk
    · refine Kept.ite ?_ ?_
      · refine Kept.ite ?_ ?_
        · refine State.injWrite_kept ?_
          exact hk
        · exact hk
      · refine State.writeRw_kept ?_
        exact hk

theorem State.regWriteAt_kept {z : State} {s : State} {m : Nat} {a : Nat} {v : Nat} (hk : Kept z s) : Kept z (@State.regWriteAt s m a v) := by
  unfold State.regWriteAt
  refine Kept.ite ?_ ?_
  · exact hk
  · refine Kept.ite ?_ ?_
    · refine Kept.ite ?_ ?_
      · refine State.mcfgWrite_kept ?_
        exact hk
      · refine Kept.ite ?_ ?_
        · refine State.clearLatches_kept ?_
          exact hk
        · exact hk
    · refine Kept.ite ?_ ?_
      · exact hk
      · refine Kept.ite ?_ ?_
        · refine State.hostWrite_kept ?_
          exact hk
        · refine Kept.ite ?_ ?_
          · refine State.gateRegWrite_kept ?_
            exact hk
          · refine Kept.ite ?_ ?_
            · refine State.lantWrite_kept ?_
              exact hk
            · refine Kept.ite ?_ ?_
              · refine State.millWrite_kept ?_
                exact hk
              · refine Kept.ite ?_ ?_
                · refine State.bellRegWrite_kept ?_
                  exact hk
                · refine Kept.ite ?_ ?_
                  · refine State.pairWrite_kept ?_
                    exact hk
                  · refine Kept.ite ?_ ?_
                    · refine State.clearLatches_kept ?_
                      exact hk
                    · refine Kept.ite ?_ ?_
                      · extract_lets -merge +onlyGivenNames u1
                        split
                        · extract_lets -merge +onlyGivenNames u2
                          have h3 : Kept z u2 := by
                            unfold u2
                            refine Kept.ite ?_ ?_
                            · refine State.reeveReset_kept ?_
                              exact hk
                            · exact hk
                          refine Kept.ite ?_ ?_
                          · refine State.fenceReeve_kept ?_
                            exact h3
                          · exact h3
                        · refine State.clearLatches_kept ?_
                          exact hk
                        · exact hk
                      · refine Kept.ite ?_ ?_
                        · refine State.tallyWrite_kept ?_
                          exact hk
                        · refine Kept.ite ?_ ?_
                          · refine State.laneRegWrite_kept ?_
                            exact hk
                          · refine Kept.ite ?_ ?_
                            · refine State.quadWrite_kept ?_
                              exact hk
                            · refine Kept.ite ?_ ?_
                              · refine State.grnWrite_kept ?_
                                exact hk
                              · exact hk

theorem State.weaverWrite_kept {z : State} {s : State} {m : Nat} {a : Nat} {v : Nat} (hk : Kept z s) : Kept z (@State.weaverWrite s m a v) := by
  unfold State.weaverWrite
  extract_lets -merge +onlyGivenNames u1
  extract_lets -merge +onlyGivenNames u2
  extract_lets -merge +onlyGivenNames u3
  extract_lets -merge +onlyGivenNames u4
  refine Kept.ite ?_ ?_
  · refine Kept.ite ?_ ?_
    · with_reducible refine Kept.pblk_put ?_ _ _
      exact hk
    · refine State.setWord_kept ?_
      exact hk
  · refine Kept.ite ?_ ?_
    · refine State.blockWrite_kept ?_
      exact hk
    · refine Kept.ite ?_ ?_
      · refine State.latch_kept ?_
        exact hk
      · refine State.latch_kept ?_
        exact hk

theorem State.writeMapped_kept {z : State} {s : State} {m : Nat} {a : Nat} {v : Nat} (hk : Kept z s) : Kept z (@State.writeMapped s m a v) := by
  unfold State.writeMapped
  refine Kept.ite ?_ ?_
  · refine Kept.ite ?_ ?_
    · refine State.setReg_kept ?_
      exact hk
    · exact hk
  · refine Kept.ite ?_ ?_
    · refine State.regWriteAt_kept ?_
      exact hk
    · refine Kept.ite ?_ ?_
      · refine State.ledgerWrite_kept ?_
        exact hk
      · refine Kept.ite ?_ ?_
        · refine State.weaverWrite_kept ?_
          exact hk
        · refine Kept.ite ?_ ?_
          · refine Kept.ite ?_ ?_
            · refine State.setWord_kept ?_
              exact hk
            · refine State.latch_kept ?_
              exact hk
          · refine Kept.ite ?_ ?_
            · refine State.setWord_kept ?_
              exact hk
            · refine Kept.ite ?_ ?_
              · refine State.latch_kept ?_
                exact hk
              · exact hk

theorem State.writeAt_kept {z : State} {s : State} {m : Nat} {a : Nat} {be : Nat} {v : Nat} (hk : Kept z s) : Kept z (@State.writeAt s m a be v).2 := by
  unfold State.writeAt
  extract_lets -merge +onlyGivenNames u1
  refine Kept.ite_snd ?_ ?_
  · exact hk
  · refine Kept.ite_snd ?_ ?_
    · dsimp -zeta only
      refine State.denied_kept ?_
      exact hk
    · refine Kept.ite_snd ?_ ?_
      · dsimp -zeta only
        refine State.latch_kept ?_
        exact hk
      · refine Kept.ite_snd ?_ ?_
        · dsimp -zeta only
          refine State.latch_kept ?_
          exact hk
        · refine Kept.ite_snd ?_ ?_
          · dsimp -zeta only
            refine State.writeMapped_kept ?_
            exact hk
          · refine Kept.ite_snd ?_ ?_
            · exact hk
            · refine Kept.ite_snd ?_ ?_
              · dsimp -zeta only
                refine State.latch_kept ?_
                exact hk
              · dsimp -zeta only
                refine State.latch_kept ?_
                exact hk

theorem State.busWrite_kept {z : State} {s : State} {m : Nat} {a : Nat} {be : Nat} {v : Nat} (hk : Kept z s) : Kept z (@State.busWrite s m a be v) := by
  unfold State.busWrite
  refine Kept.ite ?_ ?_
  · exact hk
  · refine Kept.ite ?_ ?_
    · exact hk
    · refine Kept.ite ?_ ?_
      · refine State.hang_kept ?_
        exact hk
      · refine Kept.ite ?_ ?_
        · refine State.hang_kept ?_
          exact hk
        · refine State.writeAt_kept ?_
          exact hk

theorem State.reeveBus_kept {z : State} {s : State} {m a : Nat} {store : Option Nat} {n : Nat} (hk : Kept z s) :
    Kept z (s.reeveBus m a store n).2.2.1 := by
  induction n generalizing s a store with
  | zero => exact hk
  | succ n ih =>
    unfold State.reeveBus
    split
    · exact State.latch_kept hk
    · split
      · exact State.hang_kept hk
      · split
        rename_i e
        refine ih ?_
        split at e
        · rename_i d
          generalize hp : s.writeAt m a 15 (d % 2 ^ 32) = p at e
          obtain ⟨f', u'⟩ := p
          cases e
          exact Kept.snd (State.writeAt_kept hk) hp
        · have h := State.readAt_kept (m := m) (a := a) (full := true) hk
          rw [e] at h; exact h

theorem State.ringReset_kept {z : State} {s : State} (hk : Kept z s) : Kept z (@State.ringReset s) := by
  unfold State.ringReset
  refine Kept.iter ?_ ?_
  · intro a1 a2 h3
    refine State.zeroRing_kept ?_
    refine State.ringCfg_kept ?_
    exact h3
  · exact hk

theorem execCommandFetch_kept {x : Fin 4} {opcode : BitVec 16} {flags : BitVec 8} {rsv : BitVec 8} {tag : BitVec 32} {s : State} : Keeps s (@execCommandFetch x opcode flags rsv tag s) := by
  have h0 := Kept.refl s
  unfold execCommandFetch
  refine Keeps.ite ?_ ?_
  · refine Keeps.next ?_
    exact h0
  · extract_lets -merge +onlyGivenNames u1
    have h2 : Kept s u1 := by
      unfold u1
      refine State.devAdvance_kept ?_
      exact h0
    extract_lets -merge +onlyGivenNames u3
    have h4 : Kept s u3 := by
      unfold u3
      with_reducible refine Kept.upd ?_ ..
      exact h2
    extract_lets -merge +onlyGivenNames u5
    refine Keeps.next ?_
    refine Kept.ite ?_ ?_
    · refine State.badArg_kept ?_
      exact h4
    · refine Kept.ite ?_ ?_
      · refine State.badArg_kept ?_
        exact h4
      · refine Kept.ite ?_ ?_
        · refine State.badArg_kept ?_
          exact h4
        · exact h4

theorem execConfigUnfenceDma_kept {s : State} : Keeps s (@execConfigUnfenceDma s) := by
  have h0 := Kept.refl s
  unfold execConfigUnfenceDma
  refine Keeps.next ?_
  refine Kept.ite ?_ ?_
  · refine State.liftMaster_kept ?_
    refine State.ringReset_kept ?_
    exact h0
  · exact h0

theorem execConfigUnfenceHost_kept {s : State} : Keeps s (@execConfigUnfenceHost s) := by
  have h0 := Kept.refl s
  unfold execConfigUnfenceHost
  refine Keeps.next ?_
  refine Kept.ite ?_ ?_
  · refine State.liftMaster_kept ?_
    exact h0
  · exact h0

theorem execDoorbellWrite_kept {m : Fin 8} {x : Fin 6} {idx : BitVec 16} {s : State} : Keeps s (@execDoorbellWrite m x idx s) := by
  have h0 := Kept.refl s
  unfold execDoorbellWrite
  refine Keeps.next ?_
  refine State.asMaster_kept ?_ ?_
  · exact h0
  · intro a1 h2
    refine State.doorbell_kept ?_
    exact h2

theorem execHostMemoryError_kept {x : Fin 6} {s : State} : Keeps s (@execHostMemoryError x s) := by
  have h0 := Kept.refl s
  unfold execHostMemoryError
  refine Keeps.ite ?_ ?_
  · refine Keeps.next ?_
    refine State.signal_kept ?_
    refine State.latch_kept ?_
    refine State.wr_kept ?_
    exact h0
  · refine Keeps.next ?_
    exact h0

theorem execMatrixWatchdogFire_kept {m : Fin 8} {s : State} : Keeps s (@execMatrixWatchdogFire m s) := by
  have h0 := Kept.refl s
  unfold execMatrixWatchdogFire
  split
  · refine Keeps.next ?_
    exact h0
  · refine Keeps.next ?_
    refine State.fenceMaster_kept ?_
    refine State.latch_kept ?_
    refine State.wr_kept ?_
    exact h0

theorem execMsixModerationTimeout_kept {v : Fin 64} {s : State} : Keeps s (@execMsixModerationTimeout v s) := by
  have h0 := Kept.refl s
  unfold execMsixModerationTimeout
  refine Keeps.ite ?_ ?_
  · refine Keeps.next ?_
    refine State.sendMsix_kept ?_
    exact h0
  · refine Keeps.next ?_
    exact h0

theorem execMultiwordCaptureRead_kept {m : Fin 8} {a : BitVec 32} {s : State} : Keeps s (@execMultiwordCaptureRead m a s) := by
  have h0 := Kept.refl s
  unfold execMultiwordCaptureRead
  refine Keeps.next ?_
  refine State.busRead_kept ?_
  exact h0

theorem execOnceFieldWrite_kept {m : Fin 8} {v : BitVec 3} {s : State} : Keeps s (@execOnceFieldWrite m v s) := by
  have h0 := Kept.refl s
  unfold execOnceFieldWrite
  refine Keeps.next ?_
  refine State.asAny_kept ?_ ?_
  · exact h0
  · intro a1 h2
    refine State.onceWrite_kept ?_
    exact h2

theorem execParamErrClear_kept {m : Fin 8} {c : Fin 96} {slot : Fin 4} {v : BitVec 32} {s : State} : Keeps s (@execParamErrClear m c slot v s) := by
  have h0 := Kept.refl s
  unfold execParamErrClear
  refine Keeps.next ?_
  refine State.busWrite_kept ?_
  exact h0

theorem execParamWordWrite_kept {m : Fin 8} {c : Fin 96} {slot : Fin 4} {w : Fin 128} {v : BitVec 32} {s : State} : Keeps s (@execParamWordWrite m c slot w v s) := by
  have h0 := Kept.refl s
  unfold execParamWordWrite
  refine Keeps.next ?_
  refine State.busWrite_kept ?_
  exact h0

theorem execReeveStallEnd_kept {r : Fin 4} {cycles : BitVec 16} {s : State} : Keeps s (@execReeveStallEnd r cycles s) := by
  have h0 := Kept.refl s
  unfold execReeveStallEnd
  extract_lets -merge +onlyGivenNames u1
  split
  · refine Keeps.ite ?_ ?_
    · refine Keeps.next ?_
      exact h0
    · split
      rename_i e2
      refine Kept.thruE3 (z := s) e2 ?_ (fun h3 => ?_)
      · refine State.reeveBus_kept ?_
        exact h0
      · refine Keeps.ite ?_ ?_
        · refine Keeps.next ?_
          exact h3
        · refine Keeps.next ?_
          refine State.endStall_kept ?_
          exact h3
  · refine Keeps.next ?_
    exact h0

theorem execRegisterWrite_kept {m : Fin 8} {a : BitVec 32} {be : BitVec 4} {v : BitVec 32} {s : State} : Keeps s (@execRegisterWrite m a be v s) := by
  have h0 := Kept.refl s
  unfold execRegisterWrite
  refine Keeps.next ?_
  refine State.busWrite_kept ?_
  exact h0

theorem execRingDisable_kept {m : Fin 8} {x : Fin 6} {lg : BitVec 4} {s : State} : Keeps s (@execRingDisable m x lg s) := by
  have h0 := Kept.refl s
  unfold execRingDisable
  refine Keeps.next ?_
  refine State.asMaster_kept ?_ ?_
  · exact h0
  · intro a1 h2
    refine State.ringCfg_kept ?_
    exact h2

theorem execRingEnable_kept {m : Fin 8} {x : Fin 6} {lg : BitVec 4} {s : State} : Keeps s (@execRingEnable m x lg s) := by
  have h0 := Kept.refl s
  unfold execRingEnable
  refine Keeps.next ?_
  refine State.asMaster_kept ?_ ?_
  · exact h0
  · intro a1 h2
    refine State.ringCfg_kept ?_
    exact h2

theorem State.loadCals_kept {z : State} {s : State} {c : Ctl} (hk : Kept z s) : Kept z (s.loadCals c) := by
  unfold State.loadCals
  refine Kept.iter (fun i u hu => ?_) (hk.cals _ (fun _ => Tab.wf_rebuild _ _))
  split
  exact State.syncCal_kept (State.setChanX_kept hu)

theorem State.loadLanes_kept {z : State} {s : State} {c : Ctl} (hk : Kept z s) : Kept z (@State.loadLanes s c) := by
  unfold State.loadLanes
  extract_lets -merge +onlyGivenNames u1
  have h2 : Kept z u1 := by
    unfold u1
    refine Kept.foldl ?_ ?_
    · intro a3 a4 h5
      refine Kept.ite ?_ ?_
      · exact h5
      · split
        · refine State.doLaneRate_kept ?_
          exact h5
        · refine State.doLaneRate_kept ?_
          exact h5
    · exact hk
  refine Kept.foldl ?_ ?_
  · intro a6 a7 h8
    refine State.later_kept ?_
    exact h8
  · exact h2

theorem State.loadProgs_kept {z : State} {s : State} {c : Ctl} (hk : Kept z s) : Kept z (s.loadProgs c) := by
  unfold State.loadProgs
  extract_lets s1 l s2
  have h1 : Kept z s1 := Kept.foldl (fun u a hu => Kept.foldl (fun v b hv => State.detachNow_kept hv) hu) hk
  have h2 : Kept z s2 := by
    refine Kept.foldl (fun u a hu => ?_) h1
    split
    · exact State.attachNow_kept hu
    · exact hu
  exact h2.pblk _ (fun _ => Tab.wf_rebuild _ _)

theorem State.loadRegs_kept {z : State} {s : State} {c : Ctl} (hk : Kept z s) : Kept z (@State.loadRegs s c) := by
  unfold State.loadRegs
  extract_lets -merge +onlyGivenNames u1
  refine Kept.foldl ?_ ?_
  · intro a2 a3 h4
    refine State.loadReg_kept ?_
    exact h4
  · exact hk

theorem State.loadCtl_kept {z : State} {s : State} {c : Ctl} (hk : Kept z s) : Kept z (s.loadCtl c) := by
  unfold State.loadCtl
  extract_lets s1 s2 s3 kept s4
  have h1 : Kept z s1 := by unfold s1; exact State.doMode_kept (State.loadRegs_kept hk)
  clear_value s1
  have h2 : Kept z s2 := by unfold s2; exact State.loadCals_kept (State.loadProgs_kept (State.loadLanes_kept h1))
  clear_value s2
  have h3 : Kept z s3 := by
    unfold s3
    exact ⟨h2.pending, fun k => { h2.tables k with flows := Tab.wf_rebuild (fun _ => none) c.flows, groups := Tab.wf_rebuild (fun _ => Group.init) c.groups }, h2.fuses⟩
  clear_value s3
  have h4 : Kept z s4 := h3.upd ..
  exact State.degradedRecompute_kept (Kept.foldl (fun u a hu => State.judgeGroup_kept hu) h4)

theorem State.restore_kept {z : State} {s : State} {r : LedgRead} (hk : Kept z s) : Kept z (@State.restore s r).1 := by
  unfold State.restore
  extract_lets -merge +onlyGivenNames u1
  have h2 : Kept z u1 := by
    unfold u1
    refine Kept.ite ?_ ?_
    · refine State.latch_kept ?_
      exact hk
    · exact hk
  extract_lets -merge +onlyGivenNames u3
  have h4 : Kept z u3 := by
    unfold u3
    refine Kept.ite ?_ ?_
    · refine State.latch_kept ?_
      exact h2
    · exact h2
  extract_lets -merge +onlyGivenNames u5
  extract_lets -merge +onlyGivenNames u6
  clear_value u6
  split
  · dsimp -zeta only
    refine State.latch_kept ?_
    exact h4
  · extract_lets -merge +onlyGivenNames u7
    have h8 : Kept z u7 := by
      unfold u7
      refine State.loadCtl_kept ?_
      exact h4
    extract_lets -merge +onlyGivenNames u9
    dsimp -zeta only
    refine Kept.foldl ?_ ?_
    · intro a10 a11 h12
      refine State.later_kept ?_
      exact h12
    · exact h8

theorem State.decideClaim_kept {z : State} {s : State} {c : Claim} (hk : Kept z s) : Kept z (@State.decideClaim s c) := by
  unfold State.decideClaim
  with_reducible refine Kept.upd ?_ ..
  exact hk

theorem State.activeLost_kept {z : State} {s : State} (hk : Kept z s) : Kept z (@State.activeLost s) := by
  unfold State.activeLost
  refine Kept.ite ?_ ?_
  · refine State.decideClaim_kept ?_
    exact hk
  · refine Kept.ite ?_ ?_
    · refine State.decideClaim_kept ?_
      exact hk
    · exact hk

theorem State.alignQueues_kept {z : State} {s : State} (hk : Kept z s) : Kept z (@State.alignQueues s) := by
  unfold State.alignQueues
  extract_lets -merge +onlyGivenNames u1
  extract_lets -merge +onlyGivenNames u2
  have h3 : Kept z u2 := by
    unfold u2
    refine Kept.foldl ?_ ?_
    · intro a4 a5 h6
      refine State.freePkt_kept ?_
      exact h6
    · exact hk
  extract_lets -merge +onlyGivenNames u7
  extract_lets -merge +onlyGivenNames u8
  extract_lets -merge +onlyGivenNames u9
  extract_lets -merge +onlyGivenNames u10
  have h11 : Kept z u10 := by
    unfold u10
    with_reducible refine Kept.upd ?_ ..
    exact h3
  refine Kept.foldl ?_ ?_
  · intro a12 a13 h14
    refine State.showHead_kept ?_
    exact h14
  · exact h11

theorem State.applyResync_kept {z : State} {s : State} (hk : Kept z s) : Kept z (@State.applyResync s) := by
  unfold State.applyResync
  extract_lets -merge +onlyGivenNames u1
  refine Kept.foldl ?_ ?_
  · intro a2 a3 h4
    extract_lets -merge +onlyGivenNames u5
    refine State.setBytes_kept ?_
    exact h4
  · exact hk

theorem State.setPairRole_kept {z : State} {s : State} {role : Nat} {take : Bool} (hk : Kept z s) : Kept z (@State.setPairRole s role take) := by
  unfold State.setPairRole
  refine State.wr_kept ?_
  refine State.wr_kept ?_
  exact hk

theorem State.enterCatchup_kept {z : State} {s : State} (hk : Kept z s) : Kept z (@State.enterCatchup s) := by
  unfold State.enterCatchup
  extract_lets -merge +onlyGivenNames u1
  have h2 : Kept z u1 := by
    unfold u1
    refine State.dropPlanned_kept ?_
    exact hk
  extract_lets -merge +onlyGivenNames u3
  extract_lets -merge +onlyGivenNames u4
  have h5 : Kept z u4 := by
    unfold u4
    refine State.wr_kept ?_
    refine State.setPairRole_kept ?_
    exact h2
  extract_lets -merge +onlyGivenNames u6
  have h7 : Kept z u6 := by
    unfold u6
    refine State.wr_kept ?_
    refine State.wr_kept ?_
    exact h5
  with_reducible refine Kept.upd ?_ ..
  exact h7

theorem State.failStage_kept {z : State} {s : State} {cause : Nat} (hk : Kept z s) : Kept z (@State.failStage s cause) := by
  unfold State.failStage
  extract_lets -merge +onlyGivenNames u1
  extract_lets -merge +onlyGivenNames u2
  extract_lets -merge +onlyGivenNames u3
  extract_lets -merge +onlyGivenNames u4
  have h5 : Kept z u4 := by
    unfold u4
    with_reducible refine Kept.upd ?_ ..
    exact hk
  refine Kept.ite ?_ ?_
  · refine State.pairEvent_kept ?_
    refine State.wr_kept ?_
    refine State.wr_kept ?_
    exact h5
  · extract_lets -merge +onlyGivenNames u6
    extract_lets -merge +onlyGivenNames u7
    extract_lets -merge +onlyGivenNames u8
    have h9 : Kept z u8 := by
      unfold u8
      with_reducible refine Kept.upd ?_ ..
      exact h5
    refine State.wr_kept ?_
    refine State.wr_kept ?_
    exact h9

theorem State.takeOver_kept {z : State} {s : State} {role : Nat} (hk : Kept z s) : Kept z (@State.takeOver s role) := by
  unfold State.takeOver
  extract_lets -merge +onlyGivenNames u1
  have h2 : Kept z u1 := by
    unfold u1
    refine Kept.ite ?_ ?_
    · refine State.toSolo_kept ?_
      exact hk
    · refine State.setPairRole_kept ?_
      exact hk
  extract_lets -merge +onlyGivenNames u3
  have h4 : Kept z u3 := by
    unfold u3
    refine State.pairEvent_kept ?_
    refine State.bump_kept ?_
    exact h2
  extract_lets -merge +onlyGivenNames u5
  extract_lets -merge +onlyGivenNames u6
  have h7 : Kept z u6 := by
    unfold u6
    with_reducible refine Kept.upd ?_ ..
    exact h4
  refine Kept.ite ?_ ?_
  · refine State.pairEvent_kept ?_
    exact h7
  · exact h7

theorem State.twinMessage_kept {z : State} {s : State} {f : State → State} (hk : Kept z s) (hf : ∀ a0, Kept z a0 → Kept z (f a0)) : Kept z (@State.twinMessage s f) := by
  unfold State.twinMessage
  refine hf _ ?_
  refine State.reeveEvent_kept ?_
  exact hk

theorem State.yieldTake_kept {z : State} {s : State} (hk : Kept z s) : Kept z (@State.yieldTake s) := by
  unfold State.yieldTake
  extract_lets -merge +onlyGivenNames u1
  have h2 : Kept z u1 := by
    unfold u1
    refine State.report_kept ?_
    refine State.latch_kept ?_
    exact hk
  refine Kept.ite ?_ ?_
  · refine State.wr_kept ?_
    exact h2
  · refine Kept.ite ?_ ?_
    · refine State.enterCatchup_kept ?_
      exact h2
    · refine State.toSolo_kept ?_
      exact h2

theorem execCheckpoint_kept {h : CmdHead} {s : State} : Keeps s (@execCheckpoint h s) := by
  have h0 := Kept.refl s
  unfold execCheckpoint
  refine Keeps.next ?_
  refine State.judge_kept ?_ ?_
  · exact h0
  · intro a1 h2
    extract_lets -merge +onlyGivenNames u3
    have h4 : Kept s u3 := by
      unfold u3
      refine State.openGen_kept ?_
      exact h2
    refine State.setLedg_kept ?_
    exact h4

theorem execDeviceQuery_kept {h : CmdHead} {s : State} : Keeps s (@execDeviceQuery h s) := by
  have h0 := Kept.refl s
  unfold execDeviceQuery
  refine Keeps.next ?_
  refine State.judge_kept ?_ ?_
  · exact h0
  · intro a1 h2
    refine State.ok_kept ?_
    exact h2

theorem execModeSet_kept {h : CmdHead} {mode : BitVec 8} {s : State} : Keeps s (@execModeSet h mode s) := by
  have h0 := Kept.refl s
  unfold execModeSet
  split
  · refine Keeps.ite ?_ ?_
    · refine Keeps.next ?_
      refine State.judge_kept ?_ ?_
      · exact h0
      · intro a1 h2
        split
        rename_i e3
        refine Kept.thruE (z := s) e3 ?_ (fun h4 => ?_)
        · refine State.fresh_kept ?_
          exact h2
        · refine State.ok_kept ?_
          exact h4
    · refine Keeps.next ?_
      refine State.judge_kept ?_ ?_
      · exact h0
      · intro a5 h6
        refine State.sched_kept ?_
        exact h6
  · refine Keeps.next ?_
    refine State.judge_kept ?_ ?_
    · exact h0
    · intro a7 h8
      dsimp -zeta only [id]
      exact h8

theorem execNop_kept {h : CmdHead} {s : State} : Keeps s (@execNop h s) := by
  have h0 := Kept.refl s
  unfold execNop
  refine Keeps.next ?_
  refine State.judge_kept ?_ ?_
  · exact h0
  · intro a1 h2
    refine State.ok_kept ?_
    exact h2

theorem execPairJoin_kept {h : CmdHead} {role : BitVec 8} {s : State} : Keeps s (@execPairJoin h role s) := by
  have h0 := Kept.refl s
  unfold execPairJoin
  refine Keeps.next ?_
  refine State.judge_kept ?_ ?_
  · exact h0
  · intro a1 h2
    with_reducible refine Kept.upd ?_ ..
    exact h2

theorem execPairLeave_kept {h : CmdHead} {s : State} : Keeps s (@execPairLeave h s) := by
  have h0 := Kept.refl s
  unfold execPairLeave
  refine Keeps.next ?_
  refine State.judgeChange_kept ?_
  exact h0

theorem execPairTake_kept {h : CmdHead} {s : State} : Keeps s (@execPairTake h s) := by
  have h0 := Kept.refl s
  unfold execPairTake
  refine Keeps.next ?_
  refine State.judge_kept ?_ ?_
  · exact h0
  · intro a1 h2
    extract_lets -merge +onlyGivenNames u3
    refine State.emit_kept ?_
    with_reducible refine Kept.upd ?_ ..
    exact h2

theorem execPowerState_kept {h : CmdHead} {state : BitVec 8} {s : State} : Keeps s (@execPowerState h state s) := by
  have h0 := Kept.refl s
  unfold execPowerState
  extract_lets -merge +onlyGivenNames u1
  refine Keeps.ite ?_ ?_
  · refine Keeps.next ?_
    refine State.judge_kept ?_ ?_
    · exact h0
    · intro a2 h3
      refine State.ok_kept ?_
      exact h3
  · refine Keeps.ite ?_ ?_
    · refine Keeps.next ?_
      refine State.judge_kept ?_ ?_
      · exact h0
      · intro a4 h5
        refine State.sched_kept ?_
        exact h5
    · refine Keeps.next ?_
      refine State.judge_kept ?_ ?_
      · exact h0
      · intro a6 h7
        refine State.doPower_kept ?_
        exact h7

theorem execLaneRate_kept {h : CmdHead} {lane : BitVec 16} {width : BitVec 8} {role : Bool} {pam4 : Bool} {rate : BitVec 64} {s : State} : Keeps s (@execLaneRate h lane width role pam4 rate s) := by
  have h0 := Kept.refl s
  unfold execLaneRate
  refine Keeps.next ?_
  refine State.judgeLane_kept ?_
  exact h0

theorem execLaneSleep_kept {h : CmdHead} {lane : BitVec 16} {target : BitVec 8} {s : State} : Keeps s (@execLaneSleep h lane target s) := by
  have h0 := Kept.refl s
  unfold execLaneSleep
  refine Keeps.ite ?_ ?_
  · refine Keeps.next ?_
    refine State.judge_kept ?_ ?_
    · exact h0
    · intro a1 h2
      dsimp -zeta only [id]
      exact h2
  · refine Keeps.next ?_
    refine State.judgeLane_kept ?_
    exact h0

theorem execLaneWake_kept {h : CmdHead} {lane : BitVec 16} {s : State} : Keeps s (@execLaneWake h lane s) := by
  have h0 := Kept.refl s
  unfold execLaneWake
  refine Keeps.next ?_
  refine State.judgeLane_kept ?_
  exact h0

theorem State.acceptSwitch_kept {z : State} {s : State} {h : CmdHead} {chans : List Nat} (hk : Kept z s) : Kept z (@State.acceptSwitch s h chans) := by
  unfold State.acceptSwitch
  extract_lets -merge +onlyGivenNames u1
  refine State.ok_kept ?_
  refine State.doSwitch_kept ?_
  refine State.append_kept ?_
  exact hk

theorem State.startRetest_kept {z : State} {s : State} {h : CmdHead} {banks : List Nat} (hk : Kept z s) : Kept z (@State.startRetest s h banks) := by
  unfold State.startRetest
  refine Kept.ite ?_ ?_
  · refine State.ok_kept ?_
    exact hk
  · refine State.later_kept ?_
    refine State.wr_kept ?_
    refine Kept.foldl ?_ ?_
    · intro a1 a2 h3
      refine State.setBank_kept ?_
      exact h3
    · exact hk

theorem State.startScan_kept {z : State} {s : State} {banks : List Nat} (hk : Kept z s) : Kept z (@State.startScan s banks) := by
  unfold State.startScan
  refine State.wr_kept ?_
  refine Kept.foldl ?_ ?_
  · intro a1 a2 h3
    refine Kept.ite ?_ ?_
    · refine State.setBank_kept ?_
      exact h3
    · exact h3
  · exact hk

theorem execCalendarCommit_kept {h : CmdHead} {mask : BitVec 96} {s : State} : Keeps s (@execCalendarCommit h mask s) := by
  have h0 := Kept.refl s
  unfold execCalendarCommit
  extract_lets -merge +onlyGivenNames u1
  refine Keeps.next ?_
  refine State.judge_kept ?_ ?_
  · exact h0
  · intro a2 h3
    refine State.acceptSwitch_kept ?_
    exact h3

theorem execCalendarStageRead_kept {h : CmdHead} {addr : BitVec 64} {len : BitVec 32} {img : List (BitVec 32)} {s : State} : Keeps s (@execCalendarStageRead h addr len img s) := by
  have h0 := Kept.refl s
  unfold execCalendarStageRead
  extract_lets -merge +onlyGivenNames u1
  refine Keeps.next ?_
  refine State.judge_kept ?_ ?_
  · exact h0
  · intro a2 h3
    refine State.ok_kept ?_
    refine Kept.foldl ?_ ?_
    · intro a4 a5 h6
      refine State.emit_kept ?_
      exact h6
    · exact h3

theorem execCalendarStageWrite_kept {h : CmdHead} {addr : BitVec 64} {len : BitVec 32} {img : List (BitVec 32)} {s : State} : Keeps s (@execCalendarStageWrite h addr len img s) := by
  have h0 := Kept.refl s
  unfold execCalendarStageWrite
  extract_lets -merge +onlyGivenNames u1
  refine Keeps.next ?_
  refine State.judgeChange_kept ?_
  exact h0

theorem execProtRequestClear_kept {h : CmdHead} {g : BitVec 16} {s : State} : Keeps s (@execProtRequestClear h g s) := by
  have h0 := Kept.refl s
  unfold execProtRequestClear
  refine Keeps.next ?_
  refine State.judgeChange_kept ?_
  exact h0

theorem execProtRequestConfig_kept {h : CmdHead} {g : BitVec 16} {trib : BitVec 16} {pChan : BitVec 8} {given : BitVec 5} {holdOff : BitVec 8} {wtr : BitVec 8} {skew : BitVec 8} {revert : Bool} {bidir : Bool} {s : State} : Keeps s (@execProtRequestConfig h g trib pChan given holdOff wtr skew revert bidir s) := by
  have h0 := Kept.refl s
  unfold execProtRequestConfig
  extract_lets -merge +onlyGivenNames u1
  extract_lets -merge +onlyGivenNames u2
  refine Keeps.next ?_
  refine State.judgeChange_kept ?_
  exact h0

theorem execProtRequestDelete_kept {h : CmdHead} {g : BitVec 16} {s : State} : Keeps s (@execProtRequestDelete h g s) := by
  have h0 := Kept.refl s
  unfold execProtRequestDelete
  refine Keeps.next ?_
  refine State.judgeChange_kept ?_
  exact h0

theorem execProtRequestFs_kept {h : CmdHead} {g : BitVec 16} {s : State} : Keeps s (@execProtRequestFs h g s) := by
  have h0 := Kept.refl s
  unfold execProtRequestFs
  refine Keeps.next ?_
  refine State.judgeChange_kept ?_
  exact h0

theorem execProtRequestLo_kept {h : CmdHead} {g : BitVec 16} {s : State} : Keeps s (@execProtRequestLo h g s) := by
  have h0 := Kept.refl s
  unfold execProtRequestLo
  refine Keeps.next ?_
  refine State.judgeChange_kept ?_
  exact h0

theorem execProtRequestMsW_kept {h : CmdHead} {g : BitVec 16} {s : State} : Keeps s (@execProtRequestMsW h g s) := by
  have h0 := Kept.refl s
  unfold execProtRequestMsW
  refine Keeps.next ?_
  refine State.judgeChange_kept ?_
  exact h0

theorem execProtRequestMsX_kept {h : CmdHead} {g : BitVec 16} {s : State} : Keeps s (@execProtRequestMsX h g s) := by
  have h0 := Kept.refl s
  unfold execProtRequestMsX
  refine Keeps.next ?_
  refine State.judgeChange_kept ?_
  exact h0

theorem execQueueCreateModify_kept {h : CmdHead} {q : BitVec 16} {express : Bool} {latePol : BitVec 2} {dlSrc : Bool} {budget : BitVec 20} {lateTol : BitVec 12} {s : State} : Keeps s (@execQueueCreateModify h q express latePol dlSrc budget lateTol s) := by
  have h0 := Kept.refl s
  unfold execQueueCreateModify
  extract_lets -merge +onlyGivenNames u1
  refine Keeps.next ?_
  refine State.judgeChange_kept ?_
  exact h0

theorem execQueueCreateQueue_kept {h : CmdHead} {q : BitVec 16} {egress : BitVec 16} {cls : BitVec 3} {express : Bool} {latePol : BitVec 2} {dlSrc : Bool} {ethEgress : Bool} {keyed : Bool} {budget : BitVec 20} {lateTol : BitVec 12} {minCells : BitVec 32} {maxCells : BitVec 32} {key : BitVec 64} {s : State} : Keeps s (@execQueueCreateQueue h q egress cls express latePol dlSrc ethEgress keyed budget lateTol minCells maxCells key s) := by
  have h0 := Kept.refl s
  unfold execQueueCreateQueue
  extract_lets -merge +onlyGivenNames u1
  refine Keeps.next ?_
  refine State.judgeChange_kept ?_
  exact h0

theorem execQueueCreateTrunk_kept {h : CmdHead} {t : BitVec 16} {s : State} : Keeps s (@execQueueCreateTrunk h t s) := by
  have h0 := Kept.refl s
  unfold execQueueCreateTrunk
  refine Keeps.next ?_
  refine State.judgeChange_kept ?_
  exact h0

theorem execQueueDeleteQueue_kept {h : CmdHead} {q : BitVec 16} {s : State} : Keeps s (@execQueueDeleteQueue h q s) := by
  have h0 := Kept.refl s
  unfold execQueueDeleteQueue
  refine Keeps.next ?_
  refine State.judgeChange_kept ?_
  exact h0

theorem execQueueDeleteTrunk_kept {h : CmdHead} {t : BitVec 16} {s : State} : Keeps s (@execQueueDeleteTrunk h t s) := by
  have h0 := Kept.refl s
  unfold execQueueDeleteTrunk
  refine Keeps.next ?_
  refine State.judgeChange_kept ?_
  exact h0

theorem execQueueFlush_kept {h : CmdHead} {q : BitVec 16} {s : State} : Keeps s (@execQueueFlush h q s) := by
  have h0 := Kept.refl s
  unfold execQueueFlush
  refine Keeps.next ?_
  refine State.judgeChange_kept ?_
  exact h0

theorem execRepairScanRetest_kept {h : CmdHead} {mask : BitVec 96} {s : State} : Keeps s (@execRepairScanRetest h mask s) := by
  have h0 := Kept.refl s
  unfold execRepairScanRetest
  extract_lets -merge +onlyGivenNames u1
  refine Keeps.next ?_
  refine State.judge_kept ?_ ?_
  · exact h0
  · intro a2 h3
    refine State.startRetest_kept ?_
    exact h3

theorem execRepairScanScan_kept {h : CmdHead} {mask : BitVec 96} {s : State} : Keeps s (@execRepairScanScan h mask s) := by
  have h0 := Kept.refl s
  unfold execRepairScanScan
  refine Keeps.next ?_
  refine State.judge_kept ?_ ?_
  · exact h0
  · intro a1 h2
    refine State.ok_kept ?_
    refine State.startScan_kept ?_
    exact h2

theorem State.acceptParams_kept {z : State} {s : State} {h : CmdHead} {c : Nat} {slot : Nat} {first : Nat} {vs : List W32} (hk : Kept z s) : Kept z (@State.acceptParams s h c slot first vs) := by
  unfold State.acceptParams
  extract_lets -merge +onlyGivenNames u1
  refine Kept.ite ?_ ?_
  · refine State.sched_kept ?_
    exact hk
  · refine State.pendParams_kept ?_
    refine State.append_kept ?_
    exact hk

theorem State.showCheck_kept {z : State} {s : State} {q : Nat} {code : Nat} {rx : Nat} {tx : Nat} {fr : Nat} (hk : Kept z s) : Kept z (@State.showCheck s q code rx tx fr) := by
  unfold State.showCheck
  extract_lets -merge +onlyGivenNames u1
  have h2 : Kept z u1 := by
    unfold u1
    refine State.wr_kept ?_
    refine State.wr_kept ?_
    exact hk
  refine State.latch_kept ?_
  refine State.wr_kept ?_
  refine State.wr_kept ?_
  exact h2

theorem State.attachAlmanac_kept {z : State} {s : State} {h : CmdHead} {c : Nat} {slot : Nat} {replace : Bool} {id : Nat} (hk : Kept z s) : Kept z (@State.attachAlmanac s h c slot replace id) := by
  unfold State.attachAlmanac
  extract_lets -merge +onlyGivenNames u1
  have h2 : Kept z u1 := by
    unfold u1
    refine State.ahead_kept ?_
    exact hk
  extract_lets -merge +onlyGivenNames u3
  extract_lets -merge +onlyGivenNames u4
  extract_lets -merge +onlyGivenNames u5
  have h6 : ∀ v0 v1, Kept z v0 → Kept z (u5 v0 v1) := by
    unfold u5
    intro a7 a8 h9
    refine Kept.ite ?_ ?_
    · refine State.showCheck_kept ?_
      exact h9
    · refine State.showCheck_kept ?_
      exact h9
  refine Kept.ite ?_ ?_
  · refine State.complete_kept ?_
    refine h6 _ _ ?_
    exact hk
  · refine Kept.ite ?_ ?_
    · refine State.complete_kept ?_
      refine h6 _ _ ?_
      exact hk
    · refine State.judge_kept ?_ ?_
      · exact hk
      · intro a10 h11
        refine State.sched_kept ?_
        refine h6 _ _ ?_
        exact h11

theorem State.rejectImage_kept {z : State} {s : State} {h : CmdHead} {code : Nat} (hk : Kept z s) : Kept z (@State.rejectImage s h code) := by
  unfold State.rejectImage
  refine State.complete_kept ?_
  exact hk

theorem State.showVerify_kept {z : State} {s : State} {q : Nat} {code : Nat} {img : List Nat} {d : Option Header} (hk : Kept z s) : Kept z (@State.showVerify s q code img d) := by
  unfold State.showVerify
  extract_lets -merge +onlyGivenNames u1
  refine State.showCheck_kept ?_
  exact hk

theorem State.attachImage_kept {z : State} {s : State} {f : Fetch} {c : Nat} {slot : Nat} {replace : Bool} {img : List Nat} {sigOk : Bool} {al : AlignKind} (hk : Kept z s) : Kept z (@State.attachImage s f c slot replace img sigOk al) := by
  unfold State.attachImage
  split
  extract_lets -merge +onlyGivenNames u1
  have h2 : Kept z u1 := by
    unfold u1
    refine State.showVerify_kept ?_
    exact hk
  extract_lets -merge +onlyGivenNames u3
  have h4 : Kept z u3 := by
    unfold u3
    refine State.ahead_kept ?_
    exact h2
  split
  · split
    · refine State.judge_kept ?_ ?_
      · exact h2
      · intro a5 h6
        dsimp -zeta only [id]
        exact h6
    · extract_lets -merge +onlyGivenNames u7
      refine State.judge_kept ?_ ?_
      · exact h2
      · intro a8 h9
        refine State.sched_kept ?_
        exact h9
  · refine State.rejectImage_kept ?_
    exact h2

theorem State.takeFetch_kept {z : State} {s : State} {h : CmdHead} (hk : Kept z s) : Kept z (@State.takeFetch s h).2 := by
  unfold State.takeFetch
  split
  · dsimp -zeta only
    with_reducible refine Kept.upd ?_ ..
    exact hk
  · exact hk

theorem State.dataFails_kept {z : State} {s : State} {h : CmdHead} (hk : Kept z s) : Kept z (@State.dataFails s h) := by
  unfold State.dataFails
  refine Kept.ite ?_ ?_
  · exact hk
  · split
    · rename_i e1
      refine Kept.thruE (z := z) e1 ?_ (fun h2 => ?_)
      · refine State.takeFetch_kept ?_
        exact hk
      · refine State.fail_kept ?_
        exact h2
    · rename_i e3
      refine Kept.thruE (z := z) e3 ?_ (fun h4 => ?_)
      · refine State.takeFetch_kept ?_
        exact hk
      · refine Kept.ite ?_ ?_
        · refine State.fail_kept ?_
          exact hk
        · exact hk

theorem State.loadReeve_kept {z : State} {s : State} {r : Nat} {img : List Nat} {d : Header} (hk : Kept z s) : Kept z (@State.loadReeve s r img d) := by
  unfold State.loadReeve
  extract_lets -merge +onlyGivenNames u1
  have h2 : Kept z u1 := by
    unfold u1
    with_reducible refine Kept.upd ?_ ..
    exact hk
  extract_lets -merge +onlyGivenNames u3
  have h4 : Kept z u3 := by
    unfold u3
    refine State.putBytes_kept ?_
    refine State.clearMem_kept ?_
    exact h2
  extract_lets -merge +onlyGivenNames u5
  have h6 : Kept z u5 := by
    unfold u5
    refine State.clearMem_kept ?_
    exact h4
  extract_lets -merge +onlyGivenNames u7
  extract_lets -merge +onlyGivenNames u8
  refine State.showReeve_kept ?_
  refine State.setEng_kept ?_
  exact h6

theorem State.reeveImage_kept {z : State} {s : State} {f : Fetch} {r : Nat} {img : List Nat} {sigOk : Bool} (hk : Kept z s) : Kept z (@State.reeveImage s f r img sigOk) := by
  unfold State.reeveImage
  split
  split
  · refine State.judge_kept ?_ ?_
    · exact hk
    · intro a1 h2
      refine State.ok_kept ?_
      refine State.loadReeve_kept ?_
      exact h2
  · refine State.rejectImage_kept ?_
    exact hk

theorem execAttach_kept {h : CmdHead} {c : BitVec 8} {slot : BitVec 8} {replace : Bool} {host : Bool} {id : BitVec 16} {addr : BitVec 64} {len : BitVec 32} {s : State} : Keeps s (@execAttach h c slot replace host id addr len s) := by
  have h0 := Kept.refl s
  unfold execAttach
  refine Keeps.ite ?_ ?_
  · extract_lets -merge +onlyGivenNames u1
    have h2 : Kept s u1 := by
      unfold u1
      refine State.ahead_kept ?_
      exact h0
    refine Keeps.next ?_
    refine State.judge_kept ?_ ?_
    · exact h0
    · intro a3 h4
      with_reducible refine Kept.upd ?_ ..
      exact h4
  · refine Keeps.next ?_
    refine State.attachAlmanac_kept ?_
    exact h0

theorem execCommandFetchTimeLimit_kept {h : CmdHead} {s : State} : Keeps s (@execCommandFetchTimeLimit h s) := by
  have h0 := Kept.refl s
  unfold execCommandFetchTimeLimit
  refine Keeps.next ?_
  refine State.dataFails_kept ?_
  exact h0

theorem execDetach_kept {h : CmdHead} {c : BitVec 8} {slot : BitVec 8} {s : State} : Keeps s (@execDetach h c slot s) := by
  have h0 := Kept.refl s
  unfold execDetach
  refine Keeps.next ?_
  refine State.judgeChange_kept ?_
  exact h0

theorem execHostDataReadFailure_kept {h : CmdHead} {s : State} : Keeps s (@execHostDataReadFailure h s) := by
  have h0 := Kept.refl s
  unfold execHostDataReadFailure
  refine Keeps.next ?_
  refine State.dataFails_kept ?_
  exact h0

theorem execImageFetchComplete_kept {h : CmdHead} {img : List (BitVec 8)} {sigOk : Bool} {al : AlignKind} {s : State} : Keeps s (@execImageFetchComplete h img sigOk al s) := by
  have h0 := Kept.refl s
  unfold execImageFetchComplete
  extract_lets -merge +onlyGivenNames u1
  split
  · rename_i e2
    refine Kept.thruE (z := s) e2 ?_ (fun h3 => ?_)
    · refine State.takeFetch_kept ?_
      exact h0
    · refine Keeps.ite ?_ ?_
      · refine Keeps.next ?_
        exact h0
      · split
        · refine Keeps.next ?_
          refine State.attachImage_kept ?_
          exact h3
        · refine Keeps.next ?_
          refine State.reeveImage_kept ?_
          exact h3
  · rename_i e4
    refine Kept.thruE (z := s) e4 ?_ (fun h5 => ?_)
    · refine State.takeFetch_kept ?_
      exact h0
    · refine Keeps.next ?_
      exact h0

theorem execParamWrite_kept {h : CmdHead} {c : BitVec 8} {slot : BitVec 8} {first : BitVec 8} {vs : List (BitVec 32)} {s : State} : Keeps s (@execParamWrite h c slot first vs s) := by
  have h0 := Kept.refl s
  unfold execParamWrite
  refine Keeps.next ?_
  refine State.judge_kept ?_ ?_
  · exact h0
  · intro a1 h2
    refine State.acceptParams_kept ?_
    exact h2

theorem execReeveLoad_kept {h : CmdHead} {r : BitVec 8} {addr : BitVec 64} {len : BitVec 32} {s : State} : Keeps s (@execReeveLoad h r addr len s) := by
  have h0 := Kept.refl s
  unfold execReeveLoad
  refine Keeps.next ?_
  refine State.judge_kept ?_ ?_
  · exact h0
  · intro a1 h2
    with_reducible refine Kept.upd ?_ ..
    exact h2

theorem execReeveLoadReturn_kept {h : CmdHead} {r : BitVec 8} {s : State} : Keeps s (@execReeveLoadReturn h r s) := by
  have h0 := Kept.refl s
  unfold execReeveLoadReturn
  refine Keeps.next ?_
  refine State.judge_kept ?_ ?_
  · exact h0
  · intro a1 h2
    refine State.later_kept ?_
    refine State.reeveReset_kept ?_
    exact h2

theorem State.jumpTime_kept {z : State} {s : State} {by_ : Int} (hk : Kept z s) : Kept z (@State.jumpTime s by_) := by
  unfold State.jumpTime
  extract_lets -merge +onlyGivenNames u1
  split
  rename_i e2
  refine Kept.thruE (z := z) e2 ?_ (fun h3 => ?_)
  · refine State.fresh_kept ?_
    exact hk
  · with_reducible refine Kept.upd ?_ ..
    exact h3

theorem execPhaseStepFrequency_kept {h : CmdHead} {amount : BitVec 64} {s : State} : Keeps s (@execPhaseStepFrequency h amount s) := by
  have h0 := Kept.refl s
  unfold execPhaseStepFrequency
  refine Keeps.next ?_
  refine State.judge_kept ?_ ?_
  · exact h0
  · intro a1 h2
    refine State.ok_kept ?_
    with_reducible refine Kept.upd ?_ ..
    exact h2

theorem execPhaseStepJump_kept {h : CmdHead} {amount : BitVec 64} {s : State} : Keeps s (@execPhaseStepJump h amount s) := by
  have h0 := Kept.refl s
  unfold execPhaseStepJump
  refine Keeps.next ?_
  refine State.judge_kept ?_ ?_
  · exact h0
  · intro a1 h2
    refine State.ok_kept ?_
    refine State.jumpTime_kept ?_
    exact h2

theorem execPhaseStepSlew_kept {h : CmdHead} {amount : BitVec 64} {rate : BitVec 32} {s : State} : Keeps s (@execPhaseStepSlew h amount rate s) := by
  have h0 := Kept.refl s
  unfold execPhaseStepSlew
  refine Keeps.next ?_
  refine State.judge_kept ?_ ?_
  · exact h0
  · intro a1 h2
    with_reducible refine Kept.upd ?_ ..
    exact h2

theorem execRefConfig_kept {h : CmdHead} {writes : List (BitVec 32 × BitVec 32)} {s : State} : Keeps s (@execRefConfig h writes s) := by
  have h0 := Kept.refl s
  unfold execRefConfig
  refine Keeps.next ?_
  refine State.judgeChange_kept ?_
  exact h0

theorem execRegConfig_kept {h : CmdHead} {writes : List (BitVec 32 × BitVec 32)} {s : State} : Keeps s (@execRegConfig h writes s) := by
  have h0 := Kept.refl s
  unfold execRegConfig
  refine Keeps.next ?_
  refine State.judgeChange_kept ?_
  exact h0

theorem execTimeSet_kept {h : CmdHead} {sec : BitVec 48} {s : State} : Keeps s (@execTimeSet h sec s) := by
  have h0 := Kept.refl s
  unfold execTimeSet
  refine Keeps.next ?_
  refine State.judge_kept ?_ ?_
  · exact h0
  · intro a1 h2
    with_reducible refine Kept.upd ?_ ..
    exact h2

theorem State.liftDpll_kept {z : State} {s : State} {d : Nat} (hk : Kept z s) : Kept z (@State.liftDpll s d) := by
  unfold State.liftDpll
  extract_lets -merge +onlyGivenNames u1
  extract_lets -merge +onlyGivenNames u2
  have h3 : Kept z u2 := by
    unfold u2
    refine State.wr_kept ?_
    refine State.wr_kept ?_
    refine State.wr_kept ?_
    exact hk
  extract_lets -merge +onlyGivenNames u4
  have h5 : Kept z u4 := by
    unfold u4
    refine State.wr_kept ?_
    refine State.wr_kept ?_
    exact h3
  refine State.bellShow_kept ?_
  refine State.reportFence_kept ?_
  exact h5

theorem State.liftLane_kept {z : State} {s : State} {n : Nat} (hk : Kept z s) : Kept z (@State.liftLane s n) := by
  unfold State.liftLane
  extract_lets -merge +onlyGivenNames u1
  extract_lets -merge +onlyGivenNames u2
  extract_lets -merge +onlyGivenNames u3
  extract_lets -merge +onlyGivenNames u4
  have h5 : Kept z u4 := by
    unfold u4
    refine State.setLane_kept ?_
    exact hk
  extract_lets -merge +onlyGivenNames u6
  have h7 : Kept z u6 := by
    unfold u6
    refine State.wr_kept ?_
    refine State.wr_kept ?_
    refine State.wr_kept ?_
    exact h5
  extract_lets -merge +onlyGivenNames u8
  have h9 : Kept z u8 := by
    unfold u8
    refine State.quadFollow_kept ?_
    refine State.reportFence_kept ?_
    refine State.setLaneState_kept ?_
    exact h7
  refine Kept.iter ?_ ?_
  · intro a10 a11 h12
    extract_lets -merge +onlyGivenNames u13
    extract_lets -merge +onlyGivenNames u14
    have h15 : Kept z u14 := by
      unfold u14
      refine Kept.ite ?_ ?_
      · refine State.reportFence_kept ?_
        exact h12
      · exact h12
    refine State.refreshChan_kept ?_
    exact h15
  · exact h9

theorem State.liftPmb_kept {z : State} {s : State} {d : Nat} (hk : Kept z s) : Kept z (@State.liftPmb s d) := by
  unfold State.liftPmb
  extract_lets -merge +onlyGivenNames u1
  refine State.reportFence_kept ?_
  refine State.wr_kept ?_
  refine State.wr_kept ?_
  exact hk

theorem State.liftTwinLane_kept {z : State} {s : State} {k : Nat} (hk : Kept z s) : Kept z (@State.liftTwinLane s k) := by
  unfold State.liftTwinLane
  extract_lets -merge +onlyGivenNames u1
  extract_lets -merge +onlyGivenNames u2
  extract_lets -merge +onlyGivenNames u3
  have h4 : Kept z u3 := by
    unfold u3
    with_reducible refine Kept.upd ?_ ..
    exact hk
  refine State.reportFence_kept ?_
  refine State.wr_kept ?_
  exact h4

theorem State.liftNow_kept {z : State} {s : State} {kind : Nat} {u : Nat} (hk : Kept z s) : Kept z (@State.liftNow s kind u) := by
  unfold State.liftNow
  split
  · refine State.liftLane_kept ?_
    exact hk
  · refine State.bankLive_kept ?_
    exact hk
  · refine State.liftDpll_kept ?_
    exact hk
  · refine State.liftReeve_kept ?_
    exact hk
  · refine State.liftMaster_kept ?_
    exact hk
  · refine State.liftPmb_kept ?_
    exact hk
  · refine State.liftTwinLane_kept ?_
    exact hk

theorem State.doArm_kept {z : State} {s : State} {h : CmdHead} {mask : Nat} (hk : Kept z s) : Kept z (@State.doArm s h mask) := by
  unfold State.doArm
  extract_lets -merge +onlyGivenNames u1
  have h2 : Kept z u1 := by
    unfold u1
    refine Kept.foldl ?_ ?_
    · intro a3 a4 h5
      refine State.wr_kept ?_
      refine State.wr_kept ?_
      exact h5
    · exact hk
  with_reducible refine Kept.upd ?_ ..
  exact h2

theorem State.gateCommand_kept {z : State} {s : State} {o : GateOp} {bytes : List Nat} (hk : Kept z s) : Kept z (@State.gateCommand s o bytes) := by
  unfold State.gateCommand
  refine State.gateBegin_kept ?_
  refine State.wr_kept ?_
  refine State.wr_kept ?_
  refine State.wr_kept ?_
  refine State.putMbox_kept ?_
  exact hk

theorem execDebugUnlockChallenge_kept {h : CmdHead} {mask : BitVec 32} {addr : BitVec 64} {s : State} : Keeps s (@execDebugUnlockChallenge h mask addr s) := by
  have h0 := Kept.refl s
  unfold execDebugUnlockChallenge
  refine Keeps.next ?_
  refine State.judge_kept ?_ ?_
  · exact h0
  · intro a1 h2
    refine State.gateCommand_kept ?_
    exact h2

theorem execDebugUnlockLevel_kept {h : CmdHead} {level : BitVec 8} {mask : BitVec 32} {s : State} : Keeps s (@execDebugUnlockLevel h level mask s) := by
  have h0 := Kept.refl s
  unfold execDebugUnlockLevel
  extract_lets -merge +onlyGivenNames u1
  extract_lets -merge +onlyGivenNames u2
  have h3 : ∀ v0, Kept s v0 → Kept s (u2 v0) := by
    unfold u2
    intro a4 h5
    refine Kept.ite ?_ ?_
    · refine State.wr_kept ?_
      exact h5
    · exact h5
  extract_lets -merge +onlyGivenNames u6
  extract_lets -merge +onlyGivenNames u7
  refine Keeps.next ?_
  refine State.judge_kept ?_ ?_
  · refine Kept.ite ?_ ?_
    · refine State.denied_kept ?_
      exact h0
    · exact h0
  · intro a8 h9
    extract_lets -merge +onlyGivenNames u10
    have h11 : Kept s u10 := by
      unfold u10
      refine State.requestLevel_kept ?_
      refine h3 _ ?_
      exact h9
    refine State.ok_kept ?_
    exact h11

theorem execDebugUnlockResponse_kept {h : CmdHead} {signer : BitVec 8} {addr : BitVec 64} {sig : List (BitVec 8)} {s : State} : Keeps s (@execDebugUnlockResponse h signer addr sig s) := by
  have h0 := Kept.refl s
  unfold execDebugUnlockResponse
  refine Keeps.next ?_
  refine State.judge_kept ?_ ?_
  · exact h0
  · intro a1 h2
    refine State.gateCommand_kept ?_
    exact h2

theorem execFenceLift_kept {h : CmdHead} {kind : BitVec 8} {unit : BitVec 32} {s : State} : Keeps s (@execFenceLift h kind unit s) := by
  have h0 := Kept.refl s
  unfold execFenceLift
  extract_lets -merge +onlyGivenNames u1
  extract_lets -merge +onlyGivenNames u2
  refine Keeps.ite ?_ ?_
  · refine Keeps.next ?_
    refine State.judgeChange_kept ?_
    exact h0
  · split
    rename_i e3
    refine Kept.thruE (z := s) e3 ?_ (fun h4 => ?_)
    · refine State.fresh_kept ?_
      exact h0
    · refine Keeps.next ?_
      refine State.judge_kept ?_ ?_
      · exact h4
      · intro a5 h6
        refine State.ok_kept ?_
        refine State.liftNow_kept ?_
        exact h6

theorem execGateCall_kept {h : CmdHead} {op : BitVec 8} {slot : BitVec 8} {signer : BitVec 8} {len : BitVec 32} {addr : BitVec 64} {buf : List (BitVec 8)} {s : State} : Keeps s (@execGateCall h op slot signer len addr buf s) := by
  have h0 := Kept.refl s
  unfold execGateCall
  extract_lets -merge +onlyGivenNames u1
  refine Keeps.next ?_
  refine State.judge_kept ?_ ?_
  · exact h0
  · intro a2 h3
    refine State.gateCommand_kept ?_
    exact h3

theorem execInjectArm_kept {h : CmdHead} {mask : BitVec 16} {s : State} : Keeps s (@execInjectArm h mask s) := by
  have h0 := Kept.refl s
  unfold execInjectArm
  refine Keeps.next ?_
  refine State.judge_kept ?_ ?_
  · exact h0
  · intro a1 h2
    refine State.doArm_kept ?_
    exact h2

theorem execInjectStop_kept {h : CmdHead} {mask : BitVec 16} {s : State} : Keeps s (@execInjectStop h mask s) := by
  have h0 := Kept.refl s
  unfold execInjectStop
  refine Keeps.next ?_
  refine State.judge_kept ?_ ?_
  · exact h0
  · intro a1 h2
    refine State.ok_kept ?_
    refine Kept.foldl ?_ ?_
    · intro a3 a4 h5
      refine State.stopInjector_kept ?_
      exact h5
    · exact h2

theorem State.judgeSkew_kept {z : State} {s : State} {t : Nat} (hk : Kept z s) : Kept z (@State.judgeSkew s t) := by
  unfold State.judgeSkew
  split
  · exact hk
  · split
    · extract_lets -merge +onlyGivenNames u1
      extract_lets -merge +onlyGivenNames u2
      extract_lets -merge +onlyGivenNames u3
      extract_lets -merge +onlyGivenNames u4
      extract_lets -merge +onlyGivenNames u5
      refine Kept.ite ?_ ?_
      · exact hk
      · extract_lets -merge +onlyGivenNames u6
        have h7 : Kept z u6 := by
          unfold u6
          refine State.setGroup_kept ?_
          exact hk
        refine State.judgeGroup_kept ?_
        refine Kept.ite ?_ ?_
        · refine State.pairEvent_kept ?_
          exact h7
        · exact h7
    · exact hk

theorem State.passWord_kept {z : State} {s : State} {t : Nat} {c : Nat} {k : Nat} (hk : Kept z s) : Kept z (@State.passWord s t c k) := by
  unfold State.passWord
  extract_lets -merge +onlyGivenNames u1
  refine State.setTrib_kept ?_
  exact hk

theorem State.settleE_kept {z : State} {s : State} {t : Nat} {c : Nat} (hk : Kept z s) : Kept z (@State.settleE s t c) := by
  unfold State.settleE
  split
  · exact hk
  · extract_lets -merge +onlyGivenNames u1
    extract_lets -merge +onlyGivenNames u2
    extract_lets -merge +onlyGivenNames u3
    extract_lets -merge +onlyGivenNames u4
    extract_lets -merge +onlyGivenNames u5
    have h6 : Kept z u5 := by
      unfold u5
      refine Kept.ite ?_ ?_
      · refine State.bumpPw_kept ?_
        exact hk
      · exact hk
    extract_lets -merge +onlyGivenNames u7
    extract_lets -merge +onlyGivenNames u8
    refine State.setPw_kept ?_
    refine State.setTrib_kept ?_
    exact h6

theorem State.showInCal_kept {z : State} {s : State} {ts : List Nat} (hk : Kept z s) : Kept z (@State.showInCal s ts) := by
  unfold State.showInCal
  refine Kept.foldl ?_ ?_
  · intro a1 a2 h3
    refine State.wr_kept ?_
    exact h3
  · exact hk

theorem State.txSwitch_kept {z : State} {s : State} {c : Nat} (hk : Kept z s) : Kept z (@State.txSwitch s c) := by
  unfold State.txSwitch
  extract_lets -merge +onlyGivenNames u1
  extract_lets -merge +onlyGivenNames u2
  extract_lets -merge +onlyGivenNames u3
  extract_lets -merge +onlyGivenNames u4
  extract_lets -merge +onlyGivenNames u5
  have h6 : Kept z u5 := by
    unfold u5
    refine State.setChanX_kept ?_
    exact hk
  extract_lets -merge +onlyGivenNames u7
  have h8 : Kept z u7 := by
    unfold u7
    refine Kept.foldl ?_ ?_
    · intro a9 a10 h11
      refine Kept.ite ?_ ?_
      · exact h11
      · refine State.startMapper_kept ?_
        exact h11
    · exact h6
  extract_lets -merge +onlyGivenNames u12
  have h13 : Kept z u12 := by
    unfold u12
    refine Kept.foldl ?_ ?_
    · intro a14 a15 h16
      refine Kept.ite ?_ ?_
      · exact h16
      · refine State.startMapper_kept ?_
        exact h16
    · exact h8
  extract_lets -merge +onlyGivenNames u17
  have h18 : Kept z u17 := by
    unfold u17
    refine State.syncCal_kept ?_
    refine State.showInCal_kept ?_
    exact h13
  extract_lets -merge +onlyGivenNames u19
  have h20 : Kept z u19 := by
    unfold u19
    refine Kept.foldl ?_ ?_
    · intro a21 a22 h23
      refine State.showTrib_kept ?_
      exact h23
    · exact h18
  refine Kept.ite ?_ ?_
  · refine State.report_kept ?_
    exact h20
  · exact h20

theorem execCbrMapperFrame_kept {c : Fin 96} {t : BitVec 16} {measured : BitVec 64} {s : State} : Keeps s (@execCbrMapperFrame c t measured s) := by
  have h0 := Kept.refl s
  unfold execCbrMapperFrame
  extract_lets -merge +onlyGivenNames u1
  extract_lets -merge +onlyGivenNames u2
  extract_lets -merge +onlyGivenNames u3
  refine Keeps.ite ?_ ?_
  · refine Keeps.next ?_
    exact h0
  · extract_lets -merge +onlyGivenNames u4
    have h5 : Kept s u4 := by
      unfold u4
      split
      · refine State.feedClient_kept ?_
        exact h0
      · exact h0
    extract_lets -merge +onlyGivenNames u6
    have h7 : ∀ v0 v1 v2 v3, Kept s v0 → Kept s (u6 v0 v1 v2 v3) := by
      unfold u6
      intro a8 a9 a10 a11 h12
      extract_lets -merge +onlyGivenNames u13
      have h14 : Kept s u13 := by
        unfold u13
        refine State.putPayload_kept ?_
        exact h12
      refine Kept.foldl2 ?_ ?_
      · intro a15 a16 h17
        split
        split
        refine Kept.ite_snd ?_ ?_
        · dsimp -zeta only
          refine State.putPayload_kept ?_
          exact h17
        · exact h17
      · exact h14
    split
    · extract_lets -merge +onlyGivenNames u18
      extract_lets -merge +onlyGivenNames u19
      have h20 : Kept s u19 := by
        unfold u19
        refine State.setTrib_kept ?_
        exact h5
      refine Keeps.next ?_
      refine State.showTrib_kept ?_
      refine h7 _ _ _ _ ?_
      exact h20
    · extract_lets -merge +onlyGivenNames u21
      extract_lets -merge +onlyGivenNames u22
      extract_lets -merge +onlyGivenNames u23
      extract_lets -merge +onlyGivenNames u24
      have h25 : Kept s u24 := by
        unfold u24
        refine Kept.ite ?_ ?_
        · refine State.bumpPw_kept ?_
          exact h5
        · exact h5
      split
      · extract_lets -merge +onlyGivenNames u26
        have h27 : Kept s u26 := by
          unfold u26
          refine State.setTrib_kept ?_
          exact h25
        refine Keeps.next ?_
        refine State.showTrib_kept ?_
        refine h7 _ _ _ _ ?_
        exact h27
      · extract_lets -merge +onlyGivenNames u28
        extract_lets -merge +onlyGivenNames u29
        extract_lets -merge +onlyGivenNames u30
        extract_lets -merge +onlyGivenNames u31
        extract_lets -merge +onlyGivenNames u32
        extract_lets -merge +onlyGivenNames u33
        have h34 : Kept s u33 := by
          unfold u33
          refine Kept.ite ?_ ?_
          · refine State.bumpPw_kept ?_
            exact h25
          · exact h25
        extract_lets -merge +onlyGivenNames u35
        split
        rename_i e36
        refine Kept.thruE (z := s) e36 ?_ (fun h37 => ?_)
        · refine Kept.ite_snd ?_ ?_
          · refine State.replacements_kept ?_
            exact h34
          · exact h34
        · split
          rename_i e38
          refine Kept.thruE (z := s) e38 ?_ (fun h39 => ?_)
          · refine State.injectWords_kept ?_
            exact h37
          · extract_lets -merge +onlyGivenNames u40
            have h41 : Kept s u40 := by
              unfold u40
              refine State.setTrib_kept ?_
              exact h39
            extract_lets -merge +onlyGivenNames u42
            have h43 : Kept s u42 := by
              unfold u42
              refine h7 _ _ _ _ ?_
              exact h41
            extract_lets -merge +onlyGivenNames u44
            have h45 : Kept s u44 := by
              unfold u44
              split
              · refine State.setPw_kept ?_
                refine State.setPw_kept ?_
                refine State.setPw_kept ?_
                exact h43
              · exact h43
            refine Keeps.next ?_
            refine State.showTrib_kept ?_
            refine State.countT_kept ?_
            exact h45

theorem execDemapWordDue_kept {cl : Fin 96} {slip : Bool} {s : State} : Keeps s (@execDemapWordDue cl slip s) := by
  have h0 := Kept.refl s
  unfold execDemapWordDue
  extract_lets -merge +onlyGivenNames u1
  refine Keeps.ite ?_ ?_
  · refine Keeps.next ?_
    exact h0
  · split
    · split
      · split
        extract_lets -merge +onlyGivenNames u2
        extract_lets -merge +onlyGivenNames u3
        extract_lets -merge +onlyGivenNames u4
        refine Keeps.ite ?_ ?_
        · refine Keeps.next ?_
          refine State.emit_kept ?_
          exact h0
        · extract_lets -merge +onlyGivenNames u5
          refine Keeps.next ?_
          refine State.emit_kept ?_
          refine State.passWord_kept ?_
          refine State.passWord_kept ?_
          exact h0
      · refine Keeps.next ?_
        refine State.emit_kept ?_
        exact h0
    · split
      · refine Keeps.next ?_
        refine State.emit_kept ?_
        exact h0
      · extract_lets -merge +onlyGivenNames u6
        refine Keeps.ite ?_ ?_
        · refine Keeps.next ?_
          refine State.emit_kept ?_
          exact h0
        · refine Keeps.ite ?_ ?_
          · refine Keeps.next ?_
            refine State.emit_kept ?_
            refine State.recentre_kept ?_
            refine State.bumpPw_kept ?_
            exact h0
          · split
            · refine Keeps.next ?_
              refine State.emit_kept ?_
              refine State.passWord_kept ?_
              exact h0
            · refine Keeps.next ?_
              refine State.emit_kept ?_
              refine State.recentre_kept ?_
              refine State.bumpPw_kept ?_
              exact h0

theorem execDemapperFrame_kept {c : Fin 96} {t : BitVec 16} {content : List (BitVec 64)} {delay : BitVec 32} {link : BitVec 32} {s : State} : Keeps s (@execDemapperFrame c t content delay link s) := by
  have h0 := Kept.refl s
  unfold execDemapperFrame
  extract_lets -merge +onlyGivenNames u1
  extract_lets -merge +onlyGivenNames u2
  extract_lets -merge +onlyGivenNames u3
  extract_lets -merge +onlyGivenNames u4
  refine Keeps.ite ?_ ?_
  · refine Keeps.next ?_
    exact h0
  · extract_lets -merge +onlyGivenNames u5
    extract_lets -merge +onlyGivenNames u6
    extract_lets -merge +onlyGivenNames u7
    split
    extract_lets -merge +onlyGivenNames u8
    extract_lets -merge +onlyGivenNames u9
    clear_value u9
    split
    · refine Keeps.ite ?_ ?_
      · refine Keeps.next ?_
        refine State.setTrib_kept ?_
        exact h0
      · refine Keeps.next ?_
        exact h0
    · refine Keeps.ite ?_ ?_
      · refine Keeps.next ?_
        refine State.setTrib_kept ?_
        exact h0
      · extract_lets -merge +onlyGivenNames u10
        split
        rename_i e11
        refine Kept.thruE (z := s) e11 ?_ (fun h12 => ?_)
        · refine State.injectWords_kept ?_
          exact h0
        · extract_lets -merge +onlyGivenNames u13
          extract_lets -merge +onlyGivenNames u14
          extract_lets -merge +onlyGivenNames u15
          extract_lets -merge +onlyGivenNames u16
          extract_lets -merge +onlyGivenNames u17
          extract_lets -merge +onlyGivenNames u18
          have h19 : Kept s u18 := by
            unfold u18
            refine State.setTrib_kept ?_
            exact h12
          extract_lets -merge +onlyGivenNames u20
          have h21 : Kept s u20 := by
            unfold u20
            refine Kept.ite ?_ ?_
            · exact h19
            · refine Kept.foldl ?_ ?_
              · intro a22 a23 h24
                refine State.wordsTo_kept ?_
                exact h24
              · exact h19
          extract_lets -merge +onlyGivenNames u25
          have h26 : Kept s u25 := by
            unfold u25
            refine State.countT_kept ?_
            exact h21
          extract_lets -merge +onlyGivenNames u27
          have h28 : Kept s u27 := by
            unfold u27
            refine Kept.ite ?_ ?_
            · refine State.settleE_kept ?_
              exact h26
            · exact h26
          refine Keeps.next ?_
          refine State.judgeSkew_kept ?_
          exact h28

theorem execSheafBlockReceive_kept {c : Fin 96} {t : BitVec 16} {pos : BitVec 14} {v : BitVec 64} {now : BitVec 64} {s : State} : Keeps s (@execSheafBlockReceive c t pos v now s) := by
  have h0 := Kept.refl s
  unfold execSheafBlockReceive
  extract_lets -merge +onlyGivenNames u1
  extract_lets -merge +onlyGivenNames u2
  refine Keeps.ite ?_ ?_
  · refine Keeps.next ?_
    exact h0
  · extract_lets -merge +onlyGivenNames u3
    extract_lets -merge +onlyGivenNames u4
    refine Keeps.ite ?_ ?_
    · refine Keeps.next ?_
      exact h0
    · extract_lets -merge +onlyGivenNames u5
      have h6 : Kept s u5 := by
        unfold u5
        refine Kept.ite ?_ ?_
        · refine State.setPw_kept ?_
          exact h0
        · exact h0
      extract_lets -merge +onlyGivenNames u7
      split
      · refine Keeps.ite ?_ ?_
        · extract_lets -merge +onlyGivenNames u8
          refine Keeps.next ?_
          refine State.sheafDone_kept ?_
          refine State.setTrib_kept ?_
          exact h6
        · extract_lets -merge +onlyGivenNames u9
          refine Keeps.ite ?_ ?_
          · refine Keeps.next ?_
            refine State.setTrib_kept ?_
            exact h6
          · refine Keeps.ite ?_ ?_
            · refine Keeps.next ?_
              refine State.setTrib_kept ?_
              exact h6
            · refine Keeps.next ?_
              refine State.sheafDone_kept ?_
              refine State.setTrib_kept ?_
              exact h6
      · extract_lets -merge +onlyGivenNames u10
        refine Keeps.ite ?_ ?_
        · refine Keeps.next ?_
          refine State.setTrib_kept ?_
          exact h6
        · refine Keeps.ite ?_ ?_
          · extract_lets -merge +onlyGivenNames u11
            refine Keeps.next ?_
            refine State.setTrib_kept ?_
            exact h6
          · refine Keeps.next ?_
            refine State.bumpPw_kept ?_
            refine State.setPw_kept ?_
            refine State.setTrib_kept ?_
            exact h6

theorem execThReceive_kept {c : Fin 96} {t : BitVec 16} {v : BitVec 64} {s : State} : Keeps s (@execThReceive c t v s) := by
  have h0 := Kept.refl s
  unfold execThReceive
  extract_lets -merge +onlyGivenNames u1
  extract_lets -merge +onlyGivenNames u2
  split
  · refine Keeps.next ?_
    exact h0
  · refine Keeps.ite ?_ ?_
    · refine Keeps.next ?_
      exact h0
    · extract_lets -merge +onlyGivenNames u3
      extract_lets -merge +onlyGivenNames u4
      refine Keeps.ite ?_ ?_
      · refine Keeps.next ?_
        refine State.setTrib_kept ?_
        refine State.countC_kept ?_
        refine State.bumpPw_kept ?_
        exact h0
      · refine Keeps.ite ?_ ?_
        · refine Keeps.next ?_
          refine State.setTrib_kept ?_
          refine State.countC_kept ?_
          refine State.bumpPw_kept ?_
          exact h0
        · extract_lets -merge +onlyGivenNames u5
          refine Keeps.ite ?_ ?_
          · refine Keeps.next ?_
            refine State.setTrib_kept ?_
            exact h0
          · refine Keeps.next ?_
            refine State.setTrib_kept ?_
            exact h0

theorem execTxCalendarSwitch_kept {c : Fin 96} {s : State} : Keeps s (@execTxCalendarSwitch c s) := by
  have h0 := Kept.refl s
  unfold execTxCalendarSwitch
  split
  · refine Keeps.ite ?_ ?_
    · refine Keeps.next ?_
      refine State.txSwitch_kept ?_
      exact h0
    · refine Keeps.next ?_
      exact h0
  · refine Keeps.next ?_
    exact h0

end Sys2Proof.Machine
end

