-- ==== Sys2Proof/Laws/Kept06.lean ====
section
/-! SUPPORT. What the operations of VsiF, VsiA, VsiQ, VsiPort, Protect, Twin, Startup, Jtag keep (`Kept`): the queue as it is, the tables canonical, the fuse store one-way. -/
namespace Sys2Proof.Machine

theorem execBext_kept {e : Engine} {rd : Fin 32} {ra : Fin 32} {pos : BitVec 6} {wm1 : BitVec 6} {sx : Bool} {s : State} : Keeps s (@execBext e rd ra pos wm1 sx s) := by
  have h0 := Kept.refl s
  unfold execBext
  refine Keeps.next ?_
  refine State.issue_kept ?_
  exact h0

theorem execBins_kept {e : Engine} {rd : Fin 32} {ra : Fin 32} {pos : BitVec 6} {wm1 : BitVec 6} {s : State} : Keeps s (@execBins e rd ra pos wm1 s) := by
  have h0 := Kept.refl s
  unfold execBins
  refine Keeps.next ?_
  refine State.issue_kept ?_
  exact h0

theorem execBop_kept {e : Engine} {pg : Fin 8} {rd : Fin 32} {ra : Fin 32} {f : Fin 6} {s : State} : Keeps s (@execBop e pg rd ra f s) := by
  have h0 := Kept.refl s
  unfold execBop
  refine Keeps.next ?_
  refine State.issueIf_kept ?_
  exact h0

theorem execCrc_kept {e : Engine} {pg : Fin 8} {rd : Fin 32} {ra : Fin 32} {rb : Fin 32} {poly : Fin 3} {n1 : Fin 8} {s : State} : Keeps s (@execCrc e pg rd ra rb poly n1 s) := by
  have h0 := Kept.refl s
  unfold execCrc
  refine Keeps.next ?_
  refine State.issueIf_kept ?_
  exact h0

theorem execFnop_kept {x0 : Engine} {s : State} : Keeps s (@execFnop x0 s) := by
  have h0 := Kept.refl s
  unfold execFnop
  refine Keeps.next ?_
  exact h0

theorem execSbr_kept {q : Fin 24} {t : Fin 16} {pg : Fin 8} {rd : Fin 32} {f : Fin 7} {s : State} : Keeps s (@execSbr q t pg rd f s) := by
  have h0 := Kept.refl s
  unfold execSbr
  refine Keeps.next ?_
  refine State.issueIf_kept ?_
  exact h0

theorem execWext_kept {q : Fin 24} {t : Fin 16} {rd : Fin 32} {ra : Fin 32} {pos : BitVec 9} {wm1 : BitVec 6} {sx : Bool} {s : State} : Keeps s (@execWext q t rd ra pos wm1 sx s) := by
  have h0 := Kept.refl s
  unfold execWext
  refine Keeps.next ?_
  refine State.issue_kept ?_
  exact h0

theorem execWins_kept {q : Fin 24} {t : Fin 16} {rd : Fin 32} {ra : Fin 32} {pos : BitVec 9} {wm1 : BitVec 6} {s : State} : Keeps s (@execWins q t rd ra pos wm1 s) := by
  have h0 := Kept.refl s
  unfold execWins
  refine Keeps.next ?_
  refine State.issue_kept ?_
  exact h0

theorem execAddi_kept {e : Engine} {rd : Fin 32} {ra : Fin 32} {imm : BitVec 16} {s : State} : Keeps s (@execAddi e rd ra imm s) := by
  have h0 := Kept.refl s
  unfold execAddi
  refine Keeps.next ?_
  refine State.issue_kept ?_
  exact h0

theorem execAlu_kept {e : Engine} {pg : Fin 8} {f : Fin 14} {rd : Fin 32} {ra : Fin 32} {rb : Fin 32} {s : State} : Keeps s (@execAlu e pg f rd ra rb s) := by
  have h0 := Kept.refl s
  unfold execAlu
  refine Keeps.next ?_
  refine State.issueIf_kept ?_
  exact h0

theorem execAndi_kept {e : Engine} {rd : Fin 32} {ra : Fin 32} {imm : BitVec 16} {s : State} : Keeps s (@execAndi e rd ra imm s) := by
  have h0 := Kept.refl s
  unfold execAndi
  refine Keeps.next ?_
  refine State.issue_kept ?_
  exact h0

theorem execAnop_kept {x0 : Engine} {s : State} : Keeps s (@execAnop x0 s) := by
  have h0 := Kept.refl s
  unfold execAnop
  refine Keeps.next ?_
  exact h0

theorem execCmp_kept {e : Engine} {pg : Fin 8} {f : Fin 6} {pd : Fin 8} {ra : Fin 32} {rb : Fin 32} {s : State} : Keeps s (@execCmp e pg f pd ra rb s) := by
  have h0 := Kept.refl s
  unfold execCmp
  refine Keeps.next ?_
  refine State.issueIf_kept ?_
  exact h0

theorem execCmpi_kept {e : Engine} {c : Fin 4} {pd : Fin 8} {ra : Fin 32} {imm : BitVec 16} {s : State} : Keeps s (@execCmpi e c pd ra imm s) := by
  have h0 := Kept.refl s
  unfold execCmpi
  refine Keeps.next ?_
  refine State.issue_kept ?_
  exact h0

theorem execMovk_kept {e : Engine} {rd : Fin 32} {h : Fin 4} {imm : BitVec 16} {s : State} : Keeps s (@execMovk e rd h imm s) := by
  have h0 := Kept.refl s
  unfold execMovk
  refine Keeps.next ?_
  refine State.issue_kept ?_
  exact h0

theorem execMul_kept {e : Engine} {pg : Fin 8} {f : Fin 3} {rd : Fin 32} {ra : Fin 32} {rb : Fin 32} {s : State} : Keeps s (@execMul e pg f rd ra rb s) := by
  have h0 := Kept.refl s
  unfold execMul
  refine Keeps.next ?_
  refine State.issueIf_kept ?_
  exact h0

theorem execOri_kept {e : Engine} {rd : Fin 32} {ra : Fin 32} {imm : BitVec 16} {s : State} : Keeps s (@execOri e rd ra imm s) := by
  have h0 := Kept.refl s
  unfold execOri
  refine Keeps.next ?_
  refine State.issue_kept ?_
  exact h0

theorem execPop_kept {e : Engine} {pg : Fin 8} {f : Fin 3} {pd : Fin 8} {na : Bool} {pa : Fin 8} {nb : Bool} {pb : Fin 8} {s : State} : Keeps s (@execPop e pg f pd na pa nb pb s) := by
  have h0 := Kept.refl s
  unfold execPop
  refine Keeps.next ?_
  refine State.issueIf_kept ?_
  exact h0

theorem execSel_kept {e : Engine} {pg : Fin 8} {rd : Fin 32} {ra : Fin 32} {rb : Fin 32} {s : State} : Keeps s (@execSel e pg rd ra rb s) := by
  have h0 := Kept.refl s
  unfold execSel
  refine Keeps.next ?_
  refine State.issue_kept ?_
  exact h0

theorem execShi_kept {e : Engine} {pg : Fin 8} {k : Fin 4} {rd : Fin 32} {ra : Fin 32} {n : Fin 64} {s : State} : Keeps s (@execShi e pg k rd ra n s) := by
  have h0 := Kept.refl s
  unfold execShi
  refine Keeps.next ?_
  refine State.issueIf_kept ?_
  exact h0

theorem execXori_kept {e : Engine} {rd : Fin 32} {ra : Fin 32} {imm : BitVec 16} {s : State} : Keeps s (@execXori e rd ra imm s) := by
  have h0 := Kept.refl s
  unfold execXori
  refine Keeps.next ?_
  refine State.issue_kept ?_
  exact h0

theorem State.busIssue_kept {z : State} {s : State} {r : Nat} {e : Engine} {rd : Option Nat} {src : Nat} {ra : Nat} {imm : Nat} {double : Bool} (hk : Kept z s) : Kept z (@State.busIssue s r e rd src ra imm double) := by
  unfold State.busIssue
  refine State.showReeve_kept ?_
  refine State.issue_kept ?_
  exact hk

theorem State.ckptIssue_kept {z : State} {s : State} {r : Nat} {e : Engine} {pg : Nat} {f : Nat} {rd : Nat} {ra : Nat} {rb : Nat} (hk : Kept z s) : Kept z (@State.ckptIssue s r e pg f rd ra rb) := by
  unfold State.ckptIssue
  refine State.showReeve_kept ?_
  refine State.issueIf_kept ?_
  exact hk

theorem State.dataEcc_kept {z : State} {s : State} {e : Engine} {addr : Nat} {c : EccClass} (hk : Kept z s) : Kept z (@State.dataEcc s e addr c) := by
  unfold State.dataEcc
  split
  · refine State.weaverEcc_kept ?_
    exact hk
  · refine State.reeveEcc_kept ?_
    exact hk

theorem State.load_kept {z : State} {s : State} {e : Engine} {rd : Nat} {ra : Nat} {imm : Nat} {n : Nat} {c : EccClass} (hk : Kept z s) : Kept z (@State.load s e rd ra imm n c) := by
  unfold State.load
  refine State.issueS_kept ?_ ?_
  · exact hk
  · intro a1 a2 h3
    extract_lets -merge +onlyGivenNames u4
    refine State.dataEcc_kept ?_
    refine State.setEng_kept ?_
    exact h3

theorem State.loadShared_kept {z : State} {s : State} {q : Nat} {t : Nat} {rd : Nat} {ra : Nat} {imm : Nat} {n : Nat} {e : Engine} {c : EccClass} (hk : Kept z s) : Kept z (@State.loadShared s q t rd ra imm n e c) := by
  unfold State.loadShared
  refine State.issueS_kept ?_ ?_
  · exact hk
  · intro a1 a2 h3
    extract_lets -merge +onlyGivenNames u4
    refine State.weaverEcc_kept ?_
    refine State.setEng_kept ?_
    exact h3

theorem State.store_kept {z : State} {s : State} {e : Engine} {rd : Nat} {ra : Nat} {imm : Nat} {n : Nat} {c : EccClass} (hk : Kept z s) : Kept z (@State.store s e rd ra imm n c) := by
  unfold State.store
  refine State.issueS_kept ?_ ?_
  · exact hk
  · intro a1 a2 h3
    extract_lets -merge +onlyGivenNames u4
    refine State.dataEcc_kept ?_
    refine State.setBytes_kept ?_
    exact h3

theorem State.storeShared_kept {z : State} {s : State} {q : Nat} {t : Nat} {rd : Nat} {ra : Nat} {imm : Nat} {n : Nat} {e : Engine} {c : EccClass} (hk : Kept z s) : Kept z (@State.storeShared s q t rd ra imm n e c) := by
  unfold State.storeShared
  refine State.issueS_kept ?_ ?_
  · exact hk
  · intro a1 a2 h3
    extract_lets -merge +onlyGivenNames u4
    refine State.weaverEcc_kept ?_
    with_reducible refine Kept.upd ?_ ..
    exact h3

theorem execBld_kept {r : Fin 4} {rd : Fin 32} {ra : Fin 32} {imm : BitVec 16} {s : State} : Keeps s (@execBld r rd ra imm s) := by
  have h0 := Kept.refl s
  unfold execBld
  refine Keeps.next ?_
  refine State.busIssue_kept ?_
  exact h0

theorem execBldd_kept {r : Fin 4} {rd : Fin 32} {ra : Fin 32} {imm : BitVec 16} {s : State} : Keeps s (@execBldd r rd ra imm s) := by
  have h0 := Kept.refl s
  unfold execBldd
  refine Keeps.next ?_
  refine State.busIssue_kept ?_
  exact h0

theorem execBst_kept {r : Fin 4} {rd : Fin 32} {ra : Fin 32} {imm : BitVec 16} {s : State} : Keeps s (@execBst r rd ra imm s) := by
  have h0 := Kept.refl s
  unfold execBst
  refine Keeps.next ?_
  refine State.busIssue_kept ?_
  exact h0

theorem execBstd_kept {r : Fin 4} {rd : Fin 32} {ra : Fin 32} {imm : BitVec 16} {s : State} : Keeps s (@execBstd r rd ra imm s) := by
  have h0 := Kept.refl s
  unfold execBstd
  refine Keeps.next ?_
  refine State.busIssue_kept ?_
  exact h0

theorem execCkptCommit_kept {r : Fin 4} {pg : Fin 8} {rd : Fin 32} {ra : Fin 32} {rb : Fin 32} {s : State} : Keeps s (@execCkptCommit r pg rd ra rb s) := by
  have h0 := Kept.refl s
  unfold execCkptCommit
  refine Keeps.next ?_
  refine State.ckptIssue_kept ?_
  exact h0

theorem execCkptJournalAppend_kept {r : Fin 4} {pg : Fin 8} {rd : Fin 32} {ra : Fin 32} {rb : Fin 32} {s : State} : Keeps s (@execCkptJournalAppend r pg rd ra rb s) := by
  have h0 := Kept.refl s
  unfold execCkptJournalAppend
  refine Keeps.next ?_
  refine State.ckptIssue_kept ?_
  exact h0

theorem execCkptMirror_kept {r : Fin 4} {pg : Fin 8} {rd : Fin 32} {ra : Fin 32} {rb : Fin 32} {s : State} : Keeps s (@execCkptMirror r pg rd ra rb s) := by
  have h0 := Kept.refl s
  unfold execCkptMirror
  refine Keeps.next ?_
  refine State.ckptIssue_kept ?_
  exact h0

theorem execCkptOpen_kept {r : Fin 4} {pg : Fin 8} {rd : Fin 32} {ra : Fin 32} {rb : Fin 32} {s : State} : Keeps s (@execCkptOpen r pg rd ra rb s) := by
  have h0 := Kept.refl s
  unfold execCkptOpen
  refine Keeps.next ?_
  refine State.ckptIssue_kept ?_
  exact h0

theorem execCkptRepairRecord_kept {r : Fin 4} {pg : Fin 8} {rd : Fin 32} {ra : Fin 32} {rb : Fin 32} {s : State} : Keeps s (@execCkptRepairRecord r pg rd ra rb s) := by
  have h0 := Kept.refl s
  unfold execCkptRepairRecord
  refine Keeps.next ?_
  refine State.ckptIssue_kept ?_
  exact h0

theorem execCkptWrite_kept {r : Fin 4} {pg : Fin 8} {rd : Fin 32} {ra : Fin 32} {rb : Fin 32} {s : State} : Keeps s (@execCkptWrite r pg rd ra rb s) := by
  have h0 := Kept.refl s
  unfold execCkptWrite
  refine Keeps.next ?_
  refine State.ckptIssue_kept ?_
  exact h0

theorem execLd_kept {e : Engine} {rd : Fin 32} {ra : Fin 32} {imm : BitVec 16} {c : EccClass} {s : State} : Keeps s (@execLd e rd ra imm c s) := by
  have h0 := Kept.refl s
  unfold execLd
  refine Keeps.next ?_
  refine State.load_kept ?_
  exact h0

theorem execLds_kept {q : Fin 24} {t : Fin 16} {rd : Fin 32} {ra : Fin 32} {imm : BitVec 16} {c : EccClass} {s : State} : Keeps s (@execLds q t rd ra imm c s) := by
  have h0 := Kept.refl s
  unfold execLds
  refine Keeps.next ?_
  refine State.loadShared_kept ?_
  exact h0

theorem execLdsw_kept {q : Fin 24} {t : Fin 16} {rd : Fin 32} {ra : Fin 32} {imm : BitVec 16} {c : EccClass} {s : State} : Keeps s (@execLdsw q t rd ra imm c s) := by
  have h0 := Kept.refl s
  unfold execLdsw
  refine Keeps.next ?_
  refine State.loadShared_kept ?_
  exact h0

theorem execLdw_kept {e : Engine} {rd : Fin 32} {ra : Fin 32} {imm : BitVec 16} {c : EccClass} {s : State} : Keeps s (@execLdw e rd ra imm c s) := by
  have h0 := Kept.refl s
  unfold execLdw
  refine Keeps.next ?_
  refine State.load_kept ?_
  exact h0

theorem execQnop_kept {x0 : Engine} {s : State} : Keeps s (@execQnop x0 s) := by
  have h0 := Kept.refl s
  unfold execQnop
  refine Keeps.next ?_
  exact h0

theorem execSharedStoreEffect_kept {q : Fin 24} {s : State} : Keeps s (@execSharedStoreEffect q s) := by
  have h0 := Kept.refl s
  unfold execSharedStoreEffect
  extract_lets -merge +onlyGivenNames u1
  extract_lets -merge +onlyGivenNames u2
  have h3 : Kept s u2 := by
    unfold u2
    with_reducible refine Kept.upd ?_ ..
    exact h0
  refine Keeps.next ?_
  refine Kept.foldl ?_ ?_
  · intro a4 a5 h6
    refine Kept.foldl ?_ ?_
    · intro a7 a8 h9
      refine State.sharedWrite_kept ?_
      exact h9
    · exact h6
  · exact h3

theorem execSt_kept {e : Engine} {rd : Fin 32} {ra : Fin 32} {imm : BitVec 16} {s : State} : Keeps s (@execSt e rd ra imm s) := by
  have h0 := Kept.refl s
  unfold execSt
  refine Keeps.next ?_
  refine State.store_kept ?_
  exact h0

theorem execSts_kept {q : Fin 24} {t : Fin 16} {rd : Fin 32} {ra : Fin 32} {imm : BitVec 16} {s : State} : Keeps s (@execSts q t rd ra imm s) := by
  have h0 := Kept.refl s
  unfold execSts
  refine Keeps.next ?_
  refine State.storeShared_kept ?_
  exact h0

theorem execStsw_kept {q : Fin 24} {t : Fin 16} {rd : Fin 32} {ra : Fin 32} {imm : BitVec 16} {c : EccClass} {s : State} : Keeps s (@execStsw q t rd ra imm c s) := by
  have h0 := Kept.refl s
  unfold execStsw
  refine Keeps.next ?_
  refine State.storeShared_kept ?_
  exact h0

theorem execStw_kept {e : Engine} {rd : Fin 32} {ra : Fin 32} {imm : BitVec 16} {c : EccClass} {s : State} : Keeps s (@execStw e rd ra imm c s) := by
  have h0 := Kept.refl s
  unfold execStw
  refine Keeps.next ?_
  refine State.store_kept ?_
  exact h0

theorem State.fifoPop_kept {z : State} {s : State} {q : Nat} {f : Nat} (hk : Kept z s) : Kept z (@State.fifoPop s q f).2 := by
  unfold State.fifoPop
  extract_lets -merge +onlyGivenNames u1
  split
  · dsimp -zeta only
    refine State.setFifo_kept ?_
    exact hk
  · exact hk

theorem State.fifoPush_kept {z : State} {s : State} {q : Nat} {f : Nat} {w : W32} (hk : Kept z s) : Kept z (@State.fifoPush s q f w) := by
  unfold State.fifoPush
  extract_lets -merge +onlyGivenNames u1
  refine Kept.ite ?_ ?_
  · extract_lets -merge +onlyGivenNames u2
    have h3 : Kept z u2 := by
      unfold u2
      refine State.setFifo_kept ?_
      exact hk
    refine Kept.ite ?_ ?_
    · refine State.bump_kept ?_
      exact h3
    · exact h3
  · refine Kept.ite ?_ ?_
    · refine State.wr_kept ?_
      exact hk
    · refine State.setFifo_kept ?_
      exact hk

theorem State.flowFind_kept {z : State} {s : State} {e : Nat} {f : EccFind} (hk : Kept z s) : Kept z (@State.flowFind s e f) := by
  unfold State.flowFind
  extract_lets -merge +onlyGivenNames u1
  have h2 : Kept z u1 := by
    unfold u1
    refine State.eccRead_kept ?_
    exact hk
  refine Kept.ite ?_ ?_
  · with_reducible refine Kept.upd ?_ ..
    exact h2
  · exact h2

theorem State.grnFind_kept {z : State} {s : State} {id : Nat} {w : GrnWord} {f : EccFind} (hk : Kept z s) : Kept z (@State.grnFind s id w f) := by
  unfold State.grnFind
  split
  · exact hk
  · split
    · extract_lets -merge +onlyGivenNames u1
      have h2 : Kept z u1 := by
        unfold u1
        refine State.bankEcc_kept ?_
        exact hk
      refine Kept.ite ?_ ?_
      · refine State.setPkt_kept ?_
        exact h2
      · exact h2
    · extract_lets -merge +onlyGivenNames u3
      have h4 : Kept z u3 := by
        unfold u3
        refine State.bankEcc_kept ?_
        exact hk
      refine Kept.ite ?_ ?_
      · refine State.dropPkt_kept ?_
        exact h4
      · exact h4
    · extract_lets -merge +onlyGivenNames u5
      have h6 : Kept z u5 := by
        unfold u5
        refine State.eccRead_kept ?_
        exact hk
      refine Kept.ite ?_ ?_
      · refine State.fenceQueue_kept ?_
        exact h6
      · exact h6
    · extract_lets -merge +onlyGivenNames u7
      have h8 : Kept z u7 := by
        unfold u7
        refine State.eccRead_kept ?_
        exact hk
      refine Kept.ite ?_ ?_
      · refine State.fenceQueue_kept ?_
        exact h8
      · exact h8

theorem State.joinIfCut_kept {z : State} {s : State} {id : Nat} (hk : Kept z s) : Kept z (@State.joinIfCut s id) := by
  unfold State.joinIfCut
  split
  · refine Kept.ite ?_ ?_
    · refine State.joinPkt_kept ?_
      exact hk
    · exact hk
  · exact hk

theorem State.portDo_kept {z : State} {s : State} {q : Fin 24} {t : Fin 16} {pg : Nat} {f : Eng → State → State} (hk : Kept z s) (hf : ∀ a0 a1, Kept z a1 → Kept z (f a0 a1)) : Kept z (@State.portDo s q t pg f) := by
  unfold State.portDo
  refine State.issueS_kept ?_ ?_
  · exact hk
  · intro a1 a2 h3
    refine hf _ _ ?_
    exact h3

theorem State.portRead_kept {z : State} {s : State} {q : Fin 24} {t : Fin 16} {pg : Nat} {l : Nat} {rd : Nat} {f : Eng → State → Nat × State} (hk : Kept z s) (hf : ∀ a0 a1, Kept z a1 → Kept z (f a0 a1).2) : Kept z (@State.portRead s q t pg l rd f) := by
  unfold State.portRead
  refine State.issueS_kept ?_ ?_
  · exact hk
  · intro a1 a2 h3
    split
    rename_i e4
    refine Kept.thruE (z := z) e4 ?_ (fun h5 => ?_)
    · refine hf _ _ ?_
      exact h3
    · refine State.setEng_kept ?_
      exact h5

theorem State.unitStatus_kept {z : State} {s : State} {n : Nat} {u : Nat} (hk : Kept z s) : Kept z (@State.unitStatus s n u).2 := by
  unfold State.unitStatus
  extract_lets -merge +onlyGivenNames u1
  extract_lets -merge +onlyGivenNames u2
  split
  · split
    rename_i e3
    refine Kept.thruE (z := z) e3 ?_ (fun h4 => ?_)
    · refine State.fresh_kept ?_
      exact hk
    · exact h4
  · exact hk
  · exact hk
  · dsimp -zeta only
    refine State.setVtf_kept ?_
    exact hk
  · exact hk
  · exact hk

theorem State.updEng_kept {z : State} {s : State} {i : Nat} {f : Eng → Eng} (hk : Kept z s) : Kept z (@State.updEng s i f) := by
  unfold State.updEng
  refine State.setEng_kept ?_
  exact hk

theorem execCalEntryRead_kept {q : Fin 24} {t : Fin 16} {pg : Fin 8} {rd : Fin 32} {ra : Fin 32} {f : Fin 4} {s : State} : Keeps s (@execCalEntryRead q t pg rd ra f s) := by
  have h0 := Kept.refl s
  unfold execCalEntryRead
  refine Keeps.next ?_
  refine State.portRead_kept ?_ ?_
  · exact h0
  · intro a1 a2 h3
    exact h3

theorem execFifoPortLevel_kept {q : Fin 24} {t : Fin 16} {pg : Fin 8} {rd : Fin 32} {f : Fin 5} {s : State} : Keeps s (@execFifoPortLevel q t pg rd f s) := by
  have h0 := Kept.refl s
  unfold execFifoPortLevel
  refine Keeps.next ?_
  refine State.portRead_kept ?_ ?_
  · exact h0
  · intro a1 a2 h3
    exact h3

theorem execFifoPortPop_kept {q : Fin 24} {t : Fin 16} {pg : Fin 8} {rd : Fin 32} {k : Fin 2} {s : State} : Keeps s (@execFifoPortPop q t pg rd k s) := by
  have h0 := Kept.refl s
  unfold execFifoPortPop
  refine Keeps.next ?_
  refine State.portRead_kept ?_ ?_
  · exact h0
  · intro a1 a2 h3
    refine State.fifoPop_kept ?_
    exact h3

theorem execFifoPortPush_kept {q : Fin 24} {t : Fin 16} {pg : Fin 8} {rb : Fin 32} {k : Fin 3} {s : State} : Keeps s (@execFifoPortPush q t pg rb k s) := by
  have h0 := Kept.refl s
  unfold execFifoPortPush
  refine Keeps.next ?_
  refine State.portDo_kept ?_ ?_
  · exact h0
  · intro a1 a2 h3
    refine State.fifoPush_kept ?_
    exact h3

theorem execFlowLookupIssue_kept {q : Fin 24} {t : Fin 16} {pg : Fin 8} {ra : Fin 32} {rb : Fin 32} {find : Option (BitVec 16 × EccFind)} {s : State} : Keeps s (@execFlowLookupIssue q t pg ra rb find s) := by
  have h0 := Kept.refl s
  unfold execFlowLookupIssue
  refine Keeps.next ?_
  refine State.portDo_kept ?_ ?_
  · exact h0
  · intro a1 a2 h3
    extract_lets -merge +onlyGivenNames u4
    have h5 : Kept s u4 := by
      unfold u4
      split
      · refine State.flowFind_kept ?_
        exact h3
      · exact h3
    extract_lets -merge +onlyGivenNames u6
    refine State.updEng_kept ?_
    exact h5

theorem execFlowResultCollect_kept {q : Fin 24} {t : Fin 16} {pg : Fin 8} {rd : Fin 32} {s : State} : Keeps s (@execFlowResultCollect q t pg rd s) := by
  have h0 := Kept.refl s
  unfold execFlowResultCollect
  refine Keeps.next ?_
  refine State.portRead_kept ?_ ?_
  · exact h0
  · intro a1 a2 h3
    split
    · dsimp -zeta only
      refine State.updEng_kept ?_
      exact h3
    · dsimp -zeta only
      refine State.updEng_kept ?_
      exact h3

theorem execFlowResultDue_kept {q : Fin 24} {t : Fin 16} {s : State} : Keeps s (@execFlowResultDue q t s) := by
  have h0 := Kept.refl s
  unfold execFlowResultDue
  refine Keeps.next ?_
  refine State.updEng_kept ?_
  exact h0

theorem execGrneChoiceCollect_kept {q : Fin 24} {t : Fin 16} {pg : Fin 8} {rd : Fin 32} {s : State} : Keeps s (@execGrneChoiceCollect q t pg rd s) := by
  have h0 := Kept.refl s
  unfold execGrneChoiceCollect
  refine Keeps.next ?_
  refine State.portRead_kept ?_ ?_
  · exact h0
  · intro a1 a2 h3
    split
    · dsimp -zeta only
      refine State.updEng_kept ?_
      exact h3
    · dsimp -zeta only
      refine State.updEng_kept ?_
      exact h3
    · extract_lets -merge +onlyGivenNames u4
      have h5 : Kept s u4 := by
        unfold u4
        split
        · refine State.endDeparture_kept ?_
          exact h3
        · exact h3
      dsimp -zeta only
      refine State.updEng_kept ?_
      exact h5

theorem execGrneChoiceDue_kept {q : Fin 24} {t : Fin 16} {s : State} : Keeps s (@execGrneChoiceDue q t s) := by
  have h0 := Kept.refl s
  unfold execGrneChoiceDue
  extract_lets -merge +onlyGivenNames u1
  split
  · refine Keeps.next ?_
    exact h0
  · refine Keeps.ite ?_ ?_
    · extract_lets -merge +onlyGivenNames u2
      have h3 : Kept s u2 := by
        unfold u2
        refine State.setEng_kept ?_
        exact h0
      refine Keeps.next ?_
      split
      · refine State.endDeparture_kept ?_
        exact h3
      · exact h3
    · refine Keeps.next ?_
      refine State.setEng_kept ?_
      exact h0

theorem execGrneChoiceIssue_kept {q : Fin 24} {t : Fin 16} {pg : Fin 8} {ra : Fin 32} {rb : Fin 32} {s : State} : Keeps s (@execGrneChoiceIssue q t pg ra rb s) := by
  have h0 := Kept.refl s
  unfold execGrneChoiceIssue
  refine Keeps.next ?_
  refine State.portDo_kept ?_ ?_
  · exact h0
  · intro a1 a2 h3
    extract_lets -merge +onlyGivenNames u4
    extract_lets -merge +onlyGivenNames u5
    extract_lets -merge +onlyGivenNames u6
    have h7 : Kept s u6.2 := by
      unfold u6
      refine State.choose_kept ?_
      exact h3
    extract_lets -merge +onlyGivenNames u8
    refine State.updEng_kept ?_
    exact h7

theorem execGrneEnd_kept {q : Fin 24} {t : Fin 16} {pg : Fin 8} {s : State} : Keeps s (@execGrneEnd q t pg s) := by
  have h0 := Kept.refl s
  unfold execGrneEnd
  refine Keeps.next ?_
  refine State.portDo_kept ?_ ?_
  · exact h0
  · intro a1 a2 h3
    split
    · refine State.updEng_kept ?_
      refine State.endDeparture_kept ?_
      exact h3
    · exact h3

theorem execGrneWrite_kept {q : Fin 24} {t : Fin 16} {pg : Fin 8} {ra : Fin 32} {finds : List (GrnWord × EccFind)} {s : State} : Keeps s (@execGrneWrite q t pg ra finds s) := by
  have h0 := Kept.refl s
  unfold execGrneWrite
  refine Keeps.next ?_
  refine State.portDo_kept ?_ ?_
  · exact h0
  · intro a1 a2 h3
    extract_lets -merge +onlyGivenNames u4
    split
    · exact h3
    · split
      · exact h3
      · refine Kept.ite ?_ ?_
        · extract_lets -merge +onlyGivenNames u5
          have h6 : Kept s u5 := by
            unfold u5
            refine State.setPkt_kept ?_
            exact h3
          extract_lets -merge +onlyGivenNames u7
          have h8 : Kept s u7 := by
            unfold u7
            refine Kept.foldl ?_ ?_
            · intro a9 a10 h11
              refine State.grnFind_kept ?_
              exact h11
            · exact h6
          extract_lets -merge +onlyGivenNames u12
          refine State.updEng_kept ?_
          exact h8
        · exact h3

theorem execGrniAppend_kept {q : Fin 24} {t : Fin 16} {pg : Fin 8} {ra : Fin 32} {rb : Fin 32} {s : State} : Keeps s (@execGrniAppend q t pg ra rb s) := by
  have h0 := Kept.refl s
  unfold execGrniAppend
  refine Keeps.next ?_
  refine State.portDo_kept ?_ ?_
  · exact h0
  · intro a1 a2 h3
    extract_lets -merge +onlyGivenNames u4
    split
    · refine Kept.ite ?_ ?_
      · split
        rename_i e5
        refine Kept.thruE (z := s) e5 ?_ (fun h6 => ?_)
        · refine State.writePkt_kept ?_
          exact h3
        · refine State.joinIfCut_kept ?_
          exact h6
      · exact h3
    · exact h3

theorem execGrniClose_kept {q : Fin 24} {t : Fin 16} {pg : Fin 8} {ra : Fin 32} {rb : Fin 32} {s : State} : Keeps s (@execGrniClose q t pg ra rb s) := by
  have h0 := Kept.refl s
  unfold execGrniClose
  refine Keeps.next ?_
  refine State.portDo_kept ?_ ?_
  · exact h0
  · intro a1 a2 h3
    extract_lets -merge +onlyGivenNames u4
    split
    · refine State.updEng_kept ?_
      refine State.closePkt_kept ?_
      exact h3
    · exact h3

theorem execGrniCutThrough_kept {q : Fin 24} {t : Fin 16} {pg : Fin 8} {ra : Fin 32} {rb : Fin 32} {s : State} : Keeps s (@execGrniCutThrough q t pg ra rb s) := by
  have h0 := Kept.refl s
  unfold execGrniCutThrough
  refine Keeps.next ?_
  refine State.portDo_kept ?_ ?_
  · exact h0
  · intro a1 a2 h3
    split
    · split
      · refine State.joinIfCut_kept ?_
        refine State.setPkt_kept ?_
        exact h3
      · exact h3
    · exact h3

theorem execGrniOpen_kept {q : Fin 24} {t : Fin 16} {pg : Fin 8} {rd : Fin 32} {ra : Fin 32} {rb : Fin 32} {s : State} : Keeps s (@execGrniOpen q t pg rd ra rb s) := by
  have h0 := Kept.refl s
  unfold execGrniOpen
  refine Keeps.next ?_
  refine State.portRead_kept ?_ ?_
  · exact h0
  · intro a1 a2 h3
    extract_lets -merge +onlyGivenNames u4
    split
    · split
      rename_i e5
      refine Kept.thruE (z := s) e5 ?_ (fun h6 => ?_)
      · refine State.openPkt_kept ?_
        exact h3
      · dsimp -zeta only
        refine State.updEng_kept ?_
        exact h6
    · dsimp -zeta only
      refine State.recordDrop_kept ?_
      exact h3

theorem execGrniSendBy_kept {q : Fin 24} {t : Fin 16} {pg : Fin 8} {ra : Fin 32} {rb : Fin 32} {s : State} : Keeps s (@execGrniSendBy q t pg ra rb s) := by
  have h0 := Kept.refl s
  unfold execGrniSendBy
  refine Keeps.next ?_
  refine State.portDo_kept ?_ ?_
  · exact h0
  · intro a1 a2 h3
    split
    · split
      · refine State.setPkt_kept ?_
        exact h3
      · exact h3
    · exact h3

theorem execPblkRead_kept {q : Fin 24} {t : Fin 16} {pg : Fin 8} {rd : Fin 32} {ra : Fin 32} {s : State} : Keeps s (@execPblkRead q t pg rd ra s) := by
  have h0 := Kept.refl s
  unfold execPblkRead
  refine Keeps.next ?_
  refine State.portRead_kept ?_ ?_
  · exact h0
  · intro a1 a2 h3
    exact h3

theorem execPblkStatusRead_kept {q : Fin 24} {t : Fin 16} {pg : Fin 8} {rd : Fin 32} {ra : Fin 32} {s : State} : Keeps s (@execPblkStatusRead q t pg rd ra s) := by
  have h0 := Kept.refl s
  unfold execPblkStatusRead
  refine Keeps.next ?_
  refine State.portRead_kept ?_ ?_
  · exact h0
  · intro a1 a2 h3
    exact h3

theorem execPblkStatusWrite_kept {q : Fin 24} {t : Fin 16} {pg : Fin 8} {ra : Fin 32} {rb : Fin 32} {s : State} : Keeps s (@execPblkStatusWrite q t pg ra rb s) := by
  have h0 := Kept.refl s
  unfold execPblkStatusWrite
  refine Keeps.next ?_
  refine State.portDo_kept ?_ ?_
  · exact h0
  · intro a1 a2 h3
    split
    · exact h3
    · extract_lets -merge +onlyGivenNames u4
      split
      · refine Kept.ite ?_ ?_
        · with_reducible refine Kept.shadow_put ?_ _ _
          exact h3
        · exact h3
      · exact h3

theorem execStampRead_kept {q : Fin 24} {t : Fin 16} {pg : Fin 8} {rd : Fin 32} {f : Fin 2} {x5 : BitVec 96} {s : State} : Keeps s (@execStampRead q t pg rd f x5 s) := by
  have h0 := Kept.refl s
  unfold execStampRead
  refine Keeps.next ?_
  refine State.portRead_kept ?_ ?_
  · exact h0
  · intro a1 a2 h3
    exact h3

theorem execTallyAdd_kept {q : Fin 24} {t : Fin 16} {pg : Fin 8} {ra : Fin 32} {rb : Fin 32} {s : State} : Keeps s (@execTallyAdd q t pg ra rb s) := by
  have h0 := Kept.refl s
  unfold execTallyAdd
  refine Keeps.next ?_
  refine State.portDo_kept ?_ ?_
  · exact h0
  · intro a1 a2 h3
    refine Kept.ite ?_ ?_
    · refine State.count_kept ?_
      exact h3
    · exact h3

theorem execTimeRead_kept {q : Fin 24} {t : Fin 16} {pg : Fin 8} {rd : Fin 32} {f : Fin 3} {s : State} : Keeps s (@execTimeRead q t pg rd f s) := by
  have h0 := Kept.refl s
  unfold execTimeRead
  refine Keeps.next ?_
  refine State.portRead_kept ?_ ?_
  · exact h0
  · intro a1 a2 h3
    split
    rename_i e4
    refine Kept.thruE (z := s) e4 ?_ (fun h5 => ?_)
    · refine State.stamp_kept ?_
      exact h3
    · exact h5

theorem execUnitControlWrite_kept {q : Fin 24} {t : Fin 16} {pg : Fin 8} {ra : Fin 32} {rb : Fin 32} {s : State} : Keeps s (@execUnitControlWrite q t pg ra rb s) := by
  have h0 := Kept.refl s
  unfold execUnitControlWrite
  refine Keeps.next ?_
  refine State.portDo_kept ?_ ?_
  · exact h0
  · intro a1 a2 h3
    extract_lets -merge +onlyGivenNames u4
    extract_lets -merge +onlyGivenNames u5
    extract_lets -merge +onlyGivenNames u6
    refine Kept.ite ?_ ?_
    · exact h3
    · extract_lets -merge +onlyGivenNames u7
      have h8 : ∀ v0, Kept s v0 → Kept s (u7 v0) := by
        unfold u7
        intro a9 h10
        with_reducible refine Kept.units_put ?_ _ _
        exact h10
      refine Kept.ite ?_ ?_
      · extract_lets -merge +onlyGivenNames u11
        refine Kept.ite ?_ ?_
        · refine State.fecWrite_kept ?_
          exact h3
        · exact h3
      · refine Kept.ite ?_ ?_
        · refine h8 _ ?_
          refine State.restartHunt_kept ?_
          exact h3
        · refine h8 _ ?_
          exact h3

theorem execUnitStatusRead_kept {q : Fin 24} {t : Fin 16} {pg : Fin 8} {rd : Fin 32} {ra : Fin 32} {s : State} : Keeps s (@execUnitStatusRead q t pg rd ra s) := by
  have h0 := Kept.refl s
  unfold execUnitStatusRead
  refine Keeps.next ?_
  refine State.portRead_kept ?_ ?_
  · exact h0
  · intro a1 a2 h3
    refine State.unitStatus_kept ?_
    exact h3

theorem execXcCount_kept {q : Fin 24} {t : Fin 16} {pg : Fin 8} {rd : Fin 32} {ra : Fin 32} {s : State} : Keeps s (@execXcCount q t pg rd ra s) := by
  have h0 := Kept.refl s
  unfold execXcCount
  refine Keeps.next ?_
  refine State.portRead_kept ?_ ?_
  · exact h0
  · intro a1 a2 h3
    exact h3

theorem execXcPut_kept {q : Fin 24} {t : Fin 16} {pg : Fin 8} {ra : Fin 32} {rb : Fin 32} {s : State} : Keeps s (@execXcPut q t pg ra rb s) := by
  have h0 := Kept.refl s
  unfold execXcPut
  refine Keeps.next ?_
  refine State.portDo_kept ?_ ?_
  · exact h0
  · intro a1 a2 h3
    extract_lets -merge +onlyGivenNames u4
    refine Kept.foldl ?_ ?_
    · intro a5 a6 h7
      refine State.setXc_kept ?_
      exact h7
    · exact h3

theorem execXcTake_kept {q : Fin 24} {t : Fin 16} {pg : Fin 8} {rd : Fin 32} {ra : Fin 32} {s : State} : Keeps s (@execXcTake q t pg rd ra s) := by
  have h0 := Kept.refl s
  unfold execXcTake
  refine Keeps.next ?_
  refine State.portRead_kept ?_ ?_
  · exact h0
  · intro a1 a2 h3
    extract_lets -merge +onlyGivenNames u4
    extract_lets -merge +onlyGivenNames u5
    split
    · dsimp -zeta only
      refine State.setXc_kept ?_
      exact h3
    · exact h3

theorem execXcWordDelivery_kept {tr : BitVec 16} {c : Fin 96} {s : State} : Keeps s (@execXcWordDelivery tr c s) := by
  have h0 := Kept.refl s
  unfold execXcWordDelivery
  extract_lets -merge +onlyGivenNames u1
  split
  · refine Keeps.next ?_
    exact h0
  · refine Keeps.next ?_
    refine State.wordsTo_kept ?_
    refine State.setXc_kept ?_
    exact h0

theorem execApsTimeout_kept {g : BitVec 12} {s : State} : Keeps s (@execApsTimeout g s) := by
  have h0 := Kept.refl s
  unfold execApsTimeout
  extract_lets -merge +onlyGivenNames u1
  refine Keeps.ite ?_ ?_
  · refine Keeps.next ?_
    exact h0
  · extract_lets -merge +onlyGivenNames u2
    extract_lets -merge +onlyGivenNames u3
    have h4 : Kept s u3 := by
      unfold u3
      refine State.setGroup_kept ?_
      refine State.wr_kept ?_
      refine State.wr_kept ?_
      exact h0
    refine Keeps.next ?_
    refine Kept.ite ?_ ?_
    · refine State.setMismatch_kept ?_
      exact h4
    · refine State.judgeGroup_kept ?_
      exact h4

theorem execHoldOffExpiry_kept {g : BitVec 12} {x : Bool} {sd : Bool} {s : State} : Keeps s (@execHoldOffExpiry g x sd s) := by
  have h0 := Kept.refl s
  unfold execHoldOffExpiry
  extract_lets -merge +onlyGivenNames u1
  refine Keeps.ite ?_ ?_
  · refine Keeps.next ?_
    exact h0
  · split
    · refine Keeps.next ?_
      exact h0
    · extract_lets -merge +onlyGivenNames u2
      extract_lets -merge +onlyGivenNames u3
      refine Keeps.ite ?_ ?_
      · refine Keeps.next ?_
        refine State.judgeGroup_kept ?_
        refine State.setGroup_kept ?_
        exact h0
      · refine Keeps.ite ?_ ?_
        · refine Keeps.next ?_
          refine State.judgeGroup_kept ?_
          refine State.setGroup_kept ?_
          exact h0
        · refine Keeps.next ?_
          exact h0

theorem execProtWtrExpiry_kept {g : BitVec 12} {s : State} : Keeps s (@execProtWtrExpiry g s) := by
  have h0 := Kept.refl s
  unfold execProtWtrExpiry
  extract_lets -merge +onlyGivenNames u1
  refine Keeps.ite ?_ ?_
  · refine Keeps.next ?_
    refine State.judgeGroup_kept ?_
    refine State.setGroup_kept ?_
    exact h0
  · refine Keeps.next ?_
    exact h0

theorem execCatchupStageEnd_kept {ok : Bool} {images : Bool} {r : LedgRead} {s : State} : Keeps s (@execCatchupStageEnd ok images r s) := by
  have h0 := Kept.refl s
  unfold execCatchupStageEnd
  extract_lets -merge +onlyGivenNames u1
  refine Keeps.ite ?_ ?_
  · refine Keeps.next ?_
    exact h0
  · extract_lets -merge +onlyGivenNames u2
    have h3 : ∀ v0 v1, Kept s v0 → Kept s (u2 v0 v1) := by
      unfold u2
      intro a4 a5 h6
      refine State.wr_kept ?_
      exact h6
    clear_value u1
    split
    · refine Keeps.next ?_
      refine Kept.ite ?_ ?_
      · refine h3 _ _ ?_
        exact h0
      · refine State.failStage_kept ?_
        exact h0
    · refine Keeps.next ?_
      refine Kept.ite ?_ ?_
      · refine h3 _ _ ?_
        exact h0
      · refine State.failStage_kept ?_
        exact h0
    · refine Keeps.next ?_
      refine Kept.ite ?_ ?_
      · refine h3 _ _ ?_
        exact h0
      · refine State.failStage_kept ?_
        exact h0
    · refine Keeps.ite ?_ ?_
      · refine Keeps.next ?_
        refine State.failStage_kept ?_
        exact h0
      · split
        rename_i e7
        refine Kept.thruE1 (z := s) e7 ?_ (fun h8 => ?_)
        · refine State.restore_kept ?_
          exact h0
        · refine Keeps.ite ?_ ?_
          · refine Keeps.next ?_
            refine State.failStage_kept ?_
            exact h8
          · refine Keeps.ite ?_ ?_
            · refine Keeps.next ?_
              refine State.failStage_kept ?_
              exact h8
            · refine Keeps.next ?_
              refine h3 _ _ ?_
              with_reducible refine Kept.upd ?_ ..
              exact h8
    · refine Keeps.next ?_
      refine Kept.ite ?_ ?_
      · refine h3 _ _ ?_
        exact h0
      · refine State.failStage_kept ?_
        exact h0
    · refine Keeps.next ?_
      refine Kept.ite ?_ ?_
      · refine h3 _ _ ?_
        exact h0
      · refine State.failStage_kept ?_
        exact h0
    · refine Keeps.next ?_
      refine Kept.ite ?_ ?_
      · refine h3 _ _ ?_
        exact h0
      · refine State.failStage_kept ?_
        exact h0
    · refine Keeps.ite ?_ ?_
      · refine Keeps.next ?_
        refine State.pairEvent_kept ?_
        refine State.setPairRole_kept ?_
        refine h3 _ _ ?_
        exact h0
      · refine Keeps.next ?_
        refine State.failStage_kept ?_
        exact h0

theorem execCheckpointPeriod_kept {ack : Bool} {s : State} : Keeps s (@execCheckpointPeriod ack s) := by
  have h0 := Kept.refl s
  unfold execCheckpointPeriod
  refine Keeps.ite ?_ ?_
  · refine Keeps.next ?_
    exact h0
  · extract_lets -merge +onlyGivenNames u1
    have h2 : Kept s u1 := by
      unfold u1
      refine Kept.ite ?_ ?_
      · refine State.openGen_kept ?_
        exact h0
      · exact h0
    extract_lets -merge +onlyGivenNames u3
    extract_lets -merge +onlyGivenNames u4
    have h5 : Kept s u4 := by
      unfold u4
      refine State.commitGen_kept ?_
      exact h2
    refine Keeps.next ?_
    refine Kept.ite ?_ ?_
    · refine State.pairEvent_kept ?_
      exact h5
    · exact h5

theorem execDigestCompare_kept {diff : BitVec 24} {s : State} : Keeps s (@execDigestCompare diff s) := by
  have h0 := Kept.refl s
  unfold execDigestCompare
  extract_lets -merge +onlyGivenNames u1
  refine Keeps.ite ?_ ?_
  · refine Keeps.next ?_
    exact h0
  · refine Keeps.ite ?_ ?_
    · split
      · refine Keeps.ite ?_ ?_
        · refine Keeps.next ?_
          exact h0
        · refine Keeps.ite ?_ ?_
          · refine Keeps.next ?_
            with_reducible refine Kept.upd ?_ ..
            exact h0
          · refine Keeps.next ?_
            with_reducible refine Kept.upd ?_ ..
            exact h0
      · refine Keeps.next ?_
        exact h0
    · extract_lets -merge +onlyGivenNames u2
      extract_lets -merge +onlyGivenNames u3
      have h4 : Kept s u3 := by
        unfold u3
        with_reducible refine Kept.upd ?_ ..
        exact h0
      extract_lets -merge +onlyGivenNames u5
      have h6 : Kept s u5 := by
        unfold u5
        refine State.bumpSat_kept ?_
        refine State.wr_kept ?_
        exact h4
      extract_lets -merge +onlyGivenNames u7
      have h8 : Kept s u7 := by
        unfold u7
        refine State.pairEvent_kept ?_
        exact h6
      extract_lets -merge +onlyGivenNames u9
      extract_lets -merge +onlyGivenNames u10
      extract_lets -merge +onlyGivenNames u11
      extract_lets -merge +onlyGivenNames u12
      extract_lets -merge +onlyGivenNames u13
      refine Keeps.ite ?_ ?_
      · refine Keeps.ite ?_ ?_
        · refine Keeps.next ?_
          exact h8
        · refine Keeps.ite ?_ ?_
          · refine Keeps.next ?_
            with_reducible refine Kept.upd ?_ ..
            exact h8
          · refine Keeps.next ?_
            with_reducible refine Kept.upd ?_ ..
            exact h8
      · refine Keeps.ite ?_ ?_
        · refine Keeps.next ?_
          refine Kept.ite ?_ ?_
          · exact h8
          · refine State.enterCatchup_kept ?_
            exact h8
        · refine Keeps.next ?_
          refine State.failStage_kept ?_
          exact h8

theorem execEgressPause_kept {eth : Bool} {e : BitVec 16} {s : State} : Keeps s (@execEgressPause eth e s) := by
  have h0 := Kept.refl s
  unfold execEgressPause
  refine Keeps.ite ?_ ?_
  · refine Keeps.next ?_
    with_reducible refine Kept.upd ?_ ..
    exact h0
  · refine Keeps.next ?_
    exact h0

theorem execEpochScheduleReceive_kept {frame : BitVec 64} {cycle : BitVec 64} {s : State} : Keeps s (@execEpochScheduleReceive frame cycle s) := by
  have h0 := Kept.refl s
  unfold execEpochScheduleReceive
  refine Keeps.next ?_
  refine State.twinMessage_kept ?_ ?_
  · exact h0
  · intro a1 h2
    refine Kept.ite ?_ ?_
    · with_reducible refine Kept.upd ?_ ..
      exact h2
    · exact h2

theorem execFineOffsetReceive_kept {n : Fin 96} {ofs : BitVec 32} {s : State} : Keeps s (@execFineOffsetReceive n ofs s) := by
  have h0 := Kept.refl s
  unfold execFineOffsetReceive
  refine Keeps.next ?_
  refine State.twinMessage_kept ?_ ?_
  · exact h0
  · intro a1 h2
    refine Kept.ite ?_ ?_
    · with_reducible refine Kept.upd ?_ ..
      exact h2
    · exact h2

theorem execGenerationMirrorReceive_kept {slot : Fin 2} {g : Gen} {tagOk : Bool} {s : State} : Keeps s (@execGenerationMirrorReceive slot g tagOk s) := by
  have h0 := Kept.refl s
  unfold execGenerationMirrorReceive
  refine Keeps.next ?_
  refine State.twinMessage_kept ?_ ?_
  · exact h0
  · intro a1 h2
    refine Kept.ite ?_ ?_
    · exact h2
    · extract_lets -merge +onlyGivenNames u3
      extract_lets -merge +onlyGivenNames u4
      have h5 : Kept s u4 := by
        unfold u4
        refine State.setLedg_kept ?_
        exact h2
      refine Kept.ite ?_ ?_
      · refine State.putGen_kept ?_
        exact h5
      · exact h5

theorem execHeartbeatDecode_kept {high : BitVec 16} {s : State} : Keeps s (@execHeartbeatDecode high s) := by
  have h0 := Kept.refl s
  unfold execHeartbeatDecode
  refine Keeps.ite ?_ ?_
  · refine Keeps.next ?_
    exact h0
  · split
    · refine Keeps.next ?_
      exact h0
    · extract_lets -merge +onlyGivenNames u1
      extract_lets -merge +onlyGivenNames u2
      have h3 : Kept s u2 := by
        unfold u2
        refine State.wr_kept ?_
        exact h0
      extract_lets -merge +onlyGivenNames u4
      refine Keeps.ite ?_ ?_
      · refine Keeps.ite ?_ ?_
        · refine Keeps.next ?_
          exact h3
        · refine Keeps.next ?_
          refine State.yieldTake_kept ?_
          with_reducible refine Kept.upd ?_ ..
          exact h3
      · refine Keeps.ite ?_ ?_
        · refine Keeps.next ?_
          with_reducible refine Kept.upd ?_ ..
          exact h3
        · refine Keeps.ite ?_ ?_
          · split
            · refine Keeps.next ?_
              refine State.decideClaim_kept ?_
              exact h3
            · refine Keeps.next ?_
              refine State.decideClaim_kept ?_
              exact h3
          · refine Keeps.next ?_
            exact h3

theorem execHeartbeatLost_kept {s : State} : Keeps s (@execHeartbeatLost s) := by
  have h0 := Kept.refl s
  unfold execHeartbeatLost
  refine Keeps.ite ?_ ?_
  · refine Keeps.next ?_
    exact h0
  · extract_lets -merge +onlyGivenNames u1
    extract_lets -merge +onlyGivenNames u2
    have h3 : Kept s u2 := by
      unfold u2
      refine State.wr_kept ?_
      exact h0
    extract_lets -merge +onlyGivenNames u4
    have h5 : Kept s u4 := by
      unfold u4
      refine Kept.ite ?_ ?_
      · exact h3
      · refine State.pairEvent_kept ?_
        exact h3
    refine Keeps.next ?_
    refine Kept.ite ?_ ?_
    · exact h5
    · refine State.activeLost_kept ?_
      exact h5

theorem execHeartbeatSend_kept {s : State} : Keeps s (@execHeartbeatSend s) := by
  have h0 := Kept.refl s
  unfold execHeartbeatSend
  refine Keeps.ite ?_ ?_
  · refine Keeps.next ?_
    exact h0
  · refine Keeps.ite ?_ ?_
    · refine Keeps.next ?_
      refine State.emit_kept ?_
      exact h0
    · refine Keeps.ite ?_ ?_
      · refine Keeps.next ?_
        refine State.emit_kept ?_
        exact h0
      · refine Keeps.next ?_
        refine State.emit_kept ?_
        exact h0

theorem execInternalFaultReceive_kept {fence : Bool} {s : State} : Keeps s (@execInternalFaultReceive fence s) := by
  have h0 := Kept.refl s
  unfold execInternalFaultReceive
  refine Keeps.next ?_
  refine State.twinMessage_kept ?_ ?_
  · exact h0
  · intro a1 h2
    refine Kept.ite ?_ ?_
    · exact h2
    · extract_lets -merge +onlyGivenNames u3
      extract_lets -merge +onlyGivenNames u4
      have h5 : Kept s u4 := by
        unfold u4
        with_reducible refine Kept.upd ?_ ..
        exact h2
      refine Kept.ite ?_ ?_
      · refine State.pairEvent_kept ?_
        refine State.toSolo_kept ?_
        exact h5
      · exact h5

theorem execJournalEntryReceive_kept {seq : BitVec 64} {frame : BitVec 64} {c : Change} {differs : Bool} {s : State} : Keeps s (@execJournalEntryReceive seq frame c differs s) := by
  have h0 := Kept.refl s
  unfold execJournalEntryReceive
  refine Keeps.next ?_
  refine State.twinMessage_kept ?_ ?_
  · exact h0
  · intro a1 h2
    refine Kept.ite ?_ ?_
    · exact h2
    · extract_lets -merge +onlyGivenNames u3
      extract_lets -merge +onlyGivenNames u4
      have h5 : Kept s u4 := by
        unfold u4
        refine State.setLedg_kept ?_
        exact h2
      extract_lets -merge +onlyGivenNames u6
      have h7 : Kept s u6 := by
        unfold u6
        refine Kept.ite ?_ ?_
        · refine State.later_kept ?_
          exact h5
        · exact h5
      refine Kept.ite ?_ ?_
      · refine State.internalFault_kept ?_
        exact h7
      · exact h7

theorem execPacketCopyReceive_kept {p : PktCopy} {s : State} : Keeps s (@execPacketCopyReceive p s) := by
  have h0 := Kept.refl s
  unfold execPacketCopyReceive
  refine Keeps.next ?_
  refine State.twinMessage_kept ?_ ?_
  · exact h0
  · intro a1 h2
    refine Kept.ite ?_ ?_
    · exact h2
    · split
      rename_i e3
      refine Kept.thruE (z := s) e3 ?_ (fun h4 => ?_)
      · refine State.openPkt_kept ?_
        exact h2
      · split
        rename_i e5
        refine Kept.thruE (z := s) e5 ?_ (fun h6 => ?_)
        · refine State.writePkt_kept ?_
          exact h4
        · refine Kept.ite ?_ ?_
          · exact h6
          · extract_lets -merge +onlyGivenNames u7
            have h8 : Kept s u7 := by
              unfold u7
              refine State.closePkt_kept ?_
              exact h6
            split
            · refine State.showHead_kept ?_
              refine State.setPkt_kept ?_
              exact h8
            · exact h8

theorem execPacketListSend_kept {lists : List (BitVec 16 × List (Fin 96 × BitVec 64))} {s : State} : Keeps s (@execPacketListSend lists s) := by
  have h0 := Kept.refl s
  unfold execPacketListSend
  refine Keeps.ite ?_ ?_
  · extract_lets -merge +onlyGivenNames u1
    extract_lets -merge +onlyGivenNames u2
    extract_lets -merge +onlyGivenNames u3
    have h4 : Kept s u3 := by
      unfold u3
      refine Kept.foldl ?_ ?_
      · intro a5 a6 h7
        refine State.emit_kept ?_
        exact h7
      · exact h0
    refine Keeps.next ?_
    with_reducible refine Kept.upd ?_ ..
    exact h4
  · refine Keeps.ite ?_ ?_
    · refine Keeps.next ?_
      refine State.twinMessage_kept ?_ ?_
      · exact h0
      · intro a8 h9
        with_reducible refine Kept.upd ?_ ..
        exact h9
    · refine Keeps.next ?_
      exact h0

theorem execPairFormed_kept {fits : Bool} {s : State} : Keeps s (@execPairFormed fits s) := by
  have h0 := Kept.refl s
  unfold execPairFormed
  split
  · refine Keeps.next ?_
    exact h0
  · extract_lets -merge +onlyGivenNames u1
    extract_lets -merge +onlyGivenNames u2
    have h3 : Kept s u2 := by
      unfold u2
      with_reducible refine Kept.upd ?_ ..
      exact h0
    refine Keeps.ite ?_ ?_
    · refine Keeps.next ?_
      refine State.fail_kept ?_
      refine State.wr_kept ?_
      exact h3
    · refine Keeps.ite ?_ ?_
      · refine Keeps.next ?_
        refine State.ok_kept ?_
        refine State.setPairRole_kept ?_
        with_reducible refine Kept.upd ?_ ..
        exact h3
      · refine Keeps.next ?_
        refine State.ok_kept ?_
        refine State.enterCatchup_kept ?_
        exact h3

theorem execPairJoinTimeout_kept {s : State} : Keeps s (@execPairJoinTimeout s) := by
  have h0 := Kept.refl s
  unfold execPairJoinTimeout
  split
  · refine Keeps.next ?_
    exact h0
  · refine Keeps.next ?_
    refine State.fail_kept ?_
    with_reducible refine Kept.upd ?_ ..
    exact h0

theorem execResyncBoundary_kept {pool : Bool} {s : State} : Keeps s (@execResyncBoundary pool s) := by
  have h0 := Kept.refl s
  unfold execResyncBoundary
  extract_lets -merge +onlyGivenNames u1
  have h2 : ∀ v0, Kept s v0 → Kept s (u1 v0) := by
    unfold u1
    intro a3 h4
    with_reducible refine Kept.upd ?_ ..
    exact h4
  refine Keeps.ite ?_ ?_
  · refine Keeps.next ?_
    refine h2 _ ?_
    with_reducible refine Kept.upd ?_ ..
    exact h0
  · refine Keeps.ite ?_ ?_
    · refine Keeps.ite ?_ ?_
      · refine Keeps.next ?_
        refine State.failStage_kept ?_
        exact h0
      · refine Keeps.next ?_
        refine h2 _ ?_
        refine State.applyResync_kept ?_
        refine State.alignQueues_kept ?_
        exact h0
    · refine Keeps.next ?_
      exact h0

theorem execResyncWordsSend_kept {words : List (BitVec 15 × BitVec 64)} {s : State} : Keeps s (@execResyncWordsSend words s) := by
  have h0 := Kept.refl s
  unfold execResyncWordsSend
  refine Keeps.ite ?_ ?_
  · refine Keeps.next ?_
    refine Kept.foldl ?_ ?_
    · intro a1 a2 h3
      refine State.emit_kept ?_
      exact h3
    · exact h0
  · refine Keeps.ite ?_ ?_
    · refine Keeps.next ?_
      refine State.twinMessage_kept ?_ ?_
      · exact h0
      · intro a4 h5
        with_reducible refine Kept.upd ?_ ..
        exact h5
    · refine Keeps.next ?_
      exact h0

theorem execTakeoverClaim_kept {planned : Bool} {r : LedgRead} {s : State} : Keeps s (@execTakeoverClaim planned r s) := by
  have h0 := Kept.refl s
  unfold execTakeoverClaim
  split
  · refine Keeps.next ?_
    refine State.takeOver_kept ?_
    exact h0
  · extract_lets -merge +onlyGivenNames u1
    have h2 : Kept s u1 := by
      unfold u1
      refine State.takeOver_kept ?_
      exact h0
    refine Keeps.next ?_
    with_reducible refine Kept.upd ?_ ..
    exact h2
  · split
    rename_i e3
    refine Kept.thruE1 (z := s) e3 ?_ (fun h4 => ?_)
    · refine State.restore_kept ?_
      exact h0
    · refine Keeps.next ?_
      refine Kept.ite ?_ ?_
      · refine State.takeOver_kept ?_
        exact h4
      · refine State.wr_kept ?_
        refine State.decideClaim_kept ?_
        exact h4
  · refine Keeps.ite ?_ ?_
    · extract_lets -merge +onlyGivenNames u5
      have h6 : Kept s u5 := by
        unfold u5
        refine State.takeOver_kept ?_
        exact h0
      refine Keeps.next ?_
      with_reducible refine Kept.upd ?_ ..
      exact h6
    · refine Keeps.next ?_
      exact h0

theorem execTwinDelayMeasure_kept {d : BitVec 32} {s : State} : Keeps s (@execTwinDelayMeasure d s) := by
  have h0 := Kept.refl s
  unfold execTwinDelayMeasure
  refine Keeps.next ?_
  refine Kept.ite ?_ ?_
  · refine State.wr_kept ?_
    exact h0
  · exact h0

theorem execTwinLinkLoss_kept {up : BitVec 8} {s : State} : Keeps s (@execTwinLinkLoss up s) := by
  have h0 := Kept.refl s
  unfold execTwinLinkLoss
  refine Keeps.ite ?_ ?_
  · refine Keeps.next ?_
    exact h0
  · extract_lets -merge +onlyGivenNames u1
    extract_lets -merge +onlyGivenNames u2
    have h3 : Kept s u2 := by
      unfold u2
      refine State.wr_kept ?_
      refine State.wr_kept ?_
      exact h0
    extract_lets -merge +onlyGivenNames u4
    have h5 : Kept s u4 := by
      unfold u4
      refine Kept.ite ?_ ?_
      · refine State.pairEvent_kept ?_
        exact h3
      · exact h3
    refine Keeps.ite ?_ ?_
    · refine Keeps.next ?_
      refine State.activeLost_kept ?_
      exact h5
    · refine Keeps.ite ?_ ?_
      · refine Keeps.next ?_
        refine State.enterCatchup_kept ?_
        exact h5
      · refine Keeps.next ?_
        with_reducible refine Kept.upd ?_ ..
        exact h5

theorem execTwinLinkReturn_kept {up : BitVec 8} {s : State} : Keeps s (@execTwinLinkReturn up s) := by
  have h0 := Kept.refl s
  unfold execTwinLinkReturn
  refine Keeps.ite ?_ ?_
  · refine Keeps.next ?_
    exact h0
  · extract_lets -merge +onlyGivenNames u1
    extract_lets -merge +onlyGivenNames u2
    have h3 : Kept s u2 := by
      unfold u2
      refine State.wr_kept ?_
      refine State.wr_kept ?_
      exact h0
    refine Keeps.next ?_
    refine Kept.ite ?_ ?_
    · refine State.enterCatchup_kept ?_
      exact h3
    · exact h3

theorem execTwinTimeAnchorReceive_kept {frame : BitVec 64} {time : BitVec 96} {s : State} : Keeps s (@execTwinTimeAnchorReceive frame time s) := by
  have h0 := Kept.refl s
  unfold execTwinTimeAnchorReceive
  refine Keeps.next ?_
  refine State.twinMessage_kept ?_ ?_
  · exact h0
  · intro a1 h2
    refine Kept.ite ?_ ?_
    · with_reducible refine Kept.upd ?_ ..
      exact h2
    · exact h2

theorem State.emptySlot_kept {z : State} {s : State} {c : Nat} {slot : Nat} (hk : Kept z s) : Kept z (@State.emptySlot s c slot) := by
  unfold State.emptySlot
  split
  · refine Kept.ite ?_ ?_
    · exact hk
    · refine State.repack_kept ?_
      refine Kept.iter ?_ ?_
      · intro a1 a2 h3
        refine State.setPw_kept ?_
        exact h3
      · refine State.setProg_kept ?_
        exact hk
  · exact hk

theorem State.restoreP3_kept {z : State} {s : State} {r : LedgRead} {images : List (Fin 96 × Fin 4)} (hk : Kept z s) : Kept z (@State.restoreP3 s r images) := by
  unfold State.restoreP3
  split
  rename_i e1
  refine Kept.thruE1 (z := z) e1 ?_ (fun h2 => ?_)
  · refine State.restore_kept ?_
    exact hk
  · extract_lets -merge +onlyGivenNames u3
    have h4 : Kept z u3 := by
      unfold u3
      refine Kept.foldl ?_ ?_
      · intro a5 a6 h7
        refine State.emptySlot_kept ?_
        exact h7
      · exact h2
    with_reducible refine Kept.upd ?_ ..
    exact h4

theorem State.enterMuster_kept {z : State} {s : State} {r : LedgRead} {images : List (Fin 96 × Fin 4)} (hk : Kept z s) : Kept z (@State.enterMuster s r images) := by
  unfold State.enterMuster
  extract_lets -merge +onlyGivenNames u1
  extract_lets -merge +onlyGivenNames u2
  extract_lets -merge +onlyGivenNames u3
  have h4 : Kept z u3 := by
    unfold u3
    refine State.releaseFault_kept ?_
    refine State.releaseFault_kept ?_
    with_reducible refine Kept.upd ?_ ..
    exact hk
  extract_lets -merge +onlyGivenNames u5
  have h6 : Kept z u5 := by
    unfold u5
    refine State.bellShow_kept ?_
    refine State.wr_kept ?_
    exact h4
  refine Kept.ite ?_ ?_
  · refine State.restoreP3_kept ?_
    exact h6
  · exact h6

theorem State.failStep_kept {z : State} {s : State} {n : Nat} (hk : Kept z s) : Kept z (@State.failStep s n) := by
  unfold State.failStep
  refine State.assertFault_kept ?_
  with_reducible refine Kept.upd ?_ ..
  exact hk

theorem State.loadRepair_kept {z : State} {s : State} {copyA : Bool} {copyB : Bool} (hk : Kept z s) : Kept z (@State.loadRepair s copyA copyB) := by
  unfold State.loadRepair
  extract_lets -merge +onlyGivenNames u1
  have h2 : Kept z u1 := by
    unfold u1
    with_reducible refine Kept.upd ?_ ..
    exact hk
  extract_lets -merge +onlyGivenNames u3
  have h4 : Kept z u3 := by
    unfold u3
    split
    · refine State.latch_kept ?_
      exact h2
    · refine Kept.foldl ?_ ?_
      · intro a5 a6 h7
        extract_lets -merge +onlyGivenNames u8
        have h9 : Kept z u8 := by
          unfold u8
          refine State.putMap_kept ?_
          exact h7
        refine Kept.ite ?_ ?_
        · exact h9
        · refine State.wr_kept ?_
          refine State.wr_kept ?_
          exact h9
      · exact h2
  refine State.wr_kept ?_
  refine State.degradedRecompute_kept ?_
  exact h4

theorem State.retireLedger_kept {z : State} {s : State} (hk : Kept z s) : Kept z (@State.retireLedger s) := by
  unfold State.retireLedger
  extract_lets -merge +onlyGivenNames u1
  extract_lets -merge +onlyGivenNames u2
  extract_lets -merge +onlyGivenNames u3
  have h4 : Kept z u3 := by
    unfold u3
    with_reducible refine Kept.upd ?_ ..
    exact hk
  refine State.showLedg_kept ?_
  exact h4

theorem State.readFuses_kept {z : State} {s : State} {bad : Nat} {fatal other : Bool} (hk : Kept z s) : Kept z (s.readFuses bad fatal other) := by
  unfold State.readFuses
  extract_lets f s1 s2
  have h1 : Kept z s1 := State.setFuses_kept hk (Fuses.Grows.found s.fuses bad)
  have h2 : Kept z s2 := Kept.ite (State.latch_kept h1) h1
  refine Kept.ite (State.failStep_kept h2) (State.beginStep_kept (Kept.ite h2 ?_))
  exact State.retireLedger_kept (State.wr_kept h2)

theorem State.resetMaster_kept {z : State} {s : State} {m : Nat} {burst : Bool} (hk : Kept z s) : Kept z (@State.resetMaster s m burst) := by
  unfold State.resetMaster
  extract_lets -merge +onlyGivenNames u1
  extract_lets -merge +onlyGivenNames u2
  extract_lets -merge +onlyGivenNames u3
  have h4 : Kept z u3 := by
    unfold u3
    with_reducible refine Kept.upd ?_ ..
    exact hk
  extract_lets -merge +onlyGivenNames u5
  have h6 : Kept z u5 := by
    unfold u5
    refine State.wr_kept ?_
    refine State.wr_kept ?_
    exact h4
  extract_lets -merge +onlyGivenNames u7
  have h8 : Kept z u7 := by
    unfold u7
    refine Kept.ite ?_ ?_
    · refine State.latch_kept ?_
      exact h6
    · exact h6
  refine Kept.ite ?_ ?_
  · refine State.reportFence_kept ?_
    exact h8
  · exact h8

theorem State.showDesc_kept {z : State} {s : State} (hk : Kept z s) : Kept z (@State.showDesc s) := by
  unfold State.showDesc
  extract_lets -merge +onlyGivenNames u1
  have h2 : Kept z u1 := by
    unfold u1
    refine Kept.iter ?_ ?_
    · intro a3 a4 h5
      refine State.wr_kept ?_
      exact h5
    · exact hk
  refine Kept.iter ?_ ?_
  · intro a6 a7 h8
    refine State.loadLaneDesc_kept ?_
    exact h8
  · exact h2

theorem State.verifyDesc_kept {z : State} {s : State} {sigOk : Bool} (hk : Kept z s) : Kept z (@State.verifyDesc s sigOk) := by
  unfold State.verifyDesc
  extract_lets -merge +onlyGivenNames u1
  have h2 : Kept z u1 := by
    unfold u1
    refine Kept.ite ?_ ?_
    · exact hk
    · split
      refine State.showDesc_kept ?_
      refine State.wr_kept ?_
      with_reducible refine Kept.upd ?_ ..
      exact hk
  extract_lets -merge +onlyGivenNames u3
  extract_lets -merge +onlyGivenNames u4
  have h5 : Kept z u4 := by
    unfold u4
    refine State.wr_kept ?_
    refine State.wr_kept ?_
    exact h2
  refine Kept.ite ?_ ?_
  · refine State.failStep_kept ?_
    exact h5
  · refine Kept.ite ?_ ?_
    · refine State.beginStep_kept ?_
      exact h5
    · refine State.beginStep_kept ?_
      exact h5

theorem execHostPortReset_kept {flr hostBurst dmaBurst : Bool} {s : State} : Keeps s (execHostPortReset flr hostBurst dmaBurst s) := by
  have h0 := Kept.refl s
  unfold execHostPortReset
  extract_lets gen width u v s1 s2 s3
  have hu : Kept s u := State.clearRegs_kept h0
  have h1 : Kept s s1 := ⟨hu.pending, fun k => { hu.tables k with msixTable := rfl, msixCount := rfl }, hu.fuses⟩
  have h2 : Kept s s2 := State.wr_kept h1
  exact Keeps.next (State.resetMaster_kept (State.resetMaster_kept (Kept.ite (State.wr_kept (State.wr_kept h2)) h2)))

theorem execJtagTapReset_kept {s : State} : Keeps s (@execJtagTapReset s) := by
  have h0 := Kept.refl s
  unfold execJtagTapReset
  refine Keeps.next ?_
  with_reducible refine Kept.upd ?_ ..
  exact h0

theorem execPairRefclkLoss_kept {s : State} : Keeps s (@execPairRefclkLoss s) := by
  have h0 := Kept.refl s
  unfold execPairRefclkLoss
  refine Keeps.ite ?_ ?_
  · extract_lets -merge +onlyGivenNames u1
    have h2 : Kept s u1 := by
      unfold u1
      refine State.warmReset_kept ?_
      exact h0
    refine Keeps.next ?_
    refine State.assertFault_kept ?_
    with_reducible refine Kept.upd ?_ ..
    exact h2
  · refine Keeps.next ?_
    with_reducible refine Kept.upd ?_ ..
    exact h0

theorem execPairRefclkRestore_kept {s : State} : Keeps s (@execPairRefclkRestore s) := by
  have h0 := Kept.refl s
  unfold execPairRefclkRestore
  extract_lets -merge +onlyGivenNames u1
  extract_lets -merge +onlyGivenNames u2
  have h3 : Kept s u2 := by
    unfold u2
    with_reducible refine Kept.upd ?_ ..
    exact h0
  refine Keeps.ite ?_ ?_
  · refine Keeps.next ?_
    refine State.beginStep_kept ?_
    exact h3
  · refine Keeps.next ?_
    exact h3

theorem execPcieLinkTrained_kept {gen : BitVec 4} {width : BitVec 4} {s : State} : Keeps s (@execPcieLinkTrained gen width s) := by
  have h0 := Kept.refl s
  unfold execPcieLinkTrained
  refine Keeps.next ?_
  refine Kept.ite ?_ ?_
  · refine State.wr_kept ?_
    refine State.wr_kept ?_
    exact h0
  · exact h0

theorem execPowerOnReset_kept {s : State} : Keeps s (@execPowerOnReset s) := by
  have h0 := Kept.refl s
  unfold execPowerOnReset
  refine Keeps.next ?_
  refine State.powerOnReset_kept ?_
  exact h0

theorem execResetNRelease_kept {s : State} : Keeps s (@execResetNRelease s) := by
  have h0 := Kept.refl s
  unfold execResetNRelease
  refine Keeps.next ?_
  with_reducible refine Kept.upd ?_ ..
  exact h0

theorem execSerdesRefclkFence_kept {s : State} : Keeps s (@execSerdesRefclkFence s) := by
  have h0 := Kept.refl s
  unfold execSerdesRefclkFence
  refine Keeps.ite ?_ ?_
  · refine Keeps.next ?_
    refine Kept.iter ?_ ?_
    · intro a1 a2 h3
      refine Kept.ite ?_ ?_
      · refine State.fenceLane_kept ?_
        exact h3
      · exact h3
    · exact h0
  · refine Keeps.next ?_
    exact h0

theorem execSerdesRefclkLoss_kept {s : State} : Keeps s (@execSerdesRefclkLoss s) := by
  have h0 := Kept.refl s
  unfold execSerdesRefclkLoss
  extract_lets -merge +onlyGivenNames u1
  extract_lets -merge +onlyGivenNames u2
  have h3 : Kept s u2 := by
    unfold u2
    with_reducible refine Kept.upd ?_ ..
    exact h0
  refine Keeps.next ?_
  refine State.bellShow_kept ?_
  refine Kept.iter ?_ ?_
  · intro a4 a5 h6
    refine Kept.ite ?_ ?_
    · refine State.latch_kept ?_
      refine State.wr_kept ?_
      exact h6
    · exact h6
  · exact h3

theorem execSerdesRefclkReturn_kept {s : State} : Keeps s (@execSerdesRefclkReturn s) := by
  have h0 := Kept.refl s
  unfold execSerdesRefclkReturn
  refine Keeps.next ?_
  with_reducible refine Kept.upd ?_ ..
  exact h0

theorem execStartupStepComplete_kept {f : StepFind} {s : State} : Keeps s (@execStartupStepComplete f s) := by
  have h0 := Kept.refl s
  unfold execStartupStepComplete
  split
  · refine Keeps.next ?_
    refine Kept.ite ?_ ?_
    · refine State.beginStep_kept ?_
      exact h0
    · exact h0
  · refine Keeps.next ?_
    refine State.readFuses_kept ?_
    exact h0
  · refine Keeps.next ?_
    refine State.verifyDesc_kept ?_
    exact h0
  · refine Keeps.ite ?_ ?_
    · refine Keeps.next ?_
      refine State.assertFault_kept ?_
      extract_lets -merge +onlyGivenNames u1
      have h2 : Kept s u1 := by
        unfold u1
        refine State.millEvent_kept ?_
        refine State.millOff_kept ?_
        exact h0
      with_reducible refine Kept.upd ?_ ..
      exact h2
    · refine Keeps.ite ?_ ?_
      · refine Keeps.next ?_
        refine State.beginStep_kept ?_
        refine State.wr_kept ?_
        refine State.wr_kept ?_
        exact h0
      · refine Keeps.next ?_
        exact h0
  · refine Keeps.ite ?_ ?_
    · refine Keeps.next ?_
      exact h0
    · refine Keeps.ite ?_ ?_
      · refine Keeps.next ?_
        refine State.failStep_kept ?_
        exact h0
      · refine Keeps.next ?_
        refine State.beginStep_kept ?_
        refine Kept.ite ?_ ?_
        · exact h0
        · refine State.oscLoss_kept ?_
          exact h0
  · refine Keeps.next ?_
    refine Kept.ite ?_ ?_
    · refine State.beginStep_kept ?_
      refine State.wr_kept ?_
      exact h0
    · refine State.failStep_kept ?_
      exact h0
  · extract_lets -merge +onlyGivenNames u3
    have h4 : Kept s u3 := by
      unfold u3
      refine State.wr_kept ?_
      exact h0
    refine Keeps.next ?_
    refine State.beginStep_kept ?_
    refine Kept.iter ?_ ?_
    · intro a5 a6 h7
      refine Kept.ite ?_ ?_
      · refine State.fenceReeve_kept ?_
        exact h7
      · refine State.showReeve_kept ?_
        exact h7
    · exact h4
  · refine Keeps.next ?_
    refine State.beginStep_kept ?_
    refine State.loadRepair_kept ?_
    exact h0
  · refine Keeps.next ?_
    refine State.enterMuster_kept ?_
    exact h0
  · refine Keeps.next ?_
    exact h0

theorem execSupplyLoss_kept {s : State} : Keeps s (@execSupplyLoss s) := by
  have h0 := Kept.refl s
  unfold execSupplyLoss
  refine Keeps.next ?_
  refine State.powerOnReset_kept ?_
  exact h0

theorem execWarmReset_kept {s : State} : Keeps s (@execWarmReset s) := by
  have h0 := Kept.refl s
  unfold execWarmReset
  extract_lets -merge +onlyGivenNames u1
  have h2 : Kept s u1 := by
    unfold u1
    with_reducible refine Kept.upd ?_ ..
    exact h0
  refine Keeps.ite ?_ ?_
  · refine Keeps.next ?_
    refine State.leaveP3_kept ?_
    exact h2
  · refine Keeps.ite ?_ ?_
    · refine Keeps.next ?_
      exact h2
    · refine Keeps.ite ?_ ?_
      · extract_lets -merge +onlyGivenNames u3
        have h4 : Kept s u3 := by
          unfold u3
          refine State.warmReset_kept ?_
          exact h2
        refine Keeps.next ?_
        refine State.beginStep_kept ?_
        with_reducible refine Kept.upd ?_ ..
        exact h4
      · refine Keeps.next ?_
        exact h2

theorem execXtalAonLoss_kept {s : State} : Keeps s (@execXtalAonLoss s) := by
  have h0 := Kept.refl s
  unfold execXtalAonLoss
  refine Keeps.next ?_
  refine State.millEvent_kept ?_
  with_reducible refine Kept.upd ?_ ..
  exact h0

theorem execXtalAonRestore_kept {s : State} : Keeps s (@execXtalAonRestore s) := by
  have h0 := Kept.refl s
  unfold execXtalAonRestore
  refine Keeps.next ?_
  with_reducible refine Kept.upd ?_ ..
  exact h0

theorem State.jtagIr_kept {z : State} {s : State} {code : Nat} (hk : Kept z s) : Kept z (@State.jtagIr s code) := by
  unfold State.jtagIr
  with_reducible refine Kept.upd ?_ ..
  exact hk

theorem State.boundaryScan_kept {z : State} {s : State} {code : Nat} {bits : List Bool} (hk : Kept z s) : Kept z (@State.boundaryScan s code bits) := by
  unfold State.boundaryScan
  extract_lets -merge +onlyGivenNames u1
  have h2 : Kept z u1 := by
    unfold u1
    refine State.jtagIr_kept ?_
    exact hk
  refine Kept.ite ?_ ?_
  · exact h2
  · split
    rename_i e3
    refine Kept.thruE (z := z) e3 ?_ (fun h4 => ?_)
    · refine State.fresh_kept ?_
      exact h2
    · refine State.emit_kept ?_
      with_reducible refine Kept.upd ?_ ..
      exact h4

theorem execJtagAonDesc_kept {off : BitVec 16} {v : BitVec 32} {s : State} : Keeps s (@execJtagAonDesc off v s) := by
  have h0 := Kept.refl s
  unfold execJtagAonDesc
  extract_lets -merge +onlyGivenNames u1
  have h2 : Kept s u1 := by
    unfold u1
    refine State.jtagIr_kept ?_
    exact h0
  refine Keeps.ite ?_ ?_
  · refine Keeps.next ?_
    exact h2
  · refine Keeps.next ?_
    refine State.setWord_kept ?_
    exact h2

theorem execJtagAonStat_kept {s : State} : Keeps s (@execJtagAonStat s) := by
  have h0 := Kept.refl s
  unfold execJtagAonStat
  refine Keeps.next ?_
  refine State.emit_kept ?_
  refine State.jtagIr_kept ?_
  exact h0

theorem execJtagBypass_kept {code : BitVec 8} {s : State} : Keeps s (@execJtagBypass code s) := by
  have h0 := Kept.refl s
  unfold execJtagBypass
  refine Keeps.next ?_
  refine State.emit_kept ?_
  refine State.jtagIr_kept ?_
  exact h0

theorem execJtagExtest_kept {bits : List Bool} {s : State} : Keeps s (@execJtagExtest bits s) := by
  have h0 := Kept.refl s
  unfold execJtagExtest
  refine Keeps.next ?_
  refine State.boundaryScan_kept ?_
  exact h0

theorem execJtagIdcode_kept {s : State} : Keeps s (@execJtagIdcode s) := by
  have h0 := Kept.refl s
  unfold execJtagIdcode
  refine Keeps.next ?_
  refine State.emit_kept ?_
  refine State.jtagIr_kept ?_
  exact h0

theorem execJtagLantMtx_kept {a : BitVec 32} {data : BitVec 32} {write : Bool} {s : State} : Keeps s (@execJtagLantMtx a data write s) := by
  have h0 := Kept.refl s
  unfold execJtagLantMtx
  extract_lets -merge +onlyGivenNames u1
  have h2 : Kept s u1 := by
    unfold u1
    refine State.jtagIr_kept ?_
    exact h0
  extract_lets -merge +onlyGivenNames u3
  extract_lets -merge +onlyGivenNames u4
  unfold u4
  refine Keeps.ite ?_ ?_
  · refine Keeps.next ?_
    exact h2
  · refine Keeps.ite ?_ ?_
    · extract_lets -merge +onlyGivenNames u5
      refine Keeps.next ?_
      refine State.emit_kept ?_
      with_reducible refine Kept.upd ?_ ..
      refine Kept.ite ?_ ?_
      · exact h2
      · refine State.emit_kept ?_
        exact h2
    · refine Keeps.ite ?_ ?_
      · extract_lets -merge +onlyGivenNames u6
        refine Keeps.next ?_
        refine State.emit_kept ?_
        with_reducible refine Kept.upd ?_ ..
        refine State.writeAt_kept ?_
        exact h2
      · split
        rename_i e7
        refine Kept.thruE2 (z := s) e7 ?_ (fun h8 => ?_)
        · refine State.readAt_kept ?_
          exact h2
        · extract_lets -merge +onlyGivenNames u9
          refine Keeps.next ?_
          refine State.emit_kept ?_
          with_reducible refine Kept.upd ?_ ..
          refine State.emit_kept ?_
          exact h8

theorem execJtagSamplePreload_kept {bits : List Bool} {s : State} : Keeps s (@execJtagSamplePreload bits s) := by
  have h0 := Kept.refl s
  unfold execJtagSamplePreload
  refine Keeps.next ?_
  refine State.boundaryScan_kept ?_
  exact h0

theorem execJtagWake_kept {s : State} : Keeps s (@execJtagWake s) := by
  have h0 := Kept.refl s
  unfold execJtagWake
  extract_lets -merge +onlyGivenNames u1
  have h2 : Kept s u1 := by
    unfold u1
    refine State.jtagIr_kept ?_
    exact h0
  refine Keeps.next ?_
  refine Kept.ite ?_ ?_
  · refine State.leaveP3_kept ?_
    exact h2
  · exact h2

end Sys2Proof.Machine
end

