-- ==== Sys2Proof/Laws/KeptExec.lean ====
section
/-! SUPPORT. What every command keeps. -/
namespace Sys2Proof.Machine

/-- Every command leaves the queue as it is, keeps canonical tables canonical, and moves the fuse store one way. -/
theorem exec_keeps (c : Instr) (s : State) : Keeps s (exec c s) := by
  cases c with
  | powerOnReset => exact execPowerOnReset_kept
  | warmReset => exact execWarmReset_kept
  | resetNRelease => exact execResetNRelease_kept
  | hostPortReset => exact execHostPortReset_kept
  | startupStepComplete => exact execStartupStepComplete_kept
  | pairRefclkLoss => exact execPairRefclkLoss_kept
  | pairRefclkRestore => exact execPairRefclkRestore_kept
  | serdesRefclkLoss => exact execSerdesRefclkLoss_kept
  | serdesRefclkFence => exact execSerdesRefclkFence_kept
  | serdesRefclkReturn => exact execSerdesRefclkReturn_kept
  | xtalAonLoss => exact execXtalAonLoss_kept
  | xtalAonRestore => exact execXtalAonRestore_kept
  | oscInLoss => exact execOscInLoss_kept
  | supplyLoss => exact execSupplyLoss_kept
  | thermalTrip => exact execThermalTrip_kept
  | thermalTripRecovery => exact execThermalTripRecovery_kept
  | jtagTapReset => exact execJtagTapReset_kept
  | rveReset => exact execRveReset_kept
  | rveResetDone => exact execRveResetDone_kept
  | rveFenceReq => exact execRveFenceReq_kept
  | reeveWatchdog => exact execReeveWatchdog_kept
  | reeveAwaitWake => exact execReeveAwaitWake_kept
  | reeveTimerAlarm => exact execReeveTimerAlarm_kept
  | reeveStallEnd => exact execReeveStallEnd_kept
  | ckptLedgerReport => exact execCkptLedgerReport_kept
  | pwrMillraceReply => exact execPwrMillraceReply_kept
  | frameBoundary => exact execFrameBoundary_kept
  | multiframeBoundary => exact execMultiframeBoundary_kept
  | oneSecondTick => exact execOneSecondTick_kept
  | rxWordEnqueue => exact execRxWordEnqueue_kept
  | blockRelease => exact execBlockRelease_kept
  | lcPllLock => exact execLcPllLock_kept
  | calStepEnd => exact execCalStepEnd_kept
  | txgenUnlock => exact execTxgenUnlock_kept
  | quadPllUnlock => exact execQuadPllUnlock_kept
  | driverFault => exact execDriverFault_kept
  | shellParity => exact execShellParity_kept
  | laneTransitionEnd => exact execLaneTransitionEnd_kept
  | dormantWakeTrimEnd => exact execDormantWakeTrimEnd_kept
  | wakeFallback => exact execWakeFallback_kept
  | cdrLock => exact execCdrLock_kept
  | adaptConverged => exact execAdaptConverged_kept
  | acqTimeout => exact execAcqTimeout_kept
  | rawLosAssert => exact execRawLosAssert_kept
  | rawLosClear => exact execRawLosClear_kept
  | lolWindowEnd => exact execLolWindowEnd_kept
  | laneLoopUpdate => exact execLaneLoopUpdate_kept
  | delayReplicaUpdate => exact execDelayReplicaUpdate_kept
  | transitionWindowEnd => exact execTransitionWindowEnd_kept
  | patternGateCheck => exact execPatternGateCheck_kept
  | snapshotWindowEnd => exact execSnapshotWindowEnd_kept
  | envelopeCheck => exact execEnvelopeCheck_kept
  | snrUpdate => exact execSnrUpdate_kept
  | eyeScanStart => exact execEyeScanStart_kept
  | eyeScanEnd => exact execEyeScanEnd_kept
  | firApply => exact execFirApply_kept
  | guardRelease => exact execGuardRelease_kept
  | laneReset => exact execLaneReset_kept
  | laneResetDone => exact execLaneResetDone_kept
  | laneFenceReq => exact execLaneFenceReq_kept
  | losCfgWrite => exact execLosCfgWrite_kept
  | lolCfgWrite => exact execLolCfgWrite_kept
  | rsCodewordDecode => exact execRsCodewordDecode_kept
  | syncHeaderCheck => exact execSyncHeaderCheck_kept
  | blockLockWindowEnd => exact execBlockLockWindowEnd_kept
  | alignmentMarkerLock => exact execAlignmentMarkerLock_kept
  | commaDetect => exact execCommaDetect_kept
  | patternWindowExpiry => exact execPatternWindowExpiry_kept
  | slip => exact execSlip_kept
  | bitslipSearchStart => exact execBitslipSearchStart_kept
  | patternWaitTimeout => exact execPatternWaitTimeout_kept
  | alignConfirmRead => exact execAlignConfirmRead_kept
  | alignMonitorRead => exact execAlignMonitorRead_kept
  | laneTestWrite => exact execLaneTestWrite_kept
  | farEndLoopStart => exact execFarEndLoopStart_kept
  | prbsChkWrite => exact execPrbsChkWrite_kept
  | prbsCheckWindow => exact execPrbsCheckWindow_kept
  | vtfFrameSend => exact execVtfFrameSend_kept
  | fasSearchMatch => exact execFasSearchMatch_kept
  | expectedFasCheck => exact execExpectedFasCheck_kept
  | fiwReceive => exact execFiwReceive_kept
  | rxCalendarSwitch => exact execRxCalendarSwitch_kept
  | mwrReceive => exact execMwrReceive_kept
  | timingMessageReceive => exact execTimingMessageReceive_kept
  | mccCellReceive => exact execMccCellReceive_kept
  | calAdvSegmentReceive => exact execCalAdvSegmentReceive_kept
  | apsWordReceive => exact execApsWordReceive_kept
  | calibrationFrameReceive => exact execCalibrationFrameReceive_kept
  | ethFrameReceive => exact execEthFrameReceive_kept
  | ethFrameSend => exact execEthFrameSend_kept
  | faultOrderedSetReceive => exact execFaultOrderedSetReceive_kept
  | preemptFragmentReceive => exact execPreemptFragmentReceive_kept
  | verifyMpacketReceive => exact execVerifyMpacketReceive_kept
  | verifyMpacketSend => exact execVerifyMpacketSend_kept
  | respondMpacketReceive => exact execRespondMpacketReceive_kept
  | insertFrameSend => exact execInsertFrameSend_kept
  | esmcPduReceive => exact execEsmcPduReceive_kept
  | esmcTimeout => exact execEsmcTimeout_kept
  | esmcInfoSend => exact execEsmcInfoSend_kept
  | esmcEventSend => exact execEsmcEventSend_kept
  | cpriHyperframeReceive => exact execCpriHyperframeReceive_kept
  | cbrMapperFrame => exact execCbrMapperFrame_kept
  | thReceive => exact execThReceive_kept
  | demapperFrame => exact execDemapperFrame_kept
  | demapWordDue => exact execDemapWordDue_kept
  | sheafBlockReceive => exact execSheafBlockReceive_kept
  | txCalendarSwitch => exact execTxCalendarSwitch_kept
  | defectSet => exact execDefectSet_kept
  | defectClear => exact execDefectClear_kept
  | bipWindowEnd => exact execBipWindowEnd_kept
  | snapshotImageWrite => exact execSnapshotImageWrite_kept
  | tallyLiveRead => exact execTallyLiveRead_kept
  | injectorStart => exact execInjectorStart_kept
  | injectorEvent => exact execInjectorEvent_kept
  | reorderWindowTimeout => exact execReorderWindowTimeout_kept
  | injectorRegWrite => exact execInjectorRegWrite_kept
  | scrubCycle => exact execScrubCycle_kept
  | rowRepairCopy => exact execRowRepairCopy_kept
  | rowRemap => exact execRowRemap_kept
  | repairRecordWrite => exact execRepairRecordWrite_kept
  | bankDrainStart => exact execBankDrainStart_kept
  | bankDrainEnd => exact execBankDrainEnd_kept
  | bankFenceReq => exact execBankFenceReq_kept
  | bankReset => exact execBankReset_kept
  | bankResetDone => exact execBankResetDone_kept
  | fencedQueueWalk => exact execFencedQueueWalk_kept
  | flushPoint => exact execFlushPoint_kept
  | queueClosed => exact execQueueClosed_kept
  | residencySweep => exact execResidencySweep_kept
  | flowEntryRewrite => exact execFlowEntryRewrite_kept
  | repairScanPassEnd => exact execRepairScanPassEnd_kept
  | retestDone => exact execRetestDone_kept
  | beatHandlerStart => exact execBeatHandlerStart_kept
  | serviceThreadStart => exact execServiceThreadStart_kept
  | threadOverrun => exact execThreadOverrun_kept
  | imageFetchComplete => exact execImageFetchComplete_kept
  | bundleRewrite => exact execBundleRewrite_kept
  | weaverParity => exact execWeaverParity_kept
  | threadReset => exact execThreadReset_kept
  | threadResetDone => exact execThreadResetDone_kept
  | threadFenceReq => exact execThreadFenceReq_kept
  | wvrReset => exact execWvrReset_kept
  | wvrResetDone => exact execWvrResetDone_kept
  | wvrFenceReq => exact execWvrFenceReq_kept
  | fifoDataRead => exact execFifoDataRead_kept
  | fifoDataWrite => exact execFifoDataWrite_kept
  | fifoFlush => exact execFifoFlush_kept
  | paramWordWrite => exact execParamWordWrite_kept
  | paramErrClear => exact execParamErrClear_kept
  | fnop e => exact execFnop_kept (x0 := e)
  | wext => exact execWext_kept
  | wins => exact execWins_kept
  | sbr => exact execSbr_kept
  | bext => exact execBext_kept
  | bins => exact execBins_kept
  | bop => exact execBop_kept
  | crc => exact execCrc_kept
  | anop e => exact execAnop_kept (x0 := e)
  | alu => exact execAlu_kept
  | addi => exact execAddi_kept
  | andi => exact execAndi_kept
  | ori => exact execOri_kept
  | xori => exact execXori_kept
  | movk => exact execMovk_kept
  | shi => exact execShi_kept
  | mul => exact execMul_kept
  | cmp => exact execCmp_kept
  | cmpi => exact execCmpi_kept
  | sel => exact execSel_kept
  | pop => exact execPop_kept
  | qnop e => exact execQnop_kept (x0 := e)
  | ld => exact execLd_kept
  | ldw => exact execLdw_kept
  | st => exact execSt_kept
  | stw => exact execStw_kept
  | lds => exact execLds_kept
  | ldsw => exact execLdsw_kept
  | sts => exact execSts_kept
  | stsw => exact execStsw_kept
  | sharedStoreEffect => exact execSharedStoreEffect_kept
  | timeRead => exact execTimeRead_kept
  | stampRead => exact execStampRead_kept
  | flowLookupIssue => exact execFlowLookupIssue_kept
  | flowResultDue => exact execFlowResultDue_kept
  | flowResultCollect => exact execFlowResultCollect_kept
  | grniOpen => exact execGrniOpen_kept
  | grniAppend => exact execGrniAppend_kept
  | grniClose => exact execGrniClose_kept
  | grniCutThrough => exact execGrniCutThrough_kept
  | grniSendBy => exact execGrniSendBy_kept
  | grneChoiceIssue => exact execGrneChoiceIssue_kept
  | grneChoiceDue => exact execGrneChoiceDue_kept
  | grneChoiceCollect => exact execGrneChoiceCollect_kept
  | grneWrite => exact execGrneWrite_kept
  | grneEnd => exact execGrneEnd_kept
  | xcPut => exact execXcPut_kept
  | xcWordDelivery => exact execXcWordDelivery_kept
  | xcTake => exact execXcTake_kept
  | xcCount => exact execXcCount_kept
  | fifoPortPush => exact execFifoPortPush_kept
  | fifoPortPop => exact execFifoPortPop_kept
  | fifoPortLevel => exact execFifoPortLevel_kept
  | calEntryRead => exact execCalEntryRead_kept
  | tallyAdd => exact execTallyAdd_kept
  | pblkRead => exact execPblkRead_kept
  | pblkStatusWrite => exact execPblkStatusWrite_kept
  | pblkStatusRead => exact execPblkStatusRead_kept
  | unitStatusRead => exact execUnitStatusRead_kept
  | unitControlWrite => exact execUnitControlWrite_kept
  | bld => exact execBld_kept
  | bst => exact execBst_kept
  | bldd => exact execBldd_kept
  | bstd => exact execBstd_kept
  | ckptOpen => exact execCkptOpen_kept
  | ckptWrite => exact execCkptWrite_kept
  | ckptCommit => exact execCkptCommit_kept
  | ckptMirror => exact execCkptMirror_kept
  | ckptJournalAppend => exact execCkptJournalAppend_kept
  | ckptRepairRecord => exact execCkptRepairRecord_kept
  | cnop => exact execCnop_kept
  | br => exact execBr_kept
  | call => exact execCall_kept
  | ret => exact execRet_kept
  | rep => exact execRep_kept
  | repg => exact execRepg_kept
  | yield => exact execYield_kept
  | brk => exact execBrk_kept
  | await => exact execAwait_kept
  | tmr => exact execTmr_kept
  | pwr => exact execPwr_kept
  | evt => exact execEvt_kept
  | sys => exact execSys_kept
  | refEnableWrite => exact execRefEnableWrite_kept
  | refActivityLoss => exact execRefActivityLoss_kept
  | refFailureClear => exact execRefFailureClear_kept
  | freqMeasurementUpdate => exact execFreqMeasurementUpdate_kept
  | qualificationTimerEnd => exact execQualificationTimerEnd_kept
  | selectionJudgement => exact execSelectionJudgement_kept
  | alignmentWindowEnd => exact execAlignmentWindowEnd_kept
  | dpllLock => exact execDpllLock_kept
  | holdoverSpecExpiry => exact execHoldoverSpecExpiry_kept
  | dpllFenceReq => exact execDpllFenceReq_kept
  | dpllReset => exact execDpllReset_kept
  | dpllResetDone => exact execDpllResetDone_kept
  | dpllParity => exact execDpllParity_kept
  | framePhaseSaturation => exact execFramePhaseSaturation_kept
  | slewComplete => exact execSlewComplete_kept
  | ppsInEdge => exact execPpsInEdge_kept
  | ppsInMissing => exact execPpsInMissing_kept
  | ppsOutPulse => exact execPpsOutPulse_kept
  | todMessageSend => exact execTodMessageSend_kept
  | todMessageReceive => exact execTodMessageReceive_kept
  | bellFrameOfsWrite => exact execBellFrameOfsWrite_kept
  | clkoutFreqWrite => exact execClkoutFreqWrite_kept
  | ppsCfgWrite => exact execPpsCfgWrite_kept
  | holdOffExpiry => exact execHoldOffExpiry_kept
  | protWtrExpiry => exact execProtWtrExpiry_kept
  | apsTimeout => exact execApsTimeout_kept
  | heartbeatSend => exact execHeartbeatSend_kept
  | heartbeatDecode => exact execHeartbeatDecode_kept
  | heartbeatLost => exact execHeartbeatLost_kept
  | epochScheduleReceive => exact execEpochScheduleReceive_kept
  | twinDelayMeasure => exact execTwinDelayMeasure_kept
  | twinTimeAnchorReceive => exact execTwinTimeAnchorReceive_kept
  | fineOffsetReceive => exact execFineOffsetReceive_kept
  | digestCompare => exact execDigestCompare_kept
  | internalFaultReceive => exact execInternalFaultReceive_kept
  | takeoverClaim => exact execTakeoverClaim_kept
  | twinLinkLoss => exact execTwinLinkLoss_kept
  | twinLinkReturn => exact execTwinLinkReturn_kept
  | pairFormed => exact execPairFormed_kept
  | pairJoinTimeout => exact execPairJoinTimeout_kept
  | catchupStageEnd => exact execCatchupStageEnd_kept
  | packetCopyReceive => exact execPacketCopyReceive_kept
  | egressPause => exact execEgressPause_kept
  | packetListSend => exact execPacketListSend_kept
  | resyncBoundary => exact execResyncBoundary_kept
  | resyncWordsSend => exact execResyncWordsSend_kept
  | checkpointPeriod => exact execCheckpointPeriod_kept
  | generationMirrorReceive => exact execGenerationMirrorReceive_kept
  | journalEntryReceive => exact execJournalEntryReceive_kept
  | configUnfenceHost => exact execConfigUnfenceHost_kept
  | configUnfenceDma => exact execConfigUnfenceDma_kept
  | ringEnable => exact execRingEnable_kept
  | ringDisable => exact execRingDisable_kept
  | doorbellWrite => exact execDoorbellWrite_kept
  | commandFetch => exact execCommandFetch_kept
  | hostMemoryError => exact execHostMemoryError_kept
  | msixModerationTimeout => exact execMsixModerationTimeout_kept
  | matrixWatchdogFire => exact execMatrixWatchdogFire_kept
  | registerWrite => exact execRegisterWrite_kept
  | multiwordCaptureRead => exact execMultiwordCaptureRead_kept
  | onceFieldWrite => exact execOnceFieldWrite_kept
  | keyBurn => exact execKeyBurn_kept
  | keyRevoke => exact execKeyRevoke_kept
  | descBurn => exact execDescBurn_kept
  | lifeAdvance => exact execLifeAdvance_kept
  | skeyInstall => exact execSkeyInstall_kept
  | skeyPromote => exact execSkeyPromote_kept
  | skeyErase => exact execSkeyErase_kept
  | challenge => exact execChallenge_kept
  | response => exact execResponse_kept
  | lock => exact execLock_kept
  | gateOpDone => exact execGateOpDone_kept
  | entropyHealthFail => exact execEntropyHealthFail_kept
  | unlockLockoutEnd => exact execUnlockLockoutEnd_kept
  | levelReqWrite => exact execLevelReqWrite_kept
  | lantLock => exact execLantLock_kept
  | lantReset => exact execLantReset_kept
  | lantHalt => exact execLantHalt_kept
  | lantStep => exact execLantStep_kept
  | lantResume => exact execLantResume_kept
  | jtagExtest => exact execJtagExtest_kept
  | jtagIdcode => exact execJtagIdcode_kept
  | jtagSamplePreload => exact execJtagSamplePreload_kept
  | jtagLantMtx => exact execJtagLantMtx_kept
  | jtagAonStat => exact execJtagAonStat_kept
  | jtagAonDesc => exact execJtagAonDesc_kept
  | jtagWake => exact execJtagWake_kept
  | jtagBypass => exact execJtagBypass_kept
  | railSequenceStep => exact execRailSequenceStep_kept
  | powerGoodPoll => exact execPowerGoodPoll_kept
  | pgTimeout => exact execPgTimeout_kept
  | pmbusTransactionError => exact execPmbusTransactionError_kept
  | pmbAlert => exact execPmbAlert_kept
  | pmbFenceReq => exact execPmbFenceReq_kept
  | pmbReset => exact execPmbReset_kept
  | pmbResetDone => exact execPmbResetDone_kept
  | avsUpdate => exact execAvsUpdate_kept
  | sensorRead => exact execSensorRead_kept
  | ioutRecalibrate => exact execIoutRecalibrate_kept
  | capLoop => exact execCapLoop_kept
  | capViolation => exact execCapViolation_kept
  | millWakeExpiry => exact execMillWakeExpiry_kept
  | p3Entry => exact execP3Entry_kept
  | powerStateReached => exact execPowerStateReached_kept
  | nop => exact execNop_kept
  | deviceQuery => exact execDeviceQuery_kept
  | laneRate => exact execLaneRate_kept
  | laneSleep => exact execLaneSleep_kept
  | laneWake => exact execLaneWake_kept
  | attach => exact execAttach_kept
  | detach => exact execDetach_kept
  | paramWrite => exact execParamWrite_kept
  | reeveLoad => exact execReeveLoad_kept
  | reeveLoadReturn => exact execReeveLoadReturn_kept
  | calendarStageWrite => exact execCalendarStageWrite_kept
  | calendarStageRead => exact execCalendarStageRead_kept
  | calendarCommit => exact execCalendarCommit_kept
  | queueCreateQueue => exact execQueueCreateQueue_kept
  | queueCreateTrunk => exact execQueueCreateTrunk_kept
  | queueCreateModify => exact execQueueCreateModify_kept
  | queueDeleteQueue => exact execQueueDeleteQueue_kept
  | queueDeleteTrunk => exact execQueueDeleteTrunk_kept
  | queueFlush => exact execQueueFlush_kept
  | repairScanScan => exact execRepairScanScan_kept
  | repairScanRetest => exact execRepairScanRetest_kept
  | protRequestConfig => exact execProtRequestConfig_kept
  | protRequestLo => exact execProtRequestLo_kept
  | protRequestFs => exact execProtRequestFs_kept
  | protRequestMsW => exact execProtRequestMsW_kept
  | protRequestMsX => exact execProtRequestMsX_kept
  | protRequestClear => exact execProtRequestClear_kept
  | protRequestDelete => exact execProtRequestDelete_kept
  | modeSet => exact execModeSet_kept
  | powerState => exact execPowerState_kept
  | pairJoin => exact execPairJoin_kept
  | pairLeave => exact execPairLeave_kept
  | pairTake => exact execPairTake_kept
  | checkpoint => exact execCheckpoint_kept
  | refConfig => exact execRefConfig_kept
  | phaseStepSlew => exact execPhaseStepSlew_kept
  | phaseStepJump => exact execPhaseStepJump_kept
  | phaseStepFrequency => exact execPhaseStepFrequency_kept
  | timeSet => exact execTimeSet_kept
  | regConfig => exact execRegConfig_kept
  | fenceLift => exact execFenceLift_kept
  | injectArm => exact execInjectArm_kept
  | injectStop => exact execInjectStop_kept
  | debugUnlockLevel => exact execDebugUnlockLevel_kept
  | debugUnlockChallenge => exact execDebugUnlockChallenge_kept
  | debugUnlockResponse => exact execDebugUnlockResponse_kept
  | gateCall => exact execGateCall_kept
  | oscInReturn => exact execOscInReturn_kept
  | lcPllLockLoss => exact execLcPllLockLoss_kept
  | entropyHealthRecover => exact execEntropyHealthRecover_kept
  | pcieLinkTrained => exact execPcieLinkTrained_kept
  | hostDataReadFailure => exact execHostDataReadFailure_kept
  | commandFetchTimeLimit => exact execCommandFetchTimeLimit_kept

end Sys2Proof.Machine
end

