-- ==== Sys2Proof/Laws/State.lean ====
section
/-! SUPPORT. What each shared update of the state leaves alone, field by field, and what a read after a write gives. -/
namespace Sys2Proof.Machine

@[simp] theorem State.setReg_frame (s : State) (a : Nat) (v : W32) :
    (s.setReg a v).pending = s.pending ∧ (s.setReg a v).mem = s.mem ∧ (s.setReg a v).msixTable = s.msixTable ∧ (s.setReg a v).msixPba = s.msixPba ∧
    (s.setReg a v).msixCount = s.msixCount ∧ (s.setReg a v).startup = s.startup ∧ (s.setReg a v).resetN = s.resetN ∧ (s.setReg a v).mode = s.mode ∧
    (s.setReg a v).frame = s.frame ∧ (s.setReg a v).time = s.time ∧ (s.setReg a v).faultN = s.faultN ∧ (s.setReg a v).stewardOn = s.stewardOn ∧
    (s.setReg a v).evRing = s.evRing ∧ (s.setReg a v).evSeq = s.evSeq ∧ (s.setReg a v).evLost = s.evLost ∧ (s.setReg a v).writeback = s.writeback ∧
    (s.setReg a v).cmds = s.cmds ∧ (s.setReg a v).changes = s.changes ∧ (s.setReg a v).desc = s.desc ∧ (s.setReg a v).trace = s.trace ∧
    (s.setReg a v).pair = s.pair ∧ (s.setReg a v).ledg = s.ledg ∧ (s.setReg a v).fetches = s.fetches ∧ (s.setReg a v).hung = s.hung ∧
    (s.setReg a v).captures = s.captures ∧ (s.setReg a v).onceDone = s.onceDone ∧ (s.setReg a v).fuses = s.fuses ∧ (s.setReg a v).gate = s.gate ∧
    (s.setReg a v).mill = s.mill ∧ (s.setReg a v).jtag = s.jtag ∧ (s.setReg a v).aon = s.aon ∧ (s.setReg a v).progs = s.progs ∧
    (s.setReg a v).progNext = s.progNext ∧ (s.setReg a v).engs = s.engs ∧ (s.setReg a v).shst = s.shst ∧ (s.setReg a v).units = s.units ∧
    (s.setReg a v).wvrResetting = s.wvrResetting ∧ (s.setReg a v).shadow = s.shadow ∧ (s.setReg a v).pblk = s.pblk ∧
    (s.setReg a v).pblkPending = s.pblkPending ∧ (s.setReg a v).tally = s.tally ∧ (s.setReg a v).tallyX = s.tallyX ∧ (s.setReg a v).injs = s.injs ∧
    (s.setReg a v).lanes = s.lanes ∧ (s.setReg a v).aligns = s.aligns ∧ (s.setReg a v).vtfs = s.vtfs ∧ (s.setReg a v).bips = s.bips ∧
    (s.setReg a v).cals = s.cals ∧ (s.setReg a v).chans = s.chans ∧ (s.setReg a v).ends = s.ends ∧ (s.setReg a v).xc = s.xc ∧
    (s.setReg a v).pkts = s.pkts ∧ (s.setReg a v).pktNext = s.pktNext ∧ (s.setReg a v).joinNext = s.joinNext ∧ (s.setReg a v).banks = s.banks ∧
    (s.setReg a v).qFlushed = s.qFlushed ∧ (s.setReg a v).repairA = s.repairA ∧ (s.setReg a v).repairB = s.repairB ∧
    (s.setReg a v).flows = s.flows ∧ (s.setReg a v).flowBad = s.flowBad ∧ (s.setReg a v).fifos = s.fifos ∧ (s.setReg a v).groups = s.groups ∧
    (s.setReg a v).bell = s.bell ∧ (s.setReg a v).refs = s.refs ∧ (s.setReg a v).skeys = s.skeys ∧ (s.setReg a v).free = s.free ∧
    (s.setReg a v).out = s.out :=
  ⟨rfl, rfl, rfl, rfl, rfl, rfl, rfl, rfl, rfl, rfl, rfl, rfl, rfl, rfl, rfl, rfl, rfl, rfl, rfl, rfl, rfl, rfl, rfl, rfl, rfl, rfl, rfl, rfl,
    rfl, rfl, rfl, rfl, rfl, rfl, rfl, rfl, rfl, rfl, rfl, rfl, rfl, rfl, rfl, rfl, rfl, rfl, rfl, rfl, rfl, rfl, rfl, rfl, rfl, rfl, rfl, rfl,
    rfl, rfl, rfl, rfl, rfl, rfl, rfl, rfl, rfl, rfl, rfl⟩

@[simp] theorem State.wr_frame (s : State) (f : Fld) (i v : Nat) :
    (s.wr f i v).pending = s.pending ∧ (s.wr f i v).mem = s.mem ∧ (s.wr f i v).msixTable = s.msixTable ∧ (s.wr f i v).msixPba = s.msixPba ∧
    (s.wr f i v).msixCount = s.msixCount ∧ (s.wr f i v).startup = s.startup ∧ (s.wr f i v).resetN = s.resetN ∧ (s.wr f i v).mode = s.mode ∧
    (s.wr f i v).frame = s.frame ∧ (s.wr f i v).time = s.time ∧ (s.wr f i v).faultN = s.faultN ∧ (s.wr f i v).stewardOn = s.stewardOn ∧
    (s.wr f i v).evRing = s.evRing ∧ (s.wr f i v).evSeq = s.evSeq ∧ (s.wr f i v).evLost = s.evLost ∧ (s.wr f i v).writeback = s.writeback ∧
    (s.wr f i v).cmds = s.cmds ∧ (s.wr f i v).changes = s.changes ∧ (s.wr f i v).desc = s.desc ∧ (s.wr f i v).trace = s.trace ∧
    (s.wr f i v).pair = s.pair ∧ (s.wr f i v).ledg = s.ledg ∧ (s.wr f i v).fetches = s.fetches ∧ (s.wr f i v).hung = s.hung ∧
    (s.wr f i v).captures = s.captures ∧ (s.wr f i v).onceDone = s.onceDone ∧ (s.wr f i v).fuses = s.fuses ∧ (s.wr f i v).gate = s.gate ∧
    (s.wr f i v).mill = s.mill ∧ (s.wr f i v).jtag = s.jtag ∧ (s.wr f i v).aon = s.aon ∧ (s.wr f i v).progs = s.progs ∧
    (s.wr f i v).progNext = s.progNext ∧ (s.wr f i v).engs = s.engs ∧ (s.wr f i v).shst = s.shst ∧ (s.wr f i v).units = s.units ∧
    (s.wr f i v).wvrResetting = s.wvrResetting ∧ (s.wr f i v).shadow = s.shadow ∧ (s.wr f i v).pblk = s.pblk ∧
    (s.wr f i v).pblkPending = s.pblkPending ∧ (s.wr f i v).tally = s.tally ∧ (s.wr f i v).tallyX = s.tallyX ∧ (s.wr f i v).injs = s.injs ∧
    (s.wr f i v).lanes = s.lanes ∧ (s.wr f i v).aligns = s.aligns ∧ (s.wr f i v).vtfs = s.vtfs ∧ (s.wr f i v).bips = s.bips ∧
    (s.wr f i v).cals = s.cals ∧ (s.wr f i v).chans = s.chans ∧ (s.wr f i v).ends = s.ends ∧ (s.wr f i v).xc = s.xc ∧ (s.wr f i v).pkts = s.pkts ∧
    (s.wr f i v).pktNext = s.pktNext ∧ (s.wr f i v).joinNext = s.joinNext ∧ (s.wr f i v).banks = s.banks ∧ (s.wr f i v).qFlushed = s.qFlushed ∧
    (s.wr f i v).repairA = s.repairA ∧ (s.wr f i v).repairB = s.repairB ∧ (s.wr f i v).flows = s.flows ∧ (s.wr f i v).flowBad = s.flowBad ∧
    (s.wr f i v).fifos = s.fifos ∧ (s.wr f i v).groups = s.groups ∧ (s.wr f i v).bell = s.bell ∧ (s.wr f i v).refs = s.refs ∧
    (s.wr f i v).skeys = s.skeys ∧ (s.wr f i v).free = s.free ∧ (s.wr f i v).out = s.out :=
  ⟨rfl, rfl, rfl, rfl, rfl, rfl, rfl, rfl, rfl, rfl, rfl, rfl, rfl, rfl, rfl, rfl, rfl, rfl, rfl, rfl, rfl, rfl, rfl, rfl, rfl, rfl, rfl, rfl,
    rfl, rfl, rfl, rfl, rfl, rfl, rfl, rfl, rfl, rfl, rfl, rfl, rfl, rfl, rfl, rfl, rfl, rfl, rfl, rfl, rfl, rfl, rfl, rfl, rfl, rfl, rfl, rfl,
    rfl, rfl, rfl, rfl, rfl, rfl, rfl, rfl, rfl, rfl, rfl⟩

@[simp] theorem State.latch_frame (s : State) (f : Fld) (i : Nat) :
    (s.latch f i).pending = s.pending ∧ (s.latch f i).mem = s.mem ∧ (s.latch f i).msixTable = s.msixTable ∧ (s.latch f i).msixPba = s.msixPba ∧
    (s.latch f i).msixCount = s.msixCount ∧ (s.latch f i).startup = s.startup ∧ (s.latch f i).resetN = s.resetN ∧ (s.latch f i).mode = s.mode ∧
    (s.latch f i).frame = s.frame ∧ (s.latch f i).time = s.time ∧ (s.latch f i).faultN = s.faultN ∧ (s.latch f i).stewardOn = s.stewardOn ∧
    (s.latch f i).evRing = s.evRing ∧ (s.latch f i).evSeq = s.evSeq ∧ (s.latch f i).evLost = s.evLost ∧ (s.latch f i).writeback = s.writeback ∧
    (s.latch f i).cmds = s.cmds ∧ (s.latch f i).changes = s.changes ∧ (s.latch f i).desc = s.desc ∧ (s.latch f i).trace = s.trace ∧
    (s.latch f i).pair = s.pair ∧ (s.latch f i).ledg = s.ledg ∧ (s.latch f i).fetches = s.fetches ∧ (s.latch f i).hung = s.hung ∧
    (s.latch f i).captures = s.captures ∧ (s.latch f i).onceDone = s.onceDone ∧ (s.latch f i).fuses = s.fuses ∧ (s.latch f i).gate = s.gate ∧
    (s.latch f i).mill = s.mill ∧ (s.latch f i).jtag = s.jtag ∧ (s.latch f i).aon = s.aon ∧ (s.latch f i).progs = s.progs ∧
    (s.latch f i).progNext = s.progNext ∧ (s.latch f i).engs = s.engs ∧ (s.latch f i).shst = s.shst ∧ (s.latch f i).units = s.units ∧
    (s.latch f i).wvrResetting = s.wvrResetting ∧ (s.latch f i).shadow = s.shadow ∧ (s.latch f i).pblk = s.pblk ∧
    (s.latch f i).pblkPending = s.pblkPending ∧ (s.latch f i).tally = s.tally ∧ (s.latch f i).tallyX = s.tallyX ∧ (s.latch f i).injs = s.injs ∧
    (s.latch f i).lanes = s.lanes ∧ (s.latch f i).aligns = s.aligns ∧ (s.latch f i).vtfs = s.vtfs ∧ (s.latch f i).bips = s.bips ∧
    (s.latch f i).cals = s.cals ∧ (s.latch f i).chans = s.chans ∧ (s.latch f i).ends = s.ends ∧ (s.latch f i).xc = s.xc ∧
    (s.latch f i).pkts = s.pkts ∧ (s.latch f i).pktNext = s.pktNext ∧ (s.latch f i).joinNext = s.joinNext ∧ (s.latch f i).banks = s.banks ∧
    (s.latch f i).qFlushed = s.qFlushed ∧ (s.latch f i).repairA = s.repairA ∧ (s.latch f i).repairB = s.repairB ∧ (s.latch f i).flows = s.flows ∧
    (s.latch f i).flowBad = s.flowBad ∧ (s.latch f i).fifos = s.fifos ∧ (s.latch f i).groups = s.groups ∧ (s.latch f i).bell = s.bell ∧
    (s.latch f i).refs = s.refs ∧ (s.latch f i).skeys = s.skeys ∧ (s.latch f i).free = s.free ∧ (s.latch f i).out = s.out :=
  ⟨rfl, rfl, rfl, rfl, rfl, rfl, rfl, rfl, rfl, rfl, rfl, rfl, rfl, rfl, rfl, rfl, rfl, rfl, rfl, rfl, rfl, rfl, rfl, rfl, rfl, rfl, rfl, rfl,
    rfl, rfl, rfl, rfl, rfl, rfl, rfl, rfl, rfl, rfl, rfl, rfl, rfl, rfl, rfl, rfl, rfl, rfl, rfl, rfl, rfl, rfl, rfl, rfl, rfl, rfl, rfl, rfl,
    rfl, rfl, rfl, rfl, rfl, rfl, rfl, rfl, rfl, rfl, rfl⟩

@[simp] theorem State.bump_frame (s : State) (f : Fld) (i k : Nat) :
    (s.bump f i k).pending = s.pending ∧ (s.bump f i k).mem = s.mem ∧ (s.bump f i k).msixTable = s.msixTable ∧ (s.bump f i k).msixPba = s.msixPba ∧
    (s.bump f i k).msixCount = s.msixCount ∧ (s.bump f i k).startup = s.startup ∧ (s.bump f i k).resetN = s.resetN ∧ (s.bump f i k).mode = s.mode ∧
    (s.bump f i k).frame = s.frame ∧ (s.bump f i k).time = s.time ∧ (s.bump f i k).faultN = s.faultN ∧ (s.bump f i k).stewardOn = s.stewardOn ∧
    (s.bump f i k).evRing = s.evRing ∧ (s.bump f i k).evSeq = s.evSeq ∧ (s.bump f i k).evLost = s.evLost ∧ (s.bump f i k).writeback = s.writeback ∧
    (s.bump f i k).cmds = s.cmds ∧ (s.bump f i k).changes = s.changes ∧ (s.bump f i k).desc = s.desc ∧ (s.bump f i k).trace = s.trace ∧
    (s.bump f i k).pair = s.pair ∧ (s.bump f i k).ledg = s.ledg ∧ (s.bump f i k).fetches = s.fetches ∧ (s.bump f i k).hung = s.hung ∧
    (s.bump f i k).captures = s.captures ∧ (s.bump f i k).onceDone = s.onceDone ∧ (s.bump f i k).fuses = s.fuses ∧ (s.bump f i k).gate = s.gate ∧
    (s.bump f i k).mill = s.mill ∧ (s.bump f i k).jtag = s.jtag ∧ (s.bump f i k).aon = s.aon ∧ (s.bump f i k).progs = s.progs ∧
    (s.bump f i k).progNext = s.progNext ∧ (s.bump f i k).engs = s.engs ∧ (s.bump f i k).shst = s.shst ∧ (s.bump f i k).units = s.units ∧
    (s.bump f i k).wvrResetting = s.wvrResetting ∧ (s.bump f i k).shadow = s.shadow ∧ (s.bump f i k).pblk = s.pblk ∧
    (s.bump f i k).pblkPending = s.pblkPending ∧ (s.bump f i k).tally = s.tally ∧ (s.bump f i k).tallyX = s.tallyX ∧ (s.bump f i k).injs = s.injs ∧
    (s.bump f i k).lanes = s.lanes ∧ (s.bump f i k).aligns = s.aligns ∧ (s.bump f i k).vtfs = s.vtfs ∧ (s.bump f i k).bips = s.bips ∧
    (s.bump f i k).cals = s.cals ∧ (s.bump f i k).chans = s.chans ∧ (s.bump f i k).ends = s.ends ∧ (s.bump f i k).xc = s.xc ∧
    (s.bump f i k).pkts = s.pkts ∧ (s.bump f i k).pktNext = s.pktNext ∧ (s.bump f i k).joinNext = s.joinNext ∧ (s.bump f i k).banks = s.banks ∧
    (s.bump f i k).qFlushed = s.qFlushed ∧ (s.bump f i k).repairA = s.repairA ∧ (s.bump f i k).repairB = s.repairB ∧
    (s.bump f i k).flows = s.flows ∧ (s.bump f i k).flowBad = s.flowBad ∧ (s.bump f i k).fifos = s.fifos ∧ (s.bump f i k).groups = s.groups ∧
    (s.bump f i k).bell = s.bell ∧ (s.bump f i k).refs = s.refs ∧ (s.bump f i k).skeys = s.skeys ∧ (s.bump f i k).free = s.free ∧
    (s.bump f i k).out = s.out :=
  ⟨rfl, rfl, rfl, rfl, rfl, rfl, rfl, rfl, rfl, rfl, rfl, rfl, rfl, rfl, rfl, rfl, rfl, rfl, rfl, rfl, rfl, rfl, rfl, rfl, rfl, rfl, rfl, rfl,
    rfl, rfl, rfl, rfl, rfl, rfl, rfl, rfl, rfl, rfl, rfl, rfl, rfl, rfl, rfl, rfl, rfl, rfl, rfl, rfl, rfl, rfl, rfl, rfl, rfl, rfl, rfl, rfl,
    rfl, rfl, rfl, rfl, rfl, rfl, rfl, rfl, rfl, rfl, rfl⟩

@[simp] theorem State.bumpSat_frame (s : State) (f : Fld) (i k : Nat) :
    (s.bumpSat f i k).pending = s.pending ∧ (s.bumpSat f i k).mem = s.mem ∧ (s.bumpSat f i k).msixTable = s.msixTable ∧
    (s.bumpSat f i k).msixPba = s.msixPba ∧ (s.bumpSat f i k).msixCount = s.msixCount ∧ (s.bumpSat f i k).startup = s.startup ∧
    (s.bumpSat f i k).resetN = s.resetN ∧ (s.bumpSat f i k).mode = s.mode ∧ (s.bumpSat f i k).frame = s.frame ∧ (s.bumpSat f i k).time = s.time ∧
    (s.bumpSat f i k).faultN = s.faultN ∧ (s.bumpSat f i k).stewardOn = s.stewardOn ∧ (s.bumpSat f i k).evRing = s.evRing ∧
    (s.bumpSat f i k).evSeq = s.evSeq ∧ (s.bumpSat f i k).evLost = s.evLost ∧ (s.bumpSat f i k).writeback = s.writeback ∧
    (s.bumpSat f i k).cmds = s.cmds ∧ (s.bumpSat f i k).changes = s.changes ∧ (s.bumpSat f i k).desc = s.desc ∧ (s.bumpSat f i k).trace = s.trace ∧
    (s.bumpSat f i k).pair = s.pair ∧ (s.bumpSat f i k).ledg = s.ledg ∧ (s.bumpSat f i k).fetches = s.fetches ∧ (s.bumpSat f i k).hung = s.hung ∧
    (s.bumpSat f i k).captures = s.captures ∧ (s.bumpSat f i k).onceDone = s.onceDone ∧ (s.bumpSat f i k).fuses = s.fuses ∧
    (s.bumpSat f i k).gate = s.gate ∧ (s.bumpSat f i k).mill = s.mill ∧ (s.bumpSat f i k).jtag = s.jtag ∧ (s.bumpSat f i k).aon = s.aon ∧
    (s.bumpSat f i k).progs = s.progs ∧ (s.bumpSat f i k).progNext = s.progNext ∧ (s.bumpSat f i k).engs = s.engs ∧
    (s.bumpSat f i k).shst = s.shst ∧ (s.bumpSat f i k).units = s.units ∧ (s.bumpSat f i k).wvrResetting = s.wvrResetting ∧
    (s.bumpSat f i k).shadow = s.shadow ∧ (s.bumpSat f i k).pblk = s.pblk ∧ (s.bumpSat f i k).pblkPending = s.pblkPending ∧
    (s.bumpSat f i k).tally = s.tally ∧ (s.bumpSat f i k).tallyX = s.tallyX ∧ (s.bumpSat f i k).injs = s.injs ∧ (s.bumpSat f i k).lanes = s.lanes ∧
    (s.bumpSat f i k).aligns = s.aligns ∧ (s.bumpSat f i k).vtfs = s.vtfs ∧ (s.bumpSat f i k).bips = s.bips ∧ (s.bumpSat f i k).cals = s.cals ∧
    (s.bumpSat f i k).chans = s.chans ∧ (s.bumpSat f i k).ends = s.ends ∧ (s.bumpSat f i k).xc = s.xc ∧ (s.bumpSat f i k).pkts = s.pkts ∧
    (s.bumpSat f i k).pktNext = s.pktNext ∧ (s.bumpSat f i k).joinNext = s.joinNext ∧ (s.bumpSat f i k).banks = s.banks ∧
    (s.bumpSat f i k).qFlushed = s.qFlushed ∧ (s.bumpSat f i k).repairA = s.repairA ∧ (s.bumpSat f i k).repairB = s.repairB ∧
    (s.bumpSat f i k).flows = s.flows ∧ (s.bumpSat f i k).flowBad = s.flowBad ∧ (s.bumpSat f i k).fifos = s.fifos ∧
    (s.bumpSat f i k).groups = s.groups ∧ (s.bumpSat f i k).bell = s.bell ∧ (s.bumpSat f i k).refs = s.refs ∧ (s.bumpSat f i k).skeys = s.skeys ∧
    (s.bumpSat f i k).free = s.free ∧ (s.bumpSat f i k).out = s.out :=
  ⟨rfl, rfl, rfl, rfl, rfl, rfl, rfl, rfl, rfl, rfl, rfl, rfl, rfl, rfl, rfl, rfl, rfl, rfl, rfl, rfl, rfl, rfl, rfl, rfl, rfl, rfl, rfl, rfl,
    rfl, rfl, rfl, rfl, rfl, rfl, rfl, rfl, rfl, rfl, rfl, rfl, rfl, rfl, rfl, rfl, rfl, rfl, rfl, rfl, rfl, rfl, rfl, rfl, rfl, rfl, rfl, rfl,
    rfl, rfl, rfl, rfl, rfl, rfl, rfl, rfl, rfl, rfl, rfl⟩

@[simp] theorem State.clearRegs_frame (s : State) (lo n : Nat) :
    (s.clearRegs lo n).pending = s.pending ∧ (s.clearRegs lo n).mem = s.mem ∧ (s.clearRegs lo n).msixTable = s.msixTable ∧
    (s.clearRegs lo n).msixPba = s.msixPba ∧ (s.clearRegs lo n).msixCount = s.msixCount ∧ (s.clearRegs lo n).startup = s.startup ∧
    (s.clearRegs lo n).resetN = s.resetN ∧ (s.clearRegs lo n).mode = s.mode ∧ (s.clearRegs lo n).frame = s.frame ∧
    (s.clearRegs lo n).time = s.time ∧ (s.clearRegs lo n).faultN = s.faultN ∧ (s.clearRegs lo n).stewardOn = s.stewardOn ∧
    (s.clearRegs lo n).evRing = s.evRing ∧ (s.clearRegs lo n).evSeq = s.evSeq ∧ (s.clearRegs lo n).evLost = s.evLost ∧
    (s.clearRegs lo n).writeback = s.writeback ∧ (s.clearRegs lo n).cmds = s.cmds ∧ (s.clearRegs lo n).changes = s.changes ∧
    (s.clearRegs lo n).desc = s.desc ∧ (s.clearRegs lo n).trace = s.trace ∧ (s.clearRegs lo n).pair = s.pair ∧ (s.clearRegs lo n).ledg = s.ledg ∧
    (s.clearRegs lo n).fetches = s.fetches ∧ (s.clearRegs lo n).hung = s.hung ∧ (s.clearRegs lo n).captures = s.captures ∧
    (s.clearRegs lo n).onceDone = s.onceDone ∧ (s.clearRegs lo n).fuses = s.fuses ∧ (s.clearRegs lo n).gate = s.gate ∧
    (s.clearRegs lo n).mill = s.mill ∧ (s.clearRegs lo n).jtag = s.jtag ∧ (s.clearRegs lo n).aon = s.aon ∧ (s.clearRegs lo n).progs = s.progs ∧
    (s.clearRegs lo n).progNext = s.progNext ∧ (s.clearRegs lo n).engs = s.engs ∧ (s.clearRegs lo n).shst = s.shst ∧
    (s.clearRegs lo n).units = s.units ∧ (s.clearRegs lo n).wvrResetting = s.wvrResetting ∧ (s.clearRegs lo n).shadow = s.shadow ∧
    (s.clearRegs lo n).pblk = s.pblk ∧ (s.clearRegs lo n).pblkPending = s.pblkPending ∧ (s.clearRegs lo n).tally = s.tally ∧
    (s.clearRegs lo n).tallyX = s.tallyX ∧ (s.clearRegs lo n).injs = s.injs ∧ (s.clearRegs lo n).lanes = s.lanes ∧
    (s.clearRegs lo n).aligns = s.aligns ∧ (s.clearRegs lo n).vtfs = s.vtfs ∧ (s.clearRegs lo n).bips = s.bips ∧ (s.clearRegs lo n).cals = s.cals ∧
    (s.clearRegs lo n).chans = s.chans ∧ (s.clearRegs lo n).ends = s.ends ∧ (s.clearRegs lo n).xc = s.xc ∧ (s.clearRegs lo n).pkts = s.pkts ∧
    (s.clearRegs lo n).pktNext = s.pktNext ∧ (s.clearRegs lo n).joinNext = s.joinNext ∧ (s.clearRegs lo n).banks = s.banks ∧
    (s.clearRegs lo n).qFlushed = s.qFlushed ∧ (s.clearRegs lo n).repairA = s.repairA ∧ (s.clearRegs lo n).repairB = s.repairB ∧
    (s.clearRegs lo n).flows = s.flows ∧ (s.clearRegs lo n).flowBad = s.flowBad ∧ (s.clearRegs lo n).fifos = s.fifos ∧
    (s.clearRegs lo n).groups = s.groups ∧ (s.clearRegs lo n).bell = s.bell ∧ (s.clearRegs lo n).refs = s.refs ∧
    (s.clearRegs lo n).skeys = s.skeys ∧ (s.clearRegs lo n).free = s.free ∧ (s.clearRegs lo n).out = s.out :=
  ⟨rfl, rfl, rfl, rfl, rfl, rfl, rfl, rfl, rfl, rfl, rfl, rfl, rfl, rfl, rfl, rfl, rfl, rfl, rfl, rfl, rfl, rfl, rfl, rfl, rfl, rfl, rfl, rfl,
    rfl, rfl, rfl, rfl, rfl, rfl, rfl, rfl, rfl, rfl, rfl, rfl, rfl, rfl, rfl, rfl, rfl, rfl, rfl, rfl, rfl, rfl, rfl, rfl, rfl, rfl, rfl, rfl,
    rfl, rfl, rfl, rfl, rfl, rfl, rfl, rfl, rfl, rfl, rfl⟩

@[simp] theorem State.setByte_frame (s : State) (a : Nat) (b : Byte) :
    (s.setByte a b).pending = s.pending ∧ (s.setByte a b).regs = s.regs ∧ (s.setByte a b).msixTable = s.msixTable ∧
    (s.setByte a b).msixPba = s.msixPba ∧ (s.setByte a b).msixCount = s.msixCount ∧ (s.setByte a b).startup = s.startup ∧
    (s.setByte a b).resetN = s.resetN ∧ (s.setByte a b).mode = s.mode ∧ (s.setByte a b).frame = s.frame ∧ (s.setByte a b).time = s.time ∧
    (s.setByte a b).faultN = s.faultN ∧ (s.setByte a b).stewardOn = s.stewardOn ∧ (s.setByte a b).evRing = s.evRing ∧
    (s.setByte a b).evSeq = s.evSeq ∧ (s.setByte a b).evLost = s.evLost ∧ (s.setByte a b).writeback = s.writeback ∧ (s.setByte a b).cmds = s.cmds ∧
    (s.setByte a b).changes = s.changes ∧ (s.setByte a b).desc = s.desc ∧ (s.setByte a b).trace = s.trace ∧ (s.setByte a b).pair = s.pair ∧
    (s.setByte a b).ledg = s.ledg ∧ (s.setByte a b).fetches = s.fetches ∧ (s.setByte a b).hung = s.hung ∧ (s.setByte a b).captures = s.captures ∧
    (s.setByte a b).onceDone = s.onceDone ∧ (s.setByte a b).fuses = s.fuses ∧ (s.setByte a b).gate = s.gate ∧ (s.setByte a b).mill = s.mill ∧
    (s.setByte a b).jtag = s.jtag ∧ (s.setByte a b).aon = s.aon ∧ (s.setByte a b).progs = s.progs ∧ (s.setByte a b).progNext = s.progNext ∧
    (s.setByte a b).engs = s.engs ∧ (s.setByte a b).shst = s.shst ∧ (s.setByte a b).units = s.units ∧
    (s.setByte a b).wvrResetting = s.wvrResetting ∧ (s.setByte a b).shadow = s.shadow ∧ (s.setByte a b).pblk = s.pblk ∧
    (s.setByte a b).pblkPending = s.pblkPending ∧ (s.setByte a b).tally = s.tally ∧ (s.setByte a b).tallyX = s.tallyX ∧
    (s.setByte a b).injs = s.injs ∧ (s.setByte a b).lanes = s.lanes ∧ (s.setByte a b).aligns = s.aligns ∧ (s.setByte a b).vtfs = s.vtfs ∧
    (s.setByte a b).bips = s.bips ∧ (s.setByte a b).cals = s.cals ∧ (s.setByte a b).chans = s.chans ∧ (s.setByte a b).ends = s.ends ∧
    (s.setByte a b).xc = s.xc ∧ (s.setByte a b).pkts = s.pkts ∧ (s.setByte a b).pktNext = s.pktNext ∧ (s.setByte a b).joinNext = s.joinNext ∧
    (s.setByte a b).banks = s.banks ∧ (s.setByte a b).qFlushed = s.qFlushed ∧ (s.setByte a b).repairA = s.repairA ∧
    (s.setByte a b).repairB = s.repairB ∧ (s.setByte a b).flows = s.flows ∧ (s.setByte a b).flowBad = s.flowBad ∧ (s.setByte a b).fifos = s.fifos ∧
    (s.setByte a b).groups = s.groups ∧ (s.setByte a b).bell = s.bell ∧ (s.setByte a b).refs = s.refs ∧ (s.setByte a b).skeys = s.skeys ∧
    (s.setByte a b).free = s.free ∧ (s.setByte a b).out = s.out :=
  ⟨rfl, rfl, rfl, rfl, rfl, rfl, rfl, rfl, rfl, rfl, rfl, rfl, rfl, rfl, rfl, rfl, rfl, rfl, rfl, rfl, rfl, rfl, rfl, rfl, rfl, rfl, rfl, rfl,
    rfl, rfl, rfl, rfl, rfl, rfl, rfl, rfl, rfl, rfl, rfl, rfl, rfl, rfl, rfl, rfl, rfl, rfl, rfl, rfl, rfl, rfl, rfl, rfl, rfl, rfl, rfl, rfl,
    rfl, rfl, rfl, rfl, rfl, rfl, rfl, rfl, rfl, rfl, rfl⟩

@[simp] theorem State.clearMem_frame (s : State) (lo n : Nat) :
    (s.clearMem lo n).pending = s.pending ∧ (s.clearMem lo n).regs = s.regs ∧ (s.clearMem lo n).msixTable = s.msixTable ∧
    (s.clearMem lo n).msixPba = s.msixPba ∧ (s.clearMem lo n).msixCount = s.msixCount ∧ (s.clearMem lo n).startup = s.startup ∧
    (s.clearMem lo n).resetN = s.resetN ∧ (s.clearMem lo n).mode = s.mode ∧ (s.clearMem lo n).frame = s.frame ∧ (s.clearMem lo n).time = s.time ∧
    (s.clearMem lo n).faultN = s.faultN ∧ (s.clearMem lo n).stewardOn = s.stewardOn ∧ (s.clearMem lo n).evRing = s.evRing ∧
    (s.clearMem lo n).evSeq = s.evSeq ∧ (s.clearMem lo n).evLost = s.evLost ∧ (s.clearMem lo n).writeback = s.writeback ∧
    (s.clearMem lo n).cmds = s.cmds ∧ (s.clearMem lo n).changes = s.changes ∧ (s.clearMem lo n).desc = s.desc ∧ (s.clearMem lo n).trace = s.trace ∧
    (s.clearMem lo n).pair = s.pair ∧ (s.clearMem lo n).ledg = s.ledg ∧ (s.clearMem lo n).fetches = s.fetches ∧ (s.clearMem lo n).hung = s.hung ∧
    (s.clearMem lo n).captures = s.captures ∧ (s.clearMem lo n).onceDone = s.onceDone ∧ (s.clearMem lo n).fuses = s.fuses ∧
    (s.clearMem lo n).gate = s.gate ∧ (s.clearMem lo n).mill = s.mill ∧ (s.clearMem lo n).jtag = s.jtag ∧ (s.clearMem lo n).aon = s.aon ∧
    (s.clearMem lo n).progs = s.progs ∧ (s.clearMem lo n).progNext = s.progNext ∧ (s.clearMem lo n).engs = s.engs ∧
    (s.clearMem lo n).shst = s.shst ∧ (s.clearMem lo n).units = s.units ∧ (s.clearMem lo n).wvrResetting = s.wvrResetting ∧
    (s.clearMem lo n).shadow = s.shadow ∧ (s.clearMem lo n).pblk = s.pblk ∧ (s.clearMem lo n).pblkPending = s.pblkPending ∧
    (s.clearMem lo n).tally = s.tally ∧ (s.clearMem lo n).tallyX = s.tallyX ∧ (s.clearMem lo n).injs = s.injs ∧ (s.clearMem lo n).lanes = s.lanes ∧
    (s.clearMem lo n).aligns = s.aligns ∧ (s.clearMem lo n).vtfs = s.vtfs ∧ (s.clearMem lo n).bips = s.bips ∧ (s.clearMem lo n).cals = s.cals ∧
    (s.clearMem lo n).chans = s.chans ∧ (s.clearMem lo n).ends = s.ends ∧ (s.clearMem lo n).xc = s.xc ∧ (s.clearMem lo n).pkts = s.pkts ∧
    (s.clearMem lo n).pktNext = s.pktNext ∧ (s.clearMem lo n).joinNext = s.joinNext ∧ (s.clearMem lo n).banks = s.banks ∧
    (s.clearMem lo n).qFlushed = s.qFlushed ∧ (s.clearMem lo n).repairA = s.repairA ∧ (s.clearMem lo n).repairB = s.repairB ∧
    (s.clearMem lo n).flows = s.flows ∧ (s.clearMem lo n).flowBad = s.flowBad ∧ (s.clearMem lo n).fifos = s.fifos ∧
    (s.clearMem lo n).groups = s.groups ∧ (s.clearMem lo n).bell = s.bell ∧ (s.clearMem lo n).refs = s.refs ∧ (s.clearMem lo n).skeys = s.skeys ∧
    (s.clearMem lo n).free = s.free ∧ (s.clearMem lo n).out = s.out :=
  ⟨rfl, rfl, rfl, rfl, rfl, rfl, rfl, rfl, rfl, rfl, rfl, rfl, rfl, rfl, rfl, rfl, rfl, rfl, rfl, rfl, rfl, rfl, rfl, rfl, rfl, rfl, rfl, rfl,
    rfl, rfl, rfl, rfl, rfl, rfl, rfl, rfl, rfl, rfl, rfl, rfl, rfl, rfl, rfl, rfl, rfl, rfl, rfl, rfl, rfl, rfl, rfl, rfl, rfl, rfl, rfl, rfl,
    rfl, rfl, rfl, rfl, rfl, rfl, rfl, rfl, rfl, rfl, rfl⟩

@[simp] theorem State.emit_frame (s : State) (o : Out) :
    (s.emit o).pending = s.pending ∧ (s.emit o).regs = s.regs ∧ (s.emit o).mem = s.mem ∧ (s.emit o).msixTable = s.msixTable ∧
    (s.emit o).msixPba = s.msixPba ∧ (s.emit o).msixCount = s.msixCount ∧ (s.emit o).startup = s.startup ∧ (s.emit o).resetN = s.resetN ∧
    (s.emit o).mode = s.mode ∧ (s.emit o).frame = s.frame ∧ (s.emit o).time = s.time ∧ (s.emit o).faultN = s.faultN ∧
    (s.emit o).stewardOn = s.stewardOn ∧ (s.emit o).evRing = s.evRing ∧ (s.emit o).evSeq = s.evSeq ∧ (s.emit o).evLost = s.evLost ∧
    (s.emit o).writeback = s.writeback ∧ (s.emit o).cmds = s.cmds ∧ (s.emit o).changes = s.changes ∧ (s.emit o).desc = s.desc ∧
    (s.emit o).trace = s.trace ∧ (s.emit o).pair = s.pair ∧ (s.emit o).ledg = s.ledg ∧ (s.emit o).fetches = s.fetches ∧ (s.emit o).hung = s.hung ∧
    (s.emit o).captures = s.captures ∧ (s.emit o).onceDone = s.onceDone ∧ (s.emit o).fuses = s.fuses ∧ (s.emit o).gate = s.gate ∧
    (s.emit o).mill = s.mill ∧ (s.emit o).jtag = s.jtag ∧ (s.emit o).aon = s.aon ∧ (s.emit o).progs = s.progs ∧ (s.emit o).progNext = s.progNext ∧
    (s.emit o).engs = s.engs ∧ (s.emit o).shst = s.shst ∧ (s.emit o).units = s.units ∧ (s.emit o).wvrResetting = s.wvrResetting ∧
    (s.emit o).shadow = s.shadow ∧ (s.emit o).pblk = s.pblk ∧ (s.emit o).pblkPending = s.pblkPending ∧ (s.emit o).tally = s.tally ∧
    (s.emit o).tallyX = s.tallyX ∧ (s.emit o).injs = s.injs ∧ (s.emit o).lanes = s.lanes ∧ (s.emit o).aligns = s.aligns ∧
    (s.emit o).vtfs = s.vtfs ∧ (s.emit o).bips = s.bips ∧ (s.emit o).cals = s.cals ∧ (s.emit o).chans = s.chans ∧ (s.emit o).ends = s.ends ∧
    (s.emit o).xc = s.xc ∧ (s.emit o).pkts = s.pkts ∧ (s.emit o).pktNext = s.pktNext ∧ (s.emit o).joinNext = s.joinNext ∧
    (s.emit o).banks = s.banks ∧ (s.emit o).qFlushed = s.qFlushed ∧ (s.emit o).repairA = s.repairA ∧ (s.emit o).repairB = s.repairB ∧
    (s.emit o).flows = s.flows ∧ (s.emit o).flowBad = s.flowBad ∧ (s.emit o).fifos = s.fifos ∧ (s.emit o).groups = s.groups ∧
    (s.emit o).bell = s.bell ∧ (s.emit o).refs = s.refs ∧ (s.emit o).skeys = s.skeys ∧ (s.emit o).free = s.free :=
  ⟨rfl, rfl, rfl, rfl, rfl, rfl, rfl, rfl, rfl, rfl, rfl, rfl, rfl, rfl, rfl, rfl, rfl, rfl, rfl, rfl, rfl, rfl, rfl, rfl, rfl, rfl, rfl, rfl,
    rfl, rfl, rfl, rfl, rfl, rfl, rfl, rfl, rfl, rfl, rfl, rfl, rfl, rfl, rfl, rfl, rfl, rfl, rfl, rfl, rfl, rfl, rfl, rfl, rfl, rfl, rfl, rfl,
    rfl, rfl, rfl, rfl, rfl, rfl, rfl, rfl, rfl, rfl, rfl⟩

@[simp] theorem State.assertFault_frame (s : State) (r : FaultReason) :
    (s.assertFault r).pending = s.pending ∧ (s.assertFault r).regs = s.regs ∧ (s.assertFault r).mem = s.mem ∧
    (s.assertFault r).msixTable = s.msixTable ∧ (s.assertFault r).msixPba = s.msixPba ∧ (s.assertFault r).msixCount = s.msixCount ∧
    (s.assertFault r).startup = s.startup ∧ (s.assertFault r).resetN = s.resetN ∧ (s.assertFault r).mode = s.mode ∧
    (s.assertFault r).frame = s.frame ∧ (s.assertFault r).time = s.time ∧ (s.assertFault r).stewardOn = s.stewardOn ∧
    (s.assertFault r).evRing = s.evRing ∧ (s.assertFault r).evSeq = s.evSeq ∧ (s.assertFault r).evLost = s.evLost ∧
    (s.assertFault r).writeback = s.writeback ∧ (s.assertFault r).cmds = s.cmds ∧ (s.assertFault r).changes = s.changes ∧
    (s.assertFault r).desc = s.desc ∧ (s.assertFault r).trace = s.trace ∧ (s.assertFault r).pair = s.pair ∧ (s.assertFault r).ledg = s.ledg ∧
    (s.assertFault r).fetches = s.fetches ∧ (s.assertFault r).hung = s.hung ∧ (s.assertFault r).captures = s.captures ∧
    (s.assertFault r).onceDone = s.onceDone ∧ (s.assertFault r).fuses = s.fuses ∧ (s.assertFault r).gate = s.gate ∧
    (s.assertFault r).mill = s.mill ∧ (s.assertFault r).jtag = s.jtag ∧ (s.assertFault r).aon = s.aon ∧ (s.assertFault r).progs = s.progs ∧
    (s.assertFault r).progNext = s.progNext ∧ (s.assertFault r).engs = s.engs ∧ (s.assertFault r).shst = s.shst ∧
    (s.assertFault r).units = s.units ∧ (s.assertFault r).wvrResetting = s.wvrResetting ∧ (s.assertFault r).shadow = s.shadow ∧
    (s.assertFault r).pblk = s.pblk ∧ (s.assertFault r).pblkPending = s.pblkPending ∧ (s.assertFault r).tally = s.tally ∧
    (s.assertFault r).tallyX = s.tallyX ∧ (s.assertFault r).injs = s.injs ∧ (s.assertFault r).lanes = s.lanes ∧
    (s.assertFault r).aligns = s.aligns ∧ (s.assertFault r).vtfs = s.vtfs ∧ (s.assertFault r).bips = s.bips ∧ (s.assertFault r).cals = s.cals ∧
    (s.assertFault r).chans = s.chans ∧ (s.assertFault r).ends = s.ends ∧ (s.assertFault r).xc = s.xc ∧ (s.assertFault r).pkts = s.pkts ∧
    (s.assertFault r).pktNext = s.pktNext ∧ (s.assertFault r).joinNext = s.joinNext ∧ (s.assertFault r).banks = s.banks ∧
    (s.assertFault r).qFlushed = s.qFlushed ∧ (s.assertFault r).repairA = s.repairA ∧ (s.assertFault r).repairB = s.repairB ∧
    (s.assertFault r).flows = s.flows ∧ (s.assertFault r).flowBad = s.flowBad ∧ (s.assertFault r).fifos = s.fifos ∧
    (s.assertFault r).groups = s.groups ∧ (s.assertFault r).bell = s.bell ∧ (s.assertFault r).refs = s.refs ∧ (s.assertFault r).skeys = s.skeys ∧
    (s.assertFault r).free = s.free ∧ (s.assertFault r).out = s.out :=
  by unfold State.assertFault; split <;> exact ⟨rfl, rfl, rfl, rfl, rfl, rfl, rfl, rfl, rfl, rfl, rfl, rfl, rfl, rfl, rfl, rfl, rfl, rfl, rfl, rfl, rfl, rfl, rfl, rfl, rfl, rfl, rfl, rfl,
    rfl, rfl, rfl, rfl, rfl, rfl, rfl, rfl, rfl, rfl, rfl, rfl, rfl, rfl, rfl, rfl, rfl, rfl, rfl, rfl, rfl, rfl, rfl, rfl, rfl, rfl, rfl, rfl,
    rfl, rfl, rfl, rfl, rfl, rfl, rfl, rfl, rfl, rfl, rfl⟩

@[simp] theorem State.releaseFault_frame (s : State) (r : FaultReason) :
    (s.releaseFault r).pending = s.pending ∧ (s.releaseFault r).regs = s.regs ∧ (s.releaseFault r).mem = s.mem ∧
    (s.releaseFault r).msixTable = s.msixTable ∧ (s.releaseFault r).msixPba = s.msixPba ∧ (s.releaseFault r).msixCount = s.msixCount ∧
    (s.releaseFault r).startup = s.startup ∧ (s.releaseFault r).resetN = s.resetN ∧ (s.releaseFault r).mode = s.mode ∧
    (s.releaseFault r).frame = s.frame ∧ (s.releaseFault r).time = s.time ∧ (s.releaseFault r).stewardOn = s.stewardOn ∧
    (s.releaseFault r).evRing = s.evRing ∧ (s.releaseFault r).evSeq = s.evSeq ∧ (s.releaseFault r).evLost = s.evLost ∧
    (s.releaseFault r).writeback = s.writeback ∧ (s.releaseFault r).cmds = s.cmds ∧ (s.releaseFault r).changes = s.changes ∧
    (s.releaseFault r).desc = s.desc ∧ (s.releaseFault r).trace = s.trace ∧ (s.releaseFault r).pair = s.pair ∧ (s.releaseFault r).ledg = s.ledg ∧
    (s.releaseFault r).fetches = s.fetches ∧ (s.releaseFault r).hung = s.hung ∧ (s.releaseFault r).captures = s.captures ∧
    (s.releaseFault r).onceDone = s.onceDone ∧ (s.releaseFault r).fuses = s.fuses ∧ (s.releaseFault r).gate = s.gate ∧
    (s.releaseFault r).mill = s.mill ∧ (s.releaseFault r).jtag = s.jtag ∧ (s.releaseFault r).aon = s.aon ∧ (s.releaseFault r).progs = s.progs ∧
    (s.releaseFault r).progNext = s.progNext ∧ (s.releaseFault r).engs = s.engs ∧ (s.releaseFault r).shst = s.shst ∧
    (s.releaseFault r).units = s.units ∧ (s.releaseFault r).wvrResetting = s.wvrResetting ∧ (s.releaseFault r).shadow = s.shadow ∧
    (s.releaseFault r).pblk = s.pblk ∧ (s.releaseFault r).pblkPending = s.pblkPending ∧ (s.releaseFault r).tally = s.tally ∧
    (s.releaseFault r).tallyX = s.tallyX ∧ (s.releaseFault r).injs = s.injs ∧ (s.releaseFault r).lanes = s.lanes ∧
    (s.releaseFault r).aligns = s.aligns ∧ (s.releaseFault r).vtfs = s.vtfs ∧ (s.releaseFault r).bips = s.bips ∧ (s.releaseFault r).cals = s.cals ∧
    (s.releaseFault r).chans = s.chans ∧ (s.releaseFault r).ends = s.ends ∧ (s.releaseFault r).xc = s.xc ∧ (s.releaseFault r).pkts = s.pkts ∧
    (s.releaseFault r).pktNext = s.pktNext ∧ (s.releaseFault r).joinNext = s.joinNext ∧ (s.releaseFault r).banks = s.banks ∧
    (s.releaseFault r).qFlushed = s.qFlushed ∧ (s.releaseFault r).repairA = s.repairA ∧ (s.releaseFault r).repairB = s.repairB ∧
    (s.releaseFault r).flows = s.flows ∧ (s.releaseFault r).flowBad = s.flowBad ∧ (s.releaseFault r).fifos = s.fifos ∧
    (s.releaseFault r).groups = s.groups ∧ (s.releaseFault r).bell = s.bell ∧ (s.releaseFault r).refs = s.refs ∧
    (s.releaseFault r).skeys = s.skeys ∧ (s.releaseFault r).free = s.free ∧ (s.releaseFault r).out = s.out :=
  ⟨rfl, rfl, rfl, rfl, rfl, rfl, rfl, rfl, rfl, rfl, rfl, rfl, rfl, rfl, rfl, rfl, rfl, rfl, rfl, rfl, rfl, rfl, rfl, rfl, rfl, rfl, rfl, rfl,
    rfl, rfl, rfl, rfl, rfl, rfl, rfl, rfl, rfl, rfl, rfl, rfl, rfl, rfl, rfl, rfl, rfl, rfl, rfl, rfl, rfl, rfl, rfl, rfl, rfl, rfl, rfl, rfl,
    rfl, rfl, rfl, rfl, rfl, rfl, rfl, rfl, rfl, rfl, rfl⟩

@[simp] theorem State.later_frame (s : State) (h : Option CmdHead) (d : Due) (c : Change) :
    (s.later h d c).pending = s.pending ∧ (s.later h d c).regs = s.regs ∧ (s.later h d c).mem = s.mem ∧ (s.later h d c).msixTable = s.msixTable ∧
    (s.later h d c).msixPba = s.msixPba ∧ (s.later h d c).msixCount = s.msixCount ∧ (s.later h d c).startup = s.startup ∧
    (s.later h d c).resetN = s.resetN ∧ (s.later h d c).mode = s.mode ∧ (s.later h d c).frame = s.frame ∧ (s.later h d c).time = s.time ∧
    (s.later h d c).faultN = s.faultN ∧ (s.later h d c).stewardOn = s.stewardOn ∧ (s.later h d c).evRing = s.evRing ∧
    (s.later h d c).evSeq = s.evSeq ∧ (s.later h d c).evLost = s.evLost ∧ (s.later h d c).writeback = s.writeback ∧ (s.later h d c).cmds = s.cmds ∧
    (s.later h d c).desc = s.desc ∧ (s.later h d c).trace = s.trace ∧ (s.later h d c).pair = s.pair ∧ (s.later h d c).ledg = s.ledg ∧
    (s.later h d c).fetches = s.fetches ∧ (s.later h d c).hung = s.hung ∧ (s.later h d c).captures = s.captures ∧
    (s.later h d c).onceDone = s.onceDone ∧ (s.later h d c).fuses = s.fuses ∧ (s.later h d c).gate = s.gate ∧ (s.later h d c).mill = s.mill ∧
    (s.later h d c).jtag = s.jtag ∧ (s.later h d c).aon = s.aon ∧ (s.later h d c).progs = s.progs ∧ (s.later h d c).progNext = s.progNext ∧
    (s.later h d c).engs = s.engs ∧ (s.later h d c).shst = s.shst ∧ (s.later h d c).units = s.units ∧
    (s.later h d c).wvrResetting = s.wvrResetting ∧ (s.later h d c).shadow = s.shadow ∧ (s.later h d c).pblk = s.pblk ∧
    (s.later h d c).pblkPending = s.pblkPending ∧ (s.later h d c).tally = s.tally ∧ (s.later h d c).tallyX = s.tallyX ∧
    (s.later h d c).injs = s.injs ∧ (s.later h d c).lanes = s.lanes ∧ (s.later h d c).aligns = s.aligns ∧ (s.later h d c).vtfs = s.vtfs ∧
    (s.later h d c).bips = s.bips ∧ (s.later h d c).cals = s.cals ∧ (s.later h d c).chans = s.chans ∧ (s.later h d c).ends = s.ends ∧
    (s.later h d c).xc = s.xc ∧ (s.later h d c).pkts = s.pkts ∧ (s.later h d c).pktNext = s.pktNext ∧ (s.later h d c).joinNext = s.joinNext ∧
    (s.later h d c).banks = s.banks ∧ (s.later h d c).qFlushed = s.qFlushed ∧ (s.later h d c).repairA = s.repairA ∧
    (s.later h d c).repairB = s.repairB ∧ (s.later h d c).flows = s.flows ∧ (s.later h d c).flowBad = s.flowBad ∧ (s.later h d c).fifos = s.fifos ∧
    (s.later h d c).groups = s.groups ∧ (s.later h d c).bell = s.bell ∧ (s.later h d c).refs = s.refs ∧ (s.later h d c).skeys = s.skeys ∧
    (s.later h d c).free = s.free ∧ (s.later h d c).out = s.out :=
  ⟨rfl, rfl, rfl, rfl, rfl, rfl, rfl, rfl, rfl, rfl, rfl, rfl, rfl, rfl, rfl, rfl, rfl, rfl, rfl, rfl, rfl, rfl, rfl, rfl, rfl, rfl, rfl, rfl,
    rfl, rfl, rfl, rfl, rfl, rfl, rfl, rfl, rfl, rfl, rfl, rfl, rfl, rfl, rfl, rfl, rfl, rfl, rfl, rfl, rfl, rfl, rfl, rfl, rfl, rfl, rfl, rfl,
    rfl, rfl, rfl, rfl, rfl, rfl, rfl, rfl, rfl, rfl, rfl⟩

@[simp] theorem State.setEng_frame (s : State) (i : Nat) (x : Eng) :
    (s.setEng i x).pending = s.pending ∧ (s.setEng i x).regs = s.regs ∧ (s.setEng i x).mem = s.mem ∧ (s.setEng i x).msixTable = s.msixTable ∧
    (s.setEng i x).msixPba = s.msixPba ∧ (s.setEng i x).msixCount = s.msixCount ∧ (s.setEng i x).startup = s.startup ∧
    (s.setEng i x).resetN = s.resetN ∧ (s.setEng i x).mode = s.mode ∧ (s.setEng i x).frame = s.frame ∧ (s.setEng i x).time = s.time ∧
    (s.setEng i x).faultN = s.faultN ∧ (s.setEng i x).stewardOn = s.stewardOn ∧ (s.setEng i x).evRing = s.evRing ∧ (s.setEng i x).evSeq = s.evSeq ∧
    (s.setEng i x).evLost = s.evLost ∧ (s.setEng i x).writeback = s.writeback ∧ (s.setEng i x).cmds = s.cmds ∧ (s.setEng i x).changes = s.changes ∧
    (s.setEng i x).desc = s.desc ∧ (s.setEng i x).trace = s.trace ∧ (s.setEng i x).pair = s.pair ∧ (s.setEng i x).ledg = s.ledg ∧
    (s.setEng i x).fetches = s.fetches ∧ (s.setEng i x).hung = s.hung ∧ (s.setEng i x).captures = s.captures ∧
    (s.setEng i x).onceDone = s.onceDone ∧ (s.setEng i x).fuses = s.fuses ∧ (s.setEng i x).gate = s.gate ∧ (s.setEng i x).mill = s.mill ∧
    (s.setEng i x).jtag = s.jtag ∧ (s.setEng i x).aon = s.aon ∧ (s.setEng i x).progs = s.progs ∧ (s.setEng i x).progNext = s.progNext ∧
    (s.setEng i x).shst = s.shst ∧ (s.setEng i x).units = s.units ∧ (s.setEng i x).wvrResetting = s.wvrResetting ∧
    (s.setEng i x).shadow = s.shadow ∧ (s.setEng i x).pblk = s.pblk ∧ (s.setEng i x).pblkPending = s.pblkPending ∧ (s.setEng i x).tally = s.tally ∧
    (s.setEng i x).tallyX = s.tallyX ∧ (s.setEng i x).injs = s.injs ∧ (s.setEng i x).lanes = s.lanes ∧ (s.setEng i x).aligns = s.aligns ∧
    (s.setEng i x).vtfs = s.vtfs ∧ (s.setEng i x).bips = s.bips ∧ (s.setEng i x).cals = s.cals ∧ (s.setEng i x).chans = s.chans ∧
    (s.setEng i x).ends = s.ends ∧ (s.setEng i x).xc = s.xc ∧ (s.setEng i x).pkts = s.pkts ∧ (s.setEng i x).pktNext = s.pktNext ∧
    (s.setEng i x).joinNext = s.joinNext ∧ (s.setEng i x).banks = s.banks ∧ (s.setEng i x).qFlushed = s.qFlushed ∧
    (s.setEng i x).repairA = s.repairA ∧ (s.setEng i x).repairB = s.repairB ∧ (s.setEng i x).flows = s.flows ∧ (s.setEng i x).flowBad = s.flowBad ∧
    (s.setEng i x).fifos = s.fifos ∧ (s.setEng i x).groups = s.groups ∧ (s.setEng i x).bell = s.bell ∧ (s.setEng i x).refs = s.refs ∧
    (s.setEng i x).skeys = s.skeys ∧ (s.setEng i x).free = s.free ∧ (s.setEng i x).out = s.out :=
  ⟨rfl, rfl, rfl, rfl, rfl, rfl, rfl, rfl, rfl, rfl, rfl, rfl, rfl, rfl, rfl, rfl, rfl, rfl, rfl, rfl, rfl, rfl, rfl, rfl, rfl, rfl, rfl, rfl,
    rfl, rfl, rfl, rfl, rfl, rfl, rfl, rfl, rfl, rfl, rfl, rfl, rfl, rfl, rfl, rfl, rfl, rfl, rfl, rfl, rfl, rfl, rfl, rfl, rfl, rfl, rfl, rfl,
    rfl, rfl, rfl, rfl, rfl, rfl, rfl, rfl, rfl, rfl, rfl⟩

@[simp] theorem State.setProg_frame (s : State) (c slot : Nat) (p : Option Prog) :
    (s.setProg c slot p).pending = s.pending ∧ (s.setProg c slot p).regs = s.regs ∧ (s.setProg c slot p).mem = s.mem ∧
    (s.setProg c slot p).msixTable = s.msixTable ∧ (s.setProg c slot p).msixPba = s.msixPba ∧ (s.setProg c slot p).msixCount = s.msixCount ∧
    (s.setProg c slot p).startup = s.startup ∧ (s.setProg c slot p).resetN = s.resetN ∧ (s.setProg c slot p).mode = s.mode ∧
    (s.setProg c slot p).frame = s.frame ∧ (s.setProg c slot p).time = s.time ∧ (s.setProg c slot p).faultN = s.faultN ∧
    (s.setProg c slot p).stewardOn = s.stewardOn ∧ (s.setProg c slot p).evRing = s.evRing ∧ (s.setProg c slot p).evSeq = s.evSeq ∧
    (s.setProg c slot p).evLost = s.evLost ∧ (s.setProg c slot p).writeback = s.writeback ∧ (s.setProg c slot p).cmds = s.cmds ∧
    (s.setProg c slot p).changes = s.changes ∧ (s.setProg c slot p).desc = s.desc ∧ (s.setProg c slot p).trace = s.trace ∧
    (s.setProg c slot p).pair = s.pair ∧ (s.setProg c slot p).ledg = s.ledg ∧ (s.setProg c slot p).fetches = s.fetches ∧
    (s.setProg c slot p).hung = s.hung ∧ (s.setProg c slot p).captures = s.captures ∧ (s.setProg c slot p).onceDone = s.onceDone ∧
    (s.setProg c slot p).fuses = s.fuses ∧ (s.setProg c slot p).gate = s.gate ∧ (s.setProg c slot p).mill = s.mill ∧
    (s.setProg c slot p).jtag = s.jtag ∧ (s.setProg c slot p).aon = s.aon ∧ (s.setProg c slot p).progNext = s.progNext ∧
    (s.setProg c slot p).engs = s.engs ∧ (s.setProg c slot p).shst = s.shst ∧ (s.setProg c slot p).units = s.units ∧
    (s.setProg c slot p).wvrResetting = s.wvrResetting ∧ (s.setProg c slot p).shadow = s.shadow ∧ (s.setProg c slot p).pblk = s.pblk ∧
    (s.setProg c slot p).pblkPending = s.pblkPending ∧ (s.setProg c slot p).tally = s.tally ∧ (s.setProg c slot p).tallyX = s.tallyX ∧
    (s.setProg c slot p).injs = s.injs ∧ (s.setProg c slot p).lanes = s.lanes ∧ (s.setProg c slot p).aligns = s.aligns ∧
    (s.setProg c slot p).vtfs = s.vtfs ∧ (s.setProg c slot p).bips = s.bips ∧ (s.setProg c slot p).cals = s.cals ∧
    (s.setProg c slot p).chans = s.chans ∧ (s.setProg c slot p).ends = s.ends ∧ (s.setProg c slot p).xc = s.xc ∧
    (s.setProg c slot p).pkts = s.pkts ∧ (s.setProg c slot p).pktNext = s.pktNext ∧ (s.setProg c slot p).joinNext = s.joinNext ∧
    (s.setProg c slot p).banks = s.banks ∧ (s.setProg c slot p).qFlushed = s.qFlushed ∧ (s.setProg c slot p).repairA = s.repairA ∧
    (s.setProg c slot p).repairB = s.repairB ∧ (s.setProg c slot p).flows = s.flows ∧ (s.setProg c slot p).flowBad = s.flowBad ∧
    (s.setProg c slot p).fifos = s.fifos ∧ (s.setProg c slot p).groups = s.groups ∧ (s.setProg c slot p).bell = s.bell ∧
    (s.setProg c slot p).refs = s.refs ∧ (s.setProg c slot p).skeys = s.skeys ∧ (s.setProg c slot p).free = s.free ∧
    (s.setProg c slot p).out = s.out :=
  ⟨rfl, rfl, rfl, rfl, rfl, rfl, rfl, rfl, rfl, rfl, rfl, rfl, rfl, rfl, rfl, rfl, rfl, rfl, rfl, rfl, rfl, rfl, rfl, rfl, rfl, rfl, rfl, rfl,
    rfl, rfl, rfl, rfl, rfl, rfl, rfl, rfl, rfl, rfl, rfl, rfl, rfl, rfl, rfl, rfl, rfl, rfl, rfl, rfl, rfl, rfl, rfl, rfl, rfl, rfl, rfl, rfl,
    rfl, rfl, rfl, rfl, rfl, rfl, rfl, rfl, rfl, rfl, rfl⟩

@[simp] theorem State.setPw_frame (s : State) (c slot w v : Nat) :
    (s.setPw c slot w v).pending = s.pending ∧ (s.setPw c slot w v).regs = s.regs ∧ (s.setPw c slot w v).mem = s.mem ∧
    (s.setPw c slot w v).msixTable = s.msixTable ∧ (s.setPw c slot w v).msixPba = s.msixPba ∧ (s.setPw c slot w v).msixCount = s.msixCount ∧
    (s.setPw c slot w v).startup = s.startup ∧ (s.setPw c slot w v).resetN = s.resetN ∧ (s.setPw c slot w v).mode = s.mode ∧
    (s.setPw c slot w v).frame = s.frame ∧ (s.setPw c slot w v).time = s.time ∧ (s.setPw c slot w v).faultN = s.faultN ∧
    (s.setPw c slot w v).stewardOn = s.stewardOn ∧ (s.setPw c slot w v).evRing = s.evRing ∧ (s.setPw c slot w v).evSeq = s.evSeq ∧
    (s.setPw c slot w v).evLost = s.evLost ∧ (s.setPw c slot w v).writeback = s.writeback ∧ (s.setPw c slot w v).cmds = s.cmds ∧
    (s.setPw c slot w v).changes = s.changes ∧ (s.setPw c slot w v).desc = s.desc ∧ (s.setPw c slot w v).trace = s.trace ∧
    (s.setPw c slot w v).pair = s.pair ∧ (s.setPw c slot w v).ledg = s.ledg ∧ (s.setPw c slot w v).fetches = s.fetches ∧
    (s.setPw c slot w v).hung = s.hung ∧ (s.setPw c slot w v).captures = s.captures ∧ (s.setPw c slot w v).onceDone = s.onceDone ∧
    (s.setPw c slot w v).fuses = s.fuses ∧ (s.setPw c slot w v).gate = s.gate ∧ (s.setPw c slot w v).mill = s.mill ∧
    (s.setPw c slot w v).jtag = s.jtag ∧ (s.setPw c slot w v).aon = s.aon ∧ (s.setPw c slot w v).progs = s.progs ∧
    (s.setPw c slot w v).progNext = s.progNext ∧ (s.setPw c slot w v).engs = s.engs ∧ (s.setPw c slot w v).shst = s.shst ∧
    (s.setPw c slot w v).units = s.units ∧ (s.setPw c slot w v).wvrResetting = s.wvrResetting ∧ (s.setPw c slot w v).shadow = s.shadow ∧
    (s.setPw c slot w v).pblkPending = s.pblkPending ∧ (s.setPw c slot w v).tally = s.tally ∧ (s.setPw c slot w v).tallyX = s.tallyX ∧
    (s.setPw c slot w v).injs = s.injs ∧ (s.setPw c slot w v).lanes = s.lanes ∧ (s.setPw c slot w v).aligns = s.aligns ∧
    (s.setPw c slot w v).vtfs = s.vtfs ∧ (s.setPw c slot w v).bips = s.bips ∧ (s.setPw c slot w v).cals = s.cals ∧
    (s.setPw c slot w v).chans = s.chans ∧ (s.setPw c slot w v).ends = s.ends ∧ (s.setPw c slot w v).xc = s.xc ∧
    (s.setPw c slot w v).pkts = s.pkts ∧ (s.setPw c slot w v).pktNext = s.pktNext ∧ (s.setPw c slot w v).joinNext = s.joinNext ∧
    (s.setPw c slot w v).banks = s.banks ∧ (s.setPw c slot w v).qFlushed = s.qFlushed ∧ (s.setPw c slot w v).repairA = s.repairA ∧
    (s.setPw c slot w v).repairB = s.repairB ∧ (s.setPw c slot w v).flows = s.flows ∧ (s.setPw c slot w v).flowBad = s.flowBad ∧
    (s.setPw c slot w v).fifos = s.fifos ∧ (s.setPw c slot w v).groups = s.groups ∧ (s.setPw c slot w v).bell = s.bell ∧
    (s.setPw c slot w v).refs = s.refs ∧ (s.setPw c slot w v).skeys = s.skeys ∧ (s.setPw c slot w v).free = s.free ∧
    (s.setPw c slot w v).out = s.out :=
  ⟨rfl, rfl, rfl, rfl, rfl, rfl, rfl, rfl, rfl, rfl, rfl, rfl, rfl, rfl, rfl, rfl, rfl, rfl, rfl, rfl, rfl, rfl, rfl, rfl, rfl, rfl, rfl, rfl,
    rfl, rfl, rfl, rfl, rfl, rfl, rfl, rfl, rfl, rfl, rfl, rfl, rfl, rfl, rfl, rfl, rfl, rfl, rfl, rfl, rfl, rfl, rfl, rfl, rfl, rfl, rfl, rfl,
    rfl, rfl, rfl, rfl, rfl, rfl, rfl, rfl, rfl, rfl, rfl⟩

@[simp] theorem State.count_frame (s : State) (i k : Nat) :
    (s.count i k).pending = s.pending ∧ (s.count i k).regs = s.regs ∧ (s.count i k).mem = s.mem ∧ (s.count i k).msixTable = s.msixTable ∧
    (s.count i k).msixPba = s.msixPba ∧ (s.count i k).msixCount = s.msixCount ∧ (s.count i k).startup = s.startup ∧
    (s.count i k).resetN = s.resetN ∧ (s.count i k).mode = s.mode ∧ (s.count i k).frame = s.frame ∧ (s.count i k).time = s.time ∧
    (s.count i k).faultN = s.faultN ∧ (s.count i k).stewardOn = s.stewardOn ∧ (s.count i k).evRing = s.evRing ∧ (s.count i k).evSeq = s.evSeq ∧
    (s.count i k).evLost = s.evLost ∧ (s.count i k).writeback = s.writeback ∧ (s.count i k).cmds = s.cmds ∧ (s.count i k).changes = s.changes ∧
    (s.count i k).desc = s.desc ∧ (s.count i k).trace = s.trace ∧ (s.count i k).pair = s.pair ∧ (s.count i k).ledg = s.ledg ∧
    (s.count i k).fetches = s.fetches ∧ (s.count i k).hung = s.hung ∧ (s.count i k).captures = s.captures ∧ (s.count i k).onceDone = s.onceDone ∧
    (s.count i k).fuses = s.fuses ∧ (s.count i k).gate = s.gate ∧ (s.count i k).mill = s.mill ∧ (s.count i k).jtag = s.jtag ∧
    (s.count i k).aon = s.aon ∧ (s.count i k).progs = s.progs ∧ (s.count i k).progNext = s.progNext ∧ (s.count i k).engs = s.engs ∧
    (s.count i k).shst = s.shst ∧ (s.count i k).units = s.units ∧ (s.count i k).wvrResetting = s.wvrResetting ∧ (s.count i k).shadow = s.shadow ∧
    (s.count i k).pblk = s.pblk ∧ (s.count i k).pblkPending = s.pblkPending ∧ (s.count i k).tallyX = s.tallyX ∧ (s.count i k).injs = s.injs ∧
    (s.count i k).lanes = s.lanes ∧ (s.count i k).aligns = s.aligns ∧ (s.count i k).vtfs = s.vtfs ∧ (s.count i k).bips = s.bips ∧
    (s.count i k).cals = s.cals ∧ (s.count i k).chans = s.chans ∧ (s.count i k).ends = s.ends ∧ (s.count i k).xc = s.xc ∧
    (s.count i k).pkts = s.pkts ∧ (s.count i k).pktNext = s.pktNext ∧ (s.count i k).joinNext = s.joinNext ∧ (s.count i k).banks = s.banks ∧
    (s.count i k).qFlushed = s.qFlushed ∧ (s.count i k).repairA = s.repairA ∧ (s.count i k).repairB = s.repairB ∧ (s.count i k).flows = s.flows ∧
    (s.count i k).flowBad = s.flowBad ∧ (s.count i k).fifos = s.fifos ∧ (s.count i k).groups = s.groups ∧ (s.count i k).bell = s.bell ∧
    (s.count i k).refs = s.refs ∧ (s.count i k).skeys = s.skeys ∧ (s.count i k).free = s.free ∧ (s.count i k).out = s.out :=
  ⟨rfl, rfl, rfl, rfl, rfl, rfl, rfl, rfl, rfl, rfl, rfl, rfl, rfl, rfl, rfl, rfl, rfl, rfl, rfl, rfl, rfl, rfl, rfl, rfl, rfl, rfl, rfl, rfl,
    rfl, rfl, rfl, rfl, rfl, rfl, rfl, rfl, rfl, rfl, rfl, rfl, rfl, rfl, rfl, rfl, rfl, rfl, rfl, rfl, rfl, rfl, rfl, rfl, rfl, rfl, rfl, rfl,
    rfl, rfl, rfl, rfl, rfl, rfl, rfl, rfl, rfl, rfl, rfl⟩

@[simp] theorem State.setLane_frame (s : State) (n : Nat) (x : LaneX) :
    (s.setLane n x).pending = s.pending ∧ (s.setLane n x).regs = s.regs ∧ (s.setLane n x).mem = s.mem ∧ (s.setLane n x).msixTable = s.msixTable ∧
    (s.setLane n x).msixPba = s.msixPba ∧ (s.setLane n x).msixCount = s.msixCount ∧ (s.setLane n x).startup = s.startup ∧
    (s.setLane n x).resetN = s.resetN ∧ (s.setLane n x).mode = s.mode ∧ (s.setLane n x).frame = s.frame ∧ (s.setLane n x).time = s.time ∧
    (s.setLane n x).faultN = s.faultN ∧ (s.setLane n x).stewardOn = s.stewardOn ∧ (s.setLane n x).evRing = s.evRing ∧
    (s.setLane n x).evSeq = s.evSeq ∧ (s.setLane n x).evLost = s.evLost ∧ (s.setLane n x).writeback = s.writeback ∧ (s.setLane n x).cmds = s.cmds ∧
    (s.setLane n x).changes = s.changes ∧ (s.setLane n x).desc = s.desc ∧ (s.setLane n x).trace = s.trace ∧ (s.setLane n x).pair = s.pair ∧
    (s.setLane n x).ledg = s.ledg ∧ (s.setLane n x).fetches = s.fetches ∧ (s.setLane n x).hung = s.hung ∧ (s.setLane n x).captures = s.captures ∧
    (s.setLane n x).onceDone = s.onceDone ∧ (s.setLane n x).fuses = s.fuses ∧ (s.setLane n x).gate = s.gate ∧ (s.setLane n x).mill = s.mill ∧
    (s.setLane n x).jtag = s.jtag ∧ (s.setLane n x).aon = s.aon ∧ (s.setLane n x).progs = s.progs ∧ (s.setLane n x).progNext = s.progNext ∧
    (s.setLane n x).engs = s.engs ∧ (s.setLane n x).shst = s.shst ∧ (s.setLane n x).units = s.units ∧
    (s.setLane n x).wvrResetting = s.wvrResetting ∧ (s.setLane n x).shadow = s.shadow ∧ (s.setLane n x).pblk = s.pblk ∧
    (s.setLane n x).pblkPending = s.pblkPending ∧ (s.setLane n x).tally = s.tally ∧ (s.setLane n x).tallyX = s.tallyX ∧
    (s.setLane n x).injs = s.injs ∧ (s.setLane n x).aligns = s.aligns ∧ (s.setLane n x).vtfs = s.vtfs ∧ (s.setLane n x).bips = s.bips ∧
    (s.setLane n x).cals = s.cals ∧ (s.setLane n x).chans = s.chans ∧ (s.setLane n x).ends = s.ends ∧ (s.setLane n x).xc = s.xc ∧
    (s.setLane n x).pkts = s.pkts ∧ (s.setLane n x).pktNext = s.pktNext ∧ (s.setLane n x).joinNext = s.joinNext ∧ (s.setLane n x).banks = s.banks ∧
    (s.setLane n x).qFlushed = s.qFlushed ∧ (s.setLane n x).repairA = s.repairA ∧ (s.setLane n x).repairB = s.repairB ∧
    (s.setLane n x).flows = s.flows ∧ (s.setLane n x).flowBad = s.flowBad ∧ (s.setLane n x).fifos = s.fifos ∧ (s.setLane n x).groups = s.groups ∧
    (s.setLane n x).bell = s.bell ∧ (s.setLane n x).refs = s.refs ∧ (s.setLane n x).skeys = s.skeys ∧ (s.setLane n x).free = s.free ∧
    (s.setLane n x).out = s.out :=
  ⟨rfl, rfl, rfl, rfl, rfl, rfl, rfl, rfl, rfl, rfl, rfl, rfl, rfl, rfl, rfl, rfl, rfl, rfl, rfl, rfl, rfl, rfl, rfl, rfl, rfl, rfl, rfl, rfl,
    rfl, rfl, rfl, rfl, rfl, rfl, rfl, rfl, rfl, rfl, rfl, rfl, rfl, rfl, rfl, rfl, rfl, rfl, rfl, rfl, rfl, rfl, rfl, rfl, rfl, rfl, rfl, rfl,
    rfl, rfl, rfl, rfl, rfl, rfl, rfl, rfl, rfl, rfl, rfl⟩

@[simp] theorem State.setAlign_frame (s : State) (n : Nat) (x : AlignX) :
    (s.setAlign n x).pending = s.pending ∧ (s.setAlign n x).regs = s.regs ∧ (s.setAlign n x).mem = s.mem ∧
    (s.setAlign n x).msixTable = s.msixTable ∧ (s.setAlign n x).msixPba = s.msixPba ∧ (s.setAlign n x).msixCount = s.msixCount ∧
    (s.setAlign n x).startup = s.startup ∧ (s.setAlign n x).resetN = s.resetN ∧ (s.setAlign n x).mode = s.mode ∧ (s.setAlign n x).frame = s.frame ∧
    (s.setAlign n x).time = s.time ∧ (s.setAlign n x).faultN = s.faultN ∧ (s.setAlign n x).stewardOn = s.stewardOn ∧
    (s.setAlign n x).evRing = s.evRing ∧ (s.setAlign n x).evSeq = s.evSeq ∧ (s.setAlign n x).evLost = s.evLost ∧
    (s.setAlign n x).writeback = s.writeback ∧ (s.setAlign n x).cmds = s.cmds ∧ (s.setAlign n x).changes = s.changes ∧
    (s.setAlign n x).desc = s.desc ∧ (s.setAlign n x).trace = s.trace ∧ (s.setAlign n x).pair = s.pair ∧ (s.setAlign n x).ledg = s.ledg ∧
    (s.setAlign n x).fetches = s.fetches ∧ (s.setAlign n x).hung = s.hung ∧ (s.setAlign n x).captures = s.captures ∧
    (s.setAlign n x).onceDone = s.onceDone ∧ (s.setAlign n x).fuses = s.fuses ∧ (s.setAlign n x).gate = s.gate ∧ (s.setAlign n x).mill = s.mill ∧
    (s.setAlign n x).jtag = s.jtag ∧ (s.setAlign n x).aon = s.aon ∧ (s.setAlign n x).progs = s.progs ∧ (s.setAlign n x).progNext = s.progNext ∧
    (s.setAlign n x).engs = s.engs ∧ (s.setAlign n x).shst = s.shst ∧ (s.setAlign n x).units = s.units ∧
    (s.setAlign n x).wvrResetting = s.wvrResetting ∧ (s.setAlign n x).shadow = s.shadow ∧ (s.setAlign n x).pblk = s.pblk ∧
    (s.setAlign n x).pblkPending = s.pblkPending ∧ (s.setAlign n x).tally = s.tally ∧ (s.setAlign n x).tallyX = s.tallyX ∧
    (s.setAlign n x).injs = s.injs ∧ (s.setAlign n x).lanes = s.lanes ∧ (s.setAlign n x).vtfs = s.vtfs ∧ (s.setAlign n x).bips = s.bips ∧
    (s.setAlign n x).cals = s.cals ∧ (s.setAlign n x).chans = s.chans ∧ (s.setAlign n x).ends = s.ends ∧ (s.setAlign n x).xc = s.xc ∧
    (s.setAlign n x).pkts = s.pkts ∧ (s.setAlign n x).pktNext = s.pktNext ∧ (s.setAlign n x).joinNext = s.joinNext ∧
    (s.setAlign n x).banks = s.banks ∧ (s.setAlign n x).qFlushed = s.qFlushed ∧ (s.setAlign n x).repairA = s.repairA ∧
    (s.setAlign n x).repairB = s.repairB ∧ (s.setAlign n x).flows = s.flows ∧ (s.setAlign n x).flowBad = s.flowBad ∧
    (s.setAlign n x).fifos = s.fifos ∧ (s.setAlign n x).groups = s.groups ∧ (s.setAlign n x).bell = s.bell ∧ (s.setAlign n x).refs = s.refs ∧
    (s.setAlign n x).skeys = s.skeys ∧ (s.setAlign n x).free = s.free ∧ (s.setAlign n x).out = s.out :=
  ⟨rfl, rfl, rfl, rfl, rfl, rfl, rfl, rfl, rfl, rfl, rfl, rfl, rfl, rfl, rfl, rfl, rfl, rfl, rfl, rfl, rfl, rfl, rfl, rfl, rfl, rfl, rfl, rfl,
    rfl, rfl, rfl, rfl, rfl, rfl, rfl, rfl, rfl, rfl, rfl, rfl, rfl, rfl, rfl, rfl, rfl, rfl, rfl, rfl, rfl, rfl, rfl, rfl, rfl, rfl, rfl, rfl,
    rfl, rfl, rfl, rfl, rfl, rfl, rfl, rfl, rfl, rfl, rfl⟩

@[simp] theorem State.setVtf_frame (s : State) (n : Nat) (x : VtfX) :
    (s.setVtf n x).pending = s.pending ∧ (s.setVtf n x).regs = s.regs ∧ (s.setVtf n x).mem = s.mem ∧ (s.setVtf n x).msixTable = s.msixTable ∧
    (s.setVtf n x).msixPba = s.msixPba ∧ (s.setVtf n x).msixCount = s.msixCount ∧ (s.setVtf n x).startup = s.startup ∧
    (s.setVtf n x).resetN = s.resetN ∧ (s.setVtf n x).mode = s.mode ∧ (s.setVtf n x).frame = s.frame ∧ (s.setVtf n x).time = s.time ∧
    (s.setVtf n x).faultN = s.faultN ∧ (s.setVtf n x).stewardOn = s.stewardOn ∧ (s.setVtf n x).evRing = s.evRing ∧ (s.setVtf n x).evSeq = s.evSeq ∧
    (s.setVtf n x).evLost = s.evLost ∧ (s.setVtf n x).writeback = s.writeback ∧ (s.setVtf n x).cmds = s.cmds ∧ (s.setVtf n x).changes = s.changes ∧
    (s.setVtf n x).desc = s.desc ∧ (s.setVtf n x).trace = s.trace ∧ (s.setVtf n x).pair = s.pair ∧ (s.setVtf n x).ledg = s.ledg ∧
    (s.setVtf n x).fetches = s.fetches ∧ (s.setVtf n x).hung = s.hung ∧ (s.setVtf n x).captures = s.captures ∧
    (s.setVtf n x).onceDone = s.onceDone ∧ (s.setVtf n x).fuses = s.fuses ∧ (s.setVtf n x).gate = s.gate ∧ (s.setVtf n x).mill = s.mill ∧
    (s.setVtf n x).jtag = s.jtag ∧ (s.setVtf n x).aon = s.aon ∧ (s.setVtf n x).progs = s.progs ∧ (s.setVtf n x).progNext = s.progNext ∧
    (s.setVtf n x).engs = s.engs ∧ (s.setVtf n x).shst = s.shst ∧ (s.setVtf n x).units = s.units ∧ (s.setVtf n x).wvrResetting = s.wvrResetting ∧
    (s.setVtf n x).shadow = s.shadow ∧ (s.setVtf n x).pblk = s.pblk ∧ (s.setVtf n x).pblkPending = s.pblkPending ∧ (s.setVtf n x).tally = s.tally ∧
    (s.setVtf n x).tallyX = s.tallyX ∧ (s.setVtf n x).injs = s.injs ∧ (s.setVtf n x).lanes = s.lanes ∧ (s.setVtf n x).aligns = s.aligns ∧
    (s.setVtf n x).bips = s.bips ∧ (s.setVtf n x).cals = s.cals ∧ (s.setVtf n x).chans = s.chans ∧ (s.setVtf n x).ends = s.ends ∧
    (s.setVtf n x).xc = s.xc ∧ (s.setVtf n x).pkts = s.pkts ∧ (s.setVtf n x).pktNext = s.pktNext ∧ (s.setVtf n x).joinNext = s.joinNext ∧
    (s.setVtf n x).banks = s.banks ∧ (s.setVtf n x).qFlushed = s.qFlushed ∧ (s.setVtf n x).repairA = s.repairA ∧
    (s.setVtf n x).repairB = s.repairB ∧ (s.setVtf n x).flows = s.flows ∧ (s.setVtf n x).flowBad = s.flowBad ∧ (s.setVtf n x).fifos = s.fifos ∧
    (s.setVtf n x).groups = s.groups ∧ (s.setVtf n x).bell = s.bell ∧ (s.setVtf n x).refs = s.refs ∧ (s.setVtf n x).skeys = s.skeys ∧
    (s.setVtf n x).free = s.free ∧ (s.setVtf n x).out = s.out :=
  ⟨rfl, rfl, rfl, rfl, rfl, rfl, rfl, rfl, rfl, rfl, rfl, rfl, rfl, rfl, rfl, rfl, rfl, rfl, rfl, rfl, rfl, rfl, rfl, rfl, rfl, rfl, rfl, rfl,
    rfl, rfl, rfl, rfl, rfl, rfl, rfl, rfl, rfl, rfl, rfl, rfl, rfl, rfl, rfl, rfl, rfl, rfl, rfl, rfl, rfl, rfl, rfl, rfl, rfl, rfl, rfl, rfl,
    rfl, rfl, rfl, rfl, rfl, rfl, rfl, rfl, rfl, rfl, rfl⟩

@[simp] theorem State.setBip_frame (s : State) (n : Nat) (x : BipX) :
    (s.setBip n x).pending = s.pending ∧ (s.setBip n x).regs = s.regs ∧ (s.setBip n x).mem = s.mem ∧ (s.setBip n x).msixTable = s.msixTable ∧
    (s.setBip n x).msixPba = s.msixPba ∧ (s.setBip n x).msixCount = s.msixCount ∧ (s.setBip n x).startup = s.startup ∧
    (s.setBip n x).resetN = s.resetN ∧ (s.setBip n x).mode = s.mode ∧ (s.setBip n x).frame = s.frame ∧ (s.setBip n x).time = s.time ∧
    (s.setBip n x).faultN = s.faultN ∧ (s.setBip n x).stewardOn = s.stewardOn ∧ (s.setBip n x).evRing = s.evRing ∧ (s.setBip n x).evSeq = s.evSeq ∧
    (s.setBip n x).evLost = s.evLost ∧ (s.setBip n x).writeback = s.writeback ∧ (s.setBip n x).cmds = s.cmds ∧ (s.setBip n x).changes = s.changes ∧
    (s.setBip n x).desc = s.desc ∧ (s.setBip n x).trace = s.trace ∧ (s.setBip n x).pair = s.pair ∧ (s.setBip n x).ledg = s.ledg ∧
    (s.setBip n x).fetches = s.fetches ∧ (s.setBip n x).hung = s.hung ∧ (s.setBip n x).captures = s.captures ∧
    (s.setBip n x).onceDone = s.onceDone ∧ (s.setBip n x).fuses = s.fuses ∧ (s.setBip n x).gate = s.gate ∧ (s.setBip n x).mill = s.mill ∧
    (s.setBip n x).jtag = s.jtag ∧ (s.setBip n x).aon = s.aon ∧ (s.setBip n x).progs = s.progs ∧ (s.setBip n x).progNext = s.progNext ∧
    (s.setBip n x).engs = s.engs ∧ (s.setBip n x).shst = s.shst ∧ (s.setBip n x).units = s.units ∧ (s.setBip n x).wvrResetting = s.wvrResetting ∧
    (s.setBip n x).shadow = s.shadow ∧ (s.setBip n x).pblk = s.pblk ∧ (s.setBip n x).pblkPending = s.pblkPending ∧ (s.setBip n x).tally = s.tally ∧
    (s.setBip n x).tallyX = s.tallyX ∧ (s.setBip n x).injs = s.injs ∧ (s.setBip n x).lanes = s.lanes ∧ (s.setBip n x).aligns = s.aligns ∧
    (s.setBip n x).vtfs = s.vtfs ∧ (s.setBip n x).cals = s.cals ∧ (s.setBip n x).chans = s.chans ∧ (s.setBip n x).ends = s.ends ∧
    (s.setBip n x).xc = s.xc ∧ (s.setBip n x).pkts = s.pkts ∧ (s.setBip n x).pktNext = s.pktNext ∧ (s.setBip n x).joinNext = s.joinNext ∧
    (s.setBip n x).banks = s.banks ∧ (s.setBip n x).qFlushed = s.qFlushed ∧ (s.setBip n x).repairA = s.repairA ∧
    (s.setBip n x).repairB = s.repairB ∧ (s.setBip n x).flows = s.flows ∧ (s.setBip n x).flowBad = s.flowBad ∧ (s.setBip n x).fifos = s.fifos ∧
    (s.setBip n x).groups = s.groups ∧ (s.setBip n x).bell = s.bell ∧ (s.setBip n x).refs = s.refs ∧ (s.setBip n x).skeys = s.skeys ∧
    (s.setBip n x).free = s.free ∧ (s.setBip n x).out = s.out :=
  ⟨rfl, rfl, rfl, rfl, rfl, rfl, rfl, rfl, rfl, rfl, rfl, rfl, rfl, rfl, rfl, rfl, rfl, rfl, rfl, rfl, rfl, rfl, rfl, rfl, rfl, rfl, rfl, rfl,
    rfl, rfl, rfl, rfl, rfl, rfl, rfl, rfl, rfl, rfl, rfl, rfl, rfl, rfl, rfl, rfl, rfl, rfl, rfl, rfl, rfl, rfl, rfl, rfl, rfl, rfl, rfl, rfl,
    rfl, rfl, rfl, rfl, rfl, rfl, rfl, rfl, rfl, rfl, rfl⟩

@[simp] theorem State.setChanX_frame (s : State) (c : Nat) (x : ChanX) :
    (s.setChanX c x).pending = s.pending ∧ (s.setChanX c x).regs = s.regs ∧ (s.setChanX c x).mem = s.mem ∧
    (s.setChanX c x).msixTable = s.msixTable ∧ (s.setChanX c x).msixPba = s.msixPba ∧ (s.setChanX c x).msixCount = s.msixCount ∧
    (s.setChanX c x).startup = s.startup ∧ (s.setChanX c x).resetN = s.resetN ∧ (s.setChanX c x).mode = s.mode ∧ (s.setChanX c x).frame = s.frame ∧
    (s.setChanX c x).time = s.time ∧ (s.setChanX c x).faultN = s.faultN ∧ (s.setChanX c x).stewardOn = s.stewardOn ∧
    (s.setChanX c x).evRing = s.evRing ∧ (s.setChanX c x).evSeq = s.evSeq ∧ (s.setChanX c x).evLost = s.evLost ∧
    (s.setChanX c x).writeback = s.writeback ∧ (s.setChanX c x).cmds = s.cmds ∧ (s.setChanX c x).changes = s.changes ∧
    (s.setChanX c x).desc = s.desc ∧ (s.setChanX c x).trace = s.trace ∧ (s.setChanX c x).pair = s.pair ∧ (s.setChanX c x).ledg = s.ledg ∧
    (s.setChanX c x).fetches = s.fetches ∧ (s.setChanX c x).hung = s.hung ∧ (s.setChanX c x).captures = s.captures ∧
    (s.setChanX c x).onceDone = s.onceDone ∧ (s.setChanX c x).fuses = s.fuses ∧ (s.setChanX c x).gate = s.gate ∧ (s.setChanX c x).mill = s.mill ∧
    (s.setChanX c x).jtag = s.jtag ∧ (s.setChanX c x).aon = s.aon ∧ (s.setChanX c x).progs = s.progs ∧ (s.setChanX c x).progNext = s.progNext ∧
    (s.setChanX c x).engs = s.engs ∧ (s.setChanX c x).shst = s.shst ∧ (s.setChanX c x).units = s.units ∧
    (s.setChanX c x).wvrResetting = s.wvrResetting ∧ (s.setChanX c x).shadow = s.shadow ∧ (s.setChanX c x).pblk = s.pblk ∧
    (s.setChanX c x).pblkPending = s.pblkPending ∧ (s.setChanX c x).tally = s.tally ∧ (s.setChanX c x).tallyX = s.tallyX ∧
    (s.setChanX c x).injs = s.injs ∧ (s.setChanX c x).lanes = s.lanes ∧ (s.setChanX c x).aligns = s.aligns ∧ (s.setChanX c x).vtfs = s.vtfs ∧
    (s.setChanX c x).bips = s.bips ∧ (s.setChanX c x).cals = s.cals ∧ (s.setChanX c x).ends = s.ends ∧ (s.setChanX c x).xc = s.xc ∧
    (s.setChanX c x).pkts = s.pkts ∧ (s.setChanX c x).pktNext = s.pktNext ∧ (s.setChanX c x).joinNext = s.joinNext ∧
    (s.setChanX c x).banks = s.banks ∧ (s.setChanX c x).qFlushed = s.qFlushed ∧ (s.setChanX c x).repairA = s.repairA ∧
    (s.setChanX c x).repairB = s.repairB ∧ (s.setChanX c x).flows = s.flows ∧ (s.setChanX c x).flowBad = s.flowBad ∧
    (s.setChanX c x).fifos = s.fifos ∧ (s.setChanX c x).groups = s.groups ∧ (s.setChanX c x).bell = s.bell ∧ (s.setChanX c x).refs = s.refs ∧
    (s.setChanX c x).skeys = s.skeys ∧ (s.setChanX c x).free = s.free ∧ (s.setChanX c x).out = s.out :=
  ⟨rfl, rfl, rfl, rfl, rfl, rfl, rfl, rfl, rfl, rfl, rfl, rfl, rfl, rfl, rfl, rfl, rfl, rfl, rfl, rfl, rfl, rfl, rfl, rfl, rfl, rfl, rfl, rfl,
    rfl, rfl, rfl, rfl, rfl, rfl, rfl, rfl, rfl, rfl, rfl, rfl, rfl, rfl, rfl, rfl, rfl, rfl, rfl, rfl, rfl, rfl, rfl, rfl, rfl, rfl, rfl, rfl,
    rfl, rfl, rfl, rfl, rfl, rfl, rfl, rfl, rfl, rfl, rfl⟩

@[simp] theorem State.setTrib_frame (s : State) (t c : Nat) (x : EndX) :
    (s.setTrib t c x).pending = s.pending ∧ (s.setTrib t c x).regs = s.regs ∧ (s.setTrib t c x).mem = s.mem ∧
    (s.setTrib t c x).msixTable = s.msixTable ∧ (s.setTrib t c x).msixPba = s.msixPba ∧ (s.setTrib t c x).msixCount = s.msixCount ∧
    (s.setTrib t c x).startup = s.startup ∧ (s.setTrib t c x).resetN = s.resetN ∧ (s.setTrib t c x).mode = s.mode ∧
    (s.setTrib t c x).frame = s.frame ∧ (s.setTrib t c x).time = s.time ∧ (s.setTrib t c x).faultN = s.faultN ∧
    (s.setTrib t c x).stewardOn = s.stewardOn ∧ (s.setTrib t c x).evRing = s.evRing ∧ (s.setTrib t c x).evSeq = s.evSeq ∧
    (s.setTrib t c x).evLost = s.evLost ∧ (s.setTrib t c x).writeback = s.writeback ∧ (s.setTrib t c x).cmds = s.cmds ∧
    (s.setTrib t c x).changes = s.changes ∧ (s.setTrib t c x).desc = s.desc ∧ (s.setTrib t c x).trace = s.trace ∧ (s.setTrib t c x).pair = s.pair ∧
    (s.setTrib t c x).ledg = s.ledg ∧ (s.setTrib t c x).fetches = s.fetches ∧ (s.setTrib t c x).hung = s.hung ∧
    (s.setTrib t c x).captures = s.captures ∧ (s.setTrib t c x).onceDone = s.onceDone ∧ (s.setTrib t c x).fuses = s.fuses ∧
    (s.setTrib t c x).gate = s.gate ∧ (s.setTrib t c x).mill = s.mill ∧ (s.setTrib t c x).jtag = s.jtag ∧ (s.setTrib t c x).aon = s.aon ∧
    (s.setTrib t c x).progs = s.progs ∧ (s.setTrib t c x).progNext = s.progNext ∧ (s.setTrib t c x).engs = s.engs ∧
    (s.setTrib t c x).shst = s.shst ∧ (s.setTrib t c x).units = s.units ∧ (s.setTrib t c x).wvrResetting = s.wvrResetting ∧
    (s.setTrib t c x).shadow = s.shadow ∧ (s.setTrib t c x).pblk = s.pblk ∧ (s.setTrib t c x).pblkPending = s.pblkPending ∧
    (s.setTrib t c x).tally = s.tally ∧ (s.setTrib t c x).tallyX = s.tallyX ∧ (s.setTrib t c x).injs = s.injs ∧ (s.setTrib t c x).lanes = s.lanes ∧
    (s.setTrib t c x).aligns = s.aligns ∧ (s.setTrib t c x).vtfs = s.vtfs ∧ (s.setTrib t c x).bips = s.bips ∧ (s.setTrib t c x).cals = s.cals ∧
    (s.setTrib t c x).chans = s.chans ∧ (s.setTrib t c x).xc = s.xc ∧ (s.setTrib t c x).pkts = s.pkts ∧ (s.setTrib t c x).pktNext = s.pktNext ∧
    (s.setTrib t c x).joinNext = s.joinNext ∧ (s.setTrib t c x).banks = s.banks ∧ (s.setTrib t c x).qFlushed = s.qFlushed ∧
    (s.setTrib t c x).repairA = s.repairA ∧ (s.setTrib t c x).repairB = s.repairB ∧ (s.setTrib t c x).flows = s.flows ∧
    (s.setTrib t c x).flowBad = s.flowBad ∧ (s.setTrib t c x).fifos = s.fifos ∧ (s.setTrib t c x).groups = s.groups ∧
    (s.setTrib t c x).bell = s.bell ∧ (s.setTrib t c x).refs = s.refs ∧ (s.setTrib t c x).skeys = s.skeys ∧ (s.setTrib t c x).free = s.free ∧
    (s.setTrib t c x).out = s.out :=
  ⟨rfl, rfl, rfl, rfl, rfl, rfl, rfl, rfl, rfl, rfl, rfl, rfl, rfl, rfl, rfl, rfl, rfl, rfl, rfl, rfl, rfl, rfl, rfl, rfl, rfl, rfl, rfl, rfl,
    rfl, rfl, rfl, rfl, rfl, rfl, rfl, rfl, rfl, rfl, rfl, rfl, rfl, rfl, rfl, rfl, rfl, rfl, rfl, rfl, rfl, rfl, rfl, rfl, rfl, rfl, rfl, rfl,
    rfl, rfl, rfl, rfl, rfl, rfl, rfl, rfl, rfl, rfl, rfl⟩

@[simp] theorem State.setBank_frame (s : State) (b : Nat) (x : BankX) :
    (s.setBank b x).pending = s.pending ∧ (s.setBank b x).regs = s.regs ∧ (s.setBank b x).mem = s.mem ∧ (s.setBank b x).msixTable = s.msixTable ∧
    (s.setBank b x).msixPba = s.msixPba ∧ (s.setBank b x).msixCount = s.msixCount ∧ (s.setBank b x).startup = s.startup ∧
    (s.setBank b x).resetN = s.resetN ∧ (s.setBank b x).mode = s.mode ∧ (s.setBank b x).frame = s.frame ∧ (s.setBank b x).time = s.time ∧
    (s.setBank b x).faultN = s.faultN ∧ (s.setBank b x).stewardOn = s.stewardOn ∧ (s.setBank b x).evRing = s.evRing ∧
    (s.setBank b x).evSeq = s.evSeq ∧ (s.setBank b x).evLost = s.evLost ∧ (s.setBank b x).writeback = s.writeback ∧ (s.setBank b x).cmds = s.cmds ∧
    (s.setBank b x).changes = s.changes ∧ (s.setBank b x).desc = s.desc ∧ (s.setBank b x).trace = s.trace ∧ (s.setBank b x).pair = s.pair ∧
    (s.setBank b x).ledg = s.ledg ∧ (s.setBank b x).fetches = s.fetches ∧ (s.setBank b x).hung = s.hung ∧ (s.setBank b x).captures = s.captures ∧
    (s.setBank b x).onceDone = s.onceDone ∧ (s.setBank b x).fuses = s.fuses ∧ (s.setBank b x).gate = s.gate ∧ (s.setBank b x).mill = s.mill ∧
    (s.setBank b x).jtag = s.jtag ∧ (s.setBank b x).aon = s.aon ∧ (s.setBank b x).progs = s.progs ∧ (s.setBank b x).progNext = s.progNext ∧
    (s.setBank b x).engs = s.engs ∧ (s.setBank b x).shst = s.shst ∧ (s.setBank b x).units = s.units ∧
    (s.setBank b x).wvrResetting = s.wvrResetting ∧ (s.setBank b x).shadow = s.shadow ∧ (s.setBank b x).pblk = s.pblk ∧
    (s.setBank b x).pblkPending = s.pblkPending ∧ (s.setBank b x).tally = s.tally ∧ (s.setBank b x).tallyX = s.tallyX ∧
    (s.setBank b x).injs = s.injs ∧ (s.setBank b x).lanes = s.lanes ∧ (s.setBank b x).aligns = s.aligns ∧ (s.setBank b x).vtfs = s.vtfs ∧
    (s.setBank b x).bips = s.bips ∧ (s.setBank b x).cals = s.cals ∧ (s.setBank b x).chans = s.chans ∧ (s.setBank b x).ends = s.ends ∧
    (s.setBank b x).xc = s.xc ∧ (s.setBank b x).pkts = s.pkts ∧ (s.setBank b x).pktNext = s.pktNext ∧ (s.setBank b x).joinNext = s.joinNext ∧
    (s.setBank b x).qFlushed = s.qFlushed ∧ (s.setBank b x).repairA = s.repairA ∧ (s.setBank b x).repairB = s.repairB ∧
    (s.setBank b x).flows = s.flows ∧ (s.setBank b x).flowBad = s.flowBad ∧ (s.setBank b x).fifos = s.fifos ∧ (s.setBank b x).groups = s.groups ∧
    (s.setBank b x).bell = s.bell ∧ (s.setBank b x).refs = s.refs ∧ (s.setBank b x).skeys = s.skeys ∧ (s.setBank b x).free = s.free ∧
    (s.setBank b x).out = s.out :=
  ⟨rfl, rfl, rfl, rfl, rfl, rfl, rfl, rfl, rfl, rfl, rfl, rfl, rfl, rfl, rfl, rfl, rfl, rfl, rfl, rfl, rfl, rfl, rfl, rfl, rfl, rfl, rfl, rfl,
    rfl, rfl, rfl, rfl, rfl, rfl, rfl, rfl, rfl, rfl, rfl, rfl, rfl, rfl, rfl, rfl, rfl, rfl, rfl, rfl, rfl, rfl, rfl, rfl, rfl, rfl, rfl, rfl,
    rfl, rfl, rfl, rfl, rfl, rfl, rfl, rfl, rfl, rfl, rfl⟩

@[simp] theorem State.setGroup_frame (s : State) (g : Nat) (x : Group) :
    (s.setGroup g x).pending = s.pending ∧ (s.setGroup g x).regs = s.regs ∧ (s.setGroup g x).mem = s.mem ∧
    (s.setGroup g x).msixTable = s.msixTable ∧ (s.setGroup g x).msixPba = s.msixPba ∧ (s.setGroup g x).msixCount = s.msixCount ∧
    (s.setGroup g x).startup = s.startup ∧ (s.setGroup g x).resetN = s.resetN ∧ (s.setGroup g x).mode = s.mode ∧ (s.setGroup g x).frame = s.frame ∧
    (s.setGroup g x).time = s.time ∧ (s.setGroup g x).faultN = s.faultN ∧ (s.setGroup g x).stewardOn = s.stewardOn ∧
    (s.setGroup g x).evRing = s.evRing ∧ (s.setGroup g x).evSeq = s.evSeq ∧ (s.setGroup g x).evLost = s.evLost ∧
    (s.setGroup g x).writeback = s.writeback ∧ (s.setGroup g x).cmds = s.cmds ∧ (s.setGroup g x).changes = s.changes ∧
    (s.setGroup g x).desc = s.desc ∧ (s.setGroup g x).trace = s.trace ∧ (s.setGroup g x).pair = s.pair ∧ (s.setGroup g x).ledg = s.ledg ∧
    (s.setGroup g x).fetches = s.fetches ∧ (s.setGroup g x).hung = s.hung ∧ (s.setGroup g x).captures = s.captures ∧
    (s.setGroup g x).onceDone = s.onceDone ∧ (s.setGroup g x).fuses = s.fuses ∧ (s.setGroup g x).gate = s.gate ∧ (s.setGroup g x).mill = s.mill ∧
    (s.setGroup g x).jtag = s.jtag ∧ (s.setGroup g x).aon = s.aon ∧ (s.setGroup g x).progs = s.progs ∧ (s.setGroup g x).progNext = s.progNext ∧
    (s.setGroup g x).engs = s.engs ∧ (s.setGroup g x).shst = s.shst ∧ (s.setGroup g x).units = s.units ∧
    (s.setGroup g x).wvrResetting = s.wvrResetting ∧ (s.setGroup g x).shadow = s.shadow ∧ (s.setGroup g x).pblk = s.pblk ∧
    (s.setGroup g x).pblkPending = s.pblkPending ∧ (s.setGroup g x).tally = s.tally ∧ (s.setGroup g x).tallyX = s.tallyX ∧
    (s.setGroup g x).injs = s.injs ∧ (s.setGroup g x).lanes = s.lanes ∧ (s.setGroup g x).aligns = s.aligns ∧ (s.setGroup g x).vtfs = s.vtfs ∧
    (s.setGroup g x).bips = s.bips ∧ (s.setGroup g x).cals = s.cals ∧ (s.setGroup g x).chans = s.chans ∧ (s.setGroup g x).ends = s.ends ∧
    (s.setGroup g x).xc = s.xc ∧ (s.setGroup g x).pkts = s.pkts ∧ (s.setGroup g x).pktNext = s.pktNext ∧ (s.setGroup g x).joinNext = s.joinNext ∧
    (s.setGroup g x).banks = s.banks ∧ (s.setGroup g x).qFlushed = s.qFlushed ∧ (s.setGroup g x).repairA = s.repairA ∧
    (s.setGroup g x).repairB = s.repairB ∧ (s.setGroup g x).flows = s.flows ∧ (s.setGroup g x).flowBad = s.flowBad ∧
    (s.setGroup g x).fifos = s.fifos ∧ (s.setGroup g x).bell = s.bell ∧ (s.setGroup g x).refs = s.refs ∧ (s.setGroup g x).skeys = s.skeys ∧
    (s.setGroup g x).free = s.free ∧ (s.setGroup g x).out = s.out :=
  ⟨rfl, rfl, rfl, rfl, rfl, rfl, rfl, rfl, rfl, rfl, rfl, rfl, rfl, rfl, rfl, rfl, rfl, rfl, rfl, rfl, rfl, rfl, rfl, rfl, rfl, rfl, rfl, rfl,
    rfl, rfl, rfl, rfl, rfl, rfl, rfl, rfl, rfl, rfl, rfl, rfl, rfl, rfl, rfl, rfl, rfl, rfl, rfl, rfl, rfl, rfl, rfl, rfl, rfl, rfl, rfl, rfl,
    rfl, rfl, rfl, rfl, rfl, rfl, rfl, rfl, rfl, rfl, rfl⟩

@[simp] theorem State.setRefx_frame (s : State) (n : Nat) (x : RefX) :
    (s.setRefx n x).pending = s.pending ∧ (s.setRefx n x).regs = s.regs ∧ (s.setRefx n x).mem = s.mem ∧ (s.setRefx n x).msixTable = s.msixTable ∧
    (s.setRefx n x).msixPba = s.msixPba ∧ (s.setRefx n x).msixCount = s.msixCount ∧ (s.setRefx n x).startup = s.startup ∧
    (s.setRefx n x).resetN = s.resetN ∧ (s.setRefx n x).mode = s.mode ∧ (s.setRefx n x).frame = s.frame ∧ (s.setRefx n x).time = s.time ∧
    (s.setRefx n x).faultN = s.faultN ∧ (s.setRefx n x).stewardOn = s.stewardOn ∧ (s.setRefx n x).evRing = s.evRing ∧
    (s.setRefx n x).evSeq = s.evSeq ∧ (s.setRefx n x).evLost = s.evLost ∧ (s.setRefx n x).writeback = s.writeback ∧ (s.setRefx n x).cmds = s.cmds ∧
    (s.setRefx n x).changes = s.changes ∧ (s.setRefx n x).desc = s.desc ∧ (s.setRefx n x).trace = s.trace ∧ (s.setRefx n x).pair = s.pair ∧
    (s.setRefx n x).ledg = s.ledg ∧ (s.setRefx n x).fetches = s.fetches ∧ (s.setRefx n x).hung = s.hung ∧ (s.setRefx n x).captures = s.captures ∧
    (s.setRefx n x).onceDone = s.onceDone ∧ (s.setRefx n x).fuses = s.fuses ∧ (s.setRefx n x).gate = s.gate ∧ (s.setRefx n x).mill = s.mill ∧
    (s.setRefx n x).jtag = s.jtag ∧ (s.setRefx n x).aon = s.aon ∧ (s.setRefx n x).progs = s.progs ∧ (s.setRefx n x).progNext = s.progNext ∧
    (s.setRefx n x).engs = s.engs ∧ (s.setRefx n x).shst = s.shst ∧ (s.setRefx n x).units = s.units ∧
    (s.setRefx n x).wvrResetting = s.wvrResetting ∧ (s.setRefx n x).shadow = s.shadow ∧ (s.setRefx n x).pblk = s.pblk ∧
    (s.setRefx n x).pblkPending = s.pblkPending ∧ (s.setRefx n x).tally = s.tally ∧ (s.setRefx n x).tallyX = s.tallyX ∧
    (s.setRefx n x).injs = s.injs ∧ (s.setRefx n x).lanes = s.lanes ∧ (s.setRefx n x).aligns = s.aligns ∧ (s.setRefx n x).vtfs = s.vtfs ∧
    (s.setRefx n x).bips = s.bips ∧ (s.setRefx n x).cals = s.cals ∧ (s.setRefx n x).chans = s.chans ∧ (s.setRefx n x).ends = s.ends ∧
    (s.setRefx n x).xc = s.xc ∧ (s.setRefx n x).pkts = s.pkts ∧ (s.setRefx n x).pktNext = s.pktNext ∧ (s.setRefx n x).joinNext = s.joinNext ∧
    (s.setRefx n x).banks = s.banks ∧ (s.setRefx n x).qFlushed = s.qFlushed ∧ (s.setRefx n x).repairA = s.repairA ∧
    (s.setRefx n x).repairB = s.repairB ∧ (s.setRefx n x).flows = s.flows ∧ (s.setRefx n x).flowBad = s.flowBad ∧ (s.setRefx n x).fifos = s.fifos ∧
    (s.setRefx n x).groups = s.groups ∧ (s.setRefx n x).bell = s.bell ∧ (s.setRefx n x).skeys = s.skeys ∧ (s.setRefx n x).free = s.free ∧
    (s.setRefx n x).out = s.out :=
  ⟨rfl, rfl, rfl, rfl, rfl, rfl, rfl, rfl, rfl, rfl, rfl, rfl, rfl, rfl, rfl, rfl, rfl, rfl, rfl, rfl, rfl, rfl, rfl, rfl, rfl, rfl, rfl, rfl,
    rfl, rfl, rfl, rfl, rfl, rfl, rfl, rfl, rfl, rfl, rfl, rfl, rfl, rfl, rfl, rfl, rfl, rfl, rfl, rfl, rfl, rfl, rfl, rfl, rfl, rfl, rfl, rfl,
    rfl, rfl, rfl, rfl, rfl, rfl, rfl, rfl, rfl, rfl, rfl⟩

@[simp] theorem State.setXc_frame (s : State) (t c : Nat) (x : XcEnd) :
    (s.setXc t c x).pending = s.pending ∧ (s.setXc t c x).regs = s.regs ∧ (s.setXc t c x).mem = s.mem ∧ (s.setXc t c x).msixTable = s.msixTable ∧
    (s.setXc t c x).msixPba = s.msixPba ∧ (s.setXc t c x).msixCount = s.msixCount ∧ (s.setXc t c x).startup = s.startup ∧
    (s.setXc t c x).resetN = s.resetN ∧ (s.setXc t c x).mode = s.mode ∧ (s.setXc t c x).frame = s.frame ∧ (s.setXc t c x).time = s.time ∧
    (s.setXc t c x).faultN = s.faultN ∧ (s.setXc t c x).stewardOn = s.stewardOn ∧ (s.setXc t c x).evRing = s.evRing ∧
    (s.setXc t c x).evSeq = s.evSeq ∧ (s.setXc t c x).evLost = s.evLost ∧ (s.setXc t c x).writeback = s.writeback ∧ (s.setXc t c x).cmds = s.cmds ∧
    (s.setXc t c x).changes = s.changes ∧ (s.setXc t c x).desc = s.desc ∧ (s.setXc t c x).trace = s.trace ∧ (s.setXc t c x).pair = s.pair ∧
    (s.setXc t c x).ledg = s.ledg ∧ (s.setXc t c x).fetches = s.fetches ∧ (s.setXc t c x).hung = s.hung ∧ (s.setXc t c x).captures = s.captures ∧
    (s.setXc t c x).onceDone = s.onceDone ∧ (s.setXc t c x).fuses = s.fuses ∧ (s.setXc t c x).gate = s.gate ∧ (s.setXc t c x).mill = s.mill ∧
    (s.setXc t c x).jtag = s.jtag ∧ (s.setXc t c x).aon = s.aon ∧ (s.setXc t c x).progs = s.progs ∧ (s.setXc t c x).progNext = s.progNext ∧
    (s.setXc t c x).engs = s.engs ∧ (s.setXc t c x).shst = s.shst ∧ (s.setXc t c x).units = s.units ∧
    (s.setXc t c x).wvrResetting = s.wvrResetting ∧ (s.setXc t c x).shadow = s.shadow ∧ (s.setXc t c x).pblk = s.pblk ∧
    (s.setXc t c x).pblkPending = s.pblkPending ∧ (s.setXc t c x).tally = s.tally ∧ (s.setXc t c x).tallyX = s.tallyX ∧
    (s.setXc t c x).injs = s.injs ∧ (s.setXc t c x).lanes = s.lanes ∧ (s.setXc t c x).aligns = s.aligns ∧ (s.setXc t c x).vtfs = s.vtfs ∧
    (s.setXc t c x).bips = s.bips ∧ (s.setXc t c x).cals = s.cals ∧ (s.setXc t c x).chans = s.chans ∧ (s.setXc t c x).ends = s.ends ∧
    (s.setXc t c x).pkts = s.pkts ∧ (s.setXc t c x).pktNext = s.pktNext ∧ (s.setXc t c x).joinNext = s.joinNext ∧ (s.setXc t c x).banks = s.banks ∧
    (s.setXc t c x).qFlushed = s.qFlushed ∧ (s.setXc t c x).repairA = s.repairA ∧ (s.setXc t c x).repairB = s.repairB ∧
    (s.setXc t c x).flows = s.flows ∧ (s.setXc t c x).flowBad = s.flowBad ∧ (s.setXc t c x).fifos = s.fifos ∧ (s.setXc t c x).groups = s.groups ∧
    (s.setXc t c x).bell = s.bell ∧ (s.setXc t c x).refs = s.refs ∧ (s.setXc t c x).skeys = s.skeys ∧ (s.setXc t c x).free = s.free ∧
    (s.setXc t c x).out = s.out :=
  ⟨rfl, rfl, rfl, rfl, rfl, rfl, rfl, rfl, rfl, rfl, rfl, rfl, rfl, rfl, rfl, rfl, rfl, rfl, rfl, rfl, rfl, rfl, rfl, rfl, rfl, rfl, rfl, rfl,
    rfl, rfl, rfl, rfl, rfl, rfl, rfl, rfl, rfl, rfl, rfl, rfl, rfl, rfl, rfl, rfl, rfl, rfl, rfl, rfl, rfl, rfl, rfl, rfl, rfl, rfl, rfl, rfl,
    rfl, rfl, rfl, rfl, rfl, rfl, rfl, rfl, rfl, rfl, rfl⟩

@[simp] theorem State.setInj_frame (s : State) (j : Nat) (x : InjX) :
    (s.setInj j x).pending = s.pending ∧ (s.setInj j x).regs = s.regs ∧ (s.setInj j x).mem = s.mem ∧ (s.setInj j x).msixTable = s.msixTable ∧
    (s.setInj j x).msixPba = s.msixPba ∧ (s.setInj j x).msixCount = s.msixCount ∧ (s.setInj j x).startup = s.startup ∧
    (s.setInj j x).resetN = s.resetN ∧ (s.setInj j x).mode = s.mode ∧ (s.setInj j x).frame = s.frame ∧ (s.setInj j x).time = s.time ∧
    (s.setInj j x).faultN = s.faultN ∧ (s.setInj j x).stewardOn = s.stewardOn ∧ (s.setInj j x).evRing = s.evRing ∧ (s.setInj j x).evSeq = s.evSeq ∧
    (s.setInj j x).evLost = s.evLost ∧ (s.setInj j x).writeback = s.writeback ∧ (s.setInj j x).cmds = s.cmds ∧ (s.setInj j x).changes = s.changes ∧
    (s.setInj j x).desc = s.desc ∧ (s.setInj j x).trace = s.trace ∧ (s.setInj j x).pair = s.pair ∧ (s.setInj j x).ledg = s.ledg ∧
    (s.setInj j x).fetches = s.fetches ∧ (s.setInj j x).hung = s.hung ∧ (s.setInj j x).captures = s.captures ∧
    (s.setInj j x).onceDone = s.onceDone ∧ (s.setInj j x).fuses = s.fuses ∧ (s.setInj j x).gate = s.gate ∧ (s.setInj j x).mill = s.mill ∧
    (s.setInj j x).jtag = s.jtag ∧ (s.setInj j x).aon = s.aon ∧ (s.setInj j x).progs = s.progs ∧ (s.setInj j x).progNext = s.progNext ∧
    (s.setInj j x).engs = s.engs ∧ (s.setInj j x).shst = s.shst ∧ (s.setInj j x).units = s.units ∧ (s.setInj j x).wvrResetting = s.wvrResetting ∧
    (s.setInj j x).shadow = s.shadow ∧ (s.setInj j x).pblk = s.pblk ∧ (s.setInj j x).pblkPending = s.pblkPending ∧ (s.setInj j x).tally = s.tally ∧
    (s.setInj j x).tallyX = s.tallyX ∧ (s.setInj j x).lanes = s.lanes ∧ (s.setInj j x).aligns = s.aligns ∧ (s.setInj j x).vtfs = s.vtfs ∧
    (s.setInj j x).bips = s.bips ∧ (s.setInj j x).cals = s.cals ∧ (s.setInj j x).chans = s.chans ∧ (s.setInj j x).ends = s.ends ∧
    (s.setInj j x).xc = s.xc ∧ (s.setInj j x).pkts = s.pkts ∧ (s.setInj j x).pktNext = s.pktNext ∧ (s.setInj j x).joinNext = s.joinNext ∧
    (s.setInj j x).banks = s.banks ∧ (s.setInj j x).qFlushed = s.qFlushed ∧ (s.setInj j x).repairA = s.repairA ∧
    (s.setInj j x).repairB = s.repairB ∧ (s.setInj j x).flows = s.flows ∧ (s.setInj j x).flowBad = s.flowBad ∧ (s.setInj j x).fifos = s.fifos ∧
    (s.setInj j x).groups = s.groups ∧ (s.setInj j x).bell = s.bell ∧ (s.setInj j x).refs = s.refs ∧ (s.setInj j x).skeys = s.skeys ∧
    (s.setInj j x).free = s.free ∧ (s.setInj j x).out = s.out :=
  ⟨rfl, rfl, rfl, rfl, rfl, rfl, rfl, rfl, rfl, rfl, rfl, rfl, rfl, rfl, rfl, rfl, rfl, rfl, rfl, rfl, rfl, rfl, rfl, rfl, rfl, rfl, rfl, rfl,
    rfl, rfl, rfl, rfl, rfl, rfl, rfl, rfl, rfl, rfl, rfl, rfl, rfl, rfl, rfl, rfl, rfl, rfl, rfl, rfl, rfl, rfl, rfl, rfl, rfl, rfl, rfl, rfl,
    rfl, rfl, rfl, rfl, rfl, rfl, rfl, rfl, rfl, rfl, rfl⟩

@[simp] theorem State.setSkey_frame (s : State) (k : Nat) (x : KeySlot) :
    (s.setSkey k x).pending = s.pending ∧ (s.setSkey k x).regs = s.regs ∧ (s.setSkey k x).mem = s.mem ∧ (s.setSkey k x).msixTable = s.msixTable ∧
    (s.setSkey k x).msixPba = s.msixPba ∧ (s.setSkey k x).msixCount = s.msixCount ∧ (s.setSkey k x).startup = s.startup ∧
    (s.setSkey k x).resetN = s.resetN ∧ (s.setSkey k x).mode = s.mode ∧ (s.setSkey k x).frame = s.frame ∧ (s.setSkey k x).time = s.time ∧
    (s.setSkey k x).faultN = s.faultN ∧ (s.setSkey k x).stewardOn = s.stewardOn ∧ (s.setSkey k x).evRing = s.evRing ∧
    (s.setSkey k x).evSeq = s.evSeq ∧ (s.setSkey k x).evLost = s.evLost ∧ (s.setSkey k x).writeback = s.writeback ∧ (s.setSkey k x).cmds = s.cmds ∧
    (s.setSkey k x).changes = s.changes ∧ (s.setSkey k x).desc = s.desc ∧ (s.setSkey k x).trace = s.trace ∧ (s.setSkey k x).pair = s.pair ∧
    (s.setSkey k x).ledg = s.ledg ∧ (s.setSkey k x).fetches = s.fetches ∧ (s.setSkey k x).hung = s.hung ∧ (s.setSkey k x).captures = s.captures ∧
    (s.setSkey k x).onceDone = s.onceDone ∧ (s.setSkey k x).fuses = s.fuses ∧ (s.setSkey k x).gate = s.gate ∧ (s.setSkey k x).mill = s.mill ∧
    (s.setSkey k x).jtag = s.jtag ∧ (s.setSkey k x).aon = s.aon ∧ (s.setSkey k x).progs = s.progs ∧ (s.setSkey k x).progNext = s.progNext ∧
    (s.setSkey k x).engs = s.engs ∧ (s.setSkey k x).shst = s.shst ∧ (s.setSkey k x).units = s.units ∧
    (s.setSkey k x).wvrResetting = s.wvrResetting ∧ (s.setSkey k x).shadow = s.shadow ∧ (s.setSkey k x).pblk = s.pblk ∧
    (s.setSkey k x).pblkPending = s.pblkPending ∧ (s.setSkey k x).tally = s.tally ∧ (s.setSkey k x).tallyX = s.tallyX ∧
    (s.setSkey k x).injs = s.injs ∧ (s.setSkey k x).lanes = s.lanes ∧ (s.setSkey k x).aligns = s.aligns ∧ (s.setSkey k x).vtfs = s.vtfs ∧
    (s.setSkey k x).bips = s.bips ∧ (s.setSkey k x).cals = s.cals ∧ (s.setSkey k x).chans = s.chans ∧ (s.setSkey k x).ends = s.ends ∧
    (s.setSkey k x).xc = s.xc ∧ (s.setSkey k x).pkts = s.pkts ∧ (s.setSkey k x).pktNext = s.pktNext ∧ (s.setSkey k x).joinNext = s.joinNext ∧
    (s.setSkey k x).banks = s.banks ∧ (s.setSkey k x).qFlushed = s.qFlushed ∧ (s.setSkey k x).repairA = s.repairA ∧
    (s.setSkey k x).repairB = s.repairB ∧ (s.setSkey k x).flows = s.flows ∧ (s.setSkey k x).flowBad = s.flowBad ∧ (s.setSkey k x).fifos = s.fifos ∧
    (s.setSkey k x).groups = s.groups ∧ (s.setSkey k x).bell = s.bell ∧ (s.setSkey k x).refs = s.refs ∧ (s.setSkey k x).free = s.free ∧
    (s.setSkey k x).out = s.out :=
  ⟨rfl, rfl, rfl, rfl, rfl, rfl, rfl, rfl, rfl, rfl, rfl, rfl, rfl, rfl, rfl, rfl, rfl, rfl, rfl, rfl, rfl, rfl, rfl, rfl, rfl, rfl, rfl, rfl,
    rfl, rfl, rfl, rfl, rfl, rfl, rfl, rfl, rfl, rfl, rfl, rfl, rfl, rfl, rfl, rfl, rfl, rfl, rfl, rfl, rfl, rfl, rfl, rfl, rfl, rfl, rfl, rfl,
    rfl, rfl, rfl, rfl, rfl, rfl, rfl, rfl, rfl, rfl, rfl⟩

/-! The same for what is read through the accessors. -/

@[simp] theorem State.setReg_reads (s : State) (a : Nat) (v : W32) :
    (∀ a1, (s.setReg a v).byte a1 = s.byte a1) ∧ (∀ n1, (s.setReg a v).lane n1 = s.lane n1) ∧ (∀ n1, (s.setReg a v).align n1 = s.align n1) ∧
    (∀ n1, (s.setReg a v).vtf n1 = s.vtf n1) ∧ (∀ n1, (s.setReg a v).bip n1 = s.bip n1) ∧ (∀ c1, (s.setReg a v).chanX c1 = s.chanX c1) ∧
    (∀ t1 c1, (s.setReg a v).trib t1 c1 = s.trib t1 c1) ∧ (∀ b1, (s.setReg a v).bank b1 = s.bank b1) ∧
    (∀ g1, (s.setReg a v).group g1 = s.group g1) ∧ (∀ n1, (s.setReg a v).refx n1 = s.refx n1) ∧
    (∀ t1 c1, (s.setReg a v).xcEnd t1 c1 = s.xcEnd t1 c1) ∧ (∀ j1, (s.setReg a v).inj j1 = s.inj j1) ∧ (∀ k1, (s.setReg a v).skey k1 = s.skey k1) ∧
    (∀ i1, (s.setReg a v).eng i1 = s.eng i1) ∧ (∀ c1 slot1, (s.setReg a v).prog c1 slot1 = s.prog c1 slot1) ∧
    (∀ c1 slot1 w1, (s.setReg a v).pw c1 slot1 w1 = s.pw c1 slot1 w1) ∧ (∀ q1 f1, (s.setReg a v).fifo q1 f1 = s.fifo q1 f1) ∧
    (s.setReg a v).running = s.running :=
  ⟨fun _ => rfl, fun _ => rfl, fun _ => rfl, fun _ => rfl, fun _ => rfl, fun _ => rfl, fun _ _ => rfl, fun _ => rfl, fun _ => rfl, fun _ =>
    rfl, fun _ _ => rfl, fun _ => rfl, fun _ => rfl, fun _ => rfl, fun _ _ => rfl, fun _ _ _ => rfl, fun _ _ => rfl, rfl⟩

@[simp] theorem State.wr_reads (s : State) (f : Fld) (i v : Nat) :
    (∀ a1, (s.wr f i v).byte a1 = s.byte a1) ∧ (∀ n1, (s.wr f i v).lane n1 = s.lane n1) ∧ (∀ n1, (s.wr f i v).align n1 = s.align n1) ∧
    (∀ n1, (s.wr f i v).vtf n1 = s.vtf n1) ∧ (∀ n1, (s.wr f i v).bip n1 = s.bip n1) ∧ (∀ c1, (s.wr f i v).chanX c1 = s.chanX c1) ∧
    (∀ t1 c1, (s.wr f i v).trib t1 c1 = s.trib t1 c1) ∧ (∀ b1, (s.wr f i v).bank b1 = s.bank b1) ∧ (∀ g1, (s.wr f i v).group g1 = s.group g1) ∧
    (∀ n1, (s.wr f i v).refx n1 = s.refx n1) ∧ (∀ t1 c1, (s.wr f i v).xcEnd t1 c1 = s.xcEnd t1 c1) ∧ (∀ j1, (s.wr f i v).inj j1 = s.inj j1) ∧
    (∀ k1, (s.wr f i v).skey k1 = s.skey k1) ∧ (∀ i1, (s.wr f i v).eng i1 = s.eng i1) ∧
    (∀ c1 slot1, (s.wr f i v).prog c1 slot1 = s.prog c1 slot1) ∧ (∀ c1 slot1 w1, (s.wr f i v).pw c1 slot1 w1 = s.pw c1 slot1 w1) ∧
    (∀ q1 f1, (s.wr f i v).fifo q1 f1 = s.fifo q1 f1) ∧ (s.wr f i v).running = s.running :=
  ⟨fun _ => rfl, fun _ => rfl, fun _ => rfl, fun _ => rfl, fun _ => rfl, fun _ => rfl, fun _ _ => rfl, fun _ => rfl, fun _ => rfl, fun _ =>
    rfl, fun _ _ => rfl, fun _ => rfl, fun _ => rfl, fun _ => rfl, fun _ _ => rfl, fun _ _ _ => rfl, fun _ _ => rfl, rfl⟩

@[simp] theorem State.latch_reads (s : State) (f : Fld) (i : Nat) :
    (∀ a1, (s.latch f i).byte a1 = s.byte a1) ∧ (∀ n1, (s.latch f i).lane n1 = s.lane n1) ∧ (∀ n1, (s.latch f i).align n1 = s.align n1) ∧
    (∀ n1, (s.latch f i).vtf n1 = s.vtf n1) ∧ (∀ n1, (s.latch f i).bip n1 = s.bip n1) ∧ (∀ c1, (s.latch f i).chanX c1 = s.chanX c1) ∧
    (∀ t1 c1, (s.latch f i).trib t1 c1 = s.trib t1 c1) ∧ (∀ b1, (s.latch f i).bank b1 = s.bank b1) ∧ (∀ g1, (s.latch f i).group g1 = s.group g1) ∧
    (∀ n1, (s.latch f i).refx n1 = s.refx n1) ∧ (∀ t1 c1, (s.latch f i).xcEnd t1 c1 = s.xcEnd t1 c1) ∧ (∀ j1, (s.latch f i).inj j1 = s.inj j1) ∧
    (∀ k1, (s.latch f i).skey k1 = s.skey k1) ∧ (∀ i1, (s.latch f i).eng i1 = s.eng i1) ∧
    (∀ c1 slot1, (s.latch f i).prog c1 slot1 = s.prog c1 slot1) ∧ (∀ c1 slot1 w1, (s.latch f i).pw c1 slot1 w1 = s.pw c1 slot1 w1) ∧
    (∀ q1 f1, (s.latch f i).fifo q1 f1 = s.fifo q1 f1) ∧ (s.latch f i).running = s.running :=
  ⟨fun _ => rfl, fun _ => rfl, fun _ => rfl, fun _ => rfl, fun _ => rfl, fun _ => rfl, fun _ _ => rfl, fun _ => rfl, fun _ => rfl, fun _ =>
    rfl, fun _ _ => rfl, fun _ => rfl, fun _ => rfl, fun _ => rfl, fun _ _ => rfl, fun _ _ _ => rfl, fun _ _ => rfl, rfl⟩

@[simp] theorem State.bump_reads (s : State) (f : Fld) (i k : Nat) :
    (∀ a1, (s.bump f i k).byte a1 = s.byte a1) ∧ (∀ n1, (s.bump f i k).lane n1 = s.lane n1) ∧ (∀ n1, (s.bump f i k).align n1 = s.align n1) ∧
    (∀ n1, (s.bump f i k).vtf n1 = s.vtf n1) ∧ (∀ n1, (s.bump f i k).bip n1 = s.bip n1) ∧ (∀ c1, (s.bump f i k).chanX c1 = s.chanX c1) ∧
    (∀ t1 c1, (s.bump f i k).trib t1 c1 = s.trib t1 c1) ∧ (∀ b1, (s.bump f i k).bank b1 = s.bank b1) ∧
    (∀ g1, (s.bump f i k).group g1 = s.group g1) ∧ (∀ n1, (s.bump f i k).refx n1 = s.refx n1) ∧
    (∀ t1 c1, (s.bump f i k).xcEnd t1 c1 = s.xcEnd t1 c1) ∧ (∀ j1, (s.bump f i k).inj j1 = s.inj j1) ∧ (∀ k1, (s.bump f i k).skey k1 = s.skey k1) ∧
    (∀ i1, (s.bump f i k).eng i1 = s.eng i1) ∧ (∀ c1 slot1, (s.bump f i k).prog c1 slot1 = s.prog c1 slot1) ∧
    (∀ c1 slot1 w1, (s.bump f i k).pw c1 slot1 w1 = s.pw c1 slot1 w1) ∧ (∀ q1 f1, (s.bump f i k).fifo q1 f1 = s.fifo q1 f1) ∧
    (s.bump f i k).running = s.running :=
  ⟨fun _ => rfl, fun _ => rfl, fun _ => rfl, fun _ => rfl, fun _ => rfl, fun _ => rfl, fun _ _ => rfl, fun _ => rfl, fun _ => rfl, fun _ =>
    rfl, fun _ _ => rfl, fun _ => rfl, fun _ => rfl, fun _ => rfl, fun _ _ => rfl, fun _ _ _ => rfl, fun _ _ => rfl, rfl⟩

@[simp] theorem State.bumpSat_reads (s : State) (f : Fld) (i k : Nat) :
    (∀ a1, (s.bumpSat f i k).byte a1 = s.byte a1) ∧ (∀ n1, (s.bumpSat f i k).lane n1 = s.lane n1) ∧
    (∀ n1, (s.bumpSat f i k).align n1 = s.align n1) ∧ (∀ n1, (s.bumpSat f i k).vtf n1 = s.vtf n1) ∧ (∀ n1, (s.bumpSat f i k).bip n1 = s.bip n1) ∧
    (∀ c1, (s.bumpSat f i k).chanX c1 = s.chanX c1) ∧ (∀ t1 c1, (s.bumpSat f i k).trib t1 c1 = s.trib t1 c1) ∧
    (∀ b1, (s.bumpSat f i k).bank b1 = s.bank b1) ∧ (∀ g1, (s.bumpSat f i k).group g1 = s.group g1) ∧
    (∀ n1, (s.bumpSat f i k).refx n1 = s.refx n1) ∧ (∀ t1 c1, (s.bumpSat f i k).xcEnd t1 c1 = s.xcEnd t1 c1) ∧
    (∀ j1, (s.bumpSat f i k).inj j1 = s.inj j1) ∧ (∀ k1, (s.bumpSat f i k).skey k1 = s.skey k1) ∧ (∀ i1, (s.bumpSat f i k).eng i1 = s.eng i1) ∧
    (∀ c1 slot1, (s.bumpSat f i k).prog c1 slot1 = s.prog c1 slot1) ∧ (∀ c1 slot1 w1, (s.bumpSat f i k).pw c1 slot1 w1 = s.pw c1 slot1 w1) ∧
    (∀ q1 f1, (s.bumpSat f i k).fifo q1 f1 = s.fifo q1 f1) ∧ (s.bumpSat f i k).running = s.running :=
  ⟨fun _ => rfl, fun _ => rfl, fun _ => rfl, fun _ => rfl, fun _ => rfl, fun _ => rfl, fun _ _ => rfl, fun _ => rfl, fun _ => rfl, fun _ =>
    rfl, fun _ _ => rfl, fun _ => rfl, fun _ => rfl, fun _ => rfl, fun _ _ => rfl, fun _ _ _ => rfl, fun _ _ => rfl, rfl⟩

@[simp] theorem State.clearRegs_reads (s : State) (lo n : Nat) :
    (∀ a1, (s.clearRegs lo n).byte a1 = s.byte a1) ∧ (∀ n1, (s.clearRegs lo n).lane n1 = s.lane n1) ∧
    (∀ n1, (s.clearRegs lo n).align n1 = s.align n1) ∧ (∀ n1, (s.clearRegs lo n).vtf n1 = s.vtf n1) ∧
    (∀ n1, (s.clearRegs lo n).bip n1 = s.bip n1) ∧ (∀ c1, (s.clearRegs lo n).chanX c1 = s.chanX c1) ∧
    (∀ t1 c1, (s.clearRegs lo n).trib t1 c1 = s.trib t1 c1) ∧ (∀ b1, (s.clearRegs lo n).bank b1 = s.bank b1) ∧
    (∀ g1, (s.clearRegs lo n).group g1 = s.group g1) ∧ (∀ n1, (s.clearRegs lo n).refx n1 = s.refx n1) ∧
    (∀ t1 c1, (s.clearRegs lo n).xcEnd t1 c1 = s.xcEnd t1 c1) ∧ (∀ j1, (s.clearRegs lo n).inj j1 = s.inj j1) ∧
    (∀ k1, (s.clearRegs lo n).skey k1 = s.skey k1) ∧ (∀ i1, (s.clearRegs lo n).eng i1 = s.eng i1) ∧
    (∀ c1 slot1, (s.clearRegs lo n).prog c1 slot1 = s.prog c1 slot1) ∧ (∀ c1 slot1 w1, (s.clearRegs lo n).pw c1 slot1 w1 = s.pw c1 slot1 w1) ∧
    (∀ q1 f1, (s.clearRegs lo n).fifo q1 f1 = s.fifo q1 f1) ∧ (s.clearRegs lo n).running = s.running :=
  ⟨fun _ => rfl, fun _ => rfl, fun _ => rfl, fun _ => rfl, fun _ => rfl, fun _ => rfl, fun _ _ => rfl, fun _ => rfl, fun _ => rfl, fun _ =>
    rfl, fun _ _ => rfl, fun _ => rfl, fun _ => rfl, fun _ => rfl, fun _ _ => rfl, fun _ _ _ => rfl, fun _ _ => rfl, rfl⟩

@[simp] theorem State.setByte_reads (s : State) (a : Nat) (b : Byte) :
    (∀ a1, (s.setByte a b).reg a1 = s.reg a1) ∧ (∀ f1 i1, (s.setByte a b).rd f1 i1 = s.rd f1 i1) ∧
    (∀ f1 i1, (s.setByte a b).on f1 i1 = s.on f1 i1) ∧ (∀ n1, (s.setByte a b).laneState n1 = s.laneState n1) ∧
    (∀ n1, (s.setByte a b).rxState n1 = s.rxState n1) ∧ (s.setByte a b).role = s.role ∧ (∀ b1, (s.setByte a b).bankState b1 = s.bankState b1) ∧
    (∀ m1, (s.setByte a b).masterFenced m1 = s.masterFenced m1) ∧ (s.setByte a b).pstate = s.pstate ∧ (s.setByte a b).steward = s.steward ∧
    (∀ n1, (s.setByte a b).lane n1 = s.lane n1) ∧ (∀ n1, (s.setByte a b).align n1 = s.align n1) ∧ (∀ n1, (s.setByte a b).vtf n1 = s.vtf n1) ∧
    (∀ n1, (s.setByte a b).bip n1 = s.bip n1) ∧ (∀ c1, (s.setByte a b).chanX c1 = s.chanX c1) ∧
    (∀ t1 c1, (s.setByte a b).trib t1 c1 = s.trib t1 c1) ∧ (∀ b1, (s.setByte a b).bank b1 = s.bank b1) ∧
    (∀ g1, (s.setByte a b).group g1 = s.group g1) ∧ (∀ n1, (s.setByte a b).refx n1 = s.refx n1) ∧
    (∀ t1 c1, (s.setByte a b).xcEnd t1 c1 = s.xcEnd t1 c1) ∧ (∀ j1, (s.setByte a b).inj j1 = s.inj j1) ∧
    (∀ k1, (s.setByte a b).skey k1 = s.skey k1) ∧ (∀ i1, (s.setByte a b).eng i1 = s.eng i1) ∧
    (∀ c1 slot1, (s.setByte a b).prog c1 slot1 = s.prog c1 slot1) ∧ (∀ c1 slot1 w1, (s.setByte a b).pw c1 slot1 w1 = s.pw c1 slot1 w1) ∧
    (∀ q1 f1, (s.setByte a b).fifo q1 f1 = s.fifo q1 f1) ∧ (s.setByte a b).running = s.running :=
  ⟨fun _ => rfl, fun _ _ => rfl, fun _ _ => rfl, fun _ => rfl, fun _ => rfl, rfl, fun _ => rfl, fun _ => rfl, rfl, rfl, fun _ => rfl, fun _ =>
    rfl, fun _ => rfl, fun _ => rfl, fun _ => rfl, fun _ _ => rfl, fun _ => rfl, fun _ => rfl, fun _ => rfl, fun _ _ => rfl, fun _ => rfl, fun _
    => rfl, fun _ => rfl, fun _ _ => rfl, fun _ _ _ => rfl, fun _ _ => rfl, rfl⟩

@[simp] theorem State.clearMem_reads (s : State) (lo n : Nat) :
    (∀ a1, (s.clearMem lo n).reg a1 = s.reg a1) ∧ (∀ f1 i1, (s.clearMem lo n).rd f1 i1 = s.rd f1 i1) ∧
    (∀ f1 i1, (s.clearMem lo n).on f1 i1 = s.on f1 i1) ∧ (∀ n1, (s.clearMem lo n).laneState n1 = s.laneState n1) ∧
    (∀ n1, (s.clearMem lo n).rxState n1 = s.rxState n1) ∧ (s.clearMem lo n).role = s.role ∧
    (∀ b1, (s.clearMem lo n).bankState b1 = s.bankState b1) ∧ (∀ m1, (s.clearMem lo n).masterFenced m1 = s.masterFenced m1) ∧
    (s.clearMem lo n).pstate = s.pstate ∧ (s.clearMem lo n).steward = s.steward ∧ (∀ n1, (s.clearMem lo n).lane n1 = s.lane n1) ∧
    (∀ n1, (s.clearMem lo n).align n1 = s.align n1) ∧ (∀ n1, (s.clearMem lo n).vtf n1 = s.vtf n1) ∧ (∀ n1, (s.clearMem lo n).bip n1 = s.bip n1) ∧
    (∀ c1, (s.clearMem lo n).chanX c1 = s.chanX c1) ∧ (∀ t1 c1, (s.clearMem lo n).trib t1 c1 = s.trib t1 c1) ∧
    (∀ b1, (s.clearMem lo n).bank b1 = s.bank b1) ∧ (∀ g1, (s.clearMem lo n).group g1 = s.group g1) ∧
    (∀ n1, (s.clearMem lo n).refx n1 = s.refx n1) ∧ (∀ t1 c1, (s.clearMem lo n).xcEnd t1 c1 = s.xcEnd t1 c1) ∧
    (∀ j1, (s.clearMem lo n).inj j1 = s.inj j1) ∧ (∀ k1, (s.clearMem lo n).skey k1 = s.skey k1) ∧ (∀ i1, (s.clearMem lo n).eng i1 = s.eng i1) ∧
    (∀ c1 slot1, (s.clearMem lo n).prog c1 slot1 = s.prog c1 slot1) ∧ (∀ c1 slot1 w1, (s.clearMem lo n).pw c1 slot1 w1 = s.pw c1 slot1 w1) ∧
    (∀ q1 f1, (s.clearMem lo n).fifo q1 f1 = s.fifo q1 f1) ∧ (s.clearMem lo n).running = s.running :=
  ⟨fun _ => rfl, fun _ _ => rfl, fun _ _ => rfl, fun _ => rfl, fun _ => rfl, rfl, fun _ => rfl, fun _ => rfl, rfl, rfl, fun _ => rfl, fun _ =>
    rfl, fun _ => rfl, fun _ => rfl, fun _ => rfl, fun _ _ => rfl, fun _ => rfl, fun _ => rfl, fun _ => rfl, fun _ _ => rfl, fun _ => rfl, fun _
    => rfl, fun _ => rfl, fun _ _ => rfl, fun _ _ _ => rfl, fun _ _ => rfl, rfl⟩

@[simp] theorem State.emit_reads (s : State) (o : Out) :
    (∀ a1, (s.emit o).reg a1 = s.reg a1) ∧ (∀ f1 i1, (s.emit o).rd f1 i1 = s.rd f1 i1) ∧ (∀ f1 i1, (s.emit o).on f1 i1 = s.on f1 i1) ∧
    (∀ n1, (s.emit o).laneState n1 = s.laneState n1) ∧ (∀ n1, (s.emit o).rxState n1 = s.rxState n1) ∧ (s.emit o).role = s.role ∧
    (∀ b1, (s.emit o).bankState b1 = s.bankState b1) ∧ (∀ m1, (s.emit o).masterFenced m1 = s.masterFenced m1) ∧ (s.emit o).pstate = s.pstate ∧
    (s.emit o).steward = s.steward ∧ (∀ a1, (s.emit o).byte a1 = s.byte a1) ∧ (∀ n1, (s.emit o).lane n1 = s.lane n1) ∧
    (∀ n1, (s.emit o).align n1 = s.align n1) ∧ (∀ n1, (s.emit o).vtf n1 = s.vtf n1) ∧ (∀ n1, (s.emit o).bip n1 = s.bip n1) ∧
    (∀ c1, (s.emit o).chanX c1 = s.chanX c1) ∧ (∀ t1 c1, (s.emit o).trib t1 c1 = s.trib t1 c1) ∧ (∀ b1, (s.emit o).bank b1 = s.bank b1) ∧
    (∀ g1, (s.emit o).group g1 = s.group g1) ∧ (∀ n1, (s.emit o).refx n1 = s.refx n1) ∧ (∀ t1 c1, (s.emit o).xcEnd t1 c1 = s.xcEnd t1 c1) ∧
    (∀ j1, (s.emit o).inj j1 = s.inj j1) ∧ (∀ k1, (s.emit o).skey k1 = s.skey k1) ∧ (∀ i1, (s.emit o).eng i1 = s.eng i1) ∧
    (∀ c1 slot1, (s.emit o).prog c1 slot1 = s.prog c1 slot1) ∧ (∀ c1 slot1 w1, (s.emit o).pw c1 slot1 w1 = s.pw c1 slot1 w1) ∧
    (∀ q1 f1, (s.emit o).fifo q1 f1 = s.fifo q1 f1) ∧ (s.emit o).running = s.running :=
  ⟨fun _ => rfl, fun _ _ => rfl, fun _ _ => rfl, fun _ => rfl, fun _ => rfl, rfl, fun _ => rfl, fun _ => rfl, rfl, rfl, fun _ => rfl, fun _ =>
    rfl, fun _ => rfl, fun _ => rfl, fun _ => rfl, fun _ => rfl, fun _ _ => rfl, fun _ => rfl, fun _ => rfl, fun _ => rfl, fun _ _ => rfl, fun _
    => rfl, fun _ => rfl, fun _ => rfl, fun _ _ => rfl, fun _ _ _ => rfl, fun _ _ => rfl, rfl⟩

@[simp] theorem State.assertFault_reads (s : State) (r : FaultReason) :
    (∀ a1, (s.assertFault r).reg a1 = s.reg a1) ∧ (∀ f1 i1, (s.assertFault r).rd f1 i1 = s.rd f1 i1) ∧
    (∀ f1 i1, (s.assertFault r).on f1 i1 = s.on f1 i1) ∧ (∀ n1, (s.assertFault r).laneState n1 = s.laneState n1) ∧
    (∀ n1, (s.assertFault r).rxState n1 = s.rxState n1) ∧ (s.assertFault r).role = s.role ∧
    (∀ b1, (s.assertFault r).bankState b1 = s.bankState b1) ∧ (∀ m1, (s.assertFault r).masterFenced m1 = s.masterFenced m1) ∧
    (s.assertFault r).pstate = s.pstate ∧ (s.assertFault r).steward = s.steward ∧ (∀ a1, (s.assertFault r).byte a1 = s.byte a1) ∧
    (∀ n1, (s.assertFault r).lane n1 = s.lane n1) ∧ (∀ n1, (s.assertFault r).align n1 = s.align n1) ∧ (∀ n1, (s.assertFault r).vtf n1 = s.vtf n1) ∧
    (∀ n1, (s.assertFault r).bip n1 = s.bip n1) ∧ (∀ c1, (s.assertFault r).chanX c1 = s.chanX c1) ∧
    (∀ t1 c1, (s.assertFault r).trib t1 c1 = s.trib t1 c1) ∧ (∀ b1, (s.assertFault r).bank b1 = s.bank b1) ∧
    (∀ g1, (s.assertFault r).group g1 = s.group g1) ∧ (∀ n1, (s.assertFault r).refx n1 = s.refx n1) ∧
    (∀ t1 c1, (s.assertFault r).xcEnd t1 c1 = s.xcEnd t1 c1) ∧ (∀ j1, (s.assertFault r).inj j1 = s.inj j1) ∧
    (∀ k1, (s.assertFault r).skey k1 = s.skey k1) ∧ (∀ i1, (s.assertFault r).eng i1 = s.eng i1) ∧
    (∀ c1 slot1, (s.assertFault r).prog c1 slot1 = s.prog c1 slot1) ∧ (∀ c1 slot1 w1, (s.assertFault r).pw c1 slot1 w1 = s.pw c1 slot1 w1) ∧
    (∀ q1 f1, (s.assertFault r).fifo q1 f1 = s.fifo q1 f1) ∧ (s.assertFault r).running = s.running :=
  by unfold State.assertFault; split <;> exact ⟨fun _ => rfl, fun _ _ => rfl, fun _ _ => rfl, fun _ => rfl, fun _ => rfl, rfl, fun _ => rfl, fun _ => rfl, rfl, rfl, fun _ => rfl, fun _ =>
    rfl, fun _ => rfl, fun _ => rfl, fun _ => rfl, fun _ => rfl, fun _ _ => rfl, fun _ => rfl, fun _ => rfl, fun _ => rfl, fun _ _ => rfl, fun _
    => rfl, fun _ => rfl, fun _ => rfl, fun _ _ => rfl, fun _ _ _ => rfl, fun _ _ => rfl, rfl⟩

@[simp] theorem State.releaseFault_reads (s : State) (r : FaultReason) :
    (∀ a1, (s.releaseFault r).reg a1 = s.reg a1) ∧ (∀ f1 i1, (s.releaseFault r).rd f1 i1 = s.rd f1 i1) ∧
    (∀ f1 i1, (s.releaseFault r).on f1 i1 = s.on f1 i1) ∧ (∀ n1, (s.releaseFault r).laneState n1 = s.laneState n1) ∧
    (∀ n1, (s.releaseFault r).rxState n1 = s.rxState n1) ∧ (s.releaseFault r).role = s.role ∧
    (∀ b1, (s.releaseFault r).bankState b1 = s.bankState b1) ∧ (∀ m1, (s.releaseFault r).masterFenced m1 = s.masterFenced m1) ∧
    (s.releaseFault r).pstate = s.pstate ∧ (s.releaseFault r).steward = s.steward ∧ (∀ a1, (s.releaseFault r).byte a1 = s.byte a1) ∧
    (∀ n1, (s.releaseFault r).lane n1 = s.lane n1) ∧ (∀ n1, (s.releaseFault r).align n1 = s.align n1) ∧
    (∀ n1, (s.releaseFault r).vtf n1 = s.vtf n1) ∧ (∀ n1, (s.releaseFault r).bip n1 = s.bip n1) ∧
    (∀ c1, (s.releaseFault r).chanX c1 = s.chanX c1) ∧ (∀ t1 c1, (s.releaseFault r).trib t1 c1 = s.trib t1 c1) ∧
    (∀ b1, (s.releaseFault r).bank b1 = s.bank b1) ∧ (∀ g1, (s.releaseFault r).group g1 = s.group g1) ∧
    (∀ n1, (s.releaseFault r).refx n1 = s.refx n1) ∧ (∀ t1 c1, (s.releaseFault r).xcEnd t1 c1 = s.xcEnd t1 c1) ∧
    (∀ j1, (s.releaseFault r).inj j1 = s.inj j1) ∧ (∀ k1, (s.releaseFault r).skey k1 = s.skey k1) ∧ (∀ i1, (s.releaseFault r).eng i1 = s.eng i1) ∧
    (∀ c1 slot1, (s.releaseFault r).prog c1 slot1 = s.prog c1 slot1) ∧ (∀ c1 slot1 w1, (s.releaseFault r).pw c1 slot1 w1 = s.pw c1 slot1 w1) ∧
    (∀ q1 f1, (s.releaseFault r).fifo q1 f1 = s.fifo q1 f1) ∧ (s.releaseFault r).running = s.running :=
  ⟨fun _ => rfl, fun _ _ => rfl, fun _ _ => rfl, fun _ => rfl, fun _ => rfl, rfl, fun _ => rfl, fun _ => rfl, rfl, rfl, fun _ => rfl, fun _ =>
    rfl, fun _ => rfl, fun _ => rfl, fun _ => rfl, fun _ => rfl, fun _ _ => rfl, fun _ => rfl, fun _ => rfl, fun _ => rfl, fun _ _ => rfl, fun _
    => rfl, fun _ => rfl, fun _ => rfl, fun _ _ => rfl, fun _ _ _ => rfl, fun _ _ => rfl, rfl⟩

@[simp] theorem State.later_reads (s : State) (h : Option CmdHead) (d : Due) (c : Change) :
    (∀ a1, (s.later h d c).reg a1 = s.reg a1) ∧ (∀ f1 i1, (s.later h d c).rd f1 i1 = s.rd f1 i1) ∧
    (∀ f1 i1, (s.later h d c).on f1 i1 = s.on f1 i1) ∧ (∀ n1, (s.later h d c).laneState n1 = s.laneState n1) ∧
    (∀ n1, (s.later h d c).rxState n1 = s.rxState n1) ∧ (s.later h d c).role = s.role ∧ (∀ b1, (s.later h d c).bankState b1 = s.bankState b1) ∧
    (∀ m1, (s.later h d c).masterFenced m1 = s.masterFenced m1) ∧ (s.later h d c).pstate = s.pstate ∧ (s.later h d c).steward = s.steward ∧
    (∀ a1, (s.later h d c).byte a1 = s.byte a1) ∧ (∀ n1, (s.later h d c).lane n1 = s.lane n1) ∧ (∀ n1, (s.later h d c).align n1 = s.align n1) ∧
    (∀ n1, (s.later h d c).vtf n1 = s.vtf n1) ∧ (∀ n1, (s.later h d c).bip n1 = s.bip n1) ∧ (∀ c1, (s.later h d c).chanX c1 = s.chanX c1) ∧
    (∀ t1 c1, (s.later h d c).trib t1 c1 = s.trib t1 c1) ∧ (∀ b1, (s.later h d c).bank b1 = s.bank b1) ∧
    (∀ g1, (s.later h d c).group g1 = s.group g1) ∧ (∀ n1, (s.later h d c).refx n1 = s.refx n1) ∧
    (∀ t1 c1, (s.later h d c).xcEnd t1 c1 = s.xcEnd t1 c1) ∧ (∀ j1, (s.later h d c).inj j1 = s.inj j1) ∧
    (∀ k1, (s.later h d c).skey k1 = s.skey k1) ∧ (∀ i1, (s.later h d c).eng i1 = s.eng i1) ∧
    (∀ c1 slot1, (s.later h d c).prog c1 slot1 = s.prog c1 slot1) ∧ (∀ c1 slot1 w1, (s.later h d c).pw c1 slot1 w1 = s.pw c1 slot1 w1) ∧
    (∀ q1 f1, (s.later h d c).fifo q1 f1 = s.fifo q1 f1) ∧ (s.later h d c).running = s.running :=
  ⟨fun _ => rfl, fun _ _ => rfl, fun _ _ => rfl, fun _ => rfl, fun _ => rfl, rfl, fun _ => rfl, fun _ => rfl, rfl, rfl, fun _ => rfl, fun _ =>
    rfl, fun _ => rfl, fun _ => rfl, fun _ => rfl, fun _ => rfl, fun _ _ => rfl, fun _ => rfl, fun _ => rfl, fun _ => rfl, fun _ _ => rfl, fun _
    => rfl, fun _ => rfl, fun _ => rfl, fun _ _ => rfl, fun _ _ _ => rfl, fun _ _ => rfl, rfl⟩

@[simp] theorem State.setEng_reads (s : State) (i : Nat) (x : Eng) :
    (∀ a1, (s.setEng i x).reg a1 = s.reg a1) ∧ (∀ f1 i1, (s.setEng i x).rd f1 i1 = s.rd f1 i1) ∧ (∀ f1 i1, (s.setEng i x).on f1 i1 = s.on f1 i1) ∧
    (∀ n1, (s.setEng i x).laneState n1 = s.laneState n1) ∧ (∀ n1, (s.setEng i x).rxState n1 = s.rxState n1) ∧ (s.setEng i x).role = s.role ∧
    (∀ b1, (s.setEng i x).bankState b1 = s.bankState b1) ∧ (∀ m1, (s.setEng i x).masterFenced m1 = s.masterFenced m1) ∧
    (s.setEng i x).pstate = s.pstate ∧ (s.setEng i x).steward = s.steward ∧ (∀ a1, (s.setEng i x).byte a1 = s.byte a1) ∧
    (∀ n1, (s.setEng i x).lane n1 = s.lane n1) ∧ (∀ n1, (s.setEng i x).align n1 = s.align n1) ∧ (∀ n1, (s.setEng i x).vtf n1 = s.vtf n1) ∧
    (∀ n1, (s.setEng i x).bip n1 = s.bip n1) ∧ (∀ c1, (s.setEng i x).chanX c1 = s.chanX c1) ∧ (∀ t1 c1, (s.setEng i x).trib t1 c1 = s.trib t1 c1) ∧
    (∀ b1, (s.setEng i x).bank b1 = s.bank b1) ∧ (∀ g1, (s.setEng i x).group g1 = s.group g1) ∧ (∀ n1, (s.setEng i x).refx n1 = s.refx n1) ∧
    (∀ t1 c1, (s.setEng i x).xcEnd t1 c1 = s.xcEnd t1 c1) ∧ (∀ j1, (s.setEng i x).inj j1 = s.inj j1) ∧ (∀ k1, (s.setEng i x).skey k1 = s.skey k1) ∧
    (∀ c1 slot1, (s.setEng i x).prog c1 slot1 = s.prog c1 slot1) ∧ (∀ c1 slot1 w1, (s.setEng i x).pw c1 slot1 w1 = s.pw c1 slot1 w1) ∧
    (∀ q1 f1, (s.setEng i x).fifo q1 f1 = s.fifo q1 f1) ∧ (s.setEng i x).running = s.running :=
  ⟨fun _ => rfl, fun _ _ => rfl, fun _ _ => rfl, fun _ => rfl, fun _ => rfl, rfl, fun _ => rfl, fun _ => rfl, rfl, rfl, fun _ => rfl, fun _ =>
    rfl, fun _ => rfl, fun _ => rfl, fun _ => rfl, fun _ => rfl, fun _ _ => rfl, fun _ => rfl, fun _ => rfl, fun _ => rfl, fun _ _ => rfl, fun _
    => rfl, fun _ => rfl, fun _ _ => rfl, fun _ _ _ => rfl, fun _ _ => rfl, rfl⟩

@[simp] theorem State.setProg_reads (s : State) (c slot : Nat) (p : Option Prog) :
    (∀ a1, (s.setProg c slot p).reg a1 = s.reg a1) ∧ (∀ f1 i1, (s.setProg c slot p).rd f1 i1 = s.rd f1 i1) ∧
    (∀ f1 i1, (s.setProg c slot p).on f1 i1 = s.on f1 i1) ∧ (∀ n1, (s.setProg c slot p).laneState n1 = s.laneState n1) ∧
    (∀ n1, (s.setProg c slot p).rxState n1 = s.rxState n1) ∧ (s.setProg c slot p).role = s.role ∧
    (∀ b1, (s.setProg c slot p).bankState b1 = s.bankState b1) ∧ (∀ m1, (s.setProg c slot p).masterFenced m1 = s.masterFenced m1) ∧
    (s.setProg c slot p).pstate = s.pstate ∧ (s.setProg c slot p).steward = s.steward ∧ (∀ a1, (s.setProg c slot p).byte a1 = s.byte a1) ∧
    (∀ n1, (s.setProg c slot p).lane n1 = s.lane n1) ∧ (∀ n1, (s.setProg c slot p).align n1 = s.align n1) ∧
    (∀ n1, (s.setProg c slot p).vtf n1 = s.vtf n1) ∧ (∀ n1, (s.setProg c slot p).bip n1 = s.bip n1) ∧
    (∀ c1, (s.setProg c slot p).chanX c1 = s.chanX c1) ∧ (∀ t1 c1, (s.setProg c slot p).trib t1 c1 = s.trib t1 c1) ∧
    (∀ b1, (s.setProg c slot p).bank b1 = s.bank b1) ∧ (∀ g1, (s.setProg c slot p).group g1 = s.group g1) ∧
    (∀ n1, (s.setProg c slot p).refx n1 = s.refx n1) ∧ (∀ t1 c1, (s.setProg c slot p).xcEnd t1 c1 = s.xcEnd t1 c1) ∧
    (∀ j1, (s.setProg c slot p).inj j1 = s.inj j1) ∧ (∀ k1, (s.setProg c slot p).skey k1 = s.skey k1) ∧
    (∀ i1, (s.setProg c slot p).eng i1 = s.eng i1) ∧ (∀ c1 slot1 w1, (s.setProg c slot p).pw c1 slot1 w1 = s.pw c1 slot1 w1) ∧
    (∀ q1 f1, (s.setProg c slot p).fifo q1 f1 = s.fifo q1 f1) ∧ (s.setProg c slot p).running = s.running :=
  ⟨fun _ => rfl, fun _ _ => rfl, fun _ _ => rfl, fun _ => rfl, fun _ => rfl, rfl, fun _ => rfl, fun _ => rfl, rfl, rfl, fun _ => rfl, fun _ =>
    rfl, fun _ => rfl, fun _ => rfl, fun _ => rfl, fun _ => rfl, fun _ _ => rfl, fun _ => rfl, fun _ => rfl, fun _ => rfl, fun _ _ => rfl, fun _
    => rfl, fun _ => rfl, fun _ => rfl, fun _ _ _ => rfl, fun _ _ => rfl, rfl⟩

@[simp] theorem State.setPw_reads (s : State) (c slot w v : Nat) :
    (∀ a1, (s.setPw c slot w v).reg a1 = s.reg a1) ∧ (∀ f1 i1, (s.setPw c slot w v).rd f1 i1 = s.rd f1 i1) ∧
    (∀ f1 i1, (s.setPw c slot w v).on f1 i1 = s.on f1 i1) ∧ (∀ n1, (s.setPw c slot w v).laneState n1 = s.laneState n1) ∧
    (∀ n1, (s.setPw c slot w v).rxState n1 = s.rxState n1) ∧ (s.setPw c slot w v).role = s.role ∧
    (∀ b1, (s.setPw c slot w v).bankState b1 = s.bankState b1) ∧ (∀ m1, (s.setPw c slot w v).masterFenced m1 = s.masterFenced m1) ∧
    (s.setPw c slot w v).pstate = s.pstate ∧ (s.setPw c slot w v).steward = s.steward ∧ (∀ a1, (s.setPw c slot w v).byte a1 = s.byte a1) ∧
    (∀ n1, (s.setPw c slot w v).lane n1 = s.lane n1) ∧ (∀ n1, (s.setPw c slot w v).align n1 = s.align n1) ∧
    (∀ n1, (s.setPw c slot w v).vtf n1 = s.vtf n1) ∧ (∀ n1, (s.setPw c slot w v).bip n1 = s.bip n1) ∧
    (∀ c1, (s.setPw c slot w v).chanX c1 = s.chanX c1) ∧ (∀ t1 c1, (s.setPw c slot w v).trib t1 c1 = s.trib t1 c1) ∧
    (∀ b1, (s.setPw c slot w v).bank b1 = s.bank b1) ∧ (∀ g1, (s.setPw c slot w v).group g1 = s.group g1) ∧
    (∀ n1, (s.setPw c slot w v).refx n1 = s.refx n1) ∧ (∀ t1 c1, (s.setPw c slot w v).xcEnd t1 c1 = s.xcEnd t1 c1) ∧
    (∀ j1, (s.setPw c slot w v).inj j1 = s.inj j1) ∧ (∀ k1, (s.setPw c slot w v).skey k1 = s.skey k1) ∧
    (∀ i1, (s.setPw c slot w v).eng i1 = s.eng i1) ∧ (∀ c1 slot1, (s.setPw c slot w v).prog c1 slot1 = s.prog c1 slot1) ∧
    (∀ q1 f1, (s.setPw c slot w v).fifo q1 f1 = s.fifo q1 f1) ∧ (s.setPw c slot w v).running = s.running :=
  ⟨fun _ => rfl, fun _ _ => rfl, fun _ _ => rfl, fun _ => rfl, fun _ => rfl, rfl, fun _ => rfl, fun _ => rfl, rfl, rfl, fun _ => rfl, fun _ =>
    rfl, fun _ => rfl, fun _ => rfl, fun _ => rfl, fun _ => rfl, fun _ _ => rfl, fun _ => rfl, fun _ => rfl, fun _ => rfl, fun _ _ => rfl, fun _
    => rfl, fun _ => rfl, fun _ => rfl, fun _ _ => rfl, fun _ _ => rfl, rfl⟩

@[simp] theorem State.count_reads (s : State) (i k : Nat) :
    (∀ a1, (s.count i k).reg a1 = s.reg a1) ∧ (∀ f1 i1, (s.count i k).rd f1 i1 = s.rd f1 i1) ∧ (∀ f1 i1, (s.count i k).on f1 i1 = s.on f1 i1) ∧
    (∀ n1, (s.count i k).laneState n1 = s.laneState n1) ∧ (∀ n1, (s.count i k).rxState n1 = s.rxState n1) ∧ (s.count i k).role = s.role ∧
    (∀ b1, (s.count i k).bankState b1 = s.bankState b1) ∧ (∀ m1, (s.count i k).masterFenced m1 = s.masterFenced m1) ∧
    (s.count i k).pstate = s.pstate ∧ (s.count i k).steward = s.steward ∧ (∀ a1, (s.count i k).byte a1 = s.byte a1) ∧
    (∀ n1, (s.count i k).lane n1 = s.lane n1) ∧ (∀ n1, (s.count i k).align n1 = s.align n1) ∧ (∀ n1, (s.count i k).vtf n1 = s.vtf n1) ∧
    (∀ n1, (s.count i k).bip n1 = s.bip n1) ∧ (∀ c1, (s.count i k).chanX c1 = s.chanX c1) ∧ (∀ t1 c1, (s.count i k).trib t1 c1 = s.trib t1 c1) ∧
    (∀ b1, (s.count i k).bank b1 = s.bank b1) ∧ (∀ g1, (s.count i k).group g1 = s.group g1) ∧ (∀ n1, (s.count i k).refx n1 = s.refx n1) ∧
    (∀ t1 c1, (s.count i k).xcEnd t1 c1 = s.xcEnd t1 c1) ∧ (∀ j1, (s.count i k).inj j1 = s.inj j1) ∧ (∀ k1, (s.count i k).skey k1 = s.skey k1) ∧
    (∀ i1, (s.count i k).eng i1 = s.eng i1) ∧ (∀ c1 slot1, (s.count i k).prog c1 slot1 = s.prog c1 slot1) ∧
    (∀ c1 slot1 w1, (s.count i k).pw c1 slot1 w1 = s.pw c1 slot1 w1) ∧ (∀ q1 f1, (s.count i k).fifo q1 f1 = s.fifo q1 f1) ∧
    (s.count i k).running = s.running :=
  ⟨fun _ => rfl, fun _ _ => rfl, fun _ _ => rfl, fun _ => rfl, fun _ => rfl, rfl, fun _ => rfl, fun _ => rfl, rfl, rfl, fun _ => rfl, fun _ =>
    rfl, fun _ => rfl, fun _ => rfl, fun _ => rfl, fun _ => rfl, fun _ _ => rfl, fun _ => rfl, fun _ => rfl, fun _ => rfl, fun _ _ => rfl, fun _
    => rfl, fun _ => rfl, fun _ => rfl, fun _ _ => rfl, fun _ _ _ => rfl, fun _ _ => rfl, rfl⟩

@[simp] theorem State.setLane_reads (s : State) (n : Nat) (x : LaneX) :
    (∀ a1, (s.setLane n x).reg a1 = s.reg a1) ∧ (∀ f1 i1, (s.setLane n x).rd f1 i1 = s.rd f1 i1) ∧
    (∀ f1 i1, (s.setLane n x).on f1 i1 = s.on f1 i1) ∧ (∀ n1, (s.setLane n x).laneState n1 = s.laneState n1) ∧
    (∀ n1, (s.setLane n x).rxState n1 = s.rxState n1) ∧ (s.setLane n x).role = s.role ∧ (∀ b1, (s.setLane n x).bankState b1 = s.bankState b1) ∧
    (∀ m1, (s.setLane n x).masterFenced m1 = s.masterFenced m1) ∧ (s.setLane n x).pstate = s.pstate ∧ (s.setLane n x).steward = s.steward ∧
    (∀ a1, (s.setLane n x).byte a1 = s.byte a1) ∧ (∀ n1, (s.setLane n x).align n1 = s.align n1) ∧ (∀ n1, (s.setLane n x).vtf n1 = s.vtf n1) ∧
    (∀ n1, (s.setLane n x).bip n1 = s.bip n1) ∧ (∀ c1, (s.setLane n x).chanX c1 = s.chanX c1) ∧
    (∀ t1 c1, (s.setLane n x).trib t1 c1 = s.trib t1 c1) ∧ (∀ b1, (s.setLane n x).bank b1 = s.bank b1) ∧
    (∀ g1, (s.setLane n x).group g1 = s.group g1) ∧ (∀ n1, (s.setLane n x).refx n1 = s.refx n1) ∧
    (∀ t1 c1, (s.setLane n x).xcEnd t1 c1 = s.xcEnd t1 c1) ∧ (∀ j1, (s.setLane n x).inj j1 = s.inj j1) ∧
    (∀ k1, (s.setLane n x).skey k1 = s.skey k1) ∧ (∀ i1, (s.setLane n x).eng i1 = s.eng i1) ∧
    (∀ c1 slot1, (s.setLane n x).prog c1 slot1 = s.prog c1 slot1) ∧ (∀ c1 slot1 w1, (s.setLane n x).pw c1 slot1 w1 = s.pw c1 slot1 w1) ∧
    (∀ q1 f1, (s.setLane n x).fifo q1 f1 = s.fifo q1 f1) ∧ (s.setLane n x).running = s.running :=
  ⟨fun _ => rfl, fun _ _ => rfl, fun _ _ => rfl, fun _ => rfl, fun _ => rfl, rfl, fun _ => rfl, fun _ => rfl, rfl, rfl, fun _ => rfl, fun _ =>
    rfl, fun _ => rfl, fun _ => rfl, fun _ => rfl, fun _ _ => rfl, fun _ => rfl, fun _ => rfl, fun _ => rfl, fun _ _ => rfl, fun _ => rfl, fun _
    => rfl, fun _ => rfl, fun _ _ => rfl, fun _ _ _ => rfl, fun _ _ => rfl, rfl⟩

@[simp] theorem State.setAlign_reads (s : State) (n : Nat) (x : AlignX) :
    (∀ a1, (s.setAlign n x).reg a1 = s.reg a1) ∧ (∀ f1 i1, (s.setAlign n x).rd f1 i1 = s.rd f1 i1) ∧
    (∀ f1 i1, (s.setAlign n x).on f1 i1 = s.on f1 i1) ∧ (∀ n1, (s.setAlign n x).laneState n1 = s.laneState n1) ∧
    (∀ n1, (s.setAlign n x).rxState n1 = s.rxState n1) ∧ (s.setAlign n x).role = s.role ∧ (∀ b1, (s.setAlign n x).bankState b1 = s.bankState b1) ∧
    (∀ m1, (s.setAlign n x).masterFenced m1 = s.masterFenced m1) ∧ (s.setAlign n x).pstate = s.pstate ∧ (s.setAlign n x).steward = s.steward ∧
    (∀ a1, (s.setAlign n x).byte a1 = s.byte a1) ∧ (∀ n1, (s.setAlign n x).lane n1 = s.lane n1) ∧ (∀ n1, (s.setAlign n x).vtf n1 = s.vtf n1) ∧
    (∀ n1, (s.setAlign n x).bip n1 = s.bip n1) ∧ (∀ c1, (s.setAlign n x).chanX c1 = s.chanX c1) ∧
    (∀ t1 c1, (s.setAlign n x).trib t1 c1 = s.trib t1 c1) ∧ (∀ b1, (s.setAlign n x).bank b1 = s.bank b1) ∧
    (∀ g1, (s.setAlign n x).group g1 = s.group g1) ∧ (∀ n1, (s.setAlign n x).refx n1 = s.refx n1) ∧
    (∀ t1 c1, (s.setAlign n x).xcEnd t1 c1 = s.xcEnd t1 c1) ∧ (∀ j1, (s.setAlign n x).inj j1 = s.inj j1) ∧
    (∀ k1, (s.setAlign n x).skey k1 = s.skey k1) ∧ (∀ i1, (s.setAlign n x).eng i1 = s.eng i1) ∧
    (∀ c1 slot1, (s.setAlign n x).prog c1 slot1 = s.prog c1 slot1) ∧ (∀ c1 slot1 w1, (s.setAlign n x).pw c1 slot1 w1 = s.pw c1 slot1 w1) ∧
    (∀ q1 f1, (s.setAlign n x).fifo q1 f1 = s.fifo q1 f1) ∧ (s.setAlign n x).running = s.running :=
  ⟨fun _ => rfl, fun _ _ => rfl, fun _ _ => rfl, fun _ => rfl, fun _ => rfl, rfl, fun _ => rfl, fun _ => rfl, rfl, rfl, fun _ => rfl, fun _ =>
    rfl, fun _ => rfl, fun _ => rfl, fun _ => rfl, fun _ _ => rfl, fun _ => rfl, fun _ => rfl, fun _ => rfl, fun _ _ => rfl, fun _ => rfl, fun _
    => rfl, fun _ => rfl, fun _ _ => rfl, fun _ _ _ => rfl, fun _ _ => rfl, rfl⟩

@[simp] theorem State.setVtf_reads (s : State) (n : Nat) (x : VtfX) :
    (∀ a1, (s.setVtf n x).reg a1 = s.reg a1) ∧ (∀ f1 i1, (s.setVtf n x).rd f1 i1 = s.rd f1 i1) ∧ (∀ f1 i1, (s.setVtf n x).on f1 i1 = s.on f1 i1) ∧
    (∀ n1, (s.setVtf n x).laneState n1 = s.laneState n1) ∧ (∀ n1, (s.setVtf n x).rxState n1 = s.rxState n1) ∧ (s.setVtf n x).role = s.role ∧
    (∀ b1, (s.setVtf n x).bankState b1 = s.bankState b1) ∧ (∀ m1, (s.setVtf n x).masterFenced m1 = s.masterFenced m1) ∧
    (s.setVtf n x).pstate = s.pstate ∧ (s.setVtf n x).steward = s.steward ∧ (∀ a1, (s.setVtf n x).byte a1 = s.byte a1) ∧
    (∀ n1, (s.setVtf n x).lane n1 = s.lane n1) ∧ (∀ n1, (s.setVtf n x).align n1 = s.align n1) ∧ (∀ n1, (s.setVtf n x).bip n1 = s.bip n1) ∧
    (∀ c1, (s.setVtf n x).chanX c1 = s.chanX c1) ∧ (∀ t1 c1, (s.setVtf n x).trib t1 c1 = s.trib t1 c1) ∧
    (∀ b1, (s.setVtf n x).bank b1 = s.bank b1) ∧ (∀ g1, (s.setVtf n x).group g1 = s.group g1) ∧ (∀ n1, (s.setVtf n x).refx n1 = s.refx n1) ∧
    (∀ t1 c1, (s.setVtf n x).xcEnd t1 c1 = s.xcEnd t1 c1) ∧ (∀ j1, (s.setVtf n x).inj j1 = s.inj j1) ∧ (∀ k1, (s.setVtf n x).skey k1 = s.skey k1) ∧
    (∀ i1, (s.setVtf n x).eng i1 = s.eng i1) ∧ (∀ c1 slot1, (s.setVtf n x).prog c1 slot1 = s.prog c1 slot1) ∧
    (∀ c1 slot1 w1, (s.setVtf n x).pw c1 slot1 w1 = s.pw c1 slot1 w1) ∧ (∀ q1 f1, (s.setVtf n x).fifo q1 f1 = s.fifo q1 f1) ∧
    (s.setVtf n x).running = s.running :=
  ⟨fun _ => rfl, fun _ _ => rfl, fun _ _ => rfl, fun _ => rfl, fun _ => rfl, rfl, fun _ => rfl, fun _ => rfl, rfl, rfl, fun _ => rfl, fun _ =>
    rfl, fun _ => rfl, fun _ => rfl, fun _ => rfl, fun _ _ => rfl, fun _ => rfl, fun _ => rfl, fun _ => rfl, fun _ _ => rfl, fun _ => rfl, fun _
    => rfl, fun _ => rfl, fun _ _ => rfl, fun _ _ _ => rfl, fun _ _ => rfl, rfl⟩

@[simp] theorem State.setBip_reads (s : State) (n : Nat) (x : BipX) :
    (∀ a1, (s.setBip n x).reg a1 = s.reg a1) ∧ (∀ f1 i1, (s.setBip n x).rd f1 i1 = s.rd f1 i1) ∧ (∀ f1 i1, (s.setBip n x).on f1 i1 = s.on f1 i1) ∧
    (∀ n1, (s.setBip n x).laneState n1 = s.laneState n1) ∧ (∀ n1, (s.setBip n x).rxState n1 = s.rxState n1) ∧ (s.setBip n x).role = s.role ∧
    (∀ b1, (s.setBip n x).bankState b1 = s.bankState b1) ∧ (∀ m1, (s.setBip n x).masterFenced m1 = s.masterFenced m1) ∧
    (s.setBip n x).pstate = s.pstate ∧ (s.setBip n x).steward = s.steward ∧ (∀ a1, (s.setBip n x).byte a1 = s.byte a1) ∧
    (∀ n1, (s.setBip n x).lane n1 = s.lane n1) ∧ (∀ n1, (s.setBip n x).align n1 = s.align n1) ∧ (∀ n1, (s.setBip n x).vtf n1 = s.vtf n1) ∧
    (∀ c1, (s.setBip n x).chanX c1 = s.chanX c1) ∧ (∀ t1 c1, (s.setBip n x).trib t1 c1 = s.trib t1 c1) ∧
    (∀ b1, (s.setBip n x).bank b1 = s.bank b1) ∧ (∀ g1, (s.setBip n x).group g1 = s.group g1) ∧ (∀ n1, (s.setBip n x).refx n1 = s.refx n1) ∧
    (∀ t1 c1, (s.setBip n x).xcEnd t1 c1 = s.xcEnd t1 c1) ∧ (∀ j1, (s.setBip n x).inj j1 = s.inj j1) ∧ (∀ k1, (s.setBip n x).skey k1 = s.skey k1) ∧
    (∀ i1, (s.setBip n x).eng i1 = s.eng i1) ∧ (∀ c1 slot1, (s.setBip n x).prog c1 slot1 = s.prog c1 slot1) ∧
    (∀ c1 slot1 w1, (s.setBip n x).pw c1 slot1 w1 = s.pw c1 slot1 w1) ∧ (∀ q1 f1, (s.setBip n x).fifo q1 f1 = s.fifo q1 f1) ∧
    (s.setBip n x).running = s.running :=
  ⟨fun _ => rfl, fun _ _ => rfl, fun _ _ => rfl, fun _ => rfl, fun _ => rfl, rfl, fun _ => rfl, fun _ => rfl, rfl, rfl, fun _ => rfl, fun _ =>
    rfl, fun _ => rfl, fun _ => rfl, fun _ => rfl, fun _ _ => rfl, fun _ => rfl, fun _ => rfl, fun _ => rfl, fun _ _ => rfl, fun _ => rfl, fun _
    => rfl, fun _ => rfl, fun _ _ => rfl, fun _ _ _ => rfl, fun _ _ => rfl, rfl⟩

@[simp] theorem State.setChanX_reads (s : State) (c : Nat) (x : ChanX) :
    (∀ a1, (s.setChanX c x).reg a1 = s.reg a1) ∧ (∀ f1 i1, (s.setChanX c x).rd f1 i1 = s.rd f1 i1) ∧
    (∀ f1 i1, (s.setChanX c x).on f1 i1 = s.on f1 i1) ∧ (∀ n1, (s.setChanX c x).laneState n1 = s.laneState n1) ∧
    (∀ n1, (s.setChanX c x).rxState n1 = s.rxState n1) ∧ (s.setChanX c x).role = s.role ∧ (∀ b1, (s.setChanX c x).bankState b1 = s.bankState b1) ∧
    (∀ m1, (s.setChanX c x).masterFenced m1 = s.masterFenced m1) ∧ (s.setChanX c x).pstate = s.pstate ∧ (s.setChanX c x).steward = s.steward ∧
    (∀ a1, (s.setChanX c x).byte a1 = s.byte a1) ∧ (∀ n1, (s.setChanX c x).lane n1 = s.lane n1) ∧ (∀ n1, (s.setChanX c x).align n1 = s.align n1) ∧
    (∀ n1, (s.setChanX c x).vtf n1 = s.vtf n1) ∧ (∀ n1, (s.setChanX c x).bip n1 = s.bip n1) ∧
    (∀ t1 c1, (s.setChanX c x).trib t1 c1 = s.trib t1 c1) ∧ (∀ b1, (s.setChanX c x).bank b1 = s.bank b1) ∧
    (∀ g1, (s.setChanX c x).group g1 = s.group g1) ∧ (∀ n1, (s.setChanX c x).refx n1 = s.refx n1) ∧
    (∀ t1 c1, (s.setChanX c x).xcEnd t1 c1 = s.xcEnd t1 c1) ∧ (∀ j1, (s.setChanX c x).inj j1 = s.inj j1) ∧
    (∀ k1, (s.setChanX c x).skey k1 = s.skey k1) ∧ (∀ i1, (s.setChanX c x).eng i1 = s.eng i1) ∧
    (∀ c1 slot1, (s.setChanX c x).prog c1 slot1 = s.prog c1 slot1) ∧ (∀ c1 slot1 w1, (s.setChanX c x).pw c1 slot1 w1 = s.pw c1 slot1 w1) ∧
    (∀ q1 f1, (s.setChanX c x).fifo q1 f1 = s.fifo q1 f1) ∧ (s.setChanX c x).running = s.running :=
  ⟨fun _ => rfl, fun _ _ => rfl, fun _ _ => rfl, fun _ => rfl, fun _ => rfl, rfl, fun _ => rfl, fun _ => rfl, rfl, rfl, fun _ => rfl, fun _ =>
    rfl, fun _ => rfl, fun _ => rfl, fun _ => rfl, fun _ _ => rfl, fun _ => rfl, fun _ => rfl, fun _ => rfl, fun _ _ => rfl, fun _ => rfl, fun _
    => rfl, fun _ => rfl, fun _ _ => rfl, fun _ _ _ => rfl, fun _ _ => rfl, rfl⟩

@[simp] theorem State.setTrib_reads (s : State) (t c : Nat) (x : EndX) :
    (∀ a1, (s.setTrib t c x).reg a1 = s.reg a1) ∧ (∀ f1 i1, (s.setTrib t c x).rd f1 i1 = s.rd f1 i1) ∧
    (∀ f1 i1, (s.setTrib t c x).on f1 i1 = s.on f1 i1) ∧ (∀ n1, (s.setTrib t c x).laneState n1 = s.laneState n1) ∧
    (∀ n1, (s.setTrib t c x).rxState n1 = s.rxState n1) ∧ (s.setTrib t c x).role = s.role ∧
    (∀ b1, (s.setTrib t c x).bankState b1 = s.bankState b1) ∧ (∀ m1, (s.setTrib t c x).masterFenced m1 = s.masterFenced m1) ∧
    (s.setTrib t c x).pstate = s.pstate ∧ (s.setTrib t c x).steward = s.steward ∧ (∀ a1, (s.setTrib t c x).byte a1 = s.byte a1) ∧
    (∀ n1, (s.setTrib t c x).lane n1 = s.lane n1) ∧ (∀ n1, (s.setTrib t c x).align n1 = s.align n1) ∧ (∀ n1, (s.setTrib t c x).vtf n1 = s.vtf n1) ∧
    (∀ n1, (s.setTrib t c x).bip n1 = s.bip n1) ∧ (∀ c1, (s.setTrib t c x).chanX c1 = s.chanX c1) ∧ (∀ b1, (s.setTrib t c x).bank b1 = s.bank b1) ∧
    (∀ g1, (s.setTrib t c x).group g1 = s.group g1) ∧ (∀ n1, (s.setTrib t c x).refx n1 = s.refx n1) ∧
    (∀ t1 c1, (s.setTrib t c x).xcEnd t1 c1 = s.xcEnd t1 c1) ∧ (∀ j1, (s.setTrib t c x).inj j1 = s.inj j1) ∧
    (∀ k1, (s.setTrib t c x).skey k1 = s.skey k1) ∧ (∀ i1, (s.setTrib t c x).eng i1 = s.eng i1) ∧
    (∀ c1 slot1, (s.setTrib t c x).prog c1 slot1 = s.prog c1 slot1) ∧ (∀ c1 slot1 w1, (s.setTrib t c x).pw c1 slot1 w1 = s.pw c1 slot1 w1) ∧
    (∀ q1 f1, (s.setTrib t c x).fifo q1 f1 = s.fifo q1 f1) ∧ (s.setTrib t c x).running = s.running :=
  ⟨fun _ => rfl, fun _ _ => rfl, fun _ _ => rfl, fun _ => rfl, fun _ => rfl, rfl, fun _ => rfl, fun _ => rfl, rfl, rfl, fun _ => rfl, fun _ =>
    rfl, fun _ => rfl, fun _ => rfl, fun _ => rfl, fun _ => rfl, fun _ => rfl, fun _ => rfl, fun _ => rfl, fun _ _ => rfl, fun _ => rfl, fun _
    => rfl, fun _ => rfl, fun _ _ => rfl, fun _ _ _ => rfl, fun _ _ => rfl, rfl⟩

@[simp] theorem State.setBank_reads (s : State) (b : Nat) (x : BankX) :
    (∀ a1, (s.setBank b x).reg a1 = s.reg a1) ∧ (∀ f1 i1, (s.setBank b x).rd f1 i1 = s.rd f1 i1) ∧
    (∀ f1 i1, (s.setBank b x).on f1 i1 = s.on f1 i1) ∧ (∀ n1, (s.setBank b x).laneState n1 = s.laneState n1) ∧
    (∀ n1, (s.setBank b x).rxState n1 = s.rxState n1) ∧ (s.setBank b x).role = s.role ∧ (∀ b1, (s.setBank b x).bankState b1 = s.bankState b1) ∧
    (∀ m1, (s.setBank b x).masterFenced m1 = s.masterFenced m1) ∧ (s.setBank b x).pstate = s.pstate ∧ (s.setBank b x).steward = s.steward ∧
    (∀ a1, (s.setBank b x).byte a1 = s.byte a1) ∧ (∀ n1, (s.setBank b x).lane n1 = s.lane n1) ∧ (∀ n1, (s.setBank b x).align n1 = s.align n1) ∧
    (∀ n1, (s.setBank b x).vtf n1 = s.vtf n1) ∧ (∀ n1, (s.setBank b x).bip n1 = s.bip n1) ∧ (∀ c1, (s.setBank b x).chanX c1 = s.chanX c1) ∧
    (∀ t1 c1, (s.setBank b x).trib t1 c1 = s.trib t1 c1) ∧ (∀ g1, (s.setBank b x).group g1 = s.group g1) ∧
    (∀ n1, (s.setBank b x).refx n1 = s.refx n1) ∧ (∀ t1 c1, (s.setBank b x).xcEnd t1 c1 = s.xcEnd t1 c1) ∧
    (∀ j1, (s.setBank b x).inj j1 = s.inj j1) ∧ (∀ k1, (s.setBank b x).skey k1 = s.skey k1) ∧ (∀ i1, (s.setBank b x).eng i1 = s.eng i1) ∧
    (∀ c1 slot1, (s.setBank b x).prog c1 slot1 = s.prog c1 slot1) ∧ (∀ c1 slot1 w1, (s.setBank b x).pw c1 slot1 w1 = s.pw c1 slot1 w1) ∧
    (∀ q1 f1, (s.setBank b x).fifo q1 f1 = s.fifo q1 f1) ∧ (s.setBank b x).running = s.running :=
  ⟨fun _ => rfl, fun _ _ => rfl, fun _ _ => rfl, fun _ => rfl, fun _ => rfl, rfl, fun _ => rfl, fun _ => rfl, rfl, rfl, fun _ => rfl, fun _ =>
    rfl, fun _ => rfl, fun _ => rfl, fun _ => rfl, fun _ => rfl, fun _ _ => rfl, fun _ => rfl, fun _ => rfl, fun _ _ => rfl, fun _ => rfl, fun _
    => rfl, fun _ => rfl, fun _ _ => rfl, fun _ _ _ => rfl, fun _ _ => rfl, rfl⟩

@[simp] theorem State.setGroup_reads (s : State) (g : Nat) (x : Group) :
    (∀ a1, (s.setGroup g x).reg a1 = s.reg a1) ∧ (∀ f1 i1, (s.setGroup g x).rd f1 i1 = s.rd f1 i1) ∧
    (∀ f1 i1, (s.setGroup g x).on f1 i1 = s.on f1 i1) ∧ (∀ n1, (s.setGroup g x).laneState n1 = s.laneState n1) ∧
    (∀ n1, (s.setGroup g x).rxState n1 = s.rxState n1) ∧ (s.setGroup g x).role = s.role ∧ (∀ b1, (s.setGroup g x).bankState b1 = s.bankState b1) ∧
    (∀ m1, (s.setGroup g x).masterFenced m1 = s.masterFenced m1) ∧ (s.setGroup g x).pstate = s.pstate ∧ (s.setGroup g x).steward = s.steward ∧
    (∀ a1, (s.setGroup g x).byte a1 = s.byte a1) ∧ (∀ n1, (s.setGroup g x).lane n1 = s.lane n1) ∧ (∀ n1, (s.setGroup g x).align n1 = s.align n1) ∧
    (∀ n1, (s.setGroup g x).vtf n1 = s.vtf n1) ∧ (∀ n1, (s.setGroup g x).bip n1 = s.bip n1) ∧ (∀ c1, (s.setGroup g x).chanX c1 = s.chanX c1) ∧
    (∀ t1 c1, (s.setGroup g x).trib t1 c1 = s.trib t1 c1) ∧ (∀ b1, (s.setGroup g x).bank b1 = s.bank b1) ∧
    (∀ n1, (s.setGroup g x).refx n1 = s.refx n1) ∧ (∀ t1 c1, (s.setGroup g x).xcEnd t1 c1 = s.xcEnd t1 c1) ∧
    (∀ j1, (s.setGroup g x).inj j1 = s.inj j1) ∧ (∀ k1, (s.setGroup g x).skey k1 = s.skey k1) ∧ (∀ i1, (s.setGroup g x).eng i1 = s.eng i1) ∧
    (∀ c1 slot1, (s.setGroup g x).prog c1 slot1 = s.prog c1 slot1) ∧ (∀ c1 slot1 w1, (s.setGroup g x).pw c1 slot1 w1 = s.pw c1 slot1 w1) ∧
    (∀ q1 f1, (s.setGroup g x).fifo q1 f1 = s.fifo q1 f1) ∧ (s.setGroup g x).running = s.running :=
  ⟨fun _ => rfl, fun _ _ => rfl, fun _ _ => rfl, fun _ => rfl, fun _ => rfl, rfl, fun _ => rfl, fun _ => rfl, rfl, rfl, fun _ => rfl, fun _ =>
    rfl, fun _ => rfl, fun _ => rfl, fun _ => rfl, fun _ => rfl, fun _ _ => rfl, fun _ => rfl, fun _ => rfl, fun _ _ => rfl, fun _ => rfl, fun _
    => rfl, fun _ => rfl, fun _ _ => rfl, fun _ _ _ => rfl, fun _ _ => rfl, rfl⟩

@[simp] theorem State.setRefx_reads (s : State) (n : Nat) (x : RefX) :
    (∀ a1, (s.setRefx n x).reg a1 = s.reg a1) ∧ (∀ f1 i1, (s.setRefx n x).rd f1 i1 = s.rd f1 i1) ∧
    (∀ f1 i1, (s.setRefx n x).on f1 i1 = s.on f1 i1) ∧ (∀ n1, (s.setRefx n x).laneState n1 = s.laneState n1) ∧
    (∀ n1, (s.setRefx n x).rxState n1 = s.rxState n1) ∧ (s.setRefx n x).role = s.role ∧ (∀ b1, (s.setRefx n x).bankState b1 = s.bankState b1) ∧
    (∀ m1, (s.setRefx n x).masterFenced m1 = s.masterFenced m1) ∧ (s.setRefx n x).pstate = s.pstate ∧ (s.setRefx n x).steward = s.steward ∧
    (∀ a1, (s.setRefx n x).byte a1 = s.byte a1) ∧ (∀ n1, (s.setRefx n x).lane n1 = s.lane n1) ∧ (∀ n1, (s.setRefx n x).align n1 = s.align n1) ∧
    (∀ n1, (s.setRefx n x).vtf n1 = s.vtf n1) ∧ (∀ n1, (s.setRefx n x).bip n1 = s.bip n1) ∧ (∀ c1, (s.setRefx n x).chanX c1 = s.chanX c1) ∧
    (∀ t1 c1, (s.setRefx n x).trib t1 c1 = s.trib t1 c1) ∧ (∀ b1, (s.setRefx n x).bank b1 = s.bank b1) ∧
    (∀ g1, (s.setRefx n x).group g1 = s.group g1) ∧ (∀ t1 c1, (s.setRefx n x).xcEnd t1 c1 = s.xcEnd t1 c1) ∧
    (∀ j1, (s.setRefx n x).inj j1 = s.inj j1) ∧ (∀ k1, (s.setRefx n x).skey k1 = s.skey k1) ∧ (∀ i1, (s.setRefx n x).eng i1 = s.eng i1) ∧
    (∀ c1 slot1, (s.setRefx n x).prog c1 slot1 = s.prog c1 slot1) ∧ (∀ c1 slot1 w1, (s.setRefx n x).pw c1 slot1 w1 = s.pw c1 slot1 w1) ∧
    (∀ q1 f1, (s.setRefx n x).fifo q1 f1 = s.fifo q1 f1) ∧ (s.setRefx n x).running = s.running :=
  ⟨fun _ => rfl, fun _ _ => rfl, fun _ _ => rfl, fun _ => rfl, fun _ => rfl, rfl, fun _ => rfl, fun _ => rfl, rfl, rfl, fun _ => rfl, fun _ =>
    rfl, fun _ => rfl, fun _ => rfl, fun _ => rfl, fun _ => rfl, fun _ _ => rfl, fun _ => rfl, fun _ => rfl, fun _ _ => rfl, fun _ => rfl, fun _
    => rfl, fun _ => rfl, fun _ _ => rfl, fun _ _ _ => rfl, fun _ _ => rfl, rfl⟩

@[simp] theorem State.setXc_reads (s : State) (t c : Nat) (x : XcEnd) :
    (∀ a1, (s.setXc t c x).reg a1 = s.reg a1) ∧ (∀ f1 i1, (s.setXc t c x).rd f1 i1 = s.rd f1 i1) ∧
    (∀ f1 i1, (s.setXc t c x).on f1 i1 = s.on f1 i1) ∧ (∀ n1, (s.setXc t c x).laneState n1 = s.laneState n1) ∧
    (∀ n1, (s.setXc t c x).rxState n1 = s.rxState n1) ∧ (s.setXc t c x).role = s.role ∧ (∀ b1, (s.setXc t c x).bankState b1 = s.bankState b1) ∧
    (∀ m1, (s.setXc t c x).masterFenced m1 = s.masterFenced m1) ∧ (s.setXc t c x).pstate = s.pstate ∧ (s.setXc t c x).steward = s.steward ∧
    (∀ a1, (s.setXc t c x).byte a1 = s.byte a1) ∧ (∀ n1, (s.setXc t c x).lane n1 = s.lane n1) ∧ (∀ n1, (s.setXc t c x).align n1 = s.align n1) ∧
    (∀ n1, (s.setXc t c x).vtf n1 = s.vtf n1) ∧ (∀ n1, (s.setXc t c x).bip n1 = s.bip n1) ∧ (∀ c1, (s.setXc t c x).chanX c1 = s.chanX c1) ∧
    (∀ t1 c1, (s.setXc t c x).trib t1 c1 = s.trib t1 c1) ∧ (∀ b1, (s.setXc t c x).bank b1 = s.bank b1) ∧
    (∀ g1, (s.setXc t c x).group g1 = s.group g1) ∧ (∀ n1, (s.setXc t c x).refx n1 = s.refx n1) ∧ (∀ j1, (s.setXc t c x).inj j1 = s.inj j1) ∧
    (∀ k1, (s.setXc t c x).skey k1 = s.skey k1) ∧ (∀ i1, (s.setXc t c x).eng i1 = s.eng i1) ∧
    (∀ c1 slot1, (s.setXc t c x).prog c1 slot1 = s.prog c1 slot1) ∧ (∀ c1 slot1 w1, (s.setXc t c x).pw c1 slot1 w1 = s.pw c1 slot1 w1) ∧
    (∀ q1 f1, (s.setXc t c x).fifo q1 f1 = s.fifo q1 f1) ∧ (s.setXc t c x).running = s.running :=
  ⟨fun _ => rfl, fun _ _ => rfl, fun _ _ => rfl, fun _ => rfl, fun _ => rfl, rfl, fun _ => rfl, fun _ => rfl, rfl, rfl, fun _ => rfl, fun _ =>
    rfl, fun _ => rfl, fun _ => rfl, fun _ => rfl, fun _ => rfl, fun _ _ => rfl, fun _ => rfl, fun _ => rfl, fun _ => rfl, fun _ => rfl, fun _
    => rfl, fun _ => rfl, fun _ _ => rfl, fun _ _ _ => rfl, fun _ _ => rfl, rfl⟩

@[simp] theorem State.setInj_reads (s : State) (j : Nat) (x : InjX) :
    (∀ a1, (s.setInj j x).reg a1 = s.reg a1) ∧ (∀ f1 i1, (s.setInj j x).rd f1 i1 = s.rd f1 i1) ∧ (∀ f1 i1, (s.setInj j x).on f1 i1 = s.on f1 i1) ∧
    (∀ n1, (s.setInj j x).laneState n1 = s.laneState n1) ∧ (∀ n1, (s.setInj j x).rxState n1 = s.rxState n1) ∧ (s.setInj j x).role = s.role ∧
    (∀ b1, (s.setInj j x).bankState b1 = s.bankState b1) ∧ (∀ m1, (s.setInj j x).masterFenced m1 = s.masterFenced m1) ∧
    (s.setInj j x).pstate = s.pstate ∧ (s.setInj j x).steward = s.steward ∧ (∀ a1, (s.setInj j x).byte a1 = s.byte a1) ∧
    (∀ n1, (s.setInj j x).lane n1 = s.lane n1) ∧ (∀ n1, (s.setInj j x).align n1 = s.align n1) ∧ (∀ n1, (s.setInj j x).vtf n1 = s.vtf n1) ∧
    (∀ n1, (s.setInj j x).bip n1 = s.bip n1) ∧ (∀ c1, (s.setInj j x).chanX c1 = s.chanX c1) ∧ (∀ t1 c1, (s.setInj j x).trib t1 c1 = s.trib t1 c1) ∧
    (∀ b1, (s.setInj j x).bank b1 = s.bank b1) ∧ (∀ g1, (s.setInj j x).group g1 = s.group g1) ∧ (∀ n1, (s.setInj j x).refx n1 = s.refx n1) ∧
    (∀ t1 c1, (s.setInj j x).xcEnd t1 c1 = s.xcEnd t1 c1) ∧ (∀ k1, (s.setInj j x).skey k1 = s.skey k1) ∧ (∀ i1, (s.setInj j x).eng i1 = s.eng i1) ∧
    (∀ c1 slot1, (s.setInj j x).prog c1 slot1 = s.prog c1 slot1) ∧ (∀ c1 slot1 w1, (s.setInj j x).pw c1 slot1 w1 = s.pw c1 slot1 w1) ∧
    (∀ q1 f1, (s.setInj j x).fifo q1 f1 = s.fifo q1 f1) ∧ (s.setInj j x).running = s.running :=
  ⟨fun _ => rfl, fun _ _ => rfl, fun _ _ => rfl, fun _ => rfl, fun _ => rfl, rfl, fun _ => rfl, fun _ => rfl, rfl, rfl, fun _ => rfl, fun _ =>
    rfl, fun _ => rfl, fun _ => rfl, fun _ => rfl, fun _ => rfl, fun _ _ => rfl, fun _ => rfl, fun _ => rfl, fun _ => rfl, fun _ _ => rfl, fun _
    => rfl, fun _ => rfl, fun _ _ => rfl, fun _ _ _ => rfl, fun _ _ => rfl, rfl⟩

@[simp] theorem State.setSkey_reads (s : State) (k : Nat) (x : KeySlot) :
    (∀ a1, (s.setSkey k x).reg a1 = s.reg a1) ∧ (∀ f1 i1, (s.setSkey k x).rd f1 i1 = s.rd f1 i1) ∧
    (∀ f1 i1, (s.setSkey k x).on f1 i1 = s.on f1 i1) ∧ (∀ n1, (s.setSkey k x).laneState n1 = s.laneState n1) ∧
    (∀ n1, (s.setSkey k x).rxState n1 = s.rxState n1) ∧ (s.setSkey k x).role = s.role ∧ (∀ b1, (s.setSkey k x).bankState b1 = s.bankState b1) ∧
    (∀ m1, (s.setSkey k x).masterFenced m1 = s.masterFenced m1) ∧ (s.setSkey k x).pstate = s.pstate ∧ (s.setSkey k x).steward = s.steward ∧
    (∀ a1, (s.setSkey k x).byte a1 = s.byte a1) ∧ (∀ n1, (s.setSkey k x).lane n1 = s.lane n1) ∧ (∀ n1, (s.setSkey k x).align n1 = s.align n1) ∧
    (∀ n1, (s.setSkey k x).vtf n1 = s.vtf n1) ∧ (∀ n1, (s.setSkey k x).bip n1 = s.bip n1) ∧ (∀ c1, (s.setSkey k x).chanX c1 = s.chanX c1) ∧
    (∀ t1 c1, (s.setSkey k x).trib t1 c1 = s.trib t1 c1) ∧ (∀ b1, (s.setSkey k x).bank b1 = s.bank b1) ∧
    (∀ g1, (s.setSkey k x).group g1 = s.group g1) ∧ (∀ n1, (s.setSkey k x).refx n1 = s.refx n1) ∧
    (∀ t1 c1, (s.setSkey k x).xcEnd t1 c1 = s.xcEnd t1 c1) ∧ (∀ j1, (s.setSkey k x).inj j1 = s.inj j1) ∧
    (∀ i1, (s.setSkey k x).eng i1 = s.eng i1) ∧ (∀ c1 slot1, (s.setSkey k x).prog c1 slot1 = s.prog c1 slot1) ∧
    (∀ c1 slot1 w1, (s.setSkey k x).pw c1 slot1 w1 = s.pw c1 slot1 w1) ∧ (∀ q1 f1, (s.setSkey k x).fifo q1 f1 = s.fifo q1 f1) ∧
    (s.setSkey k x).running = s.running :=
  ⟨fun _ => rfl, fun _ _ => rfl, fun _ _ => rfl, fun _ => rfl, fun _ => rfl, rfl, fun _ => rfl, fun _ => rfl, rfl, rfl, fun _ => rfl, fun _ =>
    rfl, fun _ => rfl, fun _ => rfl, fun _ => rfl, fun _ => rfl, fun _ _ => rfl, fun _ => rfl, fun _ => rfl, fun _ => rfl, fun _ _ => rfl, fun _
    => rfl, fun _ => rfl, fun _ _ => rfl, fun _ _ _ => rfl, fun _ _ => rfl, rfl⟩

/-! A read after a write. -/

theorem State.reg_setReg_same (s : State) (a : Nat) (v : W32) (h : s.Canonical) : (s.setReg a v).reg a = v := by
  have hr := h.regs
  unfold Tab.wf at hr
  exact Tab.get_put_same regReset s.regs a v 0 hr

theorem State.reg_setReg_other (s : State) (a b : Nat) (v : W32) (h : s.Canonical) (hb : b ≠ a) : (s.setReg a v).reg b = s.reg b := by
  have hr := h.regs
  unfold Tab.wf at hr
  exact Tab.get_put_other regReset (regReset b) s.regs a b v 0 hr hb

theorem State.byte_setByte_same (s : State) (a : Nat) (v : Byte) (h : s.Canonical) : (s.setByte a v).byte a = v := by
  have hr := h.mem
  unfold Memory.wf Tab.wf at hr
  exact Tab.get_put_same (fun _ => (0 : Byte)) s.mem a v 0 hr

theorem State.byte_setByte_other (s : State) (a b : Nat) (v : Byte) (h : s.Canonical) (hb : b ≠ a) : (s.setByte a v).byte b = s.byte b := by
  have hr := h.mem
  unfold Memory.wf Tab.wf at hr
  exact Tab.get_put_other (fun _ => (0 : Byte)) 0 s.mem a b v 0 hr hb

/-- A state whose registers alone differ, canonically, is canonical. -/
theorem State.Canonical.setReg {s : State} (h : s.Canonical) (a : Nat) (v : W32) : (s.setReg a v).Canonical :=
  ⟨Tab.wf_put _ _ _ _ h.regs, h.mem, h.msixTable, h.msixCount, h.progs, h.engs, h.units, h.shadow, h.pblk, h.tally, h.injs, h.lanes, h.aligns,
   h.vtfs, h.bips, h.cals, h.chans, h.ends, h.xc, h.banks, h.flows, h.fifos, h.groups, h.refs, h.skeys⟩

theorem State.Canonical.wr {s : State} (h : s.Canonical) (f : Fld) (i v : Nat) : (s.wr f i v).Canonical := h.setReg _ _

theorem State.Canonical.setByte {s : State} (h : s.Canonical) (a : Nat) (v : Byte) : (s.setByte a v).Canonical :=
  ⟨h.regs, Tab.wf_put (fun _ => (0 : Byte)) s.mem a v h.mem, h.msixTable, h.msixCount, h.progs, h.engs, h.units, h.shadow, h.pblk, h.tally, h.injs, h.lanes, h.aligns,
   h.vtfs, h.bips, h.cals, h.chans, h.ends, h.xc, h.banks, h.flows, h.fifos, h.groups, h.refs, h.skeys⟩

/-- A field of the register map lies within its 32-bit word. -/
def Fld.fits (f : Fld) : Prop := f.lo + f.w ≤ 32

theorem State.rd_wr_same (s : State) (f : Fld) (i v : Nat) (h : s.Canonical) (hf : f.lo + f.w ≤ 32) : (s.wr f i v).rd f i = v % 2 ^ f.w := by
  unfold State.wr State.rd
  rw [State.reg_setReg_same s _ _ h, BitVec.toNat_ofNat, Nat.mod_eq_of_lt (setBitField_lt _ _ _ _ (s.reg _).isLt hf)]
  exact bitField_setBitField_same _ _ _ _

theorem State.reg_wr_other (s : State) (f : Fld) (i v a : Nat) (h : s.Canonical) (ha : a ≠ f.addr i) : (s.wr f i v).reg a = s.reg a :=
  State.reg_setReg_other s _ _ _ h ha

theorem State.rd_wr_field (s : State) (f g : Fld) (i j v : Nat) (h : s.Canonical) (hf : f.lo + f.w ≤ 32)
    (hg : g.addr j ≠ f.addr i ∨ g.lo + g.w ≤ f.lo ∨ f.lo + f.w ≤ g.lo) : (s.wr f i v).rd g j = s.rd g j := by
  unfold State.rd
  by_cases ha : g.addr j = f.addr i
  · have hd : g.lo + g.w ≤ f.lo ∨ f.lo + f.w ≤ g.lo := by
      rcases hg with hg | hg
      · exact absurd ha hg
      · exact hg
    unfold State.wr
    rw [ha, State.reg_setReg_same s _ _ h, BitVec.toNat_ofNat, Nat.mod_eq_of_lt (setBitField_lt _ _ _ _ (s.reg _).isLt hf)]
    exact bitField_setBitField_other _ _ _ _ _ _ hd
  · rw [State.reg_wr_other s f i v _ h ha]

theorem State.lane_setLane_same (s : State) (n : Nat) (x : LaneX) (h : s.Canonical) : (s.setLane n x).lane n = x := by
  have hr := h.lanes
  unfold Tab.wf at hr
  exact Tab.get_put_same (fun _ => LaneX.init) s.lanes n x 0 hr

theorem State.lane_setLane_other (s : State) (n k : Nat) (x : LaneX) (h : s.Canonical) (hk : k ≠ n) : (s.setLane n x).lane k = s.lane k := by
  have hr := h.lanes
  unfold Tab.wf at hr
  exact Tab.get_put_other (fun _ => LaneX.init) _ s.lanes n k x 0 hr hk

theorem State.eng_setEng_same (s : State) (i : Nat) (x : Eng) (h : s.Canonical) : (s.setEng i x).eng i = x := by
  have hr := h.engs
  unfold Tab.wf at hr
  exact Tab.get_put_same (fun _ => Eng.init) s.engs i x 0 hr

theorem State.eng_setEng_other (s : State) (i k : Nat) (x : Eng) (h : s.Canonical) (hk : k ≠ i) : (s.setEng i x).eng k = s.eng k := by
  have hr := h.engs
  unfold Tab.wf at hr
  exact Tab.get_put_other (fun _ => Eng.init) _ s.engs i k x 0 hr hk

theorem State.bank_setBank_same (s : State) (b : Nat) (x : BankX) (h : s.Canonical) : (s.setBank b x).bank b = x := by
  have hr := h.banks
  unfold Tab.wf at hr
  exact Tab.get_put_same (fun _ => BankX.init) s.banks b x 0 hr

/-! The shared operations that report. -/

/-- All that a report or a completion may touch: the event ring and its marks, the registers, the MSI-X bookkeeping, the free-value counter,
the written-back indexes, what the part drives out, and the list of commands in flight. Everything else is as before. -/
structure Reported (s t : State) : Prop where
  rest : { t with regs := s.regs, msixPba := s.msixPba, msixCount := s.msixCount, evRing := s.evRing, evSeq := s.evSeq, evLost := s.evLost, writeback := s.writeback,
                  cmds := s.cmds, free := s.free, out := s.out } = s

theorem Reported.refl (s : State) : Reported s s := ⟨rfl⟩

theorem Reported.trans {s t u : State} (h : Reported s t) (k : Reported t u) : Reported s u := by
  have a := h.rest
  have b := k.rest
  constructor
  rw [← a, ← b]

theorem Reported.wr {s t : State} (h : Reported s t) (f : Fld) (i v : Nat) : Reported s (t.wr f i v) := h.trans ⟨rfl⟩

theorem Reported.ite {s t u : State} {p : Prop} [Decidable p] (h : Reported s t) (k : Reported s u) : Reported s (if p then t else u) := by
  split
  · exact h
  · exact k

theorem Reported.sendMsix {s t : State} (h : Reported s t) (v : Nat) : Reported s (t.sendMsix v) :=
  h.trans (Reported.ite ⟨rfl⟩ ⟨rfl⟩)

theorem Reported.signal {s t : State} (h : Reported s t) (cls : Nat) : Reported s (t.signal cls) := by
  unfold State.signal
  split
  · exact h
  · split
    · exact h.sendMsix _
    · refine Reported.ite (Reported.sendMsix ?_ _) ?_
      · exact h.trans ⟨rfl⟩
      · exact h.trans ⟨rfl⟩

theorem Reported.putEvent {s t : State} (h : Reported s t) (cls code ring flags unit detail : Nat) :
    Reported s (t.putEvent cls code ring flags unit detail) := by
  unfold State.putEvent
  refine Reported.signal ?_ _
  exact h.trans ⟨rfl⟩

theorem Reported.report {s t : State} (h : Reported s t) (cls code unit detail : Nat) : Reported s (t.report cls code unit detail) := by
  unfold State.report
  split
  · exact h.putEvent ..
  · exact h.trans ⟨rfl⟩

theorem Reported.complete {s t : State} (h : Reported s t) (c : CmdHead) (code : Code) (reason offset result : Nat) :
    Reported s (t.complete c code reason offset result) := by
  unfold State.complete
  refine Reported.ite (Reported.putEvent ?_ ..) ?_
  · refine Reported.ite ?_ ?_
    · exact h.trans ⟨rfl⟩
    · exact h.trans ⟨rfl⟩
  · unfold State.loseEvent
    by_cases hc : code = .illegalState
    · simp only [hc, decide_true, if_true]; exact h.trans ⟨rfl⟩
    · simp only [hc, decide_false, Bool.false_eq_true, if_false]; exact h.trans ⟨rfl⟩

theorem Reported.pairEvent {s t : State} (h : Reported s t) (f : Fld) : Reported s (t.pairEvent f) := Reported.report (h.wr _ _ _) ..

theorem Reported.gateEvent {s t : State} (h : Reported s t) (f : Fld) : Reported s (t.gateEvent f) := Reported.report (h.wr _ _ _) ..

theorem Reported.lantEvent {s t : State} (h : Reported s t) (f : Fld) (unit : Nat) : Reported s (t.lantEvent f unit) :=
  Reported.report (h.wr _ _ _) ..

/-- A command that a check stops changes only what reports it (R418). -/
theorem Reported.judge {s : State} (c : CmdHead) (l : List Check) (f : State → State) (code : Code) (off : Nat)
    (h : firstCheck l = some (code, off)) : Reported s (s.judge c l f) := by
  unfold State.judge
  split
  · exact .refl _
  · simp only [h]
    refine Reported.complete ?_ ..
    split
    · exact Reported.pairEvent (.refl _) _
    · exact .refl _

end Sys2Proof.Machine
end

