-- ==== Sys2Proof/Laws/Reset.lean ====
section
/-! SUPPORT. What a warm reset and the rails going off leave, and the shared operations that only show other state in registers. -/
namespace Sys2Proof.Machine

/-- Registers, and the lanes' own state, alone differ. -/
structure LanesOnly (s t : State) : Prop where
  rest : { t with regs := s.regs, lanes := s.lanes } = s

theorem LanesOnly.refl (s : State) : LanesOnly s s := ⟨rfl⟩

theorem LanesOnly.trans {s t u : State} (h : LanesOnly s t) (k : LanesOnly t u) : LanesOnly s u := by
  have a := h.rest
  have b := k.rest
  constructor
  rw [← a, ← b]

theorem LanesOnly.wr {s t : State} (h : LanesOnly s t) (f : Fld) (i v : Nat) : LanesOnly s (t.wr f i v) := h.trans ⟨rfl⟩

theorem LanesOnly.setLane {s t : State} (h : LanesOnly s t) (n : Nat) (x : LaneX) : LanesOnly s (t.setLane n x) := h.trans ⟨rfl⟩

theorem LanesOnly.iter {s t : State} (f : Nat → State → State) (hf : ∀ n u, LanesOnly u (f n u)) (lo k : Nat) (h : LanesOnly s t) :
    LanesOnly s (iter f lo k t) := by
  induction k generalizing lo t with
  | zero => exact h
  | succ k ih => exact ih (lo + 1) (h.trans (hf lo t))

theorem LanesOnly.loadLaneDesc {s t : State} (h : LanesOnly s t) (n : Nat) : LanesOnly s (t.loadLaneDesc n) := by
  unfold State.loadLaneDesc State.loadFir
  exact ((((((((h.setLane _ _).wr _ _ _).wr _ _ _).wr _ _ _).wr _ _ _).wr _ _ _).wr _ _ _).wr _ _ _ |>.wr _ _ _).wr _ _ _

theorem LanesOnly.showFuses {s t : State} (h : LanesOnly s t) : LanesOnly s t.showFuses := by
  unfold State.showFuses
  exact ((((h.wr _ _ _).wr _ _ _).wr _ _ _).wr _ _ _).wr _ _ _

theorem LanesOnly.showLedg {s t : State} (h : LanesOnly s t) : LanesOnly s t.showLedg := by
  unfold State.showLedg
  exact ((h.wr _ _ _).wr _ _ _).wr _ _ _

/-- Every other field is as it was. -/
theorem LanesOnly.fields {s t : State} (h : LanesOnly s t) :
    t.fuses = s.fuses ∧ t.onceDone = s.onceDone ∧ t.cmds = s.cmds ∧ t.changes = s.changes ∧ t.faultN = s.faultN ∧ t.resetN = s.resetN ∧
    t.aon = s.aon ∧ t.mill = s.mill ∧ t.pending = s.pending ∧ t.desc = s.desc ∧ t.ledg = s.ledg := by
  rw [← h.rest]
  exact ⟨rfl, rfl, rfl, rfl, rfl, rfl, rfl, rfl, rfl, rfl, rfl⟩

/-- What a warm reset keeps, and what it drops (R409). -/
theorem State.warmReset_fields (s : State) (p : Bool) :
    (s.warmReset p).fuses = s.fuses ∧ (s.warmReset p).onceDone = s.onceDone ∧ (s.warmReset p).cmds = [] ∧ (s.warmReset p).changes = [] ∧
    (s.warmReset p).faultN = [] ∧ (s.warmReset p).resetN = s.resetN ∧ (s.warmReset p).aon = s.aon ∧ (s.warmReset p).mill = s.mill ∧
    (s.warmReset p).pending = s.pending ∧ (s.warmReset p).desc = s.desc ∧ (s.warmReset p).ledg = s.ledg.survive := by
  unfold State.warmReset
  exact (LanesOnly.iter _ (fun n u => (LanesOnly.refl u).loadLaneDesc n) 0 96 (((LanesOnly.refl _).wr _ _ _).wr _ _ _).showFuses.showLedg).fields

end Sys2Proof.Machine
end

