-- ==== Sys2Proof/Tests/Slice0.lean ====
section
/-! SUPPORT. Tests of the model's own: small steps, what well-formedness refuses, and for every statement with hypotheses a state and operands
that meet them. -/
namespace Sys2Proof.Tests
open Sys2Proof Sys2Proof.Machine

/-! Small states. -/

/-- The part runs. -/
def runS : State := { State.reset with startup := .done }
/-- The part runs, and its host link is trained. -/
def runH : State := runS.wr R.HOST_STATUS.link_gen 0 1
/-- Lane 0 is ACTIVE, its receiver in SEEK. -/
def actS : State := runS.wr R.LANE_STATE.lane_state 0 2
/-- Lane 0 is QUIET. -/
def quietS : State := runS.wr R.LANE_STATE.lane_state 0 3
/-- The event ring is served and holds 16 entries. -/
def evS : State := (((runS.wr R.HOST_RING_CFG_x.en 4 1).wr R.HOST_RING_CFG_x.active 4 1).wr R.HOST_RING_CFG_x.lg_size 4 4)
/-- The reset state is sound. -/
theorem reset_canonical : State.reset.Canonical := by constructor <;> decide +kernel
theorem reset_sound : State.reset.Sound := ⟨by decide, reset_canonical, by decide⟩
/-- A command from ring 0 with tag 7, its reserved bytes 0. -/
def hd : CmdHead := { ring := 0, tag := 7, rsv := none }
/-- An Almanac program by its number. -/
def almProg (n : Nat) : Prog :=
  { id := n, version := 1, unsigned := false, align := .blocks, wcRx := 0, wcTx := 0, wcFrame := 0, wcInit := 0, wcDetach := 0, nParam := 8,
    nStatus := 8, entries := [], codeBase := 0, codeLen := 0, imageAddr := 0, imageLen := 0, thread := 8, order := 0, ranges := [],
    image := [], edge := none }
/-- Lane 0 runs at 10.56 Gb/s in TRACK, and the VTF program is attached to its channel. -/
def vtfS : State :=
  (((actS.wr R.LANE_STATE.rx_state 0 2).setLane 0 { LaneX.init with rate := 10560000 * 1000 * 2 ^ 16, width := 1 }).setProg 0 0 (some (almProg 1)))
/-- Lane 0 is ACTIVE, and the Ethernet program is attached to its channel. -/
def ethS : State := actS.setProg 0 0 (some (almProg 2))
/-- The receive MAC of channel 0 is up. -/
def macS : State := ethS.setAlign 0 { AlignX.init with blLock := true }
/-- The steward has aligned lane 0, whose channel runs the CPRI program. -/
def cpriS : State := ((actS.wr R.LANE_STATE.rx_state 0 2).setProg 0 0 (some { almProg 3 with align := .chars8b10b })).setAlign 0 { AlignX.init with search := .aligned 0 }
/-- Lane 0 is in TRACK, and its program takes 8B/10B characters. -/
def slipS : State := (actS.wr R.LANE_STATE.rx_state 0 2).setProg 0 0 (some { almProg 3 with align := .chars8b10b })
/-- A frame identity and its word. -/
def goodFiw : Fiw :=
  { nodeId := 7, laneInBond := 0, bonded := false, calSel := 0, rateCode := 0, subframe := 1, sfn := 2, calCnt := 0, calf := false, frameNo := 3 }
def goodFiwV : BitVec 64 := BitVec.ofNat 64 goodFiw.word
/-- TC3 of a timing message of type 2 whose other words are 0. -/
def goodTc3 : BitVec 64 := BitVec.ofNat 64 (2 * 2 ^ 36 + crc16 [0, 0, 0] (2 * 2 ^ 36) * 2 ^ 48)
/-- A CBR tributary header of tributary `t`, and a sheaf header. -/
def goodTh (t : Nat) : BitVec 64 := BitVec.ofNat 64 (thCbr t 0 0 false 0)
def goodSheaf : BitVec 64 := BitVec.ofNat 64 (withCrc8 (5 * 2 ^ 40 + 100 * 2 ^ 26))
/-- Channel 0 of `vtfS` with column 0 of both calendars given to tributary 3. -/
def mapS : State := (vtfS.setCal 0 0 0 0 0x80000003).setCal 0 1 0 0 0x80000003
/-- Channel 0 delivers payload of tributary 3. -/
def delS : State := (mapS.setVtf 0 { VtfX.init with mfSync := true }).setTrib 3 0 { EndX.init with thKind := 0 }
/-- Channel 0 delivers to the trunk program, its sheaf receiver in SH_SYNC. -/
def sheafS : State := (delS.setProg 0 1 (some (almProg 6))).setTrib 3 0 { EndX.init with sync := true }
/-- A protection group 0 of tributary 3, and an APS word for it. -/
def apsS : State := ((delS.wr R.PAIR_PROT_CFG_g.p_channel 0 9).wr R.PAIR_PROT_g.valid 0 1).wr R.PAIR_PROT_g.trib_id 0 3
def goodAps : BitVec 64 := BitVec.ofNat 64 (withCrc8 (3 * 2 ^ 40))
/-- Client channel 4 of tributary 3, with a word to deliver from channel 0. -/
def cbrS : State :=
  ((((mapS.setProg 4 1 (some (almProg 5))).setPw 4 1 9 1).setPw 4 1 8 3).setTrib 3 0 { EndX.init with buf := [(0, 77, true)] })
/-- An insert item. -/
def insI : Insert := { oneStep := false, twoStep := false, tag := 0, bytes := [] }
/-- Channel 0 is integrated, with a raw loss of signal. -/
def defS : State := (vtfS.setProg 0 2 (some (almProg 7))).wr R.LANE_STATE.los 0 1
/-- A qualified tracker row, and thirty-three failing rows. -/
def rowT : Track := { row := 5, pos := 0, pass := 1, qualified := true }
def failRows : List (BitVec 15) := List.replicate 33 0
/-- A handler of channel 0, and a program on it with a TX beat entry. -/
def beatH : Handler := ⟨0, 0, 4⟩
def beatS : State := runS.setProg 0 0 (some { almProg 9 with entries := [0xFFFFFFFF, 0xFFFFFFFF, 4, 0xFFFFFFFF, 0xFFFFFFFF] })
/-- Image fetches. -/
def fetR : Fetch := { head := hd, addr := 0, len := 0, use := .reeve 1 }
def fetA : Fetch := { head := hd, addr := 0, len := 0, use := .attach 3 2 false }
/-- Thread 1 of Weaver 0 runs. -/
def runT : State := runS.setEng 1 { Eng.init with running := true }
def blkE : Eng := { Eng.init with running := true, todo := [⟨0, 2, 0⟩] }
def flwE : Eng := { Eng.init with running := true, flowHeld := [9] }
def grnE : Eng := { Eng.init with running := true, grneHeld := [(7, some 4)] }
def hndE : Eng := { Eng.init with running := true, handles := [(0, 6)] }
/-- A packet of 64 bytes, and a thread that sends it. -/
def pktP : Packet :=
  { id := 6, queue := 0, bytes := List.replicate 64 0, cells := [], len := 64, sendBy := 0, carried := none, late := false, err := false,
    ct := false, joined := true, joinedAt := 0, order := 0, whole := true, departing := true, begun := false, channel := 0, arrival := 0 }
def gwrE : Eng := { Eng.init with running := true, cur := some (6, 0), g := [(2, 8 * 2 ^ 16)] }
/-- A program with a status word 5 words into its block, and a thread that writes it. -/
def staP : Prog := { almProg 9 with nParam := 0, nStatus := 8 }
def staE : Eng := { Eng.init with running := true, todo := [⟨0, 2, 0⟩], g := [(5, 8)] }
/-- A thread that writes 0 to unit 3 of its lane. -/
def untE : Eng := { Eng.init with running := true, g := [(5, 3)] }

/-- A slew under way. -/
def slewK : Slew := { left := 5, ppb := 1, acc := 0, head := hd }

/-- Group 0 of `apsS` with channel 0 as its path W, whose end shows sf. -/
def sfS : State := apsS.wr R.TALLY_DEF_TRIB_t.end0 3 16
/-- A packet copy for queue 0. -/
def copP : PktCopy := { queue := 0, channel := 0, arrival := 0, sendBy := 0, late := false, err := false, bytes := [] }
/-- Reeve 1 is a TINKER target, halted and not. -/
def tinR : State := (runH.wr R.LANT_STATUS.level 0 2).wr R.LANT_STATUS.tinker 0 (2 ^ 25)
def tinS : State := tinR.setEng 385 { Eng.init with halted := true }
/-- The Millrace sequences rails, and is in phase `p` of device 2. -/
def seqS (p : SeqPhase) : State := { State.reset with startup := .step 4, mill := { State.reset.mill with phase := p, todo := [2, 3] } }
/-- The descriptor names PMBus device 0. -/
def pmbS : State := { runS with desc := [(0x660, 0x80)] }
/-- The descriptor names lane 0. -/
def onBoard (s : State) : State := { s with desc := [(0x40, 1)] }
/-- Lane 0 populated and ACTIVE, QUIET, and on its way. -/
def slpS : State := onBoard actS
def quiS : State := onBoard quietS
def movS : State := (onBoard actS).setLane 0 { LaneX.init with move := .toQuiet }
/-- Lane 0 populated at 10.56 Gb/s. -/
def attS : State := onBoard ((actS.wr R.LANE_STATE.rx_state 0 2).setLane 0 { LaneX.init with rate := 10560000 * 1000 * 2 ^ 16, width := 1 })
/-- A host program with one parameter that may be anything. -/
def hostP : Prog := { almProg 9 with id := 4097, ranges := [(0, 100, 0), (0, 100, 0), (0, 100, 0), (0, 100, 0), (0, 100, 0), (0, 100, 0), (0, 100, 0), (0, 100, 0)], imageLen := 64 }
def detS : State := (onBoard actS).setProg 0 0 (some hostP)
/-- Populated lane 0 runs the VTF program at 10.56 Gb/s, and the Ethernet program's channel at 10.3125 Gb/s. -/
def calS : State := onBoard vtfS
def qcrS : State := onBoard (actS.setLane 0 { LaneX.init with rate := 10312500 * 1000 * 2 ^ 16, width := 1 })
/-- Queue 5 is valid; trunk 7 is valid. -/
def queS : State := runS.wr R.GRN_QD_CTRL.valid 5 1
def tdlS : State := runS.wr R.GRN_TRUNK_t.valid 7 1
/-- The part is in P0, in a mode that may pair, and the active of a pair. -/
def modS : State := runS.wr R.MILL_STATUS.pstate 0 0
def joiS : State := { modS.wr R.PAIR_CTRL.solo_take 0 1 with mode := .errand }
def takS : State := { modS.wr R.PAIR_STATUS.role 0 1 with pair := { modS.pair with twinRole := 2 } }
/-- DPLL1 is in HOST mode. -/
def stpS : State := runS.wr R.BELL_DPLL_CFG_d.mode 1 5
/-- Weaver 3 is fenced, and reset since. -/
def lftS : State := (runS.wr R.WVR_STATUS.fence_cause 3 1).wr R.WVR_STATUS.wvr_reset_done 3 1
/-- Populated lane 0 is fenced, and reset since. -/
def lunS : State := (onBoard (runS.wr R.LANE_STATE.lane_state 0 5)).wr R.LANE_STATE.lane_reset_done 0 1

/-! Figures of the spec's worked examples. -/

/-- R78, worked example: the scrambler seed of lane_in_bond 2 at sfn 517, subframe 3, frame_no 142. -/
theorem test_scramble_seed : scrambleSeed 517 3 142 2 = 0x020534755A5A5A5A := by decide +kernel
/-- R416, worked example: HARVEST to SUNDIAL accepted at sfn 100, subframe 7, frame 390 acts at sfn 101, subframe 0, frame 0. -/
theorem test_mode_boundary_sundial :
    let s : State := { modS with mode := .harvest, frame := 100 * 4000 + 7 * 400 + 390 }
    s.dueFrame (s.modeDue .sundial) = 101 * 4000 := by decide +kernel
/-- R416: between two other modes the boundary need not have subframe 0. -/
theorem test_mode_boundary_errand :
    let s : State := { modS with mode := .harvest, frame := 100 * 4000 + 7 * 400 + 390 }
    s.dueFrame (s.modeDue .errand) = 100 * 4000 + 9 * 400 := by decide +kernel
/-- R151, worked examples of CPRI options 7 and 10: 20 and 48 slots are enough, 19 and 47 are not. -/
theorem test_slots_option_7 : slotsEnough .harvest (9830400 * 1000 * 2 ^ 16) 20 = true ∧ slotsEnough .harvest (9830400 * 1000 * 2 ^ 16) 19 = false := by decide +kernel
theorem test_slots_option_10 :
    slotsEnough .sundial (24330240 * 1000 * 2 ^ 16) 48 = true ∧ slotsEnough .harvest (24330240 * 1000 * 2 ^ 16) 47 = false := by decide +kernel
/-- Table 14.13: a lane at 111.7634 Gb/s is admitted with 0.009 W per Gb/s. -/
theorem test_lane_power : activePower (111763424 * 1000 * 2 ^ 16) = 1005870 := by decide +kernel
/-- R212, worked example: with 86 banks in use a queue of min_cells 880 keeps 860. -/
theorem test_min_eff : (runS.wr R.GRN_QD_MIN.min_cells 5 880).minEffAt 5 86 = 860 := by decide +kernel

/-! Single steps. -/

/-- Thread 0 of Weaver 0, with a register. -/
def regS (i : Fin 32) (v : Nat) : State := runS.setEng 0 { Eng.init with running := true, g := [(i.val, v)] }
/-- R268: addi sign-extends its immediate, and wraps. -/
theorem test_addi_wraps : ∃ t, exec (.addi (.thread 0 0) 2 3 0xFFFF) (regS 3 0) = .next t ∧
    (t.eng 0).due.map (fun x => (x.dest, x.val)) = [(.reg 2, 2 ^ 64 - 1)] := ⟨_, rfl, by decide +kernel⟩
/-- R268: alu function 1 subtracts rb from ra. -/
theorem test_sub_order : aluFn 1 5 7 = 2 ^ 64 - 2 ∧ aluFn 0xA (2 ^ 64 - 1) 1 = 2 ^ 64 - 1 ∧ aluFn 0xC (2 ^ 64 - 1) 1 = 1 := by decide +kernel
/-- NOP completes with OK and its tag, in an event entry of class 0. -/
theorem test_nop_completes : ∃ t, exec (.nop hd) evS = .next t ∧ t.evRing.length = evS.evRing.length + 1 := ⟨_, rfl, by decide +kernel⟩
/-- R419: a reserved byte that is not 0 gives BAD_ARG with its offset, and nothing is counted as ILLEGAL_STATE. -/
theorem test_reserved_byte : firstCheck (evS.common { hd with rsv := some 9 } false false) = some (.badArg, 9) := by decide +kernel
/-- R418: BAD_ARG stands before ILLEGAL_STATE wherever it was found. -/
theorem test_code_order : firstCheck [(true, .illegalState, 0xFF), (true, .badArg, 8)] = some (.badArg, 8) := by decide +kernel
/-- On an empty queue the part idles; a command placed in front is the one that runs. -/
theorem test_step_idle : step State.reset = .next State.reset := rfl
theorem test_step_front : step { evS with pending := [.nop hd, .fnop (.reeve 0)] } = exec (.nop hd) { evS with pending := [.fnop (.reeve 0)] } := rfl
/-- No row of the table gives bits, so no word spells a command. -/
theorem test_no_word : decodeTableWord 32 0 = none := rfl

/-! What well-formedness refuses. -/

theorem wf_transitions : Instr.wf (.transitionWindowEnd 0 1025) = false ∧ Instr.wf (.transitionWindowEnd 0 1024) = true := by decide +kernel
theorem wf_snapshot_window : Instr.wf (.snapshotWindowEnd 0 2 1) = false := by decide +kernel
theorem wf_prbs_window : Instr.wf (.prbsCheckWindow 0 3 4) = false ∧ Instr.wf (.prbsCheckWindow 0 1025 0) = false := by decide +kernel
theorem wf_mcc_cell : Instr.wf (.mccCellReceive 0 [0]) = false := by decide +kernel
theorem wf_cal_adv : Instr.wf (.calAdvSegmentReceive 0 [0]) = false := by decide +kernel
theorem wf_hyperframe : Instr.wf (.cpriHyperframeReceive 0 true true 150 0 0 0) = false := by decide +kernel
theorem wf_bit_fields : Instr.wf (.bext (.reeve 0) 0 0 63 1 false) = false ∧ Instr.wf (.bins (.reeve 0) 0 0 32 32) = false := by decide +kernel
theorem wf_predicates : Instr.wf (.cmp (.reeve 0) 0 0 0 0 0) = false ∧ Instr.wf (.cmpi (.reeve 0) 0 0 0 0) = false ∧
    Instr.wf (.pop (.reeve 0) 0 0 0 false 0 false 0) = false := by decide +kernel
theorem wf_repeats : Instr.wf (.rep (.reeve 0) 0 1) = false ∧ Instr.wf (.repg (.reeve 0) 1 0 0) = false := by decide +kernel
theorem wf_bypass : Instr.wf (.jtagBypass 1) = false := by decide +kernel
theorem wf_rails : Instr.wf (.railSequenceStep 0 []) = false := by decide +kernel
theorem wf_sensors : Instr.wf (.sensorRead [] [] []) = false ∧ Instr.wf (.ioutRecalibrate []) = false := by decide +kernel
theorem wf_lists : Instr.wf (.paramWrite hd 0 0 8 (List.replicate 256 0)) = false ∧ Instr.wf (.refConfig hd (List.replicate 256 (0, 0))) = false ∧
    Instr.wf (.regConfig hd (List.replicate 256 (0, 0))) = false := by decide +kernel
theorem wf_images : Instr.wf (.calendarStageWrite hd 0 8 []) = false ∧ Instr.wf (.calendarStageRead hd 0 8 []) = false := by decide +kernel
theorem wf_buffers : Instr.wf (.debugUnlockResponse hd 0 0 []) = false ∧ Instr.wf (.gateCall hd 1 0 0 8 0 []) = false ∧
    Instr.wf (.gateCall hd 1 0 0 257 0 []) = true := by decide +kernel

/-! Witnesses of the statements' hypotheses. -/

/-- States and operands that meet the hypotheses of `Obligations.StepRunsFront`. -/
theorem witness_stepRunsFront :
    ∃ (s : State), s.pending = [] :=
  ⟨State.reset, by decide +kernel⟩

/-- States and operands that meet the hypotheses of `Obligations.StepKeepsSound`. -/
theorem witness_stepKeepsSound :
    ∃ (s t : State), s.Sound ∧ step s = .next t :=
  ⟨State.reset, State.reset, reset_sound, by rfl⟩

/-- States and operands that meet the hypotheses of `Obligations.FusesOnlyGrow`. -/
theorem witness_fusesOnlyGrow :
    ∃ (s t : State), step s = .next t :=
  ⟨State.reset, State.reset, by rfl⟩

/-- States and operands that meet the hypotheses of `Obligations.OnlyTheFrontLeavesTheQueue`. -/
theorem witness_onlyTheFrontLeavesTheQueue :
    ∃ (c : Instr) (l : List Instr) (s t : State), step { s with pending := c :: l } = .next t :=
  ⟨.fnop (.reeve 0), [], State.reset, State.reset, by rfl⟩

/-- States and operands that meet the hypotheses of `Obligations.RegisterReadsBack`, one for each clause that has any. -/
theorem witness_registerReadsBack :
    (∃ (s : State) (f : Fld) (i v : Nat), s.Canonical ∧ f.lo + f.w ≤ 32) ∧
    (∃ (s : State) (f g : Fld) (i j v : Nat), s.Canonical ∧ f.lo + f.w ≤ 32 ∧ (g.addr j ≠ f.addr i ∨ g.lo + g.w ≤ f.lo ∨ f.lo + f.w ≤
      g.lo)) ∧
    (∃ (s : State) (f : Fld) (i v a : Nat), s.Canonical ∧ a ≠ f.addr i) :=
  ⟨⟨State.reset, R.LANE_STATE.lane_state, 0, 2, by constructor <;> decide +kernel, by decide +kernel⟩,
   ⟨State.reset, R.LANE_STATE.lane_state, R.LANE_STATE.los, 0, 0, 2, by constructor <;> decide +kernel, by decide +kernel,
     by decide +kernel⟩,
   ⟨State.reset, R.LANE_STATE.lane_state, 0, 2, 0, by constructor <;> decide +kernel, by decide +kernel⟩⟩

/-- States and operands that meet the hypotheses of `Obligations.MemoryReadsBack`. -/
theorem witness_memoryReadsBack :
    ∃ (s : State) (a n v : Nat), s.Canonical :=
  ⟨State.reset, 0, 4, 258, by constructor <;> decide +kernel⟩

/-- States and operands that meet the hypotheses of `Obligations.OnceFieldStays`, one for each clause that has any. -/
theorem witness_onceFieldStays :
    (∃ (m : Fin 8) (v : BitVec 3) (s : State), m.val ≤ 5 ∧ s.reaches m = true ∧ 0x400C ∈ s.onceDone) ∧
    (∃ (m : Fin 8) (s : State), s.Canonical) :=
  ⟨⟨5, 3, { runS with onceDone := [0x400C] }, by decide +kernel, by decide +kernel, by decide +kernel⟩,
   ⟨7, State.reset, by constructor <;> decide +kernel⟩⟩

/-- States and operands that meet the hypotheses of `Obligations.ScrubSkipsRestingBanks`, one for each clause that has any. -/
theorem witness_scrubSkipsRestingBanks :
    (∃ (b : Fin 96) (finds : List (BitVec 2 × BitVec 3 × EccFind)) (s : State), (s.bankState b = 2 ∨ s.bankState b = 3)) ∧
    (∃ (b : Nat) (s : State), s.Canonical) :=
  ⟨⟨0, [], runS.wr R.GRN_BANK_b.state 0 2, by decide +kernel⟩,
   ⟨95, State.reset, by constructor <;> decide +kernel⟩⟩

/-- States and operands that meet the hypotheses of `Obligations.IllegalStateIsLogged`, one for each clause that has any. -/
theorem witness_illegalStateIsLogged :
    (∃ (s : State) (h : CmdHead) (reason offset result : Nat), s.Canonical ∧ s.evOpen = true) ∧
    (∃ (s : State) (h : CmdHead) (reason offset result : Nat), s.Canonical) :=
  ⟨⟨evS, hd, 0, 255, 0, by constructor <;> decide +kernel, by decide +kernel⟩,
   ⟨State.reset, hd, 0, 255, 0, by constructor <;> decide +kernel⟩⟩

/-- States and operands that meet the hypotheses of `Obligations.FirstCodeOfR418`, one for each clause that has any. -/
theorem witness_firstCodeOfR418 :
    (∃ (l : List Check) (code : Code) (off : Nat), firstCheck l = some (code, off)) ∧
    (∃ (s : State) (h : CmdHead) (l : List Check) (f : State → State) (code : Code) (off : Nat), firstCheck l = some (code, off)) :=
  ⟨⟨[(true, .busy, 1), (true, .badArg, 2), (false, .badArg, 3)], .badArg, 2, by decide +kernel⟩,
   ⟨runS, hd, [(true, .badArg, 8)], (fun s => s), .badArg, 8, by decide +kernel⟩⟩

/-- States and operands that meet the hypotheses of `Obligations.EventRingWritesOrLoses`, one for each clause that has any. -/
theorem witness_eventRingWritesOrLoses :
    (∃ (s : State) (cls code unit detail : Nat), s.evOpen = true ∧ s.cmds.length < s.evFree) ∧
    (∃ (s : State) (cls code unit detail : Nat), s.Canonical ∧ ¬ (s.evOpen = true ∧ s.cmds.length < s.evFree)) :=
  ⟨⟨evS, 8, 1, 2, 3, by decide +kernel, by decide +kernel⟩,
   ⟨State.reset, 8, 1, 2, 3, by constructor <;> decide +kernel, by decide +kernel⟩⟩

/-- States and operands that meet the hypotheses of `Obligations.StartupSteps`, one for each clause that has any. -/
theorem witness_startupSteps :
    (∃ (s : State), s.startup = .step 1) ∧
    (∃ (s : State), s.startup = .step 6) ∧
    (∃ (s : State) (pair serdes osc : Bool), s.startup = .step 5) ∧
    (∃ (gen width : BitVec 4) (s : State), s.running = true) :=
  ⟨⟨State.reset, by decide +kernel⟩,
   ⟨{ State.reset with startup := .step 6 }, by decide +kernel⟩,
   ⟨{ State.reset with startup := .step 5 }, true, true, true, by decide +kernel⟩,
   ⟨5, 8, runS, by decide +kernel⟩⟩

/-- States and operands that meet the hypotheses of `Obligations.WarmResetRuns`. -/
theorem witness_warmResetRuns :
    ∃ (s : State), s.corePowered = true ∧ s.startup ≠ .heldPairClk :=
  ⟨runS, by decide +kernel, by decide +kernel⟩

/-- States and operands that meet the hypotheses of `Obligations.ClockAndThermalWatch`, one for each clause that has any. -/
theorem witness_clockAndThermalWatch :
    (∃ (s : State), s.corePowered = true) ∧
    (∃ (s : State), s.startup = .heldPairClk) ∧
    (∃ (s : State), s.aon.serdesLost = true) ∧
    (∃ (s : State), s.Canonical) :=
  ⟨⟨runS, by decide +kernel⟩,
   ⟨{ runS with startup := .heldPairClk }, by decide +kernel⟩,
   ⟨{ runS with aon := { runS.aon with serdesLost := true } }, by decide +kernel⟩,
   ⟨runS, by constructor <;> decide +kernel⟩⟩

/-- States and operands that meet the hypotheses of `Obligations.ReeveControl`, one for each clause that has any. -/
theorem witness_reeveControl :
    (∃ (m : Fin 8) (r : Fin 4) (burst : Bool) (s : State), s.writesAs m = true) ∧
    (∃ (m : Fin 8) (r : Fin 4) (s : State), s.writesAs m = true) ∧
    (∃ (r : Fin 4) (s : State), s.running = true ∧ (s.eng (384 + r.val)).resetting = false) ∧
    (∃ (r : Fin 4) (s : State), (s.eng (384 + r.val)).resetting = true ∧ s.stewardOn = true) ∧
    (∃ (r : Fin 4) (rd e : Nat) (s : State), s.running = true ∧ s.reeveFenced r = false ∧ (s.eng (384 + r.val)).halted = false ∧ (s.eng
      (384 + r.val)).stall = some (.await rd) ∧ lowestBit ((s.eng (384 + r.val)).events &&& (s.eng (384 + r.val)).mask) 32 = some e) ∧
    (∃ (r : Fin 4) (a : Nat) (s : State), s.running = true ∧ (s.eng (384 + r.val)).alarm = some a ∧ a ≤ s.time / 2 ^ 16 + 2500) ∧
    (∃ (r : Fin 4) (cycles : BitVec 32) (f rd unit : Nat) (s : State), (s.eng (384 + r.val)).stall = some (.pwr f rd unit)) ∧
    (∃ (r : Fin 4) (cycles : BitVec 32) (err ack : Bool) (f rd a b : Nat) (s : State), (s.eng (384 + r.val)).stall = some (.ckpt f rd a b)) ∧
    (∃ (r : Fin 4) (cycles : BitVec 16) (rd a : Nat) (s : State), s.running = true ∧ s.reeveFenced r = false ∧ s.hung = [] ∧ (s.eng (384 +
      r.val)).stall = some (.bus (some rd) a 0 false) ∧ a % 4 = 0 ∧ unmapped a = false) :=
  ⟨⟨0, 1, true, runH, by decide +kernel⟩,
   ⟨0, 1, runH, by decide +kernel⟩,
   ⟨2, runS, by decide +kernel, by decide +kernel⟩,
   ⟨2, runS.setEng 386 { Eng.init with resetting := true }, by decide +kernel, by decide +kernel⟩,
   ⟨1, 3, 2, runS.setEng 385 { Eng.init with stall := some (.await 3), events := 12, mask := 4 }, by decide +kernel, by decide +kernel,
     by decide +kernel, by decide +kernel, by decide +kernel⟩,
   ⟨1, 2500, runS.setEng 385 { Eng.init with alarm := some 2500 }, by decide +kernel, by decide +kernel, by decide +kernel⟩,
   ⟨1, 100, 0, 3, 2, runS.setEng 385 { Eng.init with stall := some (.pwr 0 3 2) }, by decide +kernel⟩,
   ⟨1, 100, true, false, 2, 3, 0, 0, runS.setEng 385 { Eng.init with stall := some (.ckpt 2 3 0 0) }, by decide +kernel⟩,
   ⟨1, 100, 3, 0x4000, runS.setEng 385 { Eng.init with stall := some (.bus (some 3) 0x4000 0 false) }, by decide +kernel,
     by decide +kernel, by decide +kernel, by decide +kernel, by decide +kernel, by decide +kernel⟩⟩

/-- States and operands that meet the hypotheses of `Obligations.Boundaries`, one for each clause that has any. -/
theorem witness_boundaries :
    (∃ (drift : BitVec 16) (s : State), s.running = true) ∧
    (∃ (twin : BitVec 96) (s : State), s.running = true ∧ s.frame % 400 = 0) ∧
    (∃ (s : State), s.running = true) :=
  ⟨⟨0, runS, by decide +kernel⟩,
   ⟨0, runS, by decide +kernel, by decide +kernel⟩,
   ⟨runS, by decide +kernel⟩⟩

/-- States and operands that meet the hypotheses of `Obligations.CarrierStops`. -/
theorem witness_carrierStops :
    ∃ (drift : BitVec 16) (twin : BitVec 96) (s : State), s.running = false :=
  ⟨0, 0, State.reset, by decide +kernel⟩

/-- States and operands that meet the hypotheses of `Obligations.ReceiverStates`, one for each clause that has any. -/
theorem witness_receiverStates :
    (∃ (n : Fin 96) (w : BitVec 512) (s : State), s.laneState n = 2 ∧ (s.lane n).rxQueue.length < 64) ∧
    (∃ (n : Fin 96) (w : Nat) (t : List (Nat × Bool)) (s : State), (s.lane n).rxQueue = (w, false) :: t) ∧
    (∃ (n : Fin 96) (s : State), s.laneState n = 2 ∧ s.rxState n = 0) ∧
    (∃ (n : Fin 96) (s : State), s.laneState n = 2 ∧ s.rxState n = 1) ∧
    (∃ (n : Fin 96) (s : State), s.laneState n = 2 ∧ s.rxState n ≤ 1) ∧
    (∃ (n : Fin 96) (mvpp : BitVec 16) (s : State), s.Canonical ∧ s.detects n = true ∧ s.laneState n = 3 ∧ s.on R.LANE_STATE.los n = false
      ∧ mvpp.toNat < 20 + 5 * s.rd R.LANE_LOS_CFG.los_on n) ∧
    (∃ (n : Fin 96) (mvpp : BitVec 16) (late : Bool) (s : State), s.Canonical ∧ s.detects n = true ∧ s.laneState n = 3 ∧ s.on
      R.LANE_STATE.los n = true ∧ 20 + 5 * s.rd R.LANE_LOS_CFG.los_off n < mvpp.toNat) ∧
    (∃ (n : Fin 96) (ofs : BitVec 32) (s : State), s.Canonical ∧ s.detects n = true ∧ s.laneState n = 2 ∧ s.rxState n = 3) ∧
    (∃ (n : Fin 96) (s : State), (s.lane n).wake = .restored ∧ s.laneState n = 2 ∧ s.rxState n ≠ 2) :=
  ⟨⟨0, 5, actS, by decide +kernel, by decide +kernel⟩,
   ⟨3, 7, [(8, true)], runS.setLane 3 { LaneX.init with rxQueue := [(7, false), (8, true)] }, by decide +kernel⟩,
   ⟨0, actS, by decide +kernel, by decide +kernel⟩,
   ⟨0, actS.setRx 0 1, by decide +kernel, by decide +kernel⟩,
   ⟨0, actS, by decide +kernel, by decide +kernel⟩,
   ⟨0, 10, quietS, by constructor <;> decide +kernel, by decide +kernel, by decide +kernel, by decide +kernel, by decide +kernel⟩,
   ⟨0, 0xFFF, false, quietS.wr R.LANE_STATE.los 0 1, by constructor <;> decide +kernel, by decide +kernel, by decide +kernel,
     by decide +kernel, by decide +kernel⟩,
   ⟨0, 5, actS.setRx 0 3, by constructor <;> decide +kernel, by decide +kernel, by decide +kernel, by decide +kernel⟩,
   ⟨0, actS.setLane 0 { LaneX.init with wake := .restored }, by decide +kernel, by decide +kernel, by decide +kernel⟩⟩

/-- States and operands that meet the hypotheses of `Obligations.CalibrationAndFences`, one for each clause that has any. -/
theorem witness_calibrationAndFences :
    (∃ (q : Fin 24) (us : BitVec 16) (s : State), s.rd R.QUAD_PLL.pll_state q = 1) ∧
    (∃ (n : Fin 104) (k : Nat) (dt dr : BitVec 16) (s : State), n.val < 96 ∧ s.laneState n = 1 ∧ s.rd R.LANE_STATE.cal_step n = k ∧ 0 < k ∧
      k < 7) ∧
    (∃ (n : Fin 104) (s : State), n.val < 96 ∧ (s.laneState n = 2 ∨ s.laneState n = 3)) ∧
    (∃ (q : Fin 25) (s : State), q.val < 24 ∧ s.rd R.QUAD_PLL.pll_state q = 3) ∧
    (∃ (n : Fin 96) (k : Nat) (s : State), (s.lane n).wake = .trim k ∧ (k = 1 ∨ k = 5)) ∧
    (∃ (n : Fin 96) (s : State), (s.lane n).resetting = true) :=
  ⟨⟨2, 30, runS.wr R.QUAD_PLL.pll_state 2 1, by decide +kernel⟩,
   ⟨0, 2, 0, 0, (runS.wr R.LANE_STATE.lane_state 0 1).wr R.LANE_STATE.cal_step 0 2, by decide +kernel, by decide +kernel,
     by decide +kernel, by decide +kernel, by decide +kernel⟩,
   ⟨0, actS, by decide +kernel, by decide +kernel⟩,
   ⟨2, runS.wr R.QUAD_PLL.pll_state 2 3, by decide +kernel, by decide +kernel⟩,
   ⟨0, 1, runS.setLane 0 { LaneX.init with wake := .trim 1 }, by decide +kernel, by decide +kernel⟩,
   ⟨0, runS.setLane 0 { LaneX.init with resetting := true }, by decide +kernel⟩⟩

/-- States and operands that meet the hypotheses of `Obligations.LaneMeasurements`, one for each clause that has any. -/
theorem witness_laneMeasurements :
    (∃ (n : Fin 96) (s : State), s.adapts n = true ∧ s.on R.LANE_RX_CFG.ctle_adapt_en n = true) ∧
    (∃ (n : Fin 96) (dTx dRx : BitVec 16) (s : State), s.laneState n = 2 ∧ s.on R.LANE_DLY_TX.valid n = true ∧ s.on R.LANE_DLY_RX.valid n =
      true) ∧
    (∃ (n : Fin 96) (t : BitVec 11) (s : State), s.laneState n = 2 ∧ t.toNat < 32) ∧
    (∃ (n : Fin 96) (sig : BitVec 16) (s : State), s.laneState n = 2 ∧ s.on R.LANE_ADAPT_STAT.pat_frozen n = true ∧ (s.lane n).patSigs = []
      ∧ (s.lane n).patBreak = 63) ∧
    (∃ (n : Fin 96) (errs units : BitVec 64) (s : State), s.laneState n = 2 ∧ (s.lane n).windowBad = true) ∧
    (∃ (n : Fin 96) (s : State), s.laneState n = 2 ∧ s.rxState n = 2 ∧ s.on R.LANE_ADAPT_CFG.env_en n = false) ∧
    (∃ (n : Fin 96) (snr : BitVec 9) (lo mid hi : BitVec 7) (s : State), s.laneState n = 2 ∧ s.rxState n = 2 ∧ s.on R.LANE_SPEED.pam4 n =
      false) ∧
    (∃ (n : Fin 96) (h v : BitVec 8) (s : State), (s.lane n).scanning = true) :=
  ⟨⟨0, (actS.setRx 0 1).wr R.LANE_RX_CFG.ctle_adapt_en 0 1, by decide +kernel, by decide +kernel⟩,
   ⟨0, 1, 2, (actS.wr R.LANE_DLY_TX.valid 0 1).wr R.LANE_DLY_RX.valid 0 1, by decide +kernel, by decide +kernel, by decide +kernel⟩,
   ⟨0, 3, actS, by decide +kernel, by decide +kernel⟩,
   ⟨0, 3, (actS.wr R.LANE_ADAPT_STAT.pat_frozen 0 1).setLane 0 { LaneX.init with patBreak := 63 }, by decide +kernel, by decide +kernel,
     by decide +kernel, by decide +kernel⟩,
   ⟨0, 0, 1, actS.setLane 0 { LaneX.init with windowBad := true }, by decide +kernel, by decide +kernel⟩,
   ⟨0, (actS.setRx 0 2).wr R.LANE_ADAPT_CFG.env_en 0 0, by decide +kernel, by decide +kernel, by decide +kernel⟩,
   ⟨0, 1, 2, 3, 4, actS.setRx 0 2, by decide +kernel, by decide +kernel, by decide +kernel⟩,
   ⟨0, 1, 2, runS.setLane 0 { LaneX.init with scanning := true }, by decide +kernel⟩⟩

/-- States and operands that meet the hypotheses of `Obligations.LaneWrites`, one for each clause that has any. -/
theorem witness_laneWrites :
    (∃ (m : Fin 8) (n : Fin 96) (s : State), s.writesAs m = true) ∧
    (∃ (m : Fin 8) (n : Fin 96) (a b : BitVec 6) (c d : BitVec 10) (loop : BitVec 2) (gen chk : BitVec 3) (s : State), s.writesAs m = true
      ∧ s.role = 0) ∧
    (∃ (m : Fin 8) (n : Fin 96) (a b : BitVec 6) (c d : BitVec 10) (loop : BitVec 2) (gen chk : BitVec 3) (s : State), s.writesAs m = true
      ∧ s.role ≠ 0) :=
  ⟨⟨0, 3, runH, by decide +kernel⟩,
   ⟨0, 3, 1, 2, 3, 4, 0, 1, 2, runH, by decide +kernel, by decide +kernel⟩,
   ⟨0, 3, 1, 2, 3, 4, 0, 1, 2, runH.wr R.PAIR_STATUS.role 0 1, by decide +kernel, by decide +kernel⟩⟩

/-- States and operands that meet the hypotheses of `Obligations.AlignmentLocks`, one for each clause that has any. -/
theorem witness_alignmentLocks :
    (∃ (n : Fin 96) (syms : BitVec 5) (s : State), s.acquires n = true ∧ (s.lane n).fec % 4 ≠ 0 ∧ s.isEthernet n = false ∧ (s.align
      n).cwLock = false ∧ (s.align n).cwGood = 2 ∧ syms = 0) ∧
    (∃ (n : Fin 96) (hdr : BitVec 2) (s : State), s.acquires n = true ∧ s.blockStream n = true ∧ s.blockWindow n = s ∧ s.unitSet n 1 0 1 1
      ≠ 0 ∧ (s.align n).blLock = false ∧ (s.align n).blGood = 63 ∧ (hdr = 1 ∨ hdr = 2)) ∧
    (∃ (n : Fin 96) (hdr : BitVec 2) (s : State), s.acquires n = true ∧ s.blockStream n = true ∧ s.blockWindow n = s ∧ s.unitSet n 1 0 1 1
      ≠ 0 ∧ (s.align n).blLock = false ∧ (hdr = 0 ∨ hdr = 3)) ∧
    (∃ (n : Fin 96) (hiBer : Bool) (s : State), s.acquires n = true ∧ s.isEthernet n = true ∧ (s.lane n).fec % 4 ≠ 0) ∧
    (∃ (n : Fin 96) (pos : BitVec 7) (s : State), s.acquires n = true) :=
  ⟨⟨0, 0, (actS.setRx 0 2).setLane 0 { LaneX.init with fec := 1 } |>.setAlign 0 { AlignX.init with cwGood := 2 }, by decide +kernel,
     by decide +kernel, by decide +kernel, by decide +kernel, by decide +kernel, by decide +kernel⟩,
   ⟨0, 1, vtfS.setAlign 0 { AlignX.init with blGood := 63 }, by decide +kernel, by decide +kernel, by decide +kernel, by decide +kernel,
     by decide +kernel, by decide +kernel, by decide +kernel⟩,
   ⟨0, 3, vtfS, by decide +kernel, by decide +kernel, by decide +kernel, by decide +kernel, by decide +kernel, by decide +kernel⟩,
   ⟨0, false, (ethS.setRx 0 2).setLane 0 { (ethS.setRx 0 2).lane 0 with fec := 1 }, by decide +kernel, by decide +kernel,
     by decide +kernel⟩,
   ⟨0, 3, actS.setRx 0 2, by decide +kernel⟩⟩

/-- States and operands that meet the hypotheses of `Obligations.BitSlipSearch`, one for each clause that has any. -/
theorem witness_bitSlipSearch :
    (∃ (m : Fin 8) (n : Fin 96) (s : State), s.reaches m = true ∧ ((s.laneWrite n 0x160 0x100).align n).search = .idle) ∧
    (∃ (n : Fin 96) (s : State), s.stewardActs = true ∧ s.laneState n = 2 ∧ s.rxState n = 2 ∧ s.bitSlipLane n = true ∧ (s.align n).search =
      .idle) ∧
    (∃ (n : Fin 96) (s : State), s.stewardActs = true ∧ s.on R.LANE_ALIGN.pos_valid n = false ∧ (s.align n).search = .await true) ∧
    (∃ (n : Fin 96) (s : State), s.stewardActs = true ∧ s.on R.LANE_ALIGN.pos_valid n = false ∧ (s.align n).search = .await false) ∧
    (∃ (n : Fin 96) (s : State), s.stewardActs = true ∧ s.on R.LANE_ALIGN.pos_valid n = true ∧ (s.align n).search = .await false ∧ s.rd
      R.LANE_ALIGN.word_pos n ≠ 0) ∧
    (∃ (n : Fin 96) (k : Nat) (s : State), s.stewardActs = true ∧ s.on R.LANE_ALIGN.pos_valid n = true ∧ (s.align n).search = .confirm k ∧
      s.rd R.LANE_ALIGN.word_pos n = 0) ∧
    (∃ (n : Fin 96) (bad : Nat) (s : State), s.stewardActs = true ∧ s.on R.LANE_ALIGN.pos_valid n = true ∧ (s.align n).search = .aligned
      bad ∧ s.rd R.LANE_ALIGN.word_pos n ≠ 0) ∧
    (∃ (n : Fin 96) (s : State), s.testMode = true ∧ s.laneState n = 2 ∧ s.rxState n = 2 ∧ s.rd R.LANE_TEST.loop n = 3) ∧
    (∃ (n : Fin 96) (bits mism : BitVec 11) (s : State), s.laneState n = 2 ∧ s.rd R.LANE_TEST.prbs_chk n ≠ 0 ∧ s.on R.LANE_TEST.prbs_sync n
      = true) ∧
    (∃ (n : Fin 96) (bits : BitVec 11) (s : State), s.laneState n = 2 ∧ s.rd R.LANE_TEST.prbs_chk n ≠ 0 ∧ s.on R.LANE_TEST.prbs_sync n =
      false ∧ 128 ≤ (s.align n).chkRun + bits.toNat) :=
  ⟨⟨0, 0, runH, by decide +kernel, by decide +kernel⟩,
   ⟨0, slipS, by decide +kernel, by decide +kernel, by decide +kernel, by decide +kernel, by decide +kernel⟩,
   ⟨0, runS.setAlign 0 { AlignX.init with search := .await true }, by decide +kernel, by decide +kernel, by decide +kernel⟩,
   ⟨0, runS.setAlign 0 { AlignX.init with search := .await false }, by decide +kernel, by decide +kernel, by decide +kernel⟩,
   ⟨0, ((runS.setAlign 0 { AlignX.init with search := .await false }).wr R.LANE_ALIGN.pos_valid 0 1).wr R.LANE_ALIGN.word_pos 0 5,
     by decide +kernel, by decide +kernel, by decide +kernel, by decide +kernel⟩,
   ⟨0, 2, (runS.setAlign 0 { AlignX.init with search := .confirm 2 }).wr R.LANE_ALIGN.pos_valid 0 1, by decide +kernel, by decide +kernel,
     by decide +kernel, by decide +kernel⟩,
   ⟨0, 1, ((runS.setAlign 0 { AlignX.init with search := .aligned 1 }).wr R.LANE_ALIGN.pos_valid 0 1).wr R.LANE_ALIGN.word_pos 0 5,
     by decide +kernel, by decide +kernel, by decide +kernel, by decide +kernel⟩,
   ⟨0, { (actS.setRx 0 2).wr R.LANE_TEST.loop 0 3 with mode := .smithy }, by decide +kernel, by decide +kernel, by decide +kernel,
     by decide +kernel⟩,
   ⟨0, 1024, 300, (actS.wr R.LANE_TEST.prbs_chk 0 1).wr R.LANE_TEST.prbs_sync 0 1, by decide +kernel, by decide +kernel, by decide +kernel⟩,
   ⟨0, 128, actS.wr R.LANE_TEST.prbs_chk 0 1, by decide +kernel, by decide +kernel, by decide +kernel, by decide +kernel⟩⟩

/-- States and operands that meet the hypotheses of `Obligations.VtfReceive`, one for each clause that has any. -/
theorem witness_vtfReceive :
    (∃ (n : Fin 96) (p fiw : BitVec 64) (f : Fiw) (s : State), fiwOf fiw.toNat = some f ∧ s.acquires n = true ∧ s.carriesVtf (s.chan n) =
      true ∧ (s.align n).blLock = true ∧ (s.vtf n).fasAt = none ∧ (s.vtf n).cands = []) ∧
    (∃ (n : Fin 96) (p : Nat) (s : State), (s.vtf n).fasAt = some p) ∧
    (∃ (n : Fin 96) (v : BitVec 64) (arrival : BitVec 96) (s : State), (s.vtf n).fasAt ≠ none ∧ s.carriesVtf (s.chan n) = true ∧ (s.vtf
      n).mfSync = false ∧ fiwOf v.toNat = none) ∧
    (∃ (n : Fin 96) (s : State), (s.vtf (s.chan n)).mfSync = true ∧ ((s.vtf (s.chan n)).calTarget = some 0 ∨ (s.vtf (s.chan n)).calTarget =
      some 1)) ∧
    (∃ (n : Fin 96) (v : BitVec 64) (payloadBip : BitVec 8) (s : State), (s.vtf n).mfSync = true ∧ (s.vtf n).rxBip = none) ∧
    (∃ (n : Fin 96) (diff : BitVec 32) (s : State), (s.vtf n).mfSync = true ∧ (s.vtf n).calDiffs = []) :=
  ⟨⟨0, 100, goodFiwV, goodFiw, vtfS.setAlign 0 { AlignX.init with blLock := true }, by decide +kernel, by decide +kernel,
     by decide +kernel, by decide +kernel, by decide +kernel, by decide +kernel⟩,
   ⟨0, 100, runS.setVtf 0 { VtfX.init with fasAt := some 100 }, by decide +kernel⟩,
   ⟨0, 0, 5, vtfS.setVtf 0 { VtfX.init with fasAt := some 100 }, by decide +kernel, by decide +kernel, by decide +kernel,
     by decide +kernel⟩,
   ⟨0, runS.setVtf 0 { VtfX.init with mfSync := true, calTarget := some 0 }, by decide +kernel, by decide +kernel⟩,
   ⟨0, 0, 5, runS.setVtf 0 { VtfX.init with mfSync := true }, by decide +kernel, by decide +kernel⟩,
   ⟨0, 7, runS.setVtf 0 { VtfX.init with mfSync := true }, by decide +kernel, by decide +kernel⟩⟩

/-- States and operands that meet the hypotheses of `Obligations.VtfOverhead`, one for each clause that has any. -/
theorem witness_vtfOverhead :
    (∃ (n : Fin 96) (rc : Nat) (s : State), s.rateCode (s.chan n) = some rc ∧ s.sendsFrames n = true) ∧
    (∃ (n : Fin 96) (tc0 tc1 tc2 tc3 filtered : BitVec 64) (s : State), (s.vtf n).mfSync = true ∧ s.pw (s.chan n) 0 14 ≠ 0 ∧ bitField
      tc3.toNat 48 16 ≠ crc16 [tc0.toNat, tc1.toNat, tc2.toNat] tc3.toNat) ∧
    (∃ (n : Fin 96) (tc0 tc1 tc2 tc3 filtered : BitVec 64) (s : State), (s.vtf n).mfSync = true ∧ s.pw (s.chan n) 0 14 ≠ 0 ∧ bitField
      tc3.toNat 48 16 = crc16 [tc0.toNat, tc1.toNat, tc2.toNat] tc3.toNat ∧ bitField tc3.toNat 36 4 = 2) ∧
    (∃ (n : Fin 96) (mc : List (BitVec 64)) (s : State), (s.vtf n).mfSync = true ∧ s.carriesVtf (s.chan n) = true ∧ crc32mc ((upTo (fun i
      => (mc.getD i 0).toNat) 9) ++ [(mc.getD 9 0).toNat, (mc.getD 10 0).toNat]) ((mc.getD 11 0).toNat / 2 ^ 32) ≠ (mc.getD 11 0).toNat % 2
      ^ 32) ∧
    (∃ (n : Fin 96) (ca : List (BitVec 64)) (s : State), (s.vtf n).mfSync = true ∧ s.carriesVtf (s.chan n) = true ∧ bitField (ca.getD 0
      0).toNat 48 16 ≠ crc16ca (ca.getD 0 0).toNat (upTo (fun i => (ca.getD (1 + i) 0).toNat) 7)) ∧
    (∃ (n : Fin 96) (v : BitVec 64) (g : Nat) (s : State), (s.vtf n).mfSync = true ∧ (s.vtf n).fiwLane = 0 ∧ crc8Ok v.toNat = true ∧
      v.toNat % 2 ^ 24 = 0 ∧ bitField v.toNat 36 4 ≤ 0xA ∧ s.groupOf (bitField v.toNat 40 16) = some g ∧ (s.groupPaths g).contains (s.chan
      n) = true) :=
  ⟨⟨0, 0, vtfS, by decide +kernel, by decide +kernel⟩,
   ⟨0, 1, 2, 3, 4, 0, (runS.setVtf 0 { VtfX.init with mfSync := true }).setPw 0 0 14 1, by decide +kernel, by decide +kernel,
     by decide +kernel⟩,
   ⟨0, 0, 0, 0, goodTc3, 0, (runS.setVtf 0 { VtfX.init with mfSync := true }).setPw 0 0 14 1, by decide +kernel, by decide +kernel,
     by decide +kernel, by decide +kernel⟩,
   ⟨0, [1], vtfS.setVtf 0 { VtfX.init with mfSync := true }, by decide +kernel, by decide +kernel, by decide +kernel⟩,
   ⟨0, [1], vtfS.setVtf 0 { VtfX.init with mfSync := true }, by decide +kernel, by decide +kernel, by decide +kernel⟩,
   ⟨0, goodAps, 0, apsS, by decide +kernel, by decide +kernel, by decide +kernel, by decide +kernel, by decide +kernel, by decide +kernel,
     by decide +kernel⟩⟩

/-- States and operands that meet the hypotheses of `Obligations.EthernetAndCpri`, one for each clause that has any. -/
theorem witness_ethernetAndCpri :
    (∃ (c : Fin 96) (sfd fcs departed : Bool) (bytes : List (BitVec 8)) (ts : BitVec 96) (s : State), s.macUp c = true) ∧
    (∃ (c : Fin 96) (now : BitVec 64) (cut : Option (BitVec 14)) (s : State), s.runs c 0 2 = true ∧ s.laneState c = 2 ∧ s.pw c 0 11 = 1 ∧
      (s.localFault c = true ∨ s.pw c 0 24 = 1)) ∧
    (∃ (c : Fin 96) (lf rf : Bool) (s : State), s.runs c 0 2 = true) ∧
    (∃ (c : Fin 96) (last ok : Bool) (smd frag : BitVec 2) (bytes : List (BitVec 8)) (ts : BitVec 96) (s : State), s.macUp c = true ∧ s.pw
      c 0 12 ≠ 0 ∧ (s.chanX c).rxFrag = none) ∧
    (∃ (c : Fin 96) (s : State), s.macUp c = true ∧ s.pw c 0 12 = 1) ∧
    (∃ (c : Fin 96) (s : State), s.runs c 0 2 = true ∧ s.laneState c = 2 ∧ s.pw c 0 12 = 1 ∧ s.pw c 0 13 = 1 ∧ s.pw c 0 26 = 1) ∧
    (∃ (c : Fin 96) (s : State), s.macUp c = true ∧ s.pw c 0 12 = 1 ∧ s.pw c 0 13 = 1 ∧ s.pw c 0 26 = 1 ∧ 0 < (s.chanX c).verifies) ∧
    (∃ (c : Fin 96) (ts : BitVec 96) (i : Insert) (t : List Insert) (s : State), s.runs c 0 2 = true ∧ s.laneState c = 2 ∧ s.role ≠ 0 ∧
      (s.chanX c).inserts = i :: t ∧ i.oneStep = false ∧ i.twoStep = false) ∧
    (∃ (c : Fin 96) (bytes : List (BitVec 8)) (s : State), s.runs c 0 2 = true ∧ s.pw c 0 18 ≠ 0 ∧ s.laneState c = 2) ∧
    (∃ (c : Fin 96) (s : State), s.runs c 0 2 = true ∧ s.pw c 0 18 ≠ 0) ∧
    (∃ (c : Fin 96) (s : State), s.runs c 0 2 = true ∧ s.pw c 0 19 = 1 ∧ s.laneState c = 2 ∧ (s.chanX c).esmcInfo = true) ∧
    (∃ (c : Fin 96) (s : State), s.runs c 0 2 = true ∧ s.pw c 0 19 = 1 ∧ s.laneState c = 2 ∧ s.esmcQl c ≠ (s.chanX c).esmcSent) ∧
    (∃ (c : Fin 96) (atExpected : Bool) (hfn l1 : BitVec 8) (bfn : BitVec 12) (ts : BitVec 96) (s : State), s.runs c 0 3 = true ∧
      s.cpriAligned c = true ∧ s.pw c 0 12 = 0) ∧
    (∃ (c : Fin 96) (start atExpected : Bool) (hfn l1 : BitVec 8) (bfn : BitVec 12) (ts : BitVec 96) (s : State), s.runs c 0 3 = true ∧
      s.cpriAligned c = false) :=
  ⟨⟨0, true, true, false, [], 0, macS, by decide +kernel⟩,
   ⟨0, 0, none, (ethS.setPw 0 0 11 1).setPw 0 0 24 1, by decide +kernel, by decide +kernel, by decide +kernel, by decide +kernel⟩,
   ⟨0, true, false, ethS, by decide +kernel⟩,
   ⟨0, false, true, 0, 0, [], 0, macS.setPw 0 0 12 1, by decide +kernel, by decide +kernel, by decide +kernel⟩,
   ⟨0, macS.setPw 0 0 12 1, by decide +kernel, by decide +kernel⟩,
   ⟨0, ((ethS.setPw 0 0 12 1).setPw 0 0 13 1).setPw 0 0 26 1, by decide +kernel, by decide +kernel, by decide +kernel, by decide +kernel,
     by decide +kernel⟩,
   ⟨0, (((macS.setPw 0 0 12 1).setPw 0 0 13 1).setPw 0 0 26 1).setChanX 0 { ChanX.init with verifies := 1 }, by decide +kernel,
     by decide +kernel, by decide +kernel, by decide +kernel, by decide +kernel⟩,
   ⟨0, 0, insI, [], (ethS.wr R.PAIR_STATUS.role 0 1).setChanX 0 { ChanX.init with inserts := [insI] }, by decide +kernel,
     by decide +kernel, by decide +kernel, by decide +kernel, by decide +kernel, by decide +kernel⟩,
   ⟨0, [], ethS.setPw 0 0 18 1, by decide +kernel, by decide +kernel, by decide +kernel⟩,
   ⟨0, ethS.setPw 0 0 18 1, by decide +kernel, by decide +kernel⟩,
   ⟨0, (ethS.setPw 0 0 19 1).setChanX 0 { ChanX.init with esmcInfo := true }, by decide +kernel, by decide +kernel, by decide +kernel,
     by decide +kernel⟩,
   ⟨0, (ethS.setPw 0 0 19 1).setChanX 0 { ChanX.init with esmcSent := 99 }, by decide +kernel, by decide +kernel, by decide +kernel,
     by decide +kernel⟩,
   ⟨0, true, 5, 0, 0, 0, cpriS, by decide +kernel, by decide +kernel, by decide +kernel⟩,
   ⟨0, true, true, 5, 0, 0, 0, runS.setProg 0 0 (some (almProg 3)), by decide +kernel, by decide +kernel⟩⟩

/-- States and operands that meet the hypotheses of `Obligations.MappingFrames`, one for each clause that has any. -/
theorem witness_mappingFrames :
    (∃ (c : Fin 96) (t : BitVec 16) (measured : BitVec 64) (s : State), 0 < (s.slotSet c 0 t.toNat).length ∧ s.carriesVtf c = true ∧
      calibrationFrame s.mode s.frame = false ∧ s.clientEnd t.toNat = none ∧ s.mapperW t.toNat c measured.toNat = none) ∧
    (∃ (c : Fin 96) (t : BitVec 16) (v : BitVec 64) (col : Nat) (rest : List Nat) (s : State), s.slotSet c 1 t.toNat = col :: rest ∧
      s.chanDelivers c = true ∧ (s.vtf c).rxCal = false ∧ crc8Ok v.toNat = false) ∧
    (∃ (c : Fin 96) (t : BitVec 16) (v : BitVec 64) (col : Nat) (rest : List Nat) (s : State), s.slotSet c 1 t.toNat = col :: rest ∧
      s.chanDelivers c = true ∧ (s.vtf c).rxCal = false ∧ crc8Ok v.toNat = true ∧ bitField v.toNat 40 16 ≠ t.toNat) ∧
    (∃ (c : Fin 96) (t : BitVec 16) (content : List (BitVec 64)) (delay link : BitVec 32) (s : State), 0 < (s.slotSet c 1 t.toNat).length ∧
      s.chanDelivers c = true ∧ (s.vtf c).rxCal = false ∧ (s.trib t.toNat c).thKind = 0 ∧ (s.trib t.toNat c).hist = []) ∧
    (∃ (cl : Fin 96) (t c v : Nat) (rest : List Nat) (s : State), s.runs cl 1 5 = true ∧ s.pw cl 1 9 ≠ 0 ∧ s.pw cl 1 8 = t ∧ s.groupOf t =
      none ∧ s.otherEnds t cl = c :: rest ∧ (s.trib t c).recentring = 0 ∧ s.endSf t c = false ∧ s.endCsf t c = false ∧ (s.trib t c).wordAt
      (s.trib t c).nextWord = some v) ∧
    (∃ (c : Fin 96) (t : BitVec 16) (pos : BitVec 14) (v now : BitVec 64) (s : State), s.runs c 1 6 = true ∧ s.slotSet c 1 t.toNat ≠ [] ∧
      s.chanDelivers c = true ∧ (s.vtf c).rxCal = false ∧ (s.trib t.toNat c).thKind ≠ 2 ∧ (s.trib t.toNat c).sync = true ∧ (s.trib t.toNat
      c).pkt = none ∧ v ≠ 0 ∧ crc8Ok v.toNat = true ∧ 60 ≤ bitField v.toNat 26 14 ∧ bitField v.toNat 26 14 ≤ 9596) ∧
    (∃ (c : Fin 96) (g : Nat) (s : State), (s.chanX c).switchAt = some g ∧ g ≤ s.frame) :=
  ⟨⟨0, 3, 0, mapS, by decide +kernel, by decide +kernel, by decide +kernel, by decide +kernel, by decide +kernel⟩,
   ⟨0, 3, 0, 0, [], delS, by decide +kernel, by decide +kernel, by decide +kernel, by decide +kernel⟩,
   ⟨0, 3, goodTh 4, 0, [], delS, by decide +kernel, by decide +kernel, by decide +kernel, by decide +kernel, by decide +kernel⟩,
   ⟨0, 3, [], 5, 6, delS, by decide +kernel, by decide +kernel, by decide +kernel, by decide +kernel, by decide +kernel⟩,
   ⟨4, 3, 0, 77, [], cbrS, by decide +kernel, by decide +kernel, by decide +kernel, by decide +kernel, by decide +kernel,
     by decide +kernel, by decide +kernel, by decide +kernel, by decide +kernel⟩,
   ⟨0, 3, 5, goodSheaf, 0, sheafS, by decide +kernel, by decide +kernel, by decide +kernel, by decide +kernel, by decide +kernel,
     by decide +kernel, by decide +kernel, by decide +kernel, by decide +kernel, by decide +kernel, by decide +kernel⟩,
   ⟨0, 0, runS.setChanX 0 { ChanX.init with switchAt := some 0 }, by decide +kernel, by decide +kernel⟩⟩

/-- States and operands that meet the hypotheses of `Obligations.DefectsAndTally`, one for each clause that has any. -/
theorem witness_defectsAndTally :
    (∃ (c : Fin 96) (k : Fin 23) (s : State), s.integrates c = true ∧ s.rawDef c k = true ∧ defMasked (s.defs c) k = false) ∧
    (∃ (c : Fin 96) (s : State), bitField (s.defs c) 3 1 = 1 ∧ s.rawDef c 3 = false) ∧
    (∃ (n : Fin 96) (s : State), s.integrates (s.chan n) = true ∧ s.carriesVtf (s.chan n) = true ∧ (s.bip n).whole = false) ∧
    (∃ (bufLen : BitVec 32) (k : Tick) (rest : List Tick) (s : State), s.tallyX.due = k :: rest ∧ s.masterFenced 7 = false ∧ s.rd
      R.HOST_RING_CFG_x.active 5 ≠ 0 ∧ 64 + 8 * k.counts.length ≤ bufLen.toNat) ∧
    (∃ (m : Fin 8) (s : State), s.readsAs m = true) ∧
    (∃ (j : Fin 16) (s : State), s.rd R.TALLY_INJ_STAT_j.state j = 2 ∧ s.rd R.TALLY_INJ_LIMIT_j.limit j = 0 ∧ s.rd R.TALLY_INJ_CFG_j.kind j
      = 3) ∧
    (∃ (m : Fin 8) (j : Fin 16) (r : Fin 4) (v : BitVec 32) (s : State), s.writesAs m = true) :=
  ⟨⟨0, 0, defS, by decide +kernel, by decide +kernel, by decide +kernel⟩,
   ⟨0, (defS.putDefs 0 8).setVtf 0 { VtfX.init with fasAt := some 1 }, by decide +kernel, by decide +kernel⟩,
   ⟨0, defS, by decide +kernel, by decide +kernel, by decide +kernel⟩,
   ⟨100, { groups := 0, seq := 1, time := 0, flags := 0, counts := [] }, [],
     { runS.wr R.HOST_RING_CFG_x.active 5 1 with tallyX := { runS.tallyX with due := [{ groups := 0, seq := 1, time := 0, flags := 0, counts := [] }] } },
     by decide +kernel, by decide +kernel, by decide +kernel, by decide +kernel⟩,
   ⟨0, runH, by decide +kernel⟩,
   ⟨0, (runS.wr R.TALLY_INJ_STAT_j.state 0 2).wr R.TALLY_INJ_CFG_j.kind 0 3, by decide +kernel, by decide +kernel, by decide +kernel⟩,
   ⟨0, 1, 2, 3, runH, by decide +kernel⟩⟩

/-- States and operands that meet the hypotheses of `Obligations.GranaryBanks`, one for each clause that has any. -/
theorem witness_granaryBanks :
    (∃ (b : Fin 96) (s : State), s.bankState b ≤ 1 ∧ (s.bank b).copy = none) ∧
    (∃ (b : Fin 96) (e : Track) (k : Nat) (s : State), s.on R.GRN_CTRL.repair_en 0 = true ∧ s.bankState b ≤ 1 ∧ (s.bank b).copy = none ∧
      (s.bank b).tracker.find? (fun e => e.qualified) = some e ∧ (upTo id 32).find? (fun k => !((s.bank b).map.any (fun e => e.2 == k))) =
      some k) ∧
    (∃ (b : Fin 96) (row k f : Nat) (s : State), (s.bank b).copy = some (row, k, f) ∧ f < s.frame) ∧
    (∃ (s : State), s.stewardActs = true) ∧
    (∃ (b : Fin 96) (s : State), (s.bank b).asked ≠ 0 ∧ (s.bankState b = 0 ∨ s.bankState b = 2)) ∧
    (∃ (b : Fin 96) (s : State), s.bankState b = 1 ∧ (s.cellsIn b = 0 ∨ (s.bank b).drainFrom + 400 * s.rd R.GRN_CTRL.drain_ms 0 ≤ s.frame)) ∧
    (∃ (m : Fin 8) (b : Fin 96) (s : State), s.writesAs m = true) ∧
    (∃ (b : Fin 96) (failing : List (BitVec 15)) (map : List (Nat × Nat)) (s : State), (s.bank b).march = 1 ∧ marchMap (failing.map
      (·.toNat)) = some map) ∧
    (∃ (s : State), s.on R.GRN_STATUS.scan_busy 0 = true ∧ (∀ b ∈ upTo id 96, (s.bank b).march ≠ 2) ∧ (∀ b ∈ upTo id 96, (s.bank b).named =
      false)) ∧
    (∃ (b : Fin 96) (failing : List (BitVec 15)) (s : State), (s.bank b).march = 2 ∧ s.stewardActs = true ∧ marchMap (failing.map
      (·.toNat)) = none) :=
  ⟨⟨0, runS.setBank 0 { BankX.init with scrubRow := 16412 }, by decide +kernel, by decide +kernel⟩,
   ⟨0, rowT, 0, (runS.wr R.GRN_CTRL.repair_en 0 1).setBank 0 { BankX.init with tracker := [rowT] }, by decide +kernel, by decide +kernel,
     by decide +kernel, by decide +kernel, by decide +kernel⟩,
   ⟨0, 5, 0, 0, { runS.setBank 0 { BankX.init with copy := some (5, 0, 0) } with frame := 1 }, by decide +kernel, by decide +kernel⟩,
   ⟨runS, by decide +kernel⟩,
   ⟨0, runS.setBank 0 { BankX.init with asked := 1 }, by decide +kernel, by decide +kernel⟩,
   ⟨0, { runS.wr R.GRN_BANK_b.state 0 1 with frame := 400000000 }, by decide +kernel, by decide +kernel⟩,
   ⟨0, 3, runH, by decide +kernel⟩,
   ⟨0, [], [], runS.setBank 0 { BankX.init with march := 1 }, by decide +kernel, by decide +kernel⟩,
   ⟨runS.wr R.GRN_STATUS.scan_busy 0 1, by decide +kernel, by decide +kernel, by decide +kernel⟩,
   ⟨0, failRows, runS.setBank 0 { BankX.init with march := 2 }, by decide +kernel, by decide +kernel, by decide +kernel⟩⟩

/-- States and operands that meet the hypotheses of `Obligations.GranaryQueues`, one for each clause that has any. -/
theorem witness_granaryQueues :
    (∃ (q : BitVec 16) (s : State), s.on R.GRN_QD_CTRL.fenced q.toNat = true) ∧
    (∃ (q : BitVec 16) (e : Pend) (t : State) (s : State), s.takeChange (fun e => e.change == .queueFlush q.toNat && s.isDue e) = (some e,
      t) ∧ t.on R.GRN_QD_CTRL.valid q.toNat = true) ∧
    (∃ (q : BitVec 16) (s : State), s.stewardActs = true ∧ s.on R.GRN_QD_CTRL.closing q.toNat = true ∧ s.rd R.GRN_QD_OCC.occ_cells q.toNat
      = 0) ∧
    (∃ (now : BitVec 64) (s : State), s.mode = .sundial) ∧
    (∃ (e : BitVec 17) (s : State), s.stewardActs = true ∧ s.flowBad.contains e.toNat = true) :=
  ⟨⟨5, runS.wr R.GRN_QD_CTRL.fenced 5 1, by decide +kernel⟩,
   ⟨5, ⟨some hd, .queueFlush 5, .frame⟩, runS.wr R.GRN_QD_CTRL.valid 5 1, (runS.wr R.GRN_QD_CTRL.valid 5 1).later (some hd) .frame
     (.queueFlush 5), by decide +kernel, by decide +kernel⟩,
   ⟨5, runS.wr R.GRN_QD_CTRL.closing 5 1, by decide +kernel, by decide +kernel, by decide +kernel⟩,
   ⟨0, { runS with mode := .sundial }, by decide +kernel⟩,
   ⟨9, { runS with flowBad := [9] }, by decide +kernel, by decide +kernel⟩⟩

/-- States and operands that meet the hypotheses of `Obligations.WeaverControl`, one for each clause that has any. -/
theorem witness_weaverControl :
    (∃ (q : Fin 24) (t : Fin 16) (first : BitVec 7) (row : BitVec 5) (col : BitVec 8) (epoch : BitVec 12) (h : Handler) (rest : List
      Handler) (s : State), s.beatHandlers (s.chan (s.threadLane q t)) 2 = h :: rest ∧ s.isStream q t = true ∧ s.threadFree q t = true ∧
      t.val % 2 = 1) ∧
    (∃ (q : Fin 24) (t : Fin 16) (h : Handler) (rest : List Handler) (s : State), (s.eng (16 * q.val + t.val)).extra ++ s.frameHandlers q t
      = h :: rest ∧ s.isStream q t = false ∧ s.threadFree q t = true) ∧
    (∃ (q : Fin 24) (t : Fin 16) (s : State), (s.eng (16 * q.val + t.val)).running = true ∧ s.isStream q t = false ∧ s.mode.budget.service
      ≤ (s.eng (16 * q.val + t.val)).used) ∧
    (∃ (h : CmdHead) (img : List (BitVec 8)) (sigOk : Bool) (al : AlignKind) (f : Fetch) (t : State) (r : Nat) (s : State), s.stewardActs =
      true ∧ s.takeFetch h = (some f, t) ∧ img.length = f.len ∧ f.use = .reeve r) ∧
    (∃ (h : CmdHead) (img : List (BitVec 8)) (sigOk : Bool) (al : AlignKind) (f : Fetch) (t : State) (c slot : Nat) (rp : Bool) (s :
      State), s.stewardActs = true ∧ s.takeFetch h = (some f, t) ∧ img.length = f.len ∧ f.use = .attach c slot rp) ∧
    (∃ (m : Fin 8) (q : Fin 24) (t : Fin 16) (s : State), s.writesAs m = true) ∧
    (∃ (q : Fin 24) (t : Fin 16) (s : State), (s.eng (16 * q.val + t.val)).resetting = true) ∧
    (∃ (q : Fin 24) (s : State), s.wvrResetting.contains q.val = true) ∧
    (∃ (m : Fin 8) (q : Fin 24) (f : Fin 5) (s : State), s.readsAs m = true) ∧
    (∃ (m : Fin 8) (q : Fin 24) (f : Fin 5) (v : BitVec 32) (s : State), s.writesAs m = true ∧ m.val = 0) :=
  ⟨⟨0, 1, 0, 0, 0, 0, beatH, [], beatS, by decide +kernel, by decide +kernel, by decide +kernel, by decide +kernel⟩,
   ⟨0, 8, beatH, [], runS.setEng 8 { Eng.init with extra := [beatH] }, by decide +kernel, by decide +kernel, by decide +kernel⟩,
   ⟨0, 8, runS.setEng 8 { Eng.init with running := true, used := 100000 }, by decide +kernel, by decide +kernel, by decide +kernel⟩,
   ⟨hd, [], true, .blocks, fetR, runS, 1, { runS with fetches := [fetR] }, by decide +kernel, by decide +kernel, by decide +kernel,
     by decide +kernel⟩,
   ⟨hd, [], true, .blocks, fetA, runS, 3, 2, false, { runS with fetches := [fetA] }, by decide +kernel, by decide +kernel,
     by decide +kernel, by decide +kernel⟩,
   ⟨0, 1, 2, runH, by decide +kernel⟩,
   ⟨0, 1, runS.setEng 1 { Eng.init with resetting := true }, by decide +kernel⟩,
   ⟨3, { runS with wvrResetting := [3] }, by decide +kernel⟩,
   ⟨0, 1, 2, runH, by decide +kernel⟩,
   ⟨0, 1, 2, 3, runH, by decide +kernel, by decide +kernel⟩⟩

/-- States and operands that meet the hypotheses of `Obligations.VsiRegisterOps`, one for each clause that has any. -/
theorem witness_vsiRegisterOps :
    (∃ (e : Engine) (pg : Fin 8) (rd ra rb : Fin 32) (fb : Fin 6) (poly : Fin 3) (n1 : Fin 8) (fa : Fin 14) (k : Fin 4) (n : Fin 64) (fm :
      Fin 3) (s : State), s.canIssue e = true ∧ (s.eng (engIdx e)).pr pg = true) ∧
    (∃ (e : Engine) (rd ra rb : Fin 32) (pg : Fin 8) (imm : BitVec 16) (pos wm1 : BitVec 6) (sx : Bool) (h : Fin 4) (s : State), s.canIssue
      e = true) ∧
    (∃ (e : Engine) (pg pd pa pb : Fin 8) (f : Fin 6) (fp : Fin 3) (na nb : Bool) (ra rb : Fin 32) (s : State), s.canIssue e = true ∧
      (s.eng (engIdx e)).pr pg = true) ∧
    (∃ (e : Engine) (c : Fin 4) (pd : Fin 8) (ra : Fin 32) (imm : BitVec 16) (s : State), s.canIssue e = true) ∧
    (∃ (q : Fin 24) (t : Fin 16) (rd ra : Fin 32) (pos : BitVec 9) (wm1 : BitVec 6) (sx : Bool) (s : State), s.canIssue (.thread q t) =
      true ∧ s.isStream q t = true) ∧
    (∃ (q : Fin 24) (t : Fin 16) (pg : Fin 8) (rd : Fin 32) (f : Fin 7) (s : State), s.canIssue (.thread q t) = true ∧ (s.eng (16 * q +
      t)).pr pg = true) ∧
    (∃ (e : Engine) (pg : Fin 8) (rd ra rb : Fin 32) (f : Fin 14) (s : State), (s.canIssue e = false ∨ (s.eng (engIdx e)).pr pg = false) ∧
      s.Canonical) :=
  ⟨⟨.reeve 1, 0, 1, 2, 3, 0, 0, 0, 0, 0, 0, 0, runS, by decide +kernel, by decide +kernel⟩,
   ⟨.reeve 1, 1, 2, 3, 0, 5, 0, 7, true, 1, runS, by decide +kernel⟩,
   ⟨.reeve 1, 0, 1, 2, 3, 0, 0, true, false, 1, 2, runS, by decide +kernel, by decide +kernel⟩,
   ⟨.reeve 1, 0, 1, 2, 3, runS, by decide +kernel⟩,
   ⟨0, 1, 2, 3, 4, 5, true, runT, by decide +kernel, by decide +kernel⟩,
   ⟨0, 1, 0, 3, 2, runT, by decide +kernel, by decide +kernel⟩,
   ⟨.reeve 1, 1, 1, 2, 3, 0, runS, by decide +kernel, by constructor <;> decide +kernel⟩⟩

/-- States and operands that meet the hypotheses of `Obligations.VsiMemoryOps`, one for each clause that has any. -/
theorem witness_vsiMemoryOps :
    (∃ (e : Engine) (rd ra : Fin 32) (imm : BitVec 16) (s : State), s.canIssue e = true) ∧
    (∃ (q : Fin 24) (t : Fin 16) (rd ra : Fin 32) (imm : BitVec 16) (x : Eng) (s : State), s.canIssue (.thread q t) = true ∧ s.eng (16 * q
      + t) = x) ∧
    (∃ (r : Fin 4) (rd ra : Fin 32) (imm : BitVec 16) (x : Eng) (s : State), s.canIssue (.reeve r) = true ∧ s.eng (384 + r) = x) ∧
    (∃ (r : Fin 4) (pg : Fin 8) (rd ra rb : Fin 32) (x : Eng) (s : State), s.canIssue (.reeve r) = true ∧ s.eng (384 + r) = x ∧ x.pr pg =
      true) :=
  ⟨⟨.reeve 1, 2, 3, 8, runS, by decide +kernel⟩,
   ⟨0, 1, 2, 3, 8, runT.eng 1, runT, by decide +kernel, by decide +kernel⟩,
   ⟨1, 2, 3, 8, runS.eng 385, runS, by decide +kernel, by decide +kernel⟩,
   ⟨1, 0, 2, 3, 4, runS.eng 385, runS, by decide +kernel, by decide +kernel, by decide +kernel⟩⟩

/-- States and operands that meet the hypotheses of `Obligations.VsiPortReads`, one for each clause that has any. -/
theorem witness_vsiPortReads :
    (∃ (q : Fin 24) (t : Fin 16) (pg : Fin 8) (rd ra rb : Fin 32) (f : Fin 5) (fc : Fin 4) (x : Eng) (s : State), s.canIssue (.thread q t)
      = true ∧ s.eng (16 * q + t) = x ∧ x.pr pg = true) ∧
    (∃ (q : Fin 24) (t : Fin 16) (pg : Fin 8) (rd ra rb : Fin 32) (c slot : Nat) (x : Eng) (s : State), s.canIssue (.thread q t) = true ∧
      s.eng (16 * q + t) = x ∧ x.pr pg = true ∧ x.block = some (c, slot)) ∧
    (∃ (q : Fin 24) (t : Fin 16) (pg : Fin 8) (rd ra rb : Fin 32) (f : Fin 3) (fs : Fin 2) (inst : BitVec 96) (x : Eng) (s : State),
      s.canIssue (.thread q t) = true ∧ s.eng (16 * q + t) = x ∧ x.pr pg = true) ∧
    (∃ (q : Fin 24) (t : Fin 16) (pg : Fin 8) (rd ra rb : Fin 32) (w : Nat) (rest : List Nat) (x : Eng) (s : State), s.canIssue (.thread q
      t) = true ∧ s.eng (16 * q + t) = x ∧ x.pr pg = true ∧ x.flowHeld = w :: rest ∧ s.Canonical) ∧
    (∃ (q : Fin 24) (t : Fin 16) (pg : Fin 8) (rd ra rb : Fin 32) (x : Eng) (s : State), s.canIssue (.thread q t) = true ∧ s.eng (16 * q +
      t) = x ∧ x.pr pg = true ∧ x.grneHeld = [] ∧ s.Canonical) ∧
    (∃ (q : Fin 24) (t : Fin 16) (pg : Fin 8) (rd ra rb : Fin 32) (w id : Nat) (rest : List (Nat × Option Nat)) (x : Eng) (s : State),
      s.canIssue (.thread q t) = true ∧ s.eng (16 * q + t) = x ∧ x.pr pg = true ∧ x.grneHeld = (w, some id) :: rest ∧ x.cur = none ∧
      s.Canonical) ∧
    (∃ (q : Fin 24) (t : Fin 16) (pg : Fin 8) (rd ra rb : Fin 32) (w : Nat) (rest : List Nat) (x : Eng) (s : State), s.canIssue (.thread q
      t) = true ∧ s.eng (16 * q + t) = x ∧ x.pr pg = true ∧ (s.xcEnd (x.rg ra % 2 ^ 16) (s.threadChan q t)).held = w :: rest) ∧
    (∃ (q : Fin 24) (t : Fin 16) (pg : Fin 8) (rd ra rb : Fin 32) (k : Fin 2) (x : Eng) (s : State), s.canIssue (.thread q t) = true ∧
      s.eng (16 * q + t) = x ∧ x.pr pg = true) :=
  ⟨⟨0, 1, 0, 1, 2, 3, 2, 0, runT.eng 1, runT, by decide +kernel, by decide +kernel, by decide +kernel⟩,
   ⟨0, 1, 0, 1, 2, 3, 0, 2, blkE, runT.setEng 1 blkE, by decide +kernel, by decide +kernel, by decide +kernel, by decide +kernel⟩,
   ⟨0, 1, 0, 1, 2, 3, 0, 1, 5, runT.eng 1, runT, by decide +kernel, by decide +kernel, by decide +kernel⟩,
   ⟨0, 1, 0, 1, 2, 3, 9, [], flwE, runT.setEng 1 flwE, by decide +kernel, by decide +kernel, by decide +kernel, by decide +kernel,
     by constructor <;> decide +kernel⟩,
   ⟨0, 1, 0, 1, 2, 3, runT.eng 1, runT, by decide +kernel, by decide +kernel, by decide +kernel, by decide +kernel,
     by constructor <;> decide +kernel⟩,
   ⟨0, 1, 0, 1, 2, 3, 7, 4, [], grnE, runT.setEng 1 grnE, by decide +kernel, by decide +kernel, by decide +kernel, by decide +kernel,
     by decide +kernel, by constructor <;> decide +kernel⟩,
   ⟨0, 1, 0, 1, 2, 3, 8, [], runT.eng 1, runT.setXc 0 0 { XcEnd.init with held := [8] }, by decide +kernel, by decide +kernel,
     by decide +kernel, by decide +kernel⟩,
   ⟨0, 1, 0, 1, 2, 3, 0, runT.eng 1, runT, by decide +kernel, by decide +kernel, by decide +kernel⟩⟩

/-- States and operands that meet the hypotheses of `Obligations.VsiPortOps`, one for each clause that has any. -/
theorem witness_vsiPortOps :
    (∃ (q : Fin 24) (t : Fin 16) (pg : Fin 8) (rd ra rb : Fin 32) (find : Option (BitVec 16 × EccFind)) (x : Eng) (s : State), s.canIssue
      (.thread q t) = true ∧ s.eng (16 * q + t) = x ∧ x.pr pg = true ∧ find = none) ∧
    (∃ (q : Fin 24) (t : Fin 16) (w : Nat) (rest : List Nat) (s : State), (s.eng (16 * q + t)).flowIss = w :: rest) ∧
    (∃ (q : Fin 24) (t : Fin 16) (pg : Fin 8) (rd ra rb : Fin 32) (h : Nat) (x : Eng) (s : State), s.canIssue (.thread q t) = true ∧ s.eng
      (16 * q + t) = x ∧ x.pr pg = true ∧ (upTo id 4).find? (fun h => (x.handle h).isNone) = some h) ∧
    (∃ (q : Fin 24) (t : Fin 16) (pg : Fin 8) (rd ra rb : Fin 32) (id : Nat) (x : Eng) (s : State), s.canIssue (.thread q t) = true ∧ s.eng
      (16 * q + t) = x ∧ x.pr pg = true ∧ x.handle (x.rg ra) = some id) ∧
    (∃ (q : Fin 24) (t : Fin 16) (pg : Fin 8) (rd ra rb : Fin 32) (x : Eng) (s : State), s.canIssue (.thread q t) = true ∧ s.eng (16 * q +
      t) = x ∧ x.pr pg = true ∧ (s.choose (bitField (x.rg ra) 16 1) (x.rg ra % 2 ^ 16) (x.rg rb) (bitField (x.rg ra) 16 1 == 1 && s.runs
      (x.rg ra % 2 ^ 16) 0 2 && s.pw (x.rg ra % 2 ^ 16) 0 26 == 2) (s.pkts.length + 1)).1 = none) ∧
    (∃ (q : Fin 24) (t : Fin 16) (w : Nat) (p : Option Nat) (rest : List (Nat × Option Nat)) (x : Eng) (s : State), s.eng (16 * q + t) = x
      ∧ x.grneIss = (w, p) :: rest ∧ x.grneHeld.length < 16) ∧
    (∃ (q : Fin 24) (t : Fin 16) (pg : Fin 8) (rd ra rb : Fin 32) (id k : Nat) (p : Packet) (x : Eng) (s : State), s.canIssue (.thread q t)
      = true ∧ s.eng (16 * q + t) = x ∧ x.pr pg = true ∧ x.cur = some (id, k) ∧ s.pkt id = some p ∧ 1 ≤ bitField (x.rg ra) 16 7 ∧ bitField
      (x.rg ra) 16 7 ≤ 64 ∧ s.isStream q t = true) ∧
    (∃ (q : Fin 24) (t : Fin 16) (pg : Fin 8) (rd ra rb : Fin 32) (id k : Nat) (x : Eng) (s : State), s.canIssue (.thread q t) = true ∧
      s.eng (16 * q + t) = x ∧ x.pr pg = true ∧ x.cur = some (id, k)) ∧
    (∃ (q : Fin 24) (t : Fin 16) (pg : Fin 8) (rd ra rb : Fin 32) (x : Eng) (s : State), s.canIssue (.thread q t) = true ∧ s.eng (16 * q +
      t) = x ∧ x.pr pg = true) ∧
    (∃ (tr : BitVec 16) (c : Fin 96) (w : Nat) (rest : List Nat) (s : State), (s.xcEnd tr.toNat c).flight = w :: rest) ∧
    (∃ (q : Fin 24) (t : Fin 16) (pg : Fin 8) (rd ra rb : Fin 32) (c slot : Nat) (p : Prog) (x : Eng) (s : State), s.canIssue (.thread q t)
      = true ∧ s.eng (16 * q + t) = x ∧ x.pr pg = true ∧ x.block = some (c, slot) ∧ s.prog c slot = some p ∧ p.isStatus (x.rg ra % 128) =
      true) ∧
    (∃ (q : Fin 24) (t : Fin 16) (pg : Fin 8) (rd ra rb : Fin 32) (x : Eng) (s : State), s.canIssue (.thread q t) = true ∧ s.eng (16 * q +
      t) = x ∧ x.pr pg = true ∧ 2 ≤ x.rg ra % 8 ∧ unitWordOk (x.rg ra % 8) (x.rg rb % 2 ^ 32) = true) :=
  ⟨⟨0, 1, 0, 1, 2, 3, none, runT.eng 1, runT, by decide +kernel, by decide +kernel, by decide +kernel, by decide +kernel⟩,
   ⟨0, 1, 5, [], runT.setEng 1 { Eng.init with flowIss := [5] }, by decide +kernel⟩,
   ⟨0, 1, 0, 1, 2, 3, 0, runT.eng 1, runT, by decide +kernel, by decide +kernel, by decide +kernel, by decide +kernel⟩,
   ⟨0, 1, 0, 1, 0, 3, 6, hndE, runT.setEng 1 hndE, by decide +kernel, by decide +kernel, by decide +kernel, by decide +kernel⟩,
   ⟨0, 1, 0, 1, 2, 3, runT.eng 1, runT, by decide +kernel, by decide +kernel, by decide +kernel, by decide +kernel⟩,
   ⟨0, 1, 5, none, [], { Eng.init with grneIss := [(5, none)] }, runT.setEng 1 { Eng.init with grneIss := [(5, none)] }, by decide +kernel,
     by decide +kernel, by decide +kernel⟩,
   ⟨0, 1, 0, 1, 2, 3, 6, 0, pktP, gwrE, { runT.setEng 1 gwrE with pkts := [pktP] }, by decide +kernel, by decide +kernel,
     by decide +kernel, by decide +kernel, by decide +kernel, by decide +kernel, by decide +kernel, by decide +kernel⟩,
   ⟨0, 1, 0, 1, 2, 3, 6, 0, gwrE, runT.setEng 1 gwrE, by decide +kernel, by decide +kernel, by decide +kernel, by decide +kernel⟩,
   ⟨0, 1, 0, 1, 2, 3, runT.eng 1, runT, by decide +kernel, by decide +kernel, by decide +kernel⟩,
   ⟨3, 2, 9, [], runS.setXc 3 2 { XcEnd.init with flight := [9] }, by decide +kernel⟩,
   ⟨0, 1, 0, 1, 5, 3, 0, 2, staP, staE, (runT.setEng 1 staE).setProg 0 2 (some staP), by decide +kernel, by decide +kernel,
     by decide +kernel, by decide +kernel, by decide +kernel, by decide +kernel⟩,
   ⟨0, 1, 0, 1, 5, 0, untE, runT.setEng 1 untE, by decide +kernel, by decide +kernel, by decide +kernel, by decide +kernel,
     by decide +kernel⟩⟩

/-- States and operands that meet the hypotheses of `Obligations.VsiControlOps`, one for each clause that has any. -/
theorem witness_vsiControlOps :
    (∃ (e : Engine) (neg : Bool) (pc : Fin 8) (target : BitVec 14) (s : State), (s.eng (engIdx e)).taken neg pc = true ∧ s.canClose e =
      true) ∧
    (∃ (e : Engine) (neg : Bool) (pc : Fin 8) (target : BitVec 14) (s : State), (s.eng (engIdx e)).taken neg pc = false) ∧
    (∃ (e : Engine) (pg : Fin 8) (r : Nat) (rs : List Nat) (s : State), (s.eng (engIdx e)).pr pg = true ∧ s.canClose e = true ∧ (s.eng
      (engIdx e)).rs = r :: rs) ∧
    (∃ (q : Fin 24) (t : Fin 16) (s : State), s.canClose (.thread q t) = true ∧ (s.eng (16 * q + t)).loops = []) ∧
    (∃ (r : Fin 4) (code : BitVec 8) (s : State), s.canClose (.reeve r) = true) ∧
    (∃ (r : Fin 4) (rd : Fin 32) (s : State), s.canClose (.reeve r) = true) ∧
    (∃ (r : Fin 4) (pg : Fin 8) (f : Fin 4) (rd ra : Fin 32) (s : State), s.canClose (.reeve r) = true ∧ (s.eng (384 + r)).pr pg = true) ∧
    (∃ (r : Fin 4) (pg : Fin 8) (rd ra : Fin 32) (x : Eng) (s : State), s.canClose (.reeve r) = true ∧ s.eng (384 + r) = x ∧ x.pr pg =
      true) :=
  ⟨⟨.reeve 1, false, 0, 9, runS, by decide +kernel, by decide +kernel⟩,
   ⟨.reeve 1, true, 0, 9, runS, by decide +kernel⟩,
   ⟨.reeve 1, 0, 7, [], runS.setEng 385 { Eng.init with rs := [7] }, by decide +kernel, by decide +kernel, by decide +kernel⟩,
   ⟨0, 1, runT, by decide +kernel, by decide +kernel⟩,
   ⟨1, 5, runS, by decide +kernel⟩,
   ⟨1, 5, runS, by decide +kernel⟩,
   ⟨1, 0, 1, 5, 6, runS, by decide +kernel, by decide +kernel⟩,
   ⟨1, 0, 2, 3, runS.eng 385, runS, by decide +kernel, by decide +kernel, by decide +kernel⟩⟩

/-- States and operands that meet the hypotheses of `Obligations.References`, one for each clause that has any. -/
theorem witness_references :
    (∃ (m : Fin 8) (n : Fin 18) (en : Bool) (s : State), s.writesAs m = true ∧ s.role = 0) ∧
    (∃ (n : Fin 18) (long : Bool) (s : State), n.val ≠ 16) ∧
    (∃ (long : Bool) (s : State), 2 ≤ (s.failRef 16 1).role) ∧
    (∃ (n : Fin 18) (s : State), s.refState n = 1) ∧
    (∃ (n : Fin 18) (s : State), (s.refx n).timeState = 1 ∧ s.timeCapable n = true) ∧
    (∃ (n : Fin 18) (s : State), (s.refState n = 2 ∨ s.refState n = 3)) ∧
    (∃ (n : Fin 18) (s : State), ((s.refx n).timeState = 2 ∨ (s.refx n).timeState = 3)) :=
  ⟨⟨0, 3, true, runH, by decide +kernel, by decide +kernel⟩,
   ⟨3, false, runS, by decide +kernel⟩,
   ⟨false, runS.wr R.PAIR_STATUS.role 0 3, by decide +kernel⟩,
   ⟨3, runS.wr R.BELL_REF_STAT_n.state 3 1, by decide +kernel⟩,
   ⟨17, runS.setRefx 17 { RefX.init with timeState := 1 }, by decide +kernel, by decide +kernel⟩,
   ⟨3, runS.wr R.BELL_REF_STAT_n.state 3 2, by decide +kernel⟩,
   ⟨3, runS.setRefx 3 { RefX.init with timeState := 2 }, by decide +kernel⟩⟩

/-- States and operands that meet the hypotheses of `Obligations.DpllStates`, one for each clause that has any. -/
theorem witness_dpllStates :
    (∃ (d : Fin 4) (long : Bool) (s : State), s.on R.BELL_DPLL_STAT_d.switching d = true) ∧
    (∃ (d : Fin 4) (s : State), s.dpllState d = 1 ∧ s.dpllFenced d = false ∧ s.on R.BELL_DPLL_STAT_d.switching d = false) ∧
    (∃ (d : Fin 4) (s : State), s.dpllState d = 3 ∧ s.on R.BELL_DPLL_STAT_d.hold_spec d = true) ∧
    (∃ (m : Fin 8) (d : Fin 4) (long : Bool) (s : State), s.writesAs m = true) ∧
    (∃ (d : Fin 4) (s : State), s.bell.resetting.contains d.val = true) ∧
    (∃ (q : Fin 24) (s : State), s.pllLocked q = true) :=
  ⟨⟨2, false, runS.wr R.BELL_DPLL_STAT_d.switching 2 1, by decide +kernel⟩,
   ⟨2, runS.wr R.BELL_DPLL_STAT_d.state 2 1, by decide +kernel, by decide +kernel, by decide +kernel⟩,
   ⟨2, (runS.wr R.BELL_DPLL_STAT_d.state 2 3).wr R.BELL_DPLL_STAT_d.hold_spec 2 1, by decide +kernel, by decide +kernel⟩,
   ⟨0, 2, false, runH, by decide +kernel⟩,
   ⟨2, { runS with bell := { runS.bell with resetting := [2] } }, by decide +kernel⟩,
   ⟨3, runS.wr R.QUAD_PLL.pll_state 3 2, by decide +kernel⟩⟩

/-- States and operands that meet the hypotheses of `Obligations.TimeInputsAndOutputs`, one for each clause that has any. -/
theorem witness_timeInputsAndOutputs :
    (∃ (s : State), s.mode ≠ .muster) ∧
    (∃ (k : Slew) (s : State), s.bell.slew = some k) ∧
    (∃ (k : Fin 2) (t : BitVec 80) (dev : BitVec 64) (s : State), s.Canonical ∧ s.ppsRef k = none ∧ k.val = 1 ∧ s.bell.edge1 = none) ∧
    (∃ (k : Fin 4) (j : BitVec 64) (t : Int) (s : State), Tab.get none s.bell.ppsOld k = none ∧ (s.reg (0x10440 + 8 * k)).toNat % 2 = 1 ∧
      s.ppsInstant (s.reg (0x10440 + 8 * k)).toNat (s.reg (0x10444 + 8 * k)).toNat j.toNat = some t) ∧
    (∃ (s : State), s.on R.BELL_CTRL.tod_tx_en 0 = true) ∧
    (∃ (bytes : List (BitVec 8)) (inTime : Bool) (s : State), s.on R.BELL_CTRL.tod_rx_en 0 = true ∧ bytes.length ≠ 16) ∧
    (∃ (m : Fin 8) (k : Fin 8) (p : Fin 4) (v : BitVec 32) (s : State), s.writesAs m = true ∧ s.role = 0) ∧
    (∃ (m : Fin 8) (n : Fin 18) (en : Bool) (k : Fin 8) (p : Fin 4) (v : BitVec 32) (s : State), s.writesAs m = true ∧ s.role ≠ 0) :=
  ⟨⟨{ runS with mode := .errand }, by decide +kernel⟩,
   ⟨slewK, { runS with bell := { runS.bell with slew := some slewK } }, by decide +kernel⟩,
   ⟨1, 99, 0, runS, by constructor <;> decide +kernel, by decide +kernel, by decide +kernel, by decide +kernel⟩,
   ⟨0, 5, 5000000000 * 65536, runS.setReg 0x10440 1, by decide +kernel, by decide +kernel, by decide +kernel⟩,
   ⟨runS.wr R.BELL_CTRL.tod_tx_en 0 1, by decide +kernel⟩,
   ⟨[], true, runS.wr R.BELL_CTRL.tod_rx_en 0 1, by decide +kernel, by decide +kernel⟩,
   ⟨0, 1, 2, 3, runH, by decide +kernel, by decide +kernel⟩,
   ⟨0, 3, true, 1, 2, 3, runH.wr R.PAIR_STATUS.role 0 1, by decide +kernel, by decide +kernel⟩⟩

/-- States and operands that meet the hypotheses of `Obligations.ProtectionGroups`, one for each clause that has any. -/
theorem witness_protectionGroups :
    (∃ (g : BitVec 12) (x sd : Bool) (c : Nat) (s : State), s.groupValid g.toNat = true ∧ (s.groupPaths g.toNat)[if x then 1 else 0]? =
      some c ∧ (if sd then s.endSd (s.rd R.PAIR_PROT_g.trib_id g.toNat) c else s.endSf (s.rd R.PAIR_PROT_g.trib_id g.toNat) c) = true) ∧
    (∃ (g : BitVec 12) (s : State), s.groupValid g.toNat = true ∧ (s.group g.toNat).wtr = true) ∧
    (∃ (g : BitVec 12) (s : State), s.groupValid g.toNat = true) ∧
    (∃ (h : CmdHead) (g trib : BitVec 16) (pChan : BitVec 8) (given : BitVec 5) (holdOff wtr skew : BitVec 8) (revert bidir : Bool) (a :
      ProtArgs) (s : State), a =
      { trib := trib.toNat, pChan := pChan.toNat, holdOff := if bitField given.toNat 0 1 == 1 then holdOff.toNat else 0, wtr := if bitField given.toNat 1 1 == 1 then wtr.toNat else 30, skew := if bitField given.toNat 4 1 == 1 then skew.toNat else 50, revert := if bitField given.toNat 2 1 == 1 then revert else true, bidir := if bitField given.toNat 3 1 == 1 then bidir else false }
      ∧ s.accepts (s.common h true true ++ [] ++ (s.ahead s.protDue).changeChecks (.protConfig g.toNat a)) = true) ∧
    (∃ (h : CmdHead) (g : BitVec 16) (s : State), s.accepts (s.common h true true ++ [] ++ (s.ahead s.protDue).changeChecks (.protReq 1
      g.toNat)) = true) ∧
    (∃ (h : CmdHead) (g : BitVec 16) (s : State), s.accepts (s.common h true true ++ [] ++ (s.ahead s.protDue).changeChecks (.protReq 2
      g.toNat)) = true) ∧
    (∃ (h : CmdHead) (g : BitVec 16) (s : State), s.accepts (s.common h true true ++ [] ++ (s.ahead s.protDue).changeChecks (.protReq 3
      g.toNat)) = true) ∧
    (∃ (h : CmdHead) (g : BitVec 16) (s : State), s.accepts (s.common h true true ++ [] ++ (s.ahead s.protDue).changeChecks (.protReq 4
      g.toNat)) = true) ∧
    (∃ (h : CmdHead) (g : BitVec 16) (s : State), s.accepts (s.common h true true ++ [] ++ (s.ahead s.protDue).changeChecks (.protReq 5
      g.toNat)) = true) ∧
    (∃ (h : CmdHead) (g : BitVec 16) (s : State), s.accepts (s.common h true true ++ [] ++ (s.ahead s.nextMultiframe).changeChecks
      (.protReq 6 g.toNat)) = true) :=
  ⟨⟨0, false, false, 0, sfS, by decide +kernel, by decide +kernel, by decide +kernel⟩,
   ⟨0, apsS.setGroup 0 { Group.init with wtr := true }, by decide +kernel, by decide +kernel⟩,
   ⟨0, apsS, by decide +kernel⟩,
   ⟨hd, 0, 3, 4, 0, 0, 0, 0, false, false, { trib := 3, pChan := 4, holdOff := 0, wtr := 30, skew := 50, revert := true, bidir := false },
     runS, by decide +kernel, by decide +kernel⟩,
   ⟨hd, 0, apsS, by decide +kernel⟩,
   ⟨hd, 0, apsS, by decide +kernel⟩,
   ⟨hd, 0, apsS, by decide +kernel⟩,
   ⟨hd, 0, apsS, by decide +kernel⟩,
   ⟨hd, 0, apsS, by decide +kernel⟩,
   ⟨hd, 0, apsS, by decide +kernel⟩⟩

/-- States and operands that meet the hypotheses of `Obligations.HeartbeatAndTake`, one for each clause that has any. -/
theorem witness_heartbeatAndTake :
    (∃ (s : State), s.running = true ∧ s.frame % 2 = 0) ∧
    (∃ (high : BitVec 16) (c : Nat) (s : State), s.running = true ∧ heartbeatCode high.toNat = some c) ∧
    (∃ (s : State), s.running = true) :=
  ⟨⟨runS, by decide +kernel, by decide +kernel⟩,
   ⟨1250, 1, runS, by decide +kernel, by decide +kernel⟩,
   ⟨runS, by decide +kernel⟩⟩

/-- States and operands that meet the hypotheses of `Obligations.TwinLinkAndLedger`, one for each clause that has any. -/
theorem witness_twinLinkAndLedger :
    (∃ (d : BitVec 32) (s : State), s.on R.PAIR_STATUS.link_up 0 = true) ∧
    (∃ (frame cycle : BitVec 64) (time : BitVec 96) (n : Fin 96) (ofs : BitVec 32) (u : State) (s : State), u = s.reeveEvent 3 ∧ 2 ≤
      u.role) ∧
    (∃ (diff : BitVec 24) (u : State) (s : State), diff ≠ 0 ∧ s.role = 1 ∧ u = ((({ s with pair := { s.pair with matched := none } } :
      State).wr R.PAIR_DIGEST.quads 0 diff.toNat).bumpSat R.PAIR_DIGEST.count 0 1).pairEvent R.PAIR_EVENT.divergence ∧ u.recent
      u.pair.ownFault = none ∧ u.role = 1) ∧
    (∃ (fence : Bool) (u : State) (s : State), u = s.reeveEvent 3 ∧ u.role ≠ 0) ∧
    (∃ (up : BitVec 8) (s : State), s.running = true) ∧
    (∃ (up : BitVec 8) (s : State), s.running = true) ∧
    (∃ (ack : Bool) (s : State), s.stewardActs = true ∧ s.role < 2) ∧
    (∃ (slot : Fin 2) (g : Machine.Gen) (u : State) (s : State), u = s.reeveEvent 3 ∧ 2 ≤ u.role) ∧
    (∃ (seq frame : BitVec 64) (c : Machine.Change) (u : State) (s : State), u = s.reeveEvent 3 ∧ u.role = 2) :=
  ⟨⟨9, runS.wr R.PAIR_STATUS.link_up 0 1, by decide +kernel⟩,
   ⟨1, 2, 3, 4, 5, (runS.wr R.PAIR_STATUS.role 0 2).reeveEvent 3, runS.wr R.PAIR_STATUS.role 0 2, by decide +kernel, by decide +kernel⟩,
   ⟨1, ((((runS.wr R.PAIR_STATUS.role 0 1).wr R.PAIR_DIGEST.quads 0 1).bumpSat R.PAIR_DIGEST.count 0 1).pairEvent R.PAIR_EVENT.divergence),
     runS.wr R.PAIR_STATUS.role 0 1, by decide +kernel, by decide +kernel, by decide +kernel, by decide +kernel, by decide +kernel⟩,
   ⟨true, (runS.wr R.PAIR_STATUS.role 0 1).reeveEvent 3, runS.wr R.PAIR_STATUS.role 0 1, by decide +kernel, by decide +kernel⟩,
   ⟨0, runS, by decide +kernel⟩,
   ⟨255, runS, by decide +kernel⟩,
   ⟨true, runS, by decide +kernel, by decide +kernel⟩,
   ⟨0, ⟨1, 0, 0, none⟩, (runS.wr R.PAIR_STATUS.role 0 2).reeveEvent 3, runS.wr R.PAIR_STATUS.role 0 2, by decide +kernel,
     by decide +kernel⟩,
   ⟨1, 2, .retest, (runS.wr R.PAIR_STATUS.role 0 2).reeveEvent 3, runS.wr R.PAIR_STATUS.role 0 2, by decide +kernel, by decide +kernel⟩⟩

/-- States and operands that meet the hypotheses of `Obligations.JoiningThePair`, one for each clause that has any. -/
theorem witness_joiningThePair :
    (∃ (h : CmdHead) (s : State), s.pair.join = some (h, 1)) ∧
    (∃ (h : CmdHead) (role : Nat) (s : State), s.pair.join = some (h, role)) ∧
    (∃ (r : LedgRead) (images : Bool) (s : State), s.role = 3) ∧
    (∃ (p : PktCopy) (u : State) (s : State), u = s.reeveEvent 3 ∧ (u.role ≠ 3 ∨ u.on R.GRN_QD_CTRL.valid p.queue.toNat = false)) ∧
    (∃ (eth : Bool) (e : BitVec 16) (s : State), (s.role = 1 ∨ s.role = 3)) ∧
    (∃ (lists : List (BitVec 16 × List (Fin 96 × BitVec 64))) (s : State), s.role = 1) ∧
    (∃ (pool : Bool) (s : State), s.role = 1) ∧
    (∃ (pool : Bool) (s : State), s.role = 3 ∧ s.rd R.PAIR_STATUS.catch_stage 0 = 7 ∧ (pool = true ∨ s.listsMet = false)) ∧
    (∃ (words : List (BitVec 15 × BitVec 64)) (s : State), s.role = 3) :=
  ⟨⟨hd, { runS with pair := { runS.pair with join := some (hd, 1) } }, by decide +kernel⟩,
   ⟨hd, 1, { runS with pair := { runS.pair with join := some (hd, 1) } }, by decide +kernel⟩,
   ⟨{ bad := 0, stop := none, uncorrected := false, corrected := false }, false, runS.wr R.PAIR_STATUS.role 0 3, by decide +kernel⟩,
   ⟨copP, runS.reeveEvent 3, runS, by decide +kernel, by decide +kernel⟩,
   ⟨true, 5, runS.wr R.PAIR_STATUS.role 0 1, by decide +kernel⟩,
   ⟨[], runS.wr R.PAIR_STATUS.role 0 1, by decide +kernel⟩,
   ⟨true, runS.wr R.PAIR_STATUS.role 0 1, by decide +kernel⟩,
   ⟨true, (runS.wr R.PAIR_STATUS.role 0 3).wr R.PAIR_STATUS.catch_stage 0 7, by decide +kernel, by decide +kernel, by decide +kernel⟩,
   ⟨[], runS.wr R.PAIR_STATUS.role 0 3, by decide +kernel⟩⟩

/-- States and operands that meet the hypotheses of `Obligations.HostRings`, one for each clause that has any. -/
theorem witness_hostRings :
    (∃ (m : Fin 8) (x : Fin 6) (lg : BitVec 4) (s : State), s.writesAs m = true ∧ s.on R.HOST_RING_CFG_x.en x = false ∧ 4 ≤ lg.toNat ∧
      lg.toNat ≤ 12) ∧
    (∃ (m : Fin 8) (x : Fin 6) (lg : BitVec 4) (s : State), s.writesAs m = true ∧ s.on R.HOST_RING_CFG_x.en x = true) ∧
    (∃ (m : Fin 8) (x : Fin 6) (idx : BitVec 16) (s : State), s.writesAs m = true) ∧
    (∃ (x : Fin 4) (opcode : BitVec 16) (flags rsv : BitVec 8) (tag : BitVec 32) (s : State), s.mayTake x (flags.toNat % 2 == 1) = true) ∧
    (∃ (x : Fin 6) (s : State), s.running = true ∧ s.on R.HOST_RING_CFG_x.active x = true) ∧
    (∃ (v : Fin 64) (s : State), s.running = true ∧ s.on R.HOST_CTRL.mod_us 0 = true ∧ 0 < Tab.get 0 s.msixCount v) ∧
    (∃ (s : State), s.configUp = true) ∧
    (∃ (h : CmdHead) (f : Fetch) (t : State) (s : State), s.stewardActs = true ∧ s.takeFetch h = (some f, t)) :=
  ⟨⟨0, 1, 5, runH, by decide +kernel, by decide +kernel, by decide +kernel, by decide +kernel⟩,
   ⟨0, 4, 5, runH.wr R.HOST_RING_CFG_x.en 4 1, by decide +kernel, by decide +kernel⟩,
   ⟨0, 4, 0, runH, by decide +kernel⟩,
   ⟨1, 0, 0, 0, 7, (((evS.wr R.HOST_RING_CFG_x.en 1 1).wr R.HOST_RING_CFG_x.active 1 1).wr R.HOST_RING_DB_x.host_idx 1 1),
     by decide +kernel⟩,
   ⟨4, evS, by decide +kernel, by decide +kernel⟩,
   ⟨3, { runS.wr R.HOST_CTRL.mod_us 0 5 with msixCount := [(3, 2)] }, by decide +kernel, by decide +kernel, by decide +kernel⟩,
   ⟨runH, by decide +kernel⟩,
   ⟨hd, fetR, runS, { runS with fetches := [fetR] }, by decide +kernel, by decide +kernel⟩⟩

/-- States and operands that meet the hypotheses of `Obligations.BusAccesses`, one for each clause that has any. -/
theorem witness_busAccesses :
    (∃ (m : Fin 8) (a v : BitVec 32) (s : State), s.reaches m = true ∧ m.val ≤ 4 ∧ unmapped a.toNat = false ∧ a.toNat % 4 = 0 ∧
      s.fencedTarget m a.toNat = false) ∧
    (∃ (v : BitVec 32) (s : State), s.reaches 0 = true) ∧
    (∃ (m : Fin 8) (a v : BitVec 32) (s : State), s.reaches m = true ∧ m.val ≤ 4 ∧ unmapped a.toNat = true) ∧
    (∃ (m : Fin 8) (a v : BitVec 32) (s : State), s.reaches m = true ∧ m.val ≤ 4 ∧ unmapped a.toNat = false ∧ a.toNat % 4 = 0 ∧
      s.fencedTarget m a.toNat = true) ∧
    (∃ (m : Fin 8) (h : Hung) (s : State), s.hung.find? (fun h => h.m == m.val) = some h) :=
  ⟨⟨0, 0x800008, 3, runH, by decide +kernel, by decide +kernel, by decide +kernel, by decide +kernel, by decide +kernel⟩,
   ⟨3, runH, by decide +kernel⟩,
   ⟨0, 0xA0000, 3, runH, by decide +kernel, by decide +kernel, by decide +kernel⟩,
   ⟨0, 0x1800000, 3, runH.wr R.WVR_STATUS.fence_cause 0 4, by decide +kernel, by decide +kernel, by decide +kernel, by decide +kernel,
     by decide +kernel⟩,
   ⟨0, ⟨0, 0xA0000, true⟩, { runH with hung := [⟨0, 0xA0000, true⟩] }, by decide +kernel⟩⟩

/-- States and operands that meet the hypotheses of `Obligations.GatehouseOps`, one for each clause that has any. -/
theorem witness_gatehouseOps :
    (∃ (m : Fin 8) (slot : BitVec 8) (signer : BitVec 4) (s : State), s.Canonical ∧ m.val ≤ 5 ∧ s.reaches m = true ∧ s.gateMaster m = true
      ∧ s.gate.op = none ∧ signer.toNat ≤ 3) ∧
    (∃ (readBack sigOk digestOk late : Bool) (nonce : BitVec 256) (o : GateOp) (s : State), s.gate.op = some o) ∧
    (∃ (s : State), s.gate.lockout = true) :=
  ⟨⟨0, 2, 1, runH, by constructor <;> decide +kernel, by decide +kernel, by decide +kernel, by decide +kernel, by decide +kernel,
     by decide +kernel⟩,
   ⟨true, true, true, false, 0, ⟨10, 0, 0, none, none⟩, { runS with gate := { runS.gate with op := some ⟨10, 0, 0, none, none⟩ } },
     by decide +kernel⟩,
   ⟨{ runS with gate := { runS.gate with lockout := true } }, by decide +kernel⟩⟩

/-- States and operands that meet the hypotheses of `Obligations.LanternAndJtag`, one for each clause that has any. -/
theorem witness_lanternAndJtag :
    (∃ (m : Fin 8) (level : BitVec 2) (trace : Bool) (s : State), m.val ≤ 5 ∧ s.reaches m = true ∧ level.toNat ≤ 2) ∧
    (∃ (m : Fin 8) (burst : Bool) (s : State), m.val ≤ 5 ∧ s.reaches m = true) ∧
    (∃ (m : Fin 8) (reeve : Bool) (unit : BitVec 9) (t : State) (s : State), m.val ≤ 5 ∧ s.reaches m = true ∧ t = s.lantSelect reeve
      unit.toNat ∧ t.tinkered t.selected = true ∧ (t.eng (engIdx t.selected)).halted = true) ∧
    (∃ (m : Fin 8) (reeve : Bool) (unit : BitVec 9) (t : State) (s : State), m.val ≤ 5 ∧ s.reaches m = true ∧ t = s.lantSelect reeve
      unit.toNat ∧ t.tinkered t.selected = true ∧ (t.eng (engIdx t.selected)).halted = false) ∧
    (∃ (m : Fin 8) (reeve missed : Bool) (unit : BitVec 9) (t : State) (s : State), m.val ≤ 5 ∧ s.reaches m = true ∧ t = s.lantSelect reeve
      unit.toNat ∧ t.tinkered t.selected = false) ∧
    (∃ (bits : List Bool) (s : State), s.jtagUp = true) ∧
    (∃ (a data : BitVec 32) (s : State), s.running = true ∧ s.pstate ≤ 2 ∧ s.masterFenced 5 = false ∧ s.lantMay a.toNat true = false ∧
      a.toNat % 4 = 0) ∧
    (∃ (off : BitVec 16) (v : BitVec 32) (s : State), s.startup ≠ .step 1 ∧ s.lifecycle ≤ 1 ∧ s.on R.GATE_LOCK.aon_lock 0 = false ∧
      off.toNat < 2048) ∧
    (∃ (s : State), s.startup = .inP3) :=
  ⟨⟨0, 0, true, runH, by decide +kernel, by decide +kernel, by decide +kernel⟩,
   ⟨0, false, runH, by decide +kernel, by decide +kernel⟩,
   ⟨0, true, 1, tinS.lantSelect true 1, tinS, by decide +kernel, by decide +kernel, by decide +kernel, by decide +kernel,
     by decide +kernel⟩,
   ⟨0, true, 1, tinR.lantSelect true 1, tinR, by decide +kernel, by decide +kernel, by decide +kernel, by decide +kernel,
     by decide +kernel⟩,
   ⟨0, true, false, 1, runH.lantSelect true 1, runH, by decide +kernel, by decide +kernel, by decide +kernel, by decide +kernel⟩,
   ⟨[true], runS.wr R.MILL_STATUS.pstate 0 0, by decide +kernel⟩,
   ⟨0x1000, 5, runS.wr R.MILL_STATUS.pstate 0 0, by decide +kernel, by decide +kernel, by decide +kernel, by decide +kernel,
     by decide +kernel⟩,
   ⟨3, 77, runS, by decide +kernel, by decide +kernel, by decide +kernel, by decide +kernel⟩,
   ⟨{ runS with startup := .inP3 }, by decide +kernel⟩⟩

/-- States and operands that meet the hypotheses of `Obligations.RailSequence`, one for each clause that has any. -/
theorem witness_railSequence :
    (∃ (up : BitVec 3) (mvs : List (BitVec 16)) (d : Nat) (l : List Nat) (s : State), s.startup = .step 4 ∧ s.mill.phase = .setup ∧
      s.mill.todo = d :: l) ∧
    (∃ (up : BitVec 3) (mvs : List (BitVec 16)) (d : Nat) (l : List Nat) (s : State), s.startup = .step 4 ∧ s.mill.phase = .delay ∧
      s.mill.todo = d :: l) ∧
    (∃ (status : BitVec 16) (d : Nat) (l : List Nat) (s : State), s.startup = .step 4 ∧ s.mill.phase = .polling ∧ s.mill.todo = d :: l) ∧
    (∃ (d : Fin 8) (pec : Bool) (status : BitVec 16) (fault : Bool) (s : State), s.pmbPresent d = true ∧ s.pmbFenced d = false) ∧
    (∃ (m d : Fin 8) (s : State), s.writesAs m = true) ∧
    (∃ (d : Fin 8) (status : BitVec 16) (clean : Bool) (s : State), s.mill.resetting.contains d.val = true) :=
  ⟨⟨0, [], 2, [3], seqS .setup, by decide +kernel, by decide +kernel, by decide +kernel⟩,
   ⟨0, [], 2, [3], seqS .delay, by decide +kernel, by decide +kernel, by decide +kernel⟩,
   ⟨0, 2, [3], seqS .polling, by decide +kernel, by decide +kernel, by decide +kernel⟩,
   ⟨0, true, 0, false, pmbS, by decide +kernel, by decide +kernel⟩,
   ⟨0, 1, runH, by decide +kernel⟩,
   ⟨2, 0, true, { runS with mill := { runS.mill with resetting := [2] } }, by decide +kernel⟩⟩

/-- States and operands that meet the hypotheses of `Obligations.PowerAndHeat`, one for each clause that has any. -/
theorem witness_powerAndHeat :
    (∃ (safe measured : BitVec 16) (s : State), s.on R.MILL_CTRL.avs_en 0 = true ∧ s.mill.avsHeld = false ∧ s.corePowered = true) ∧
    (∃ (temps mvs powers : List (BitVec 16)) (u : State) (s : State), hottest temps 0 = none ∧ u = ((s.showTemps temps).showVolts
      mvs).showPower powers ∧ u.mill.range = []) ∧
    (∃ (temps mvs powers : List (BitVec 16)) (t : Int) (k : Nat) (u : State) (s : State), hottest temps 0 = some (t, k) ∧ u =
      (((s.showTemps temps).judgeHeat t k).showVolts mvs).showPower powers ∧ u.mill.range = []) ∧
    (∃ (s : State), s.running = true ∧ s.aboveCap = true) ∧
    (∃ (s : State), s.running = true ∧ s.aboveCap = false ∧ s.mill.gated = false) ∧
    (∃ (s : State), s.startup = .inP3 ∧ s.on R.MILL_WAKE.wake_s 0 = true) ∧
    (∃ (s : State), s.running = true ∧ s.aon.goingP3 = true) ∧
    (∃ (h : Option CmdHead) (p : Nat) (s : State), s.powerHead = some (h, p)) :=
  ⟨⟨800, 800, runS.wr R.MILL_CTRL.avs_en 0 1, by decide +kernel, by decide +kernel, by decide +kernel⟩,
   ⟨[], [], [], ((runS.showTemps []).showVolts []).showPower [], runS, by decide +kernel, by decide +kernel, by decide +kernel⟩,
   ⟨[100], [], [], 100, 0, (((runS.showTemps [100]).judgeHeat 100 0).showVolts []).showPower [], runS, by decide +kernel,
     by decide +kernel, by decide +kernel⟩,
   ⟨(runS.wr R.MILL_STATUS.p_meas 0 65535), by decide +kernel, by decide +kernel⟩,
   ⟨runS, by decide +kernel, by decide +kernel, by decide +kernel⟩,
   ⟨({ runS with startup := .inP3 } : State).wr R.MILL_WAKE.wake_s 0 5, by decide +kernel, by decide +kernel⟩,
   ⟨{ runS with aon := { runS.aon with goingP3 := true } }, by decide +kernel, by decide +kernel⟩,
   ⟨some hd, 1, runS.later (some hd) .event (.power 1), by decide +kernel⟩⟩

/-- States and operands that meet the hypotheses of `Obligations.LaneCommands`, one for each clause that has any. -/
theorem witness_laneCommands :
    (∃ (h : CmdHead) (ch : Machine.Change) (lane : BitVec 16) (width : BitVec 8) (role pam4 : Bool) (rate : BitVec 64) (s : State), ch =
      .laneRate lane.toNat width.toNat role pam4 rate.toNat ∧ (s.chanLanes (s.chan lane.toNat)).any s.moving = false ∧ s.accepts (s.common
      h true true ++ (s.laneAhead ch).changeChecks ch) = true) ∧
    (∃ (h : CmdHead) (ch : Machine.Change) (lane : BitVec 16) (target : BitVec 8) (s : State), target.toNat ≤ 1 ∧ ch = .laneSleep
      lane.toNat (target == 1) ∧ (s.chanLanes (s.chan lane.toNat)).any s.moving = false ∧ s.accepts (s.common h true true ++ (s.laneAhead
      ch).changeChecks ch) = true) ∧
    (∃ (h : CmdHead) (ch : Machine.Change) (lane : BitVec 16) (s : State), ch = .laneWake lane.toNat ∧ (s.chanLanes (s.chan
      lane.toNat)).any s.moving = false ∧ s.accepts (s.common h true true ++ (s.laneAhead ch).changeChecks ch) = true) ∧
    (∃ (h : CmdHead) (ch : Machine.Change) (lane : BitVec 16) (s : State), ch = .laneWake lane.toNat ∧ s.stewardActs = true ∧ lane.toNat <
      96 ∧ (s.chanLanes (s.chan lane.toNat)).any s.moving = true) :=
  ⟨⟨hd, .laneRate 0 1 false false 0, 0, 1, false, false, 0, onBoard runS, by decide +kernel, by decide +kernel, by decide +kernel⟩,
   ⟨hd, .laneSleep 0 false, 0, 0, slpS, by decide +kernel, by decide +kernel, by decide +kernel, by decide +kernel⟩,
   ⟨hd, .laneWake 0, 0, quiS, by decide +kernel, by decide +kernel, by decide +kernel⟩,
   ⟨hd, .laneWake 0, 0, movS, by decide +kernel, by decide +kernel, by decide +kernel, by decide +kernel⟩⟩

/-- States and operands that meet the hypotheses of `Obligations.ProgramCommands`, one for each clause that has any. -/
theorem witness_programCommands :
    (∃ (h : CmdHead) (cc slot : BitVec 8) (replace : Bool) (id : BitVec 16) (addr : BitVec 64) (len : BitVec 32) (p : Prog) (s : State), p
      = (s.ahead s.nextMultiframe).almanac cc.toNat id.toNat ∧ s.accepts (s.common h true true ++ (s.ahead s.nextMultiframe).attachChecks
      cc.toNat slot.toNat replace p) = true) ∧
    (∃ (h : CmdHead) (cc slot : BitVec 8) (replace : Bool) (id : BitVec 16) (addr : BitVec 64) (len : BitVec 32) (s : State), s.accepts
      (s.common h true true ++ (s.ahead s.nextMultiframe).slotChecks cc.toNat slot.toNat replace ++ [(addr.toNat % 8 != 0, .badArg, 16),
      (s.lifecycle == 3, .denied, 0xFF)]) = true) ∧
    (∃ (h : CmdHead) (cc slot : BitVec 8) (s : State), s.accepts (s.common h true true ++ [] ++ (s.ahead s.nextMultiframe).changeChecks
      (.detach cc.toNat slot.toNat)) = true) ∧
    (∃ (h : CmdHead) (cc slot first : BitVec 8) (vs : List (BitVec 32)) (s : State), s.accepts (s.common h true true ++ (s.ahead
      (s.paramDue cc.toNat)).paramChecks cc.toNat slot.toNat first.toNat vs) = true) ∧
    (∃ (h : CmdHead) (r : BitVec 8) (addr : BitVec 64) (len : BitVec 32) (s : State), s.accepts (s.common h false true ++ s.reeveChecks
      r.toNat ++ [(addr.toNat % 8 != 0, .badArg, 16)]) = true) ∧
    (∃ (h : CmdHead) (r : BitVec 8) (s : State), s.accepts (s.common h false true ++ s.reeveChecks r.toNat) = true) :=
  ⟨⟨hd, 0, 0, false, 1, 0, 0, (attS.ahead attS.nextMultiframe).almanac 0 1, attS, by decide +kernel, by decide +kernel⟩,
   ⟨hd, 0, 3, false, 0, 0, 0, attS, by decide +kernel⟩,
   ⟨hd, 0, 0, detS, by decide +kernel⟩,
   ⟨hd, 0, 0, 8, [3], detS, by decide +kernel⟩,
   ⟨hd, 1, 0, 0, runS, by decide +kernel⟩,
   ⟨hd, 1, runS, by decide +kernel⟩⟩

/-- States and operands that meet the hypotheses of `Obligations.CalendarAndQueueCommands`, one for each clause that has any. -/
theorem witness_calendarAndQueueCommands :
    (∃ (h : CmdHead) (addr : BitVec 64) (len : BitVec 32) (img : List (BitVec 32)) (secs : Option (List CalSec)) (s : State), secs =
      parseCal img ∧ s.accepts (s.common h true true ++ imageChecks addr.toNat len.toNat secs ++ (s.ahead s.rateBoundary).changeChecks
      (.calStage (secs.getD []))) = true) ∧
    (∃ (h : CmdHead) (addr : BitVec 64) (len : BitVec 32) (img : List (BitVec 32)) (secs : Option (List CalSec)) (s : State), secs =
      parseCal img ∧ s.accepts (s.common h false true ++ imageChecks addr.toNat len.toNat secs ++ [((secs.getD []).any (fun x => s.secBad x
      false), .badArg, 16)]) = true) ∧
    (∃ (h : CmdHead) (mask : BitVec 96) (s : State), s.accepts (s.common h true true ++ (s.ahead s.rateBoundary).commitChecks (maskList
      mask.toNat 96)) = true) ∧
    (∃ (h : CmdHead) (q egress : BitVec 16) (cls : BitVec 3) (express : Bool) (latePol : BitVec 2) (dlSrc ethEgress keyed : Bool) (budget :
      BitVec 20) (lateTol : BitVec 12) (minCells maxCells : BitVec 32) (key : BitVec 64) (a : QueueArgs) (s : State), a =
      { egress := egress.toNat, cls := cls.toNat, express := express, latePol := latePol.toNat, dlSrc := dlSrc, kind := bit ethEgress, budget := budget.toNat, lateTol := lateTol.toNat, minCells := minCells.toNat, maxCells := maxCells.toNat, key := if keyed then some key.toNat else none }
      ∧ s.accepts (s.common h true true ++ [] ++ (s.ahead s.nextMultiframe).changeChecks (.queueCreate q.toNat a)) = true) ∧
    (∃ (h : CmdHead) (t : BitVec 16) (s : State), s.accepts (s.common h true true ++ [] ++ (s.ahead s.nextMultiframe).changeChecks
      (.trunkCreate t.toNat)) = true) ∧
    (∃ (h : CmdHead) (q : BitVec 16) (express : Bool) (latePol : BitVec 2) (dlSrc : Bool) (budget : BitVec 20) (lateTol : BitVec 12) (a :
      QueueArgs) (s : State), a =
      { egress := 0, cls := 0, express := express, latePol := latePol.toNat, dlSrc := dlSrc, kind := 0, budget := budget.toNat, lateTol := lateTol.toNat, minCells := 0, maxCells := 0, key := none }
      ∧ s.accepts (s.common h true true ++ [] ++ (s.ahead s.nextMultiframe).changeChecks (.queueModify q.toNat a)) = true) ∧
    (∃ (h : CmdHead) (q : BitVec 16) (s : State), s.accepts (s.common h true true ++ [] ++ (s.ahead s.nextMultiframe).changeChecks
      (.queueDelete q.toNat)) = true) ∧
    (∃ (h : CmdHead) (t : BitVec 16) (s : State), s.accepts (s.common h true true ++ [] ++ (s.ahead s.nextMultiframe).changeChecks
      (.trunkDelete t.toNat)) = true) ∧
    (∃ (h : CmdHead) (q : BitVec 16) (s : State), s.accepts (s.common h true true ++ [] ++ (s.ahead s.nextMultiframe).changeChecks
      (.queueFlush q.toNat)) = true) ∧
    (∃ (h : CmdHead) (mask : BitVec 96) (s : State), s.accepts (s.common h false true ++ [(s.on R.GRN_STATUS.scan_busy 0, .busy, 0xFF)]) =
      true) ∧
    (∃ (h : CmdHead) (mask : BitVec 96) (s : State), s.accepts (s.common h false true ++ [(s.mode != .muster, .illegalState, 0xFF),
      ((maskList mask.toNat 96).any (fun b => s.bankState b != 3), .illegalState, 0xFF), (s.on R.GRN_STATUS.scan_busy 0, .busy, 0xFF)]) =
      true) :=
  ⟨⟨hd, 0, 16, [0, 0], parseCal [0, 0], calS, by decide +kernel, by decide +kernel⟩,
   ⟨hd, 0, 16, [0, 0], parseCal [0, 0], calS, by decide +kernel, by decide +kernel⟩,
   ⟨hd, 1, calS, by decide +kernel⟩,
   ⟨hd, 5, 0, 1, true, 0, false, true, false, 0, 0, 0, 16, 0,
     { egress := 0, cls := 1, express := true, latePol := 0, dlSrc := false, kind := 1, budget := 0, lateTol := 0, minCells := 0, maxCells := 16, key := none },
     qcrS, by decide +kernel, by decide +kernel⟩,
   ⟨hd, 7, runS, by decide +kernel⟩,
   ⟨hd, 5, true, 0, false, 0, 0,
     { egress := 0, cls := 0, express := true, latePol := 0, dlSrc := false, kind := 0, budget := 0, lateTol := 0, minCells := 0, maxCells := 0, key := none },
     queS, by decide +kernel, by decide +kernel⟩,
   ⟨hd, 5, queS, by decide +kernel⟩,
   ⟨hd, 7, tdlS, by decide +kernel⟩,
   ⟨hd, 5, queS, by decide +kernel⟩,
   ⟨hd, 3, runS, by decide +kernel⟩,
   ⟨hd, 1, runS.wr R.GRN_BANK_b.state 0 3, by decide +kernel⟩⟩

/-- States and operands that meet the hypotheses of `Obligations.ModePowerAndPairCommands`, one for each clause that has any. -/
theorem witness_modePowerAndPairCommands :
    (∃ (h : CmdHead) (mode : BitVec 8) (m : Mode) (s : State), Mode.ofNum mode.toNat = some m ∧ m ≠ s.mode ∧ s.accepts (s.common h true
      true ++ (s.ahead (s.modeDue m)).modeChecks mode.toNat) = true) ∧
    (∃ (h : CmdHead) (mode : BitVec 8) (s : State), Mode.ofNum mode.toNat = some s.mode ∧ s.accepts (s.common h true true) = true) ∧
    (∃ (h : CmdHead) (state : BitVec 8) (s : State), state.toNat = s.pstate ∧ s.accepts (s.common h false false) = true) ∧
    (∃ (h : CmdHead) (state : BitVec 8) (s : State), state.toNat ≠ s.pstate ∧ state.toNat ≤ 1 ∧ s.pstate ≤ 1 ∧ s.accepts (s.common h false
      false ++ s.powerChecks state.toNat ++ (s.ahead s.nextMultiframe).changeChecks (.power state.toNat)) = true) ∧
    (∃ (h : CmdHead) (state : BitVec 8) (s : State), state.toNat ≠ s.pstate ∧ (1 < state.toNat ∨ 1 < s.pstate) ∧ s.accepts (s.common h
      false false ++ s.powerChecks state.toNat) = true) ∧
    (∃ (h : CmdHead) (role : BitVec 8) (s : State), s.accepts (s.common h false false ++ s.joinChecks role.toNat) = true) ∧
    (∃ (h : CmdHead) (s : State), s.accepts (s.common h false false ++ [] ++ (s.ahead s.nextMultiframe).changeChecks (.pairLeave)) = true) ∧
    (∃ (h : CmdHead) (s : State), s.accepts (s.common h false false ++ s.takeChecks) = true) ∧
    (∃ (h : CmdHead) (s : State), s.accepts (s.common h false false ++ [(decide (2 ≤ s.role), .illegalState, 0xFF), (s.ledg.open_.isSome,
      .busy, 0xFF)]) = true) :=
  ⟨⟨hd, 2, .errand, modS, by decide +kernel, by decide +kernel, by decide +kernel⟩,
   ⟨hd, 0, modS, by decide +kernel, by decide +kernel⟩,
   ⟨hd, 0, modS, by decide +kernel, by decide +kernel⟩,
   ⟨hd, 1, modS, by decide +kernel, by decide +kernel, by decide +kernel, by decide +kernel⟩,
   ⟨hd, 2, modS, by decide +kernel, by decide +kernel, by decide +kernel⟩,
   ⟨hd, 1, joiS, by decide +kernel⟩,
   ⟨hd, runS.wr R.PAIR_STATUS.role 0 1, by decide +kernel⟩,
   ⟨hd, takS, by decide +kernel⟩,
   ⟨hd, runS, by decide +kernel⟩⟩

/-- States and operands that meet the hypotheses of `Obligations.TimeAndRegisterCommands`, one for each clause that has any. -/
theorem witness_timeAndRegisterCommands :
    (∃ (h : CmdHead) (writes : List (BitVec 32 × BitVec 32)) (s : State), s.accepts (s.common h true false ++ [] ++ (s.ahead
      s.nextMultiframe).changeChecks (.bell (entriesOf writes))) = true) ∧
    (∃ (h : CmdHead) (writes : List (BitVec 32 × BitVec 32)) (s : State), s.accepts (s.common h true true ++ [] ++ (s.ahead
      s.nextMultiframe).changeChecks (.regs (entriesOf writes))) = true) ∧
    (∃ (h : CmdHead) (amount : BitVec 64) (rate : BitVec 32) (s : State), (s.accepts (s.common h false false ++ s.stepChecks ++ [(decide
      (10 ^ 6 * 2 ^ 16 < amount.toInt.natAbs), .badArg, 16), (decide (rate.toNat < 1 ∨ 10000 < rate.toNat), .badArg, 24)]) = true)) ∧
    (∃ (h : CmdHead) (amount : BitVec 64) (s : State), s.accepts (s.common h false false ++ s.stepChecks ++ [(s.mode == .sundial,
      .illegalState, 0xFF)]) = true) ∧
    (∃ (h : CmdHead) (amount : BitVec 64) (s : State), s.accepts (s.common h false false ++ s.stepChecks ++ [(s.dpllMode 1 != 5,
      .illegalState, 0xFF), (decide (100000 * 2 ^ 16 < amount.toInt.natAbs), .badArg, 16)]) = true) ∧
    (∃ (h : CmdHead) (sec : BitVec 48) (s : State), s.accepts (s.common h false false ++ s.stepChecks ++ [(s.mode == .sundial,
      .illegalState, 0xFF), (s.bell.setSec.isSome, .busy, 0xFF)]) = true) :=
  ⟨⟨hd, [(0x20, 0)], runS, by decide +kernel⟩,
   ⟨hd, [(0x400004, 0)], runS, by decide +kernel⟩,
   ⟨hd, 5, 7, stpS, by decide +kernel⟩,
   ⟨hd, 5, stpS, by decide +kernel⟩,
   ⟨hd, 5, stpS, by decide +kernel⟩,
   ⟨hd, 5, stpS, by decide +kernel⟩⟩

/-- States and operands that meet the hypotheses of `Obligations.DeviceAndDebugCommands`, one for each clause that has any. -/
theorem witness_deviceAndDebugCommands :
    (∃ (h : CmdHead) (s : State), s.accepts (s.common h false false) = true) ∧
    (∃ (h : CmdHead) (s : State), s.accepts (s.common h false false) = true) ∧
    (∃ (h : CmdHead) (kind : BitVec 8) (unit : BitVec 32) (s : State), (kind.toNat = 3 ∨ kind.toNat = 4 ∨ kind.toNat = 6) ∧ s.accepts
      (s.common h false false ++ [] ++ (s.ahead s.nextMultiframe).changeChecks (.lift kind.toNat unit.toNat)) = true) ∧
    (∃ (h : CmdHead) (kind : BitVec 8) (unit : BitVec 32) (f : Nat) (t : State) (s : State), (kind.toNat = 1 ∨ kind.toNat = 2 ∨ kind.toNat
      = 5 ∨ 7 ≤ kind.toNat ∨ kind.toNat = 0) ∧ s.fresh 1 = (f, t) ∧ t.accepts (t.common h false false ++ t.liftNowChecks kind.toNat
      unit.toNat (f == 1)) = true) ∧
    (∃ (h : CmdHead) (mask : BitVec 16) (s : State), s.accepts (s.common h false true ++ [(s.mode != .smithy, .illegalState, 0xFF)] ++
      (injsOf mask.toNat).flatMap s.armChecks) = true) ∧
    (∃ (h : CmdHead) (mask : BitVec 16) (s : State), s.accepts (s.common h false false) = true) ∧
    (∃ (h : CmdHead) (level : BitVec 8) (mask : BitVec 32) (s : State), level.toNat ≤ 1 ∧ s.accepts (s.common h false (decide (s.debugLevel
      < level.toNat)) ++ [(decide (2 < level.toNat), .badArg, 9), (decide (2 ^ 28 ≤ mask.toNat), .badArg, 15), (!s.levelOk level.toNat,
      .denied, 0xFF)]) = true) ∧
    (∃ (h : CmdHead) (mask : BitVec 32) (addr : BitVec 64) (s : State), s.accepts (s.common h false false ++ [(decide (2 ^ 28 ≤
      mask.toNat), .badArg, 15), (addr.toNat % 8 != 0, .badArg, 16), (s.gate.op.isSome, .busy, 0xFF)]) = true) ∧
    (∃ (h : CmdHead) (signer : BitVec 8) (addr : BitVec 64) (sig : List (BitVec 8)) (s : State), s.accepts (s.common h false true ++
      [(decide (3 < signer.toNat), .badArg, 9), (addr.toNat % 8 != 0, .badArg, 16), (s.gate.op.isSome, .busy, 0xFF)]) = true) ∧
    (∃ (h : CmdHead) (op slot signer : BitVec 8) (len : BitVec 32) (addr : BitVec 64) (buf : List (BitVec 8)) (s : State), s.accepts
      (s.common h (decide (5 ≤ op.toNat ∧ op.toNat ≤ 7)) false ++ [(!(decide (1 ≤ op.toNat ∧ op.toNat ≤ 7) || op.toNat == 10), .badArg, 8),
      (decide (3 < signer.toNat), .badArg, 10), (decide (256 < len.toNat), .badArg, 12), (addr.toNat % 8 != 0, .badArg, 16),
      (s.gate.op.isSome, .busy, 0xFF)]) = true) :=
  ⟨⟨hd, runS, by decide +kernel⟩,
   ⟨hd, runS, by decide +kernel⟩,
   ⟨hd, 4, 3, lftS, by decide +kernel, by decide +kernel⟩,
   ⟨hd, 1, 0, (lunS.fresh 1).1, (lunS.fresh 1).2, lunS, by decide +kernel, by rfl, by decide +kernel⟩,
   ⟨hd, 0, { runS with mode := .smithy }, by decide +kernel⟩,
   ⟨hd, 3, runS, by decide +kernel⟩,
   ⟨hd, 0, 0, runS, by decide +kernel, by decide +kernel⟩,
   ⟨hd, 3, 8, runS, by decide +kernel⟩,
   ⟨hd, 1, 8, [], runS, by decide +kernel⟩,
   ⟨hd, 2, 0, 1, 0, 0, [], runS, by decide +kernel⟩⟩


end Sys2Proof.Tests
end

section
/-! PROOF. What the register rules of `00_scope.md` come to: a written field reads back (R8, R362), and a second write of a once field is
discarded and counted (R9). -/
namespace Sys2Proof.Machine

/-! A hardware latch and a wrapping count, as reads see them. Both are field writes. -/

theorem State.Canonical.latch {s : State} (h : s.Canonical) (f : Fld) (i : Nat) : (s.latch f i).Canonical := h.wr f i 1

theorem State.Canonical.bump {s : State} (h : s.Canonical) (f : Fld) (i k : Nat) : (s.bump f i k).Canonical := h.wr f i _

theorem State.reg_latch_other (s : State) (f : Fld) (i a : Nat) (h : s.Canonical) (ha : a ≠ f.addr i) : (s.latch f i).reg a = s.reg a :=
  s.reg_wr_other f i 1 a h ha

theorem State.reg_bump_other (s : State) (f : Fld) (i k a : Nat) (h : s.Canonical) (ha : a ≠ f.addr i) : (s.bump f i k).reg a = s.reg a :=
  s.reg_wr_other f i _ a h ha

/-- A latch that the hardware sets reads 1. -/
theorem State.rd_latch_same (s : State) (f : Fld) (i : Nat) (h : s.Canonical) (hf : f.lo + f.w ≤ 32) (hw : 0 < f.w) :
    (s.latch f i).rd f i = 1 :=
  (s.rd_wr_same f i 1 h hf).trans (Nat.mod_eq_of_lt (Nat.one_lt_two_pow hw.ne'))

/-- A count wraps at its width. -/
theorem State.rd_bump_same (s : State) (f : Fld) (i k : Nat) (h : s.Canonical) (hf : f.lo + f.w ≤ 32) :
    (s.bump f i k).rd f i = (s.rd f i + k) % 2 ^ f.w :=
  s.rd_wr_same f i _ h hf

theorem State.rd_latch_field (s : State) (f g : Fld) (i j : Nat) (h : s.Canonical) (hf : f.lo + f.w ≤ 32)
    (hg : g.addr j ≠ f.addr i ∨ g.lo + g.w ≤ f.lo ∨ f.lo + f.w ≤ g.lo) : (s.latch f i).rd g j = s.rd g j :=
  s.rd_wr_field f g i j 1 h hf hg

theorem State.rd_bump_field (s : State) (f g : Fld) (i j k : Nat) (h : s.Canonical) (hf : f.lo + f.w ≤ 32)
    (hg : g.addr j ≠ f.addr i ∨ g.lo + g.w ≤ f.lo ∨ f.lo + f.w ≤ g.lo) : (s.bump f i k).rd g j = s.rd g j :=
  s.rd_wr_field f g i j _ h hf hg

/-! Once fields (R9). -/

theorem addr_onceViol (m : Nat) : R.MTX_MSTAT_m.once_viol.addr m = 0x1004 + m * 0x10 := rfl

theorem addr_onceViolCnt (m : Nat) : R.MTX_MCNT_m.once_viol_cnt.addr m = 0x1008 + m * 0x10 := rfl

/-- A write to a register of once fields that has been written sets once_viol, counts, and does nothing else. -/
theorem State.onceWrite_of_done (s : State) (m a v : Nat) (h : a ∈ s.onceDone) :
    s.onceWrite m a v = (s.latch R.MTX_MSTAT_m.once_viol m).bump R.MTX_MCNT_m.once_viol_cnt m 1 := by
  simp [State.onceWrite, h]

theorem exec_onceFieldWrite (m : Fin 8) (v : BitVec 3) (s : State) :
    exec (.onceFieldWrite m v) s = .next (s.asAny m (·.onceWrite m 0x400C v.toNat)) := rfl

/-- After power-on reset no once field counts as written. -/
theorem State.powerOnReset_onceDone (s : State) : s.powerOnReset.onceDone = [] := rfl

/-- The trace of a discarded once write lies in the status and count of master `m` alone: GATE_LOCK lies at neither address, and the two
addresses differ. -/
theorem onceViol_addresses (m : Fin 8) :
    0x400C ≠ R.MTX_MSTAT_m.once_viol.addr m ∧ 0x400C ≠ R.MTX_MCNT_m.once_viol_cnt.addr m ∧
    R.MTX_MSTAT_m.once_viol.addr m ≠ R.MTX_MCNT_m.once_viol_cnt.addr m := by
  rw [addr_onceViol, addr_onceViolCnt]
  omega

/-- Settles O7: a field write replaces the bits of its field in one register, and a canonical table reads as last written. -/
theorem registerReadsBack : Obligations.RegisterReadsBack := by
  unfold Obligations.RegisterReadsBack
  exact ⟨fun s f i v => s.rd_wr_same f i v, fun s f g i j v => s.rd_wr_field f g i j v, fun s f i v a => s.reg_wr_other f i v a⟩

/-- Settles O9: the second write takes the branch that only latches once_viol and counts, and neither register is GATE_LOCK. -/
theorem onceFieldStays : Obligations.OnceFieldStays := by
  unfold Obligations.OnceFieldStays
  refine ⟨?written_again, ?what_it_leaves, State.powerOnReset_onceDone⟩
  case written_again =>
    intro m v s hm hreach hdone
    rw [exec_onceFieldWrite, State.asAny_eq s m _ hm hreach, State.onceWrite_of_done s m _ _ hdone]
  case what_it_leaves =>
    intro m s hs
    obtain ⟨hlockStat, hlockCnt, hstatCnt⟩ := onceViol_addresses m
    have hl := hs.latch R.MTX_MSTAT_m.once_viol m
    refine ⟨?_, ?_, ?_, ?_⟩
    · rw [State.reg_bump_other _ _ _ _ _ hl hlockCnt, State.reg_latch_other _ _ _ _ hs hlockStat]
    · rw [State.rd_bump_field _ _ _ _ _ _ hl (by decide) (.inl hstatCnt), State.rd_latch_same _ _ _ hs (by decide) (by decide)]
    · rw [State.rd_bump_same _ _ _ _ hl (by decide), State.rd_latch_field _ _ _ _ _ hs (by decide) (.inl hstatCnt.symm)]
    · simp only [State.bump_frame, State.latch_frame]

end Sys2Proof.Machine
end

section
/-! PROOF. What the boundaries and the lane writes of `01_architecture.md` come to: a running part's three beats (R23, R245, R298),
and the writes of lane registers that start something, with R24's gate where it applies. -/
namespace Sys2Proof.Machine

/-! The gate of R24, as a master that may write there meets it. -/

theorem State.pairGate_unpaired (s : State) (m : Nat) (f : State → State) (h : s.role = 0) : s.pairGate m f = f s := if_pos h

theorem State.pairGate_paired (s : State) (m : Nat) (f : State → State) (h : s.role ≠ 0) :
    s.pairGate m f = s.latch R.MTX_MSTAT_m.pair_wr_drop m := if_neg h

/-- Outside a pair a guarded write of a master that may write there happens. -/
theorem State.asMaster_pairGate_unpaired (s : State) (m : Nat) (f : State → State) (hw : s.writesAs m = true) (h : s.role = 0) :
    s.asMaster m (·.pairGate m f) = f s :=
  (s.asMaster_eq m _ hw).trans (s.pairGate_unpaired m f h)

/-- In a pair role a guarded write of such a master leaves pair_wr_drop and nothing else. -/
theorem State.asMaster_pairGate_paired (s : State) (m : Nat) (f : State → State) (hw : s.writesAs m = true) (h : s.role ≠ 0) :
    s.asMaster m (·.pairGate m f) = s.latch R.MTX_MSTAT_m.pair_wr_drop m :=
  (s.asMaster_eq m _ hw).trans (s.pairGate_paired m f h)

/-! The lane writes that the model takes without R24's gate (R30, R42, R46, R49): each is an access of the master. -/

theorem exec_eyeScanStart (m : Fin 8) (n : Fin 96) (s : State) : exec (.eyeScanStart m n) s =
    .next (s.asMaster m (·.laneWrite n 0x124 (1 + 2 * s.rd R.LANE_EYE_SCAN.ber_exp n))) := rfl

theorem exec_firApply (m : Fin 8) (n : Fin 96) (s : State) : exec (.firApply m n) s =
    .next (s.asMaster m (·.laneWrite n 0x028 (0x100 + s.rd R.LANE_TX_CFG.swing n))) := rfl

theorem exec_guardRelease (m : Fin 8) (n : Fin 96) (s : State) : exec (.guardRelease m n) s =
    .next (s.asMaster m (·.laneWrite n 0x100 (setBitField (s.reg (0x100100 + n * 0x1000)).toNat 30 1 1))) := rfl

theorem exec_laneReset (m : Fin 8) (n : Fin 96) (s : State) : exec (.laneReset m n) s = .next (s.asMaster m (·.laneReset m n)) := rfl

theorem exec_laneFenceReq (m : Fin 8) (n : Fin 96) (s : State) :
    exec (.laneFenceReq m n) s = .next (s.asMaster m (·.fenceLane n 5)) := rfl

/-! The lane writes that R24 guards (R43, R44, R63, R68): the gate stands inside the access. -/

theorem exec_losCfgWrite (m : Fin 8) (n : Fin 96) (on off : BitVec 6) (s : State) : exec (.losCfgWrite m n on off) s =
    .next (s.asMaster m (·.pairGate m (·.laneWrite n 0x110 (on.toNat + 256 * off.toNat)))) := rfl

theorem exec_lolCfgWrite (m : Fin 8) (n : Fin 96) (on off : BitVec 10) (s : State) : exec (.lolCfgWrite m n on off) s =
    .next (s.asMaster m (·.pairGate m (·.laneWrite n 0x114 (on.toNat + 2 ^ 16 * off.toNat)))) := rfl

theorem exec_laneTestWrite (m : Fin 8) (n : Fin 96) (loop : BitVec 2) (gen chk : BitVec 3) (s : State) :
    exec (.laneTestWrite m n loop gen chk) s =
      .next (s.asMaster m (·.pairGate m (·.laneWrite n 0x164 (loop.toNat + 4 * gen.toNat + 32 * chk.toNat)))) := rfl

theorem exec_prbsChkWrite (m : Fin 8) (n : Fin 96) (chk : BitVec 3) (s : State) : exec (.prbsChkWrite m n chk) s =
    .next (s.asMaster m (·.pairGate m (·.laneWrite n 0x164
      (s.rd R.LANE_TEST.loop n + 4 * s.rd R.LANE_TEST.prbs_gen n + 32 * chk.toNat)))) := rfl

/-- Settles O19: a running part is past the guard of each command (at the first frame of a multiframe, past both guards of the multiframe
boundary), and what remains of the command is its steps in their order. -/
theorem boundaries : Obligations.Boundaries := by
  unfold Obligations.Boundaries
  refine ⟨?frame, ?multiframe, ?tick⟩
  case frame =>
    intro drift s hr
    have hguard : ¬ (!s.running) = true := by simp [hr]
    exact if_neg hguard
  case multiframe =>
    intro twin s hr hf
    have hguard : ¬ ((!s.running) = true ∨ s.frame % 400 ≠ 0) := by simp [hr, hf]
    exact ⟨_, _, rfl, rfl, if_neg hguard⟩
  case tick =>
    intro s hr
    have hguard : ¬ (!s.running) = true := by simp [hr]
    exact ⟨_, _, rfl, rfl, if_neg hguard⟩

/-- Settles O24: the access of a master that may write there happens, and the gate of R24 inside it decides by the pair role alone. -/
theorem laneWrites : Obligations.LaneWrites := by
  unfold Obligations.LaneWrites
  refine ⟨?unguarded, ?outside_a_pair, ?in_a_pair⟩
  case unguarded =>
    intro m n s hw
    have happens (f : State → State) : s.asMaster m f = f s := s.asMaster_eq m f hw
    refine ⟨?_, ?_, ?_, ?_, ?_⟩
    · rw [exec_eyeScanStart, happens]
    · rw [exec_firApply, happens]
    · rw [exec_guardRelease, happens]
    · rw [exec_laneReset, happens]
    · rw [exec_laneFenceReq, happens]
  case outside_a_pair =>
    intro m n a b c d loop gen chk s hw h0
    have passes (f : State → State) : s.asMaster m (·.pairGate m f) = f s := s.asMaster_pairGate_unpaired m f hw h0
    refine ⟨?_, ?_, ?_, ?_⟩
    · rw [exec_losCfgWrite, passes]
    · rw [exec_lolCfgWrite, passes]
    · rw [exec_laneTestWrite, passes]
    · rw [exec_prbsChkWrite, passes]
  case in_a_pair =>
    intro m n a b c d loop gen chk s hw h0
    have refused (f : State → State) : s.asMaster m (·.pairGate m f) = s.latch R.MTX_MSTAT_m.pair_wr_drop m :=
      s.asMaster_pairGate_paired m f hw h0
    refine ⟨?_, ?_, ?_, ?_⟩
    · rw [exec_losCfgWrite, refused]
    · rw [exec_lolCfgWrite, refused]
    · rw [exec_laneTestWrite, refused]
    · rw [exec_prbsChkWrite, refused]

end Sys2Proof.Machine
end

section
/-! PROOF. The alignment rows of a lane and its quad's LC-PLL of `03_lane_bringup.md` (R53, R57 to R68) and the DPLL rows of
`11_bell_tower.md` (R286 to R292):
what each command comes to once the guard it opens with is met. -/
namespace Sys2Proof.Machine

/-- A command whose two branches both go on answers the state that the branch gives. -/
theorem next_ite (c : Prop) [Decidable c] (t e : State) : (if c then .next t else .next e : Res) = .next (if c then t else e) :=
  (apply_ite Host.Outcome.next c t e).symm

/-! The steward's bit-slip search (R60, R61): one equation per place that the search can stand at. -/

/-- A write of slip while the search has no slips left to write is the lane write alone. -/
theorem exec_slip_of_not_slips (m : Fin 8) (n : Fin 96) (s : State) (hr : s.reaches m = true)
    (hs : ∀ k, ((s.laneWrite n 0x160 0x100).align n).search ≠ .slips k) :
    exec (.slip m n) s = .next (s.laneWrite n 0x160 0x100) := by
  have hguard : ¬ (!s.reaches m) = true := by simp [hr]
  refine (if_neg hguard).trans ?_
  split
  · next k hk => exact absurd hk (hs k)
  · rfl

theorem exec_bitslipSearchStart (n : Fin 96) (s : State) : exec (.bitslipSearchStart n) s =
    if s.stewardActs ∧ s.laneState n = 2 ∧ s.rxState n = 2 ∧ s.bitSlipLane n ∧ (s.align n).search = .idle then
      .next (s.setAlign n { s.align n with search := .await false })
    else .next s := rfl

/-- No pattern in the window: after slips the search waits once more, and after that it reports that there is none. -/
theorem exec_patternWaitTimeout_await (n : Fin 96) (again : Bool) (s : State) (hact : s.stewardActs = true)
    (hpos : s.on R.LANE_ALIGN.pos_valid n = false) (hsearch : (s.align n).search = .await again) :
    exec (.patternWaitTimeout n) s =
      .next (if again then s.setAlign n { s.align n with search := .await false } else s.report 8 0 n 0) := by
  have hguard : ¬ ((!s.stewardActs) = true ∨ s.on R.LANE_ALIGN.pos_valid n = true) := by simp [hact, hpos]
  refine (if_neg hguard).trans ?_
  rw [hsearch]
  cases again <;> rfl

/-- A pattern after the first wait: on the boundary it is confirmed, off it the word position says how many slips follow. -/
theorem exec_alignConfirmRead_await (n : Fin 96) (s : State) (hact : s.stewardActs = true)
    (hpos : s.on R.LANE_ALIGN.pos_valid n = true) (hsearch : (s.align n).search = .await false) :
    exec (.alignConfirmRead n) s = if s.rd R.LANE_ALIGN.word_pos n = 0 then .next (s.setAlign n { s.align n with search := .confirm 1 })
      else .next (s.setAlign n { s.align n with search := .slips (s.rd R.LANE_ALIGN.word_pos n) }) := by
  have hguard : ¬ (!s.stewardActs) = true := by simp [hact]
  have hvalid : ¬ (!s.on R.LANE_ALIGN.pos_valid n) = true := by simp [hpos]
  refine (if_neg hguard).trans ?_
  simp only [hsearch]
  exact if_neg hvalid

/-- A confirming read that finds the pattern on the boundary counts; the third one reports the lane aligned. -/
theorem exec_alignConfirmRead_confirm (n : Fin 96) (k : Nat) (s : State) (hact : s.stewardActs = true)
    (hsearch : (s.align n).search = .confirm k) (hfound : s.on R.LANE_ALIGN.pos_valid n = true ∧ s.rd R.LANE_ALIGN.word_pos n = 0) :
    exec (.alignConfirmRead n) s = .next (if k < 2 then s.setAlign n { s.align n with search := .confirm (k + 1) }
      else (s.setAlign n { s.align n with search := .aligned 0 }).report 8 1 n (s.rd R.LANE_ALIGN.slip_cnt n)) := by
  have hguard : ¬ (!s.stewardActs) = true := by simp [hact]
  refine (if_neg hguard).trans ?_
  simp only [hsearch]
  exact (if_pos hfound).trans (next_ite ..)

/-- A monitor read of an aligned lane that finds the pattern off the boundary: the first is remembered, the second starts the search again. -/
theorem exec_alignMonitorRead_aligned (n : Fin 96) (bad : Nat) (s : State) (hact : s.stewardActs = true)
    (hsearch : (s.align n).search = .aligned bad) (hoff : s.on R.LANE_ALIGN.pos_valid n = true ∧ s.rd R.LANE_ALIGN.word_pos n ≠ 0) :
    exec (.alignMonitorRead n) s = .next (if bad = 0 then s.setAlign n { s.align n with search := .aligned 1 }
      else ((s.setAlign n { s.align n with search := .await false }).hfHunt n).report 8 2 n 0) := by
  have hguard : ¬ (!s.stewardActs) = true := by simp [hact]
  change execAlignMonitorRead n s = _
  unfold execAlignMonitorRead
  simp only [hsearch]
  exact ((if_neg hguard).trans (if_pos hoff)).trans (next_ite ..)

/-! The far-end loop and the PRBS checker (R64, R65, R68). -/

theorem exec_farEndLoopStart (n : Fin 96) (s : State) : exec (.farEndLoopStart n) s =
    if s.testMode ∧ s.laneState n = 2 ∧ s.rxState n = 2 ∧ s.rd R.LANE_TEST.loop n = 3 then
      .next (s.setAlign n { s.align n with farEnd := true })
    else .next s := rfl

/-- A checker is on when its lane is ACTIVE and a PRBS is chosen: such a window is past the command's first guard. -/
theorem State.prbsCheck_runs (s : State) (n : Fin 96) (hlane : s.laneState n = 2) (hchk : s.rd R.LANE_TEST.prbs_chk n ≠ 0) :
    ¬ (¬ (s.laneState n = 2 ∨ (s.laneState n = 5 ∧ ¬ (s.lane n).rxStopped)) ∨ s.rd R.LANE_TEST.prbs_chk n = 0) := by
  simp [hlane, hchk]

/-- With sync each mismatched bit of the window counts, and 256 in a full window of 1,024 lose sync. -/
theorem exec_prbsCheckWindow_synced (n : Fin 96) (bits mism : BitVec 11) (s : State) (hlane : s.laneState n = 2)
    (hchk : s.rd R.LANE_TEST.prbs_chk n ≠ 0) (hsync : s.on R.LANE_TEST.prbs_sync n = true) :
    exec (.prbsCheckWindow n bits mism) s = .next (if bits.toNat = 1024 ∧ 256 ≤ mism.toNat then
      ((s.bumpSat R.LANE_PRBS_ERR.errors n mism.toNat).wr R.LANE_TEST.prbs_sync n 0).setAlign n { s.align n with chkRun := 0 }
      else s.bumpSat R.LANE_PRBS_ERR.errors n mism.toNat) :=
  ((if_neg (s.prbsCheck_runs n hlane hchk)).trans (if_pos hsync)).trans (next_ite ..)

/-- Without sync a window with no mismatch lengthens the run of good bits, and a run of 128 gains sync. -/
theorem exec_prbsCheckWindow_unsynced (n : Fin 96) (bits : BitVec 11) (s : State) (hlane : s.laneState n = 2)
    (hchk : s.rd R.LANE_TEST.prbs_chk n ≠ 0) (hsync : s.on R.LANE_TEST.prbs_sync n = false) :
    exec (.prbsCheckWindow n bits 0) s = if 128 ≤ (s.align n).chkRun + bits.toNat then
      .next ((s.wr R.LANE_TEST.prbs_sync n 1).setAlign n { s.align n with chkRun := 0 })
      else .next (s.setAlign n { s.align n with chkRun := (s.align n).chkRun + bits.toNat }) :=
  (if_neg (s.prbsCheck_runs n hlane hchk)).trans (if_neg (by simp [hsync]))

/-- Settles O26: each place of the search has its equation above; the read or window of the clause decides the branch that is left. -/
theorem bitSlipSearch : Obligations.BitSlipSearch := by
  unfold Obligations.BitSlipSearch
  refine ⟨?slip, ?start, ?second_wait, ?no_pattern, ?slips, ?confirm, ?monitor, ?far_end, ?synced, ?gains_sync⟩
  case slip =>
    intro m n s hr hidle
    exact exec_slip_of_not_slips m n s hr fun k hk => Search.noConfusion (hidle.symm.trans hk)
  case start =>
    intro n s hact hlane hrx hslip hidle
    rw [exec_bitslipSearchStart, if_pos ⟨hact, hlane, hrx, hslip, hidle⟩]
  case second_wait =>
    intro n s hact hpos hsearch
    exact exec_patternWaitTimeout_await n true s hact hpos hsearch
  case no_pattern =>
    intro n s hact hpos hsearch
    exact exec_patternWaitTimeout_await n false s hact hpos hsearch
  case slips =>
    intro n s hact hpos hsearch hoff
    rw [exec_alignConfirmRead_await n s hact hpos hsearch, if_neg hoff]
  case confirm =>
    intro n k s hact hpos hsearch hon
    exact exec_alignConfirmRead_confirm n k s hact hsearch ⟨hpos, hon⟩
  case monitor =>
    intro n bad s hact hpos hsearch hoff
    exact exec_alignMonitorRead_aligned n bad s hact hsearch ⟨hpos, hoff⟩
  case far_end =>
    intro n s htest hlane hrx hloop
    rw [exec_farEndLoopStart, if_pos ⟨htest, hlane, hrx, hloop⟩]
  case synced =>
    intro n bits mism s hlane hchk hsync
    exact exec_prbsCheckWindow_synced n bits mism s hlane hchk hsync
  case gains_sync =>
    intro n bits s hlane hchk hsync hrun
    rw [exec_prbsCheckWindow_unsynced n bits s hlane hchk hsync, if_pos hrun]

/-! The DPLLs (R286 to R292) and the quads' LC-PLLs (R53). -/

theorem exec_selectionJudgement (d : Fin 4) (long : Bool) (s : State) :
    exec (.selectionJudgement d long) s = .next ((if d.val = 3 then s.judgeDpll3 long else s.judgeDpll d long).bellShow) := rfl

/-- The end of the window of a DPLL that is switching: the candidate is still qualified, or the DPLL goes to HOLDOVER. -/
theorem exec_alignmentWindowEnd_switching (d : Fin 4) (long : Bool) (s : State) (h : s.on R.BELL_DPLL_STAT_d.switching d = true) :
    exec (.alignmentWindowEnd d long) s = .next (if s.refState (s.selRef d) = 4 then
      (s.wr R.BELL_DPLL_STAT_d.switching d 0).bellShow else (s.holdover d long).bellShow) :=
  (if_pos h).trans (next_ite ..)

theorem exec_dpllLock (d : Fin 4) (s : State) : exec (.dpllLock d) s =
    if s.dpllState d = 1 ∧ ¬ s.dpllFenced d ∧ ¬ s.on R.BELL_DPLL_STAT_d.switching d then
      .next ((if d.val = 3 then (s.wr R.BELL_DPLL_STAT_d.state d 2).wr R.PAIR_STATUS.dpll3_locked 0 1
        else s.wr R.BELL_DPLL_STAT_d.state d 2).bellShow)
    else .next s := rfl

theorem exec_holdoverSpecExpiry (d : Fin 4) (s : State) : exec (.holdoverSpecExpiry d) s =
    if s.dpllState d = 3 ∧ s.on R.BELL_DPLL_STAT_d.hold_spec d then
      .next (((s.wr R.BELL_DPLL_STAT_d.hold_spec d 0).bellEvent R.BELL_EVENT.hold_spec_lost d
        ((s.wr R.BELL_DPLL_STAT_d.hold_spec d 0).reg (0x10304 + 16 * d)).toNat).bellShow)
    else .next s := rfl

theorem exec_dpllFenceReq (m : Fin 8) (d : Fin 4) (long : Bool) (s : State) :
    exec (.dpllFenceReq m d long) s = .next (s.asMaster m (·.fenceDpll d 3 long)) := rfl

theorem exec_dpllReset (m : Fin 8) (d : Fin 4) (s : State) : exec (.dpllReset m d) s = .next (s.asMaster m (·.dpllReset d)) := rfl

theorem exec_dpllParity (d : Fin 4) (long : Bool) (s : State) : exec (.dpllParity d long) s = .next (s.fenceDpll d 2 long) := rfl

theorem exec_lcPllLockLoss (q : Fin 24) (s : State) : exec (.lcPllLockLoss q) s =
    if s.pllLocked q then .next ((s.wr R.QUAD_PLL.pll_state q 3).latch R.QUAD_EVENT.pll_lost q) else .next s := rfl

/-- Settles O41: the premises of each clause meet the guard of its command, and a write of a master that may write there happens. -/
theorem dpllStates : Obligations.DpllStates := by
  unfold Obligations.DpllStates
  refine ⟨exec_selectionJudgement, exec_alignmentWindowEnd_switching, ?lock, ?holdover_spec, ?fence_and_reset, exec_dpllParity, ?reset_done,
    ?lc_pll⟩
  case lock =>
    intro d s hacquire hfence hswitch
    have hguard : s.dpllState d = 1 ∧ ¬ s.dpllFenced d ∧ ¬ s.on R.BELL_DPLL_STAT_d.switching d :=
      ⟨hacquire, by simp [hfence], by simp [hswitch]⟩
    exact ⟨_, rfl, by rw [exec_dpllLock, if_pos hguard]⟩
  case holdover_spec =>
    intro d s hholdover hspec
    exact ⟨_, rfl, by rw [exec_holdoverSpecExpiry, if_pos ⟨hholdover, hspec⟩]⟩
  case fence_and_reset =>
    intro m d long s hw
    exact ⟨by rw [exec_dpllFenceReq, s.asMaster_eq m _ hw], by rw [exec_dpllReset, s.asMaster_eq m _ hw]⟩
  case reset_done =>
    intro d s hresetting
    exact ⟨_, _, rfl, rfl, if_pos hresetting⟩
  case lc_pll =>
    intro q s hlocked
    rw [exec_lcPllLockLoss, if_pos hlocked]

end Sys2Proof.Machine
end

section
/-! PROOF. The port reads of slot Q of `10_vsi_reference.md` (R270, R271): a read that issues takes a word from what its port holds and puts
it on its way. What a read does is said once for all ports; a read that takes its word from the record of its own thread is the second form. -/
namespace Sys2Proof.Machine

section
variable {s : State} {q : Fin 24} {t : Fin 16} {pg l rd v : Nat} {x y : Eng} {f : Eng → State → Nat × State}

/-- A port read of a thread that issues with its guard 1 asks the port, and sends the answer to the thread's register. -/
theorem State.next_portRead_issued (hi : s.canIssue (.thread q t) = true) (hx : s.eng (16 * q + t) = x) (hpg : x.pr pg = true) :
    (.next (s.portRead q t pg l rd f) : Res) =
      .next ((f x s).2.setEng (16 * q + t) (((f x s).2.eng (16 * q + t)).toReg l rd (f x s).1)) := by
  have hissues : (s.canIssue (.thread q t) && (s.eng (16 * q + t)).pr pg) = true := by simp [hi, hx, hpg]
  subst hx
  exact congrArg Host.Outcome.next (if_pos hissues)

/-- A port read that answers `v` and changes the thread's own record to `y`: the answer is sent from the changed record. -/
theorem State.next_portRead_own (hi : s.canIssue (.thread q t) = true) (hx : s.eng (16 * q + t) = x) (hpg : x.pr pg = true)
    (hc : s.Canonical) (hf : f x s = (v, s.setEng (16 * q + t) y)) :
    (.next (s.portRead q t pg l rd f) : Res) =
      .next ((s.setEng (16 * q + t) y).setEng (16 * q + t) (y.toReg l rd v)) := by
  rw [State.next_portRead_issued hi hx hpg, hf, s.eng_setEng_same _ _ hc]

end

/-- Settles O37: each read is a port read that issues; the premises of a clause say which answer its port gives. -/
theorem vsiPortReads : Obligations.VsiPortReads := by
  unfold Obligations.VsiPortReads
  refine ⟨?counts, ?block_words, ?times, ?lookup, ?no_choice, ?choice, ?tributary_word, ?unit_and_fifo⟩
  case counts =>
    intro q t pg rd ra rb f fc x s hi hx hpg
    exact ⟨State.next_portRead_issued hi hx hpg, State.next_portRead_issued hi hx hpg, State.next_portRead_issued hi hx hpg⟩
  case block_words =>
    intro q t pg rd ra rb c slot x s hi hx hpg hblock
    constructor
    · refine (State.next_portRead_issued hi hx hpg).trans ?_
      rw [hblock]
    · refine (State.next_portRead_issued hi hx hpg).trans ?_
      rw [hblock]
  case times =>
    intro q t pg rd ra rb f fs inst x s hi hx hpg
    exact ⟨State.next_portRead_issued hi hx hpg, State.next_portRead_issued hi hx hpg⟩
  case lookup =>
    intro q t pg rd ra rb w rest x s hi hx hpg hheld hc
    refine State.next_portRead_own hi hx hpg hc ?_
    simp only [hheld, State.updEng, hx]
  case no_choice =>
    intro q t pg rd ra rb x s hi hx hpg hheld hc
    refine State.next_portRead_own hi hx hpg hc ?_
    simp only [hheld, State.updEng, hx]
  case choice =>
    intro q t pg rd ra rb w id rest x s hi hx hpg hheld hcur hc
    refine State.next_portRead_own hi hx hpg hc ?_
    simp only [hheld, hcur, State.updEng, hx]
  case tributary_word =>
    intro q t pg rd ra rb w rest x s hi hx hpg hheld
    refine ⟨_, rfl, (State.next_portRead_issued hi hx hpg).trans ?_⟩
    simp only [hheld]
  case unit_and_fifo =>
    intro q t pg rd ra rb k x s hi hx hpg
    exact ⟨State.next_portRead_issued hi hx hpg, State.next_portRead_issued hi hx hpg⟩

end Sys2Proof.Machine
end

section
/-! PROOF. The Ethernet and CPRI rows of `05_clients.md` (R115 to R121, R130 to R133, R137, R138): what each command comes to once the
guard it opens with is met. -/
namespace Sys2Proof.Machine

/-- A guard `!b ∨ p` that a command leaves by: it goes on while `b` holds and `p` does not. -/
theorem not_stopped_or {b : Bool} {p : Prop} (hb : b = true) (hp : ¬ p) : ¬ ((!b) = true ∨ p) := by simp [hb, hp]

/-! Fault ordered sets (R118). -/

/-- With lf_rf_en on an ACTIVE lane, a local fault, or the reception of local-fault ordered sets, keeps frames back: remote
fault is sent. -/
theorem exec_ethFrameSend_fault (c : Fin 96) (now : BitVec 64) (cut : Option (BitVec 14)) (s : State) (hruns : s.runs c 0 2 = true)
    (hlane : s.laneState c = 2) (hen : s.pw c 0 11 = 1) (hfault : s.localFault c = true ∨ s.pw c 0 24 = 1) :
    exec (.ethFrameSend c now cut) s = .next (s.emit (.ethFault c)) :=
  (if_neg (not_stopped_or hruns (not_not_intro hlane))).trans (if_pos ⟨hen, hfault⟩)

/-- What is being received, as its report and the lane's QL show it: a link fault makes the QL QL-FAILED at once (R132). -/
def State.showFaultSets (s : State) (c : Nat) (lf rf : Bool) : State :=
  let v := (s.setPw c 0 24 (bit lf)).setPw c 0 25 (bit rf)
  if lf || rf then (v.setPw c 0 27 0).bellShow else v

/-- What is sent in place of data while fault ordered sets are received, with lf_rf_en on an ACTIVE lane. -/
def State.answerFaultSets (s : State) (c : Nat) (lf rf : Bool) : State :=
  if s.pw c 0 11 = 1 ∧ s.laneState c = 2 then
    (if lf then s.emit (.ethFault c) else if rf then s.emit (.ethIdle c) else s)
  else s

/-- Every branch of the answer goes on, with the state that the answer gives. -/
theorem State.next_answerFaultSets (s : State) (c : Nat) (lf rf : Bool) :
    (if s.pw c 0 11 = 1 ∧ s.laneState c = 2 then
        (if lf then .next (s.emit (.ethFault c)) else if rf then .next (s.emit (.ethIdle c)) else .next s)
      else .next s : Res) = .next (s.answerFaultSets c lf rf) := by
  rw [next_ite, next_ite, next_ite]
  rfl

/-- Fault ordered sets are answered in the state that already reports them. -/
theorem exec_faultOrderedSetReceive (c : Fin 96) (lf rf : Bool) (s : State) (hruns : s.runs c 0 2 = true) :
    exec (.faultOrderedSetReceive c lf rf) s = .next ((s.showFaultSets c lf rf).answerFaultSets c lf rf) := by
  have hguard : ¬ (!s.runs c 0 2) = true := by simp [hruns]
  exact (if_neg hguard).trans ((s.showFaultSets c lf rf).next_answerFaultSets c lf rf)

/-! mPackets (R119, R120). -/

/-- With preemption on, a fragment that continues no frame breaks the sequence: it is counted and nothing else changes. -/
theorem exec_preemptFragmentReceive_orphan (c : Fin 96) (last ok : Bool) (smd frag : BitVec 2) (bytes : List (BitVec 8)) (ts : BitVec 96)
    (s : State) (hmac : s.macUp c = true) (hpre : s.pw c 0 12 ≠ 0) (hnone : (s.chanX c).rxFrag = none) :
    exec (.preemptFragmentReceive c false last ok smd frag bytes ts) s = .next (s.countC c 22 1) := by
  change execPreemptFragmentReceive c false last ok smd frag bytes ts s = _
  unfold execPreemptFragmentReceive
  rw [if_neg (not_stopped_or hmac hpre)]
  simp [hnone]

/-- A good first fragment that is not the last opens a frame at fragment count 0. -/
theorem exec_preemptFragmentReceive_opens (c : Fin 96) (smd frag : BitVec 2) (bytes : List (BitVec 8)) (ts : BitVec 96) (s : State)
    (hmac : s.macUp c = true) (hpre : s.pw c 0 12 ≠ 0) (hnone : (s.chanX c).rxFrag = none) :
    exec (.preemptFragmentReceive c true false true smd frag bytes ts) s =
      .next (s.setChanX c { s.chanX c with rxFrag := some (bytes.map (·.toNat), smd.toNat, 0) }) := by
  change execPreemptFragmentReceive c true false true smd frag bytes ts s = _
  unfold execPreemptFragmentReceive
  rw [if_neg (not_stopped_or hmac hpre)]
  simp [hnone]

/-- A verification under way takes each end of verify_ms: failure after three verifies, another verify before. -/
theorem exec_verifyMpacketSend_verifying (c : Fin 96) (s : State) (hruns : s.runs c 0 2 = true) (hlane : s.laneState c = 2)
    (hpre : s.pw c 0 12 = 1) (hverify : s.pw c 0 13 = 1) (hstate : s.pw c 0 26 = 1) :
    exec (.verifyMpacketSend c) s = .next (if 3 ≤ (s.chanX c).verifies then s.setPw c 0 26 3
      else (s.setChanX c { s.chanX c with verifies := (s.chanX c).verifies + 1 }).emit (.mPacket c false)) := by
  have hgoes : ¬ (s.pw c 0 12 = 0 ∨ s.pw c 0 13 = 0 ∨ s.pw c 0 26 ≠ 1 ∨ s.laneState c ≠ 2) := by
    simp [hpre, hverify, hstate, hlane]
  exact (if_neg (not_stopped_or hruns hgoes)).trans (next_ite ..)

/-! Inserted frames (R130, R131). -/

/-- In a pair role the next insert item is the first of those that the multiframe boundary released. -/
theorem State.nextInsert_paired (s : State) (c : Nat) (i : Insert) (t : List Insert) (hrole : s.role ≠ 0)
    (hitems : (s.chanX c).inserts = i :: t) :
    s.nextInsert c = (some i, s.setChanX c { s.chanX c with inserts := t }) := by
  unfold State.nextInsert
  rw [if_pos hrole, hitems]

/-- An item that asks for no timestamp leaves with the bytes it came with. -/
theorem exec_insertFrameSend_plain (c : Fin 96) (ts : BitVec 96) (i : Insert) (s u : State) (hruns : s.runs c 0 2 = true)
    (hlane : s.laneState c = 2) (hnext : s.nextInsert c = (some i, u)) (hone : i.oneStep = false) (htwo : i.twoStep = false) :
    exec (.insertFrameSend c ts) s = .next (u.sendFrame c { bytes := i.bytes, express := true, bad := false }) := by
  refine (if_neg (not_stopped_or hruns (not_not_intro hlane))).trans ?_
  rw [hnext]
  simp [hone, htwo]

/-! CPRI (R137, R138). -/

/-- A hyperframe start on an aligned channel that has found none yet begins the search with this one good. -/
theorem exec_cpriHyperframeReceive_first (c : Fin 96) (atExpected : Bool) (hfn l1 : BitVec 8) (bfn : BitVec 12) (ts : BitVec 96)
    (s : State) (hruns : s.runs c 0 3 = true) (haligned : s.cpriAligned c = true) (hidle : s.pw c 0 12 = 0) :
    exec (.cpriHyperframeReceive c true atExpected hfn l1 bfn ts) s =
      .next ((s.setChanX c { s.chanX c with hfGood := 1, hfBad := 0, hfPrev := hfn.toNat }).setPw c 0 12 1) := by
  have hguard : ¬ (!s.runs c 0 3) = true := by simp [hruns]
  have hlock : ¬ (!s.cpriAligned c) = true := by simp [haligned]
  exact (if_neg hguard).trans ((if_neg hlock).trans ((if_pos hidle).trans (if_pos rfl)))

/-- A channel that is not aligned hunts, whatever is said of its hyperframe. -/
theorem exec_cpriHyperframeReceive_unaligned (c : Fin 96) (start atExpected : Bool) (hfn l1 : BitVec 8) (bfn : BitVec 12)
    (ts : BitVec 96) (s : State) (hruns : s.runs c 0 3 = true) (haligned : s.cpriAligned c = false) :
    exec (.cpriHyperframeReceive c start atExpected hfn l1 bfn ts) s = .next (s.hfHunt c) := by
  have hguard : ¬ (!s.runs c 0 3) = true := by simp [hruns]
  have hlock : (!s.cpriAligned c) = true := by simp [haligned]
  exact (if_neg hguard).trans (if_pos hlock)

/-- Settles O29: the premises of each clause meet the guard of its command, or make the choice that the equations above name. -/
theorem ethernetAndCpri : Obligations.EthernetAndCpri := by
  unfold Obligations.EthernetAndCpri
  refine ⟨?frame, exec_ethFrameSend_fault, ?fault_sets, ?fragment, ?verify, exec_verifyMpacketSend_verifying, ?respond, ?insert,
    ?esmc_frame, ?esmc_timeout, ?esmc_info, ?esmc_event, exec_cpriHyperframeReceive_first, exec_cpriHyperframeReceive_unaligned⟩
  case frame =>
    intro c sfd fcs departed bytes ts s hmac
    exact if_pos hmac
  case fault_sets =>
    intro c lf rf s hruns
    exact ⟨_, _, rfl, rfl, exec_faultOrderedSetReceive c lf rf s hruns⟩
  case fragment =>
    intro c last ok smd frag bytes ts s hmac hpre hnone
    exact ⟨exec_preemptFragmentReceive_orphan c last ok smd frag bytes ts s hmac hpre hnone,
      exec_preemptFragmentReceive_opens c smd frag bytes ts s hmac hpre hnone⟩
  case verify =>
    intro c s hmac hpre
    exact if_pos ⟨hmac, hpre⟩
  case respond =>
    intro c s hmac hpre hverify hstate hsent
    exact if_pos ⟨hmac, hpre, hverify, hstate, hsent⟩
  case insert =>
    intro c ts i t s hruns hlane hrole hitems hone htwo
    exact exec_insertFrameSend_plain c ts i s _ hruns hlane (s.nextInsert_paired c i t hrole hitems) hone htwo
  case esmc_frame =>
    intro c bytes s hruns hen hlane
    exact if_neg (not_stopped_or hruns (not_or.mpr ⟨hen, not_not_intro hlane⟩))
  case esmc_timeout =>
    intro c s hruns hen
    exact if_neg (not_stopped_or hruns hen)
  case esmc_info =>
    intro c s hruns hen hlane howed
    exact if_pos ⟨hruns, hen, hlane, howed⟩
  case esmc_event =>
    intro c s hruns hen hlane hchanged
    exact if_pos ⟨hruns, hen, hlane, hchanged⟩

end Sys2Proof.Machine
end

section
/-! PROOF. What the commands on calendars, queues and banks of `06_mapping.md` and `08_granary.md` come to once a steward accepts them (R165
to R170, R222, R223, R226): each is judged, either as a change that then waits for its boundary or with an effect of its own. -/
namespace Sys2Proof.Machine

/-- A change that no check stops is taken up and waits for its boundary. -/
theorem State.judgeChange_accepts (s : State) (h : CmdHead) (j p2 : Bool) (d : Due) (extra : List Check) (c : Change)
    (ha : s.accepts (s.common h j p2 ++ extra ++ (s.ahead d).changeChecks c) = true) :
    s.judgeChange h j p2 d extra c = (s.taken h).sched (some h) j d c :=
  s.judge_accepts h _ _ ha

/-! Calendars (R165, R166, R169): a stage is a change at the boundary of R25; a read and a commit act as they are accepted. -/

theorem exec_calendarStageWrite (h : CmdHead) (addr : BitVec 64) (len : BitVec 32) (img : List (BitVec 32)) (s : State) :
    exec (.calendarStageWrite h addr len img) s = .next (s.judgeChange h true true s.rateBoundary
      (imageChecks addr.toNat len.toNat (parseCal img)) (.calStage ((parseCal img).getD []))) := rfl

theorem exec_calendarStageRead (h : CmdHead) (addr : BitVec 64) (len : BitVec 32) (img : List (BitVec 32)) (s : State) :
    exec (.calendarStageRead h addr len img) s = .next (s.judge h (s.common h false true
      ++ imageChecks addr.toNat len.toNat (parseCal img) ++ [(((parseCal img).getD []).any (fun x => s.secBad x false), .badArg, 16)])
      (fun t => ((t.calReads (addr.toNat + 8) ((parseCal img).getD [])).foldl (fun u e => u.emit (.hostWrite e.1 e.2)) t).ok h 0)) := rfl

theorem exec_calendarCommit (h : CmdHead) (mask : BitVec 96) (s : State) : exec (.calendarCommit h mask) s =
    .next (s.judge h (s.common h true true ++ (s.ahead s.rateBoundary).commitChecks (maskList mask.toNat 96))
      (·.acceptSwitch h (maskList mask.toNat 96))) := rfl

/-! Queues and trunks (R222, R223): every one of these is a change at the next multiframe, with no check before those of the change. -/

theorem exec_queueCreateQueue (h : CmdHead) (q egress : BitVec 16) (cls : BitVec 3) (express : Bool) (latePol : BitVec 2)
    (dlSrc ethEgress keyed : Bool) (budget : BitVec 20) (lateTol : BitVec 12) (minCells maxCells : BitVec 32) (key : BitVec 64)
    (s : State) :
    exec (.queueCreateQueue h q egress cls express latePol dlSrc ethEgress keyed budget lateTol minCells maxCells key) s =
      .next (s.judgeChange h true true s.nextMultiframe [] (.queueCreate q.toNat
        { egress := egress.toNat, cls := cls.toNat, express := express, latePol := latePol.toNat, dlSrc := dlSrc,
          kind := bit ethEgress, budget := budget.toNat, lateTol := lateTol.toNat, minCells := minCells.toNat,
          maxCells := maxCells.toNat, key := if keyed then some key.toNat else none })) := rfl

theorem exec_queueCreateTrunk (h : CmdHead) (t : BitVec 16) (s : State) :
    exec (.queueCreateTrunk h t) s = .next (s.judgeChange h true true s.nextMultiframe [] (.trunkCreate t.toNat)) := rfl

theorem exec_queueCreateModify (h : CmdHead) (q : BitVec 16) (express : Bool) (latePol : BitVec 2) (dlSrc : Bool) (budget : BitVec 20)
    (lateTol : BitVec 12) (s : State) : exec (.queueCreateModify h q express latePol dlSrc budget lateTol) s =
      .next (s.judgeChange h true true s.nextMultiframe [] (.queueModify q.toNat
        { egress := 0, cls := 0, express := express, latePol := latePol.toNat, dlSrc := dlSrc, kind := 0,
          budget := budget.toNat, lateTol := lateTol.toNat, minCells := 0, maxCells := 0, key := none })) := rfl

theorem exec_queueDeleteQueue (h : CmdHead) (q : BitVec 16) (s : State) :
    exec (.queueDeleteQueue h q) s = .next (s.judgeChange h true true s.nextMultiframe [] (.queueDelete q.toNat)) := rfl

theorem exec_queueDeleteTrunk (h : CmdHead) (t : BitVec 16) (s : State) :
    exec (.queueDeleteTrunk h t) s = .next (s.judgeChange h true true s.nextMultiframe [] (.trunkDelete t.toNat)) := rfl

theorem exec_queueFlush (h : CmdHead) (q : BitVec 16) (s : State) :
    exec (.queueFlush h q) s = .next (s.judgeChange h true true s.nextMultiframe [] (.queueFlush q.toNat)) := rfl

/-! Banks (R226): a scan completes as it is accepted, a retest only starts. -/

theorem exec_repairScanScan (h : CmdHead) (mask : BitVec 96) (s : State) : exec (.repairScanScan h mask) s =
    .next (s.judge h (s.common h false true ++ [(s.on R.GRN_STATUS.scan_busy 0, .busy, 0xFF)])
      (fun t => (t.startScan (maskList mask.toNat 96)).ok h 0)) := rfl

theorem exec_repairScanRetest (h : CmdHead) (mask : BitVec 96) (s : State) : exec (.repairScanRetest h mask) s =
    .next (s.judge h (s.common h false true ++ [(s.mode != .muster, .illegalState, 0xFF),
      ((maskList mask.toNat 96).any (fun b => s.bankState b != 3), .illegalState, 0xFF), (s.on R.GRN_STATUS.scan_busy 0, .busy, 0xFF)])
      (·.startRetest h (maskList mask.toNat 96))) := rfl

/-- Settles O55: the checks of the hypothesis are those that the command is judged by, so it is taken up; a command that is a change then
waits for its boundary, and any other has its effect on the state that took it up. -/
theorem calendarAndQueueCommands : Obligations.CalendarAndQueueCommands := by
  unfold Obligations.CalendarAndQueueCommands
  refine ⟨?stage, ?read_back, ?commit, ?create_queue, ?create_trunk, ?modify, ?delete_queue, ?delete_trunk, ?flush, ?scan, ?retest⟩
  case stage =>
    rintro h addr len img _ s rfl hacc
    rw [exec_calendarStageWrite, s.judgeChange_accepts _ _ _ _ _ _ hacc]
  case read_back =>
    rintro h addr len img _ s rfl hacc
    rw [exec_calendarStageRead, s.judge_accepts _ _ _ hacc]
  case commit =>
    intro h mask s hacc
    rw [exec_calendarCommit, s.judge_accepts _ _ _ hacc]
  case create_queue =>
    rintro h q egress cls express latePol dlSrc ethEgress keyed budget lateTol minCells maxCells key _ s rfl hacc
    rw [exec_queueCreateQueue, s.judgeChange_accepts _ _ _ _ _ _ hacc]
  case create_trunk =>
    intro h t s hacc
    rw [exec_queueCreateTrunk, s.judgeChange_accepts _ _ _ _ _ _ hacc]
  case modify =>
    rintro h q express latePol dlSrc budget lateTol _ s rfl hacc
    rw [exec_queueCreateModify, s.judgeChange_accepts _ _ _ _ _ _ hacc]
  case delete_queue =>
    intro h q s hacc
    rw [exec_queueDeleteQueue, s.judgeChange_accepts _ _ _ _ _ _ hacc]
  case delete_trunk =>
    intro h t s hacc
    rw [exec_queueDeleteTrunk, s.judgeChange_accepts _ _ _ _ _ _ hacc]
  case flush =>
    intro h q s hacc
    rw [exec_queueFlush, s.judgeChange_accepts _ _ _ _ _ _ hacc]
  case scan =>
    intro h mask s hacc
    rw [exec_repairScanScan, s.judge_accepts _ _ _ hacc]
  case retest =>
    intro h mask s hacc
    rw [exec_repairScanRetest, s.judge_accepts _ _ _ hacc]

end Sys2Proof.Machine
end

section
/-! PROOF. What the commands on the device, on fences, injectors, the debug level and the Gatehouse come to once a steward accepts them (R192,
R195, R366, R369, R387, R388, R390, R419, R420, R430): each is judged by its own checks. Two kinds need more than
that: a lift waits as a change or consumes a free value first, and a level names its targets only when it is TINKER. -/
namespace Sys2Proof.Machine

/-! The device. -/

theorem exec_nop (h : CmdHead) (s : State) : exec (.nop h) s = .next (s.judge h (s.common h false false) (·.ok h 0)) := rfl

theorem exec_deviceQuery (h : CmdHead) (s : State) :
    exec (.deviceQuery h) s = .next (s.judge h (s.common h false false) (fun t => t.ok h t.queryResult)) := rfl

/-! Fence lifts (R369): kinds 3, 4 and 6 are changes at the next multiframe boundary, and the others are judged after the free value
that stands for the resets no register shows. -/

theorem exec_fenceLift_waits (h : CmdHead) (kind : BitVec 8) (unit : BitVec 32) (s : State)
    (hk : kind.toNat = 3 ∨ kind.toNat = 4 ∨ kind.toNat = 6) :
    exec (.fenceLift h kind unit) s =
      .next (s.judgeChange h false false s.nextMultiframe [] (.lift kind.toNat unit.toNat)) :=
  if_pos hk

theorem exec_fenceLift_now (h : CmdHead) (kind : BitVec 8) (unit : BitVec 32) (f : Nat) (s t : State) (hf : s.fresh 1 = (f, t))
    (hk : ¬ (kind.toNat = 3 ∨ kind.toNat = 4 ∨ kind.toNat = 6)) :
    exec (.fenceLift h kind unit) s =
      .next (t.judge h (t.common h false false ++ t.liftNowChecks kind.toNat unit.toNat (f == 1))
        (fun u => (u.liftNow kind.toNat unit.toNat).ok h 0)) := by
  have e : exec (.fenceLift h kind unit) s =
      .next ((s.fresh 1).2.judge h
        ((s.fresh 1).2.common h false false ++ (s.fresh 1).2.liftNowChecks kind.toNat unit.toNat ((s.fresh 1).1 == 1))
        (fun u => (u.liftNow kind.toNat unit.toNat).ok h 0)) := if_neg hk
  rw [e, hf]

/-! Injectors (R192, R195): arming completes at the boundary where they start, stopping as it is accepted. -/

theorem exec_injectArm (h : CmdHead) (mask : BitVec 16) (s : State) : exec (.injectArm h mask) s =
    .next (s.judge h (s.common h false true ++ [(s.mode != .smithy, .illegalState, 0xFF)] ++ (injsOf mask.toNat).flatMap s.armChecks)
      (·.doArm h mask.toNat)) := rfl

theorem exec_injectStop (h : CmdHead) (mask : BitVec 16) (s : State) : exec (.injectStop h mask) s =
    .next (s.judge h (s.common h false false)
      (fun t => ((injsOf mask.toNat).foldl (fun (u : State) j => u.stopInjector j 1) t).ok h 0)) := rfl

/-! The debug level (R388). -/

/-- The checks of a request for a level other than TINKER, which writes no targets before it is judged. -/
def State.levelChecks (s : State) (h : CmdHead) (l mask : Nat) : List Check :=
  s.common h false (decide (s.debugLevel < l)) ++ [(decide (2 < l), .badArg, 9), (decide (2 ^ 28 ≤ mask), .badArg, 15),
    (!s.levelOk l, .denied, 0xFF)]

/-- A request for another level than TINKER leaves LANT_TMASK alone; it sets denied when R388 is the check that stops it. -/
theorem exec_debugUnlockLevel_not_tinker (h : CmdHead) (level : BitVec 8) (mask : BitVec 32) (s : State) (hl : level.toNat ≠ 2) :
    exec (.debugUnlockLevel h level mask) s =
      .next ((if s.stewardActs && (firstCheck (s.levelChecks h level.toNat mask.toNat)).map (·.1) == some .denied then s.denied
          else s).judge h (s.levelChecks h level.toNat mask.toNat)
        (fun t => (t.requestLevel level.toNat).ok h (t.requestLevel level.toNat).debugLevel)) := by
  show execDebugUnlockLevel h level mask s = _
  simp only [execDebugUnlockLevel, if_neg hl]
  rfl

/-- A request for another level than TINKER that no check stops is taken up, and denied stays as it was. -/
theorem exec_debugUnlockLevel_accepts (h : CmdHead) (level : BitVec 8) (mask : BitVec 32) (s : State) (hl : level.toNat ≠ 2)
    (ha : s.accepts (s.levelChecks h level.toNat mask.toNat) = true) :
    exec (.debugUnlockLevel h level mask) s =
      .next (((s.taken h).requestLevel level.toNat).ok h ((s.taken h).requestLevel level.toNat).debugLevel) := by
  have hnone : firstCheck (s.levelChecks h level.toNat mask.toNat) = none := by
    rw [State.accepts, Bool.and_eq_true] at ha
    exact (firstCheck_eq_none _).2 ha.2
  have hnot : ¬ ((s.stewardActs && (firstCheck (s.levelChecks h level.toNat mask.toNat)).map (·.1) == some Code.denied) = true) := by
    simp [hnone]
  rw [exec_debugUnlockLevel_not_tinker h level mask s hl, if_neg hnot, s.judge_accepts h _ _ ha]

/-! The Gatehouse (R387, R390): a command accepted only starts its operation. -/

theorem exec_debugUnlockChallenge (h : CmdHead) (mask : BitVec 32) (addr : BitVec 64) (s : State) :
    exec (.debugUnlockChallenge h mask addr) s =
      .next (s.judge h (s.common h false false ++ [(decide (2 ^ 28 ≤ mask.toNat), .badArg, 15), (addr.toNat % 8 != 0, .badArg, 16),
          (s.gate.op.isSome, .busy, 0xFF)])
        (·.gateCommand ⟨8, 0, 0, some h, some addr.toNat⟩ (leBytes 4 mask.toNat))) := rfl

theorem exec_debugUnlockResponse (h : CmdHead) (signer : BitVec 8) (addr : BitVec 64) (sig : List (BitVec 8)) (s : State) :
    exec (.debugUnlockResponse h signer addr sig) s =
      .next (s.judge h (s.common h false true ++ [(decide (3 < signer.toNat), .badArg, 9), (addr.toNat % 8 != 0, .badArg, 16),
          (s.gate.op.isSome, .busy, 0xFF)])
        (·.gateCommand ⟨9, 0, signer.toNat, some h, none⟩ (sig.map (·.toNat)))) := rfl

theorem exec_gateCall (h : CmdHead) (op slot signer : BitVec 8) (len : BitVec 32) (addr : BitVec 64) (buf : List (BitVec 8))
    (s : State) : exec (.gateCall h op slot signer len addr buf) s =
      .next (s.judge h (s.common h (decide (5 ≤ op.toNat ∧ op.toNat ≤ 7)) false ++
          [(!(decide (1 ≤ op.toNat ∧ op.toNat ≤ 7) || op.toNat == 10), .badArg, 8), (decide (3 < signer.toNat), .badArg, 10),
            (decide (256 < len.toNat), .badArg, 12), (addr.toNat % 8 != 0, .badArg, 16), (s.gate.op.isSome, .busy, 0xFF)])
        (·.gateCommand ⟨op.toNat, slot.toNat, signer.toNat, some h, none⟩ (buf.map (·.toNat)))) := rfl

/-- Settles O58: the checks of the hypothesis are those that the command is judged by, so it is taken up and its effect follows; a lift's
kind decides whether that is a change that waits, and a level below TINKER is judged in the state as it stands. -/
theorem deviceAndDebugCommands : Obligations.DeviceAndDebugCommands := by
  unfold Obligations.DeviceAndDebugCommands
  refine ⟨?nop, ?query, ?lift_waits, ?lift_now, ?arm, ?stop, ?level, ?challenge, ?response, ?gate_call⟩
  case nop =>
    intro h s hacc
    rw [exec_nop, s.judge_accepts _ _ _ hacc]
  case query =>
    intro h s hacc
    rw [exec_deviceQuery, s.judge_accepts _ _ _ hacc]
  case lift_waits =>
    intro h kind unit s hkind hacc
    rw [exec_fenceLift_waits h kind unit s hkind, s.judgeChange_accepts _ _ _ _ _ _ hacc]
  case lift_now =>
    intro h kind unit f t s hkind hfresh hacc
    have hnow : ¬ (kind.toNat = 3 ∨ kind.toNat = 4 ∨ kind.toNat = 6) := by omega
    rw [exec_fenceLift_now h kind unit f s t hfresh hnow, t.judge_accepts _ _ _ hacc]
  case arm =>
    intro h mask s hacc
    rw [exec_injectArm, s.judge_accepts _ _ _ hacc]
  case stop =>
    intro h mask s hacc
    rw [exec_injectStop, s.judge_accepts _ _ _ hacc]
  case level =>
    intro h level mask s hlevel hacc
    exact exec_debugUnlockLevel_accepts h level mask s (by omega) hacc
  case challenge =>
    intro h mask addr s hacc
    rw [exec_debugUnlockChallenge, s.judge_accepts _ _ _ hacc]
  case response =>
    intro h signer addr sig s hacc
    rw [exec_debugUnlockResponse, s.judge_accepts _ _ _ hacc]
  case gate_call =>
    intro h op slot signer len addr buf s hacc
    rw [exec_gateCall, s.judge_accepts _ _ _ hacc]

end Sys2Proof.Machine
end

section
/-! PROOF. What the walks, flushes and closings of queues of `08_granary.md` come to (R202, R221 to R224): an equation for each command
from what its guard asks, so that a clause has only to say that its state meets the guard. -/
namespace Sys2Proof.Machine

theorem exec_fencedQueueWalk (q : BitVec 16) (s : State) : exec (.fencedQueueWalk q) s =
    if s.on R.GRN_QD_CTRL.fenced q.toNat then .next (s.dropAll q.toNat 8) else .next s := rfl

/-- A flush that is due leaves the changes that wait, and then flushes the queue and completes if the queue still exists (R223). -/
theorem exec_flushPoint_due (q : BitVec 16) (e : Pend) (s t : State)
    (hdue : s.takeChange (fun e => e.change == .queueFlush q.toNat && s.isDue e) = (some e, t)) :
    exec (.flushPoint q) s = if t.on R.GRN_QD_CTRL.valid q.toNat then .next ((t.flushQueue q.toNat).okOpt e.head 0)
      else .next (t.failOpt e.head .illegalState) := by
  change execFlushPoint q s = _
  rw [execFlushPoint, hdue]

/-- A closing queue that holds no cell stops existing; a steward that acts reports it as the Granary then stands (R222). -/
theorem State.closeQueue_emptied (s : State) (q : Nat) (hclosing : s.on R.GRN_QD_CTRL.closing q = true)
    (hempty : s.rd R.GRN_QD_OCC.occ_cells q = 0) :
    s.closeQueue q =
      if (((s.wr R.GRN_QD_CTRL.valid q 0).wr R.GRN_QD_CTRL.closing q 0).degradedRecompute).stewardActs then
        (((s.wr R.GRN_QD_CTRL.valid q 0).wr R.GRN_QD_CTRL.closing q 0).degradedRecompute).report 8 9 q 0
      else ((s.wr R.GRN_QD_CTRL.valid q 0).wr R.GRN_QD_CTRL.closing q 0).degradedRecompute :=
  if_pos ⟨hclosing, hempty⟩

theorem exec_queueClosed (q : BitVec 16) (s : State) : exec (.queueClosed q) s = .next (s.closeQueue q.toNat) := rfl

theorem exec_residencySweep (now : BitVec 64) (s : State) : exec (.residencySweep now) s =
    if s.mode ≠ .sundial then .next s
    else .next ((s.pkts.map (·.queue)).eraseDups.foldl (fun (t : State) q => t.sweepQueue q now.toNat (t.pkts.length + 1)) s) := rfl

theorem exec_flowEntryRewrite (e : BitVec 17) (s : State) : exec (.flowEntryRewrite e) s =
    if s.stewardActs ∧ s.flowBad.contains e.toNat then
      .next (({ s with flowBad := s.flowBad.filter (· ≠ e.toNat) } : State).report 8 6 (e.toNat / 8) (e.toNat % 8))
    else .next s := rfl

/-- Settles O33: in each clause the state meets the guard of the command's equation above; a flush is found among the changes that wait
before its queue is asked for. -/
theorem granaryQueues : Obligations.GranaryQueues := by
  unfold Obligations.GranaryQueues
  refine ⟨?fenced_walk, ?flush, ?closed, ?sweep, ?flow_rewrite⟩
  case fenced_walk =>
    intro q s hfenced
    rw [exec_fencedQueueWalk, if_pos hfenced]
  case flush =>
    intro q e t s hdue hvalid
    rw [exec_flushPoint_due q e s t hdue, if_pos hvalid]
  case closed =>
    intro q s _ hclosing hempty
    refine ⟨_, rfl, ?_⟩
    rw [exec_queueClosed, s.closeQueue_emptied q.toNat hclosing hempty]
  case sweep =>
    intro now s hsundial
    have hguard : ¬ s.mode ≠ .sundial := not_not_intro hsundial
    rw [exec_residencySweep, if_neg hguard]
  case flow_rewrite =>
    intro e s hact hbad
    rw [exec_flowEntryRewrite, if_pos ⟨hact, hbad⟩]

end Sys2Proof.Machine
end

section
/-! PROOF. What the events of Weavers and the writes to them of `09_vsi_model.md` come to (R231 to R237, R241 to R250, R365, R366): a run
starts or ends, a fetched image goes to its use, and a write of a master that may write there happens. -/
namespace Sys2Proof.Machine

/-! Runs (R231, R232, R235). -/

/-- A transmit beat (odd threads) finds a free stream thread: the run starts on the first handler with an empty window, and no beat is
taken from the lane. -/
theorem exec_beatHandlerStart_tx (q : Fin 24) (t : Fin 16) (first : BitVec 7) (row : BitVec 5) (col : BitVec 8) (epoch : BitVec 12)
    (h : Handler) (rest : List Handler) (s : State) (hhandlers : s.beatHandlers (s.chan (s.threadLane q t)) 2 = h :: rest)
    (hstream : s.isStream q t = true) (hfree : s.threadFree q t = true) (hodd : t.val % 2 = 1) :
    exec (.beatHandlerStart q t first row col epoch) s = .next (s.setEng (16 * q.val + t.val)
      { s.eng (16 * q.val + t.val) with
        w := 0, running := true, used := 0, todo := h :: rest, pc := h.entry, loops := [],
        sb := { first := first.toNat, row := row.toNat, col := col.toNat, pos := s.sbPos (s.threadLane q t),
                state := s.sbState (s.threadLane q t), epoch := epoch.toNat } }) := by
  have hguard : ¬ (!s.isStream q t ∨ !s.threadFree q t ∨ ((1 + 1 = 1) ∧ (s.lane (s.threadLane q t)).beats.isEmpty)) := by
    simp [hstream, hfree]
  change execBeatHandlerStart q t first row col epoch s = _
  simp only [execBeatHandlerStart, hodd, hhandlers]
  exact if_neg hguard

/-- The epoch finds a free service thread that has something to run: what waits for it once, and then its frame handlers. -/
theorem exec_serviceThreadStart_free (q : Fin 24) (t : Fin 16) (h : Handler) (rest : List Handler) (s : State)
    (hhandlers : (s.eng (16 * q.val + t.val)).extra ++ s.frameHandlers q t = h :: rest) (hservice : s.isStream q t = false)
    (hfree : s.threadFree q t = true) :
    exec (.serviceThreadStart q t) s = .next (s.setEng (16 * q.val + t.val)
      { s.eng (16 * q.val + t.val) with
        w := 0, sb := ⟨0, 0, 0, 0, 0, 0⟩, running := true, used := 0, todo := h :: rest, extra := [], pc := h.entry, loops := [] }) := by
  have hguard : ¬ (s.isStream q t ∨ !s.threadFree q t) := by simp [hservice, hfree]
  change execServiceThreadStart q t s = _
  simp only [execServiceThreadStart, hhandlers]
  exact if_neg hguard

/-- The budget of a service thread is that of its mode for a frame, and a run that has used it up is fenced. -/
theorem exec_threadOverrun_service (q : Fin 24) (t : Fin 16) (s : State) (hrun : (s.eng (16 * q.val + t.val)).running = true)
    (hservice : s.isStream q t = false) (hover : s.mode.budget.service ≤ (s.eng (16 * q.val + t.val)).used) :
    exec (.threadOverrun q t) s = .next (s.fenceThread q t 3) := by
  have hbudget : (if s.isStream q t then s.mode.budget.beat else s.mode.budget.service) = s.mode.budget.service := by simp [hservice]
  refine if_pos ⟨hrun, ?_⟩
  rw [hbudget]
  exact hover

/-! Fetched images (R241 to R243, R422). -/

/-- Where an image that has come goes: to the slot or to the Reeve that its fetch was for. -/
def State.useImage (s : State) (f : Fetch) (img : List Nat) (sigOk : Bool) (al : AlignKind) : State :=
  match f.use with
  | .attach c slot replace => s.attachImage f c slot replace img sigOk al
  | .reeve r => s.reeveImage f r img sigOk

theorem State.useImage_attach (s : State) (f : Fetch) (img : List Nat) (sigOk : Bool) (al : AlignKind) (c slot : Nat) (replace : Bool)
    (huse : f.use = .attach c slot replace) : s.useImage f img sigOk al = s.attachImage f c slot replace img sigOk al := by
  simp only [State.useImage, huse]

theorem State.useImage_reeve (s : State) (f : Fetch) (img : List Nat) (sigOk : Bool) (al : AlignKind) (r : Nat)
    (huse : f.use = .reeve r) : s.useImage f img sigOk al = s.reeveImage f r img sigOk := by
  simp only [State.useImage, huse]

/-- A steward that acts uses an image that has come in full, in the state that no longer fetches it. -/
theorem exec_imageFetchComplete_fetched (h : CmdHead) (img : List (BitVec 8)) (sigOk : Bool) (al : AlignKind) (f : Fetch) (s t : State)
    (hact : s.stewardActs = true) (hfetch : s.takeFetch h = (some f, t)) (hlen : img.length = f.len) :
    exec (.imageFetchComplete h img sigOk al) s = .next (t.useImage f (img.map (·.toNat)) sigOk al) := by
  have hguard : ¬ (!s.stewardActs ∨ img.length ≠ f.len) := by simp [hact, hlen]
  change execImageFetchComplete h img sigOk al s = _
  simp only [execImageFetchComplete, hfetch]
  refine (if_neg hguard).trans ?_
  rw [State.useImage]
  cases f.use <;> rfl

/-! Resets and fences by a master (R250). -/

theorem exec_threadReset (m : Fin 8) (q : Fin 24) (t : Fin 16) (s : State) :
    exec (.threadReset m q t) s = .next (s.asMaster m (·.threadReset m q t)) := rfl

theorem exec_threadFenceReq (m : Fin 8) (q : Fin 24) (t : Fin 16) (s : State) :
    exec (.threadFenceReq m q t) s = .next (s.asMaster m (·.fenceThread q t 4)) := rfl

theorem exec_wvrReset (m : Fin 8) (q : Fin 24) (s : State) : exec (.wvrReset m q) s = .next (s.asMaster m (·.wvrReset m q)) := rfl

theorem exec_wvrFenceReq (m : Fin 8) (q : Fin 24) (s : State) :
    exec (.wvrFenceReq m q) s = .next (s.asMaster m (·.fenceWeaver q 4)) := rfl

/-! Register FIFOs (R365, R366). -/

/-- A write to a FIFO's register by a master other than PAIR, one that may write there, happens. -/
theorem State.asFifo_eq (s : State) (m : Nat) (f : State → State) (hm : m ≠ 6) (hw : s.writesAs m = true) : s.asFifo m f = f s :=
  (if_neg hm).trans (s.asMaster_eq m f hw)

theorem exec_fifoDataRead (m : Fin 8) (q : Fin 24) (f : Fin 5) (s : State) : exec (.fifoDataRead m q f) s =
    .next (s.asReader m (0x201100 + q * 0x10000 + 0x10 * f) (fun u =>
      (u.fifoRead q f).2.emit (.busRead m (0x201100 + q * 0x10000 + 0x10 * f) (u.fifoRead q f).1))) := rfl

theorem exec_fifoDataWrite (m : Fin 8) (q : Fin 24) (f : Fin 5) (v : BitVec 32) (s : State) :
    exec (.fifoDataWrite m q f v) s = .next (s.asFifo m (·.fifoWrite m q f v.toNat)) := rfl

theorem exec_fifoFlush (m : Fin 8) (q : Fin 24) (f : Fin 5) (s : State) :
    exec (.fifoFlush m q f) s = .next (s.asFifo m (·.fifoFlushReq m q f)) := rfl

/-- Settles O34: the premises of a clause on a run, an image or a completed reset meet the guard of its command, and an access of a
master that may make it happens. -/
theorem weaverControl : Obligations.WeaverControl := by
  unfold Obligations.WeaverControl
  refine ⟨exec_beatHandlerStart_tx, exec_serviceThreadStart_free, exec_threadOverrun_service, ?bundle, ?reeve_image, ?attach_image,
    ?parity, ?resets_and_fences, ?thread_reset_done, ?weaver_reset_done, ?fifo_read, ?fifo_write, ?parameter_words⟩
  case bundle =>
    intro q t first s
    exact ⟨_, rfl, rfl⟩
  case reeve_image =>
    intro h img sigOk al f t r s hact hfetch hlen huse
    rw [exec_imageFetchComplete_fetched h img sigOk al f s t hact hfetch hlen, t.useImage_reeve f _ sigOk al r huse]
  case attach_image =>
    intro h img sigOk al f t c slot replace s hact hfetch hlen huse
    rw [exec_imageFetchComplete_fetched h img sigOk al f s t hact hfetch hlen, t.useImage_attach f _ sigOk al c slot replace huse]
  case parity =>
    intro q s
    rfl
  case resets_and_fences =>
    intro m q t s hw
    have happens (f : State → State) : s.asMaster m f = f s := s.asMaster_eq m f hw
    refine ⟨?_, ?_, ?_, ?_⟩
    · rw [exec_threadReset, happens]
    · rw [exec_threadFenceReq, happens]
    · rw [exec_wvrReset, happens]
    · rw [exec_wvrFenceReq, happens]
  case thread_reset_done =>
    intro q t s hresetting
    exact if_pos hresetting
  case weaver_reset_done =>
    intro q s hresetting
    exact if_pos hresetting
  case fifo_read =>
    intro m q f s hr
    rw [exec_fifoDataRead, s.asReader_eq m _ _ hr]
  case fifo_write =>
    intro m q f v s hw hhost
    have happens (g : State → State) : s.asFifo m g = g s := s.asFifo_eq m g (by omega) hw
    exact ⟨by rw [exec_fifoDataWrite, happens], by rw [exec_fifoFlush, happens]⟩
  case parameter_words =>
    intro m c slot w v s
    exact ⟨rfl, rfl⟩

end Sys2Proof.Machine
end

section
/-! PROOF. The memory syllables of slot Q and the control profile's bus and Ledger syllables of `10_vsi_reference.md` (R269, R272, R276): what
issuing one does is said once for each kind of access. -/
namespace Sys2Proof.Machine

/-- Predicate 0 reads 1, so an unguarded syllable is one with guard 0 (R258). -/
@[simp] theorem Eng.pr_zero (x : Eng) : x.pr 0 = true := rfl

theorem State.issue_issued (s : State) (e : Engine) (f : Eng → Eng) (hi : s.canIssue e = true) :
    s.issue e f = s.setEng (engIdx e) (f (s.eng (engIdx e))) := if_pos hi

theorem State.issueIf_issued (s : State) (e : Engine) (pg : Nat) (f : Eng → Eng) (hi : s.canIssue e = true)
    (hpg : (s.eng (engIdx e)).pr pg = true) : s.issueIf e pg f = s.setEng (engIdx e) (f (s.eng (engIdx e))) := by
  rw [State.issueIf, s.issue_issued e _ hi, if_pos hpg]

/-- A syllable without a guard that acts beyond its engine acts whenever the engine issues. -/
theorem State.issueS_unguarded (s : State) (e : Engine) (f : Eng → State → State) (hi : s.canIssue e = true) :
    s.issueS e 0 f = f (s.eng (engIdx e)) s := if_pos (by simp [hi])

/-! Private loads and stores. -/

section
variable {s : State} {e : Engine} (rd ra imm n : Nat) (c : EccClass)

theorem State.next_load_issued (hi : s.canIssue e = true) :
    (.next (s.load e rd ra imm n c) : Res) =
      .next ((s.setEng (engIdx e) ((s.eng (engIdx e)).toReg 2 rd (s.bytes (s.dataAddr e (s.eng (engIdx e)) ra imm n) n))).dataEcc e
        (s.dataAddr e (s.eng (engIdx e)) ra imm n / 8 * 8) c) :=
  congrArg Host.Outcome.next (s.issueS_unguarded e _ hi)

theorem State.next_store_issued (hi : s.canIssue e = true) :
    (.next (s.store e rd ra imm n c) : Res) =
      .next ((s.setBytes (s.dataAddr e (s.eng (engIdx e)) ra imm n) n ((s.eng (engIdx e)).rg rd)).dataEcc e
        (s.dataAddr e (s.eng (engIdx e)) ra imm n / 8 * 8) c) :=
  congrArg Host.Outcome.next (s.issueS_unguarded e _ hi)

end

/-! Shared loads and stores of a thread. -/

section
variable {s : State} {q : Fin 24} {t : Fin 16} {x : Eng} (rd ra imm n : Nat) (c : EccClass)

theorem State.next_loadShared_issued (hi : s.canIssue (.thread q t) = true) (hx : s.eng (16 * q + t) = x) :
    (.next (s.loadShared q t rd ra imm n (.thread q t) c) : Res) =
      .next ((s.setEng (16 * q + t) { x with due := x.due ++ [⟨x.cycle + 20, .reg rd, 0, some (sharedOff x ra imm n, n)⟩] }).weaverEcc
        q t 2 (sharedOff x ra imm n / 8) c) := by
  subst hx
  exact congrArg Host.Outcome.next (s.issueS_unguarded _ _ hi)

theorem State.next_storeShared_issued (hi : s.canIssue (.thread q t) = true) (hx : s.eng (16 * q + t) = x) :
    (.next (s.storeShared q t rd ra imm n (.thread q t) c) : Res) =
      .next (({ s with shst := s.shst ++ [⟨q, t, x.cycle + 20, sharedOff x ra imm n, n, x.rg rd⟩] } : State).weaverEcc
        q t 2 (sharedOff x ra imm n / 8) c) := by
  subst hx
  exact congrArg Host.Outcome.next (s.issueS_unguarded _ _ hi)

end

/-! Bus accesses and Ledger operations of a Reeve: each stalls it. -/

section
variable {s : State} {r : Fin 4} {x : Eng}

theorem State.next_busIssue_issued (dest : Option Nat) (src ra imm : Nat) (double : Bool) (hi : s.canIssue (.reeve r) = true)
    (hx : s.eng (384 + r) = x) :
    (.next (s.busIssue r (.reeve r) dest src ra imm double) : Res) =
      .next ((s.setEng (384 + r) { x with
        stallNew := true
        stall := some (.bus dest ((x.rg ra + sext16 imm) % 2 ^ 32) (x.rg src) double) }).showReeve r) := by
  subst hx
  exact congrArg (fun u : State => Host.Outcome.next (u.showReeve r)) (s.issue_issued _ _ hi)

theorem State.next_ckptIssue_issued (pg op rd ra rb : Nat) (hi : s.canIssue (.reeve r) = true) (hx : s.eng (384 + r) = x)
    (hpg : x.pr pg = true) :
    (.next (s.ckptIssue r (.reeve r) pg op rd ra rb) : Res) =
      .next ((s.setEng (384 + r) { x with stallNew := true, stall := some (.ckpt op rd (x.rg ra) (x.rg rb)) }).showReeve r) := by
  subst hx
  exact congrArg (fun u : State => Host.Outcome.next (u.showReeve r)) (s.issueIf_issued _ _ _ hi hpg)

end

/-- Settles O36: each syllable is an access of one of the five kinds above on an engine that issues; the shared stores that are due take
effect as the command says. -/
theorem vsiMemoryOps : Obligations.VsiMemoryOps := by
  unfold Obligations.VsiMemoryOps
  refine ⟨?private_region, ?shared_region, ?shared_stores_due, ?bus, ?ledger⟩
  case private_region =>
    intro e rd ra imm s hi
    exact ⟨State.next_load_issued rd ra _ 8 .clean hi, State.next_load_issued rd ra _ 4 .clean hi,
      State.next_store_issued rd ra _ 8 .clean hi, State.next_store_issued rd ra _ 4 .clean hi⟩
  case shared_region =>
    intro q t rd ra imm x s hi hx
    exact ⟨State.next_loadShared_issued rd ra _ 8 .clean hi hx, State.next_loadShared_issued rd ra _ 4 .clean hi hx,
      State.next_storeShared_issued rd ra _ 8 .clean hi hx, State.next_storeShared_issued rd ra _ 4 .clean hi hx⟩
  case shared_stores_due =>
    intro q s
    exact ⟨_, rfl, rfl⟩
  case bus =>
    intro r rd ra imm x s hi hx
    exact ⟨State.next_busIssue_issued (some rd) 0 ra _ false hi hx, State.next_busIssue_issued none rd ra _ false hi hx,
      State.next_busIssue_issued (some rd) 0 ra _ true hi hx, State.next_busIssue_issued none rd ra _ true hi hx⟩
  case ledger =>
    intro r pg rd ra rb x s hi hx hpg
    have stalls (op : Nat) := State.next_ckptIssue_issued pg op rd ra rb hi hx hpg
    exact ⟨stalls 0, stalls 1, stalls 2, stalls 3, stalls 4, stalls 5⟩

end Sys2Proof.Machine
end

section
/-! PROOF. What the program and Reeve commands of `09_vsi_model.md` and `15_startup_modes.md` come to once a steward accepts them (R243 to R248,
R418, R420, R422): each is judged, either as a change that then waits for its boundary or with an effect of its own. -/
namespace Sys2Proof.Machine

/-- No check of an accepted command stops it (R418). -/
theorem State.firstCheck_of_accepts (s : State) (l : List Check) (ha : s.accepts l = true) : firstCheck l = none := by
  rw [State.accepts, Bool.and_eq_true] at ha
  exact (firstCheck_eq_none l).2 ha.2

/-! ATTACH and DETACH (R243, R244). -/

/-- An Almanac program that no check stops is not rejected by what the verifier finds: its worst cases are shown, and it waits. -/
theorem State.attachAlmanac_accepts (s : State) (h : CmdHead) (c slot : Nat) (replace : Bool) (id : Nat)
    (ha : s.accepts (s.common h true true ++ (s.ahead s.nextMultiframe).attachChecks c slot replace
      ((s.ahead s.nextMultiframe).almanac c id)) = true) :
    s.attachAlmanac h c slot replace id =
      ((s.taken h).showCheck (c / 4) 0 ((s.ahead s.nextMultiframe).almanac c id).wcRx ((s.ahead s.nextMultiframe).almanac c id).wcTx
        ((s.ahead s.nextMultiframe).almanac c id).wcFrame).sched (some h) true s.nextMultiframe
          (.attach c slot replace ((s.ahead s.nextMultiframe).almanac c id)) := by
  have hnone := s.firstCheck_of_accepts _ ha
  simp only [State.attachAlmanac, hnone, reduceCtorEq, and_false, if_false, if_true]
  exact s.judge_accepts h _ _ ha

theorem exec_attach_almanac (h : CmdHead) (c slot : BitVec 8) (replace : Bool) (id : BitVec 16) (addr : BitVec 64) (len : BitVec 32)
    (s : State) : exec (.attach h c slot replace false id addr len) s =
      .next (s.attachAlmanac h c.toNat slot.toNat replace id.toNat) := rfl

theorem exec_attach_image (h : CmdHead) (c slot : BitVec 8) (replace : Bool) (id : BitVec 16) (addr : BitVec 64) (len : BitVec 32)
    (s : State) : exec (.attach h c slot replace true id addr len) s =
      .next (s.judge h (s.common h true true ++ (s.ahead s.nextMultiframe).slotChecks c.toNat slot.toNat replace
          ++ [(addr.toNat % 8 != 0, .badArg, 16), (s.lifecycle == 3, .denied, 0xFF)])
        (fun u => { u with fetches := u.fetches ++ [⟨h, addr.toNat, len.toNat, .attach c.toNat slot.toNat replace⟩] })) := rfl

theorem exec_detach (h : CmdHead) (c slot : BitVec 8) (s : State) : exec (.detach h c slot) s =
    .next (s.judgeChange h true true s.nextMultiframe [] (.detach c.toNat slot.toNat)) := rfl

/-! PARAM_WRITE (R247, R420). -/

theorem exec_paramWrite (h : CmdHead) (c slot first : BitVec 8) (vs : List (BitVec 32)) (s : State) :
    exec (.paramWrite h c slot first vs) s =
      .next (s.judge h (s.common h true true ++ (s.ahead (s.paramDue c.toNat)).paramChecks c.toNat slot.toNat first.toNat vs)
        (·.acceptParams h c.toNat slot.toNat first.toNat vs)) := rfl

/-! REEVE_LOAD (R422). -/

theorem exec_reeveLoad (h : CmdHead) (r : BitVec 8) (addr : BitVec 64) (len : BitVec 32) (s : State) :
    exec (.reeveLoad h r addr len) s =
      .next (s.judge h (s.common h false true ++ s.reeveChecks r.toNat ++ [(addr.toNat % 8 != 0, .badArg, 16)])
        (fun u => { u with fetches := u.fetches ++ [⟨h, addr.toNat, len.toNat, .reeve r.toNat⟩] })) := rfl

theorem exec_reeveLoadReturn (h : CmdHead) (r : BitVec 8) (s : State) : exec (.reeveLoadReturn h r) s =
    .next (s.judge h (s.common h false true ++ s.reeveChecks r.toNat)
      (fun u => (u.reeveReset r.toNat false).later (some h) .event (.reeveBack r.toNat))) := rfl

/-- Settles O54: the checks of the hypothesis are those that the command is judged by, so it is taken up; a DETACH then waits as a change,
an Almanac program does once its check is shown, and any other command has its effect on the state that took it up. -/
theorem programCommands : Obligations.ProgramCommands := by
  unfold Obligations.ProgramCommands
  refine ⟨?almanac, ?host_image, ?detach, ?parameters, ?reeve_load, ?reeve_return⟩
  case almanac =>
    rintro h c slot replace id addr len _ s rfl hacc
    rw [exec_attach_almanac, s.attachAlmanac_accepts _ _ _ _ _ hacc]
  case host_image =>
    intro h c slot replace id addr len s hacc
    rw [exec_attach_image, s.judge_accepts _ _ _ hacc]
  case detach =>
    intro h c slot s hacc
    rw [exec_detach, s.judgeChange_accepts _ _ _ _ _ _ hacc]
  case parameters =>
    intro h c slot first vs s hacc
    rw [exec_paramWrite, s.judge_accepts _ _ _ hacc]
  case reeve_load =>
    intro h r addr len s hacc
    rw [exec_reeveLoad, s.judge_accepts _ _ _ hacc]
  case reeve_return =>
    intro h r s hacc
    rw [exec_reeveLoadReturn, s.judge_accepts _ _ _ hacc]

end Sys2Proof.Machine
end

section
/-! PROOF. The memory behind the loads and stores of `10_vsi_reference.md` (R4, R269, R362): bytes stored as a little-endian number
read back, and nothing else changes. -/
namespace Sys2Proof.Machine

theorem State.Canonical.setBytes {s : State} (h : s.Canonical) (a n v : Nat) : (s.setBytes a n v).Canonical := by
  induction n generalizing s a v with
  | zero => exact h
  | succ n ih => exact ih (h.setByte a _) (a + 1) (v / 256)

theorem State.setBytes_regs (s : State) (a n v : Nat) : (s.setBytes a n v).regs = s.regs := by
  induction n generalizing s a v with
  | zero => rfl
  | succ n ih => exact ih (s.setByte a _) (a + 1) (v / 256)

theorem State.byte_setBytes_outside (s : State) (a n v b : Nat) (h : s.Canonical) (hb : b < a ∨ a + n ≤ b) :
    (s.setBytes a n v).byte b = s.byte b := by
  induction n generalizing s a v with
  | zero => rfl
  | succ n ih => calc
      (s.setBytes a (n + 1) v).byte b = (s.setByte a (BitVec.ofNat 8 v)).byte b := ih _ (a + 1) (v / 256) (h.setByte a _) (by omega)
      _ = s.byte b := s.byte_setByte_other a b _ h (by omega)

/-- The first byte stored holds the low eight bits: the bytes stored after it lie above it. -/
theorem State.byte_setBytes_first (s : State) (a n v : Nat) (h : s.Canonical) :
    (s.setBytes a (n + 1) v).byte a = BitVec.ofNat 8 v := calc
  (s.setBytes a (n + 1) v).byte a = (s.setByte a (BitVec.ofNat 8 v)).byte a :=
    State.byte_setBytes_outside _ (a + 1) n (v / 256) a (h.setByte a _) (.inl a.lt_succ_self)
  _ = BitVec.ofNat 8 v := s.byte_setByte_same a _ h

/-- The number read back is its low byte and, 256 times, what the bytes above it hold of the rest. -/
theorem State.bytes_setBytes (s : State) (a n v : Nat) (h : s.Canonical) : (s.setBytes a n v).bytes a n = v % 2 ^ (8 * n) := by
  induction n generalizing s a v with
  | zero => exact (Nat.mod_one v).symm
  | succ n ih =>
    have hrest : (s.setBytes a (n + 1) v).bytes (a + 1) n = v / 256 % 2 ^ (8 * n) := ih _ (a + 1) (v / 256) (h.setByte a _)
    calc (s.setBytes a (n + 1) v).bytes a (n + 1)
        = ((s.setBytes a (n + 1) v).byte a).toNat + 256 * (s.setBytes a (n + 1) v).bytes (a + 1) n := rfl
      _ = v % 256 + 256 * (v / 256 % 2 ^ (8 * n)) := by rw [s.byte_setBytes_first a n v h, hrest, BitVec.toNat_ofNat]
      _ = v % (256 * 2 ^ (8 * n)) := Nat.mod_mul.symm
      _ = v % 2 ^ (8 * (n + 1)) := by rw [Nat.mul_succ, Nat.add_comm, Nat.pow_add]

/-- Settles O8: storing puts one byte after another, so each fact follows by induction on how many, from the rules for one byte. -/
theorem memoryReadsBack : Obligations.MemoryReadsBack := by
  unfold Obligations.MemoryReadsBack
  intro s a n v h
  exact ⟨s.bytes_setBytes a n v h, fun b => s.byte_setBytes_outside a n v b h, s.setBytes_regs a n v, h.setBytes a n v⟩

end Sys2Proof.Machine
end

section
/-! PROOF. The syllables of slot C of `10_vsi_reference.md` (R257, R260 to R263, R273 to R275): each closes its bundle when its
engine may, and what it does besides is said once for each kind of syllable. -/
namespace Sys2Proof.Machine

/-- A syllable that leaves the state alone while its engine may not close does the rest when it may. -/
theorem State.ite_not_canClose {α : Type} {s : State} {e : Engine} (hc : s.canClose e = true) (waits closes : α) :
    (if !s.canClose e then waits else closes) = closes := by simp [hc]

/-! Jumps (R260) and reps (R261). -/

theorem exec_cnop (e : Engine) (s : State) : exec (.cnop e) s = .next (s.closeRun e none) := rfl

theorem exec_br (e : Engine) (neg : Bool) (pc : Fin 8) (target : BitVec 14) (s : State) : exec (.br e neg pc target) s =
    .next (s.closeRun e (if (s.eng (engIdx e)).taken neg pc then some target.toNat else none)) := rfl

theorem exec_call (e : Engine) (neg : Bool) (pc : Fin 8) (target : BitVec 14) (s : State) : exec (.call e neg pc target) s =
    if (s.eng (engIdx e)).taken neg pc ∧ s.canClose e then
      .next ((s.setEng (engIdx e) { s.eng (engIdx e) with rs := (((s.eng (engIdx e)).pc + 1) :: (s.eng (engIdx e)).rs).take 4 }).closeRun e
        (some target.toNat))
    else .next (s.closeRun e none) := rfl

/-- A ret whose guard is 1 pops the return stack. -/
theorem exec_ret_pops (e : Engine) (pg : Fin 8) (r : Nat) (rs : List Nat) (s : State) (hpg : (s.eng (engIdx e)).pr pg = true)
    (hc : s.canClose e = true) (hrs : (s.eng (engIdx e)).rs = r :: rs) :
    exec (.ret e pg) s = .next ((s.setEng (engIdx e) { s.eng (engIdx e) with rs := rs }).closeRun e (some r)) := by
  refine (if_pos ⟨hpg, hc⟩).trans ?_
  rw [hrs]

theorem exec_rep (e : Engine) (blen : BitVec 10) (count : BitVec 16) (s : State) :
    exec (.rep e blen count) s = .next (s.startRep e blen.toNat count.toNat) := rfl

theorem exec_repg (e : Engine) (blen : BitVec 5) (ra : Fin 32) (bound : BitVec 16) (s : State) : exec (.repg e blen ra bound) s =
    .next (s.startRep e blen.toNat (min ((s.eng (engIdx e)).rg ra) bound.toNat)) := rfl

/-! The ends of handlers (R262) and the break (R263). -/

/-- Without a rep there is none for the bundle of a yield to close, and the handler ends. -/
theorem exec_yield_outside_rep (q : Fin 24) (t : Fin 16) (s : State) (hc : s.canClose (.thread q t) = true)
    (hloops : (s.eng (16 * q + t)).loops = []) : exec (.yield q t) s = .next ((s.close (.thread q t) none).endHandler q t) := by
  refine (State.ite_not_canClose hc _ _).trans ?_
  simp only [hloops]
  exact if_neg (by simp)

/-- A break is traced before its bundle closes; a target of TINKER halts after it. -/
theorem exec_brk_reeve (r : Fin 4) (code : BitVec 8) (s u : State) (hc : s.canClose (.reeve r) = true)
    (hu : u = s.traceItem 1 1 r code.toNat (some (s.eng (384 + r)).pc)) :
    exec (.brk (.reeve r) code) s = .next (if u.tinkered (.reeve r) then (u.closeRun (.reeve r) none).haltEng (.reeve r)
      else u.closeRun (.reeve r) none) := by
  subst hu
  exact State.ite_not_canClose hc _ _

/-! The control profile (R273 to R275): syllables that stall the Reeve once the bundle is closed, and those that act on its record
before. -/

section
variable {r : Fin 4} {pg : Fin 8} {rd ra : Fin 32} {s u : State} {x : Eng} {act : Eng → State → State}

theorem exec_await_closes (hc : s.canClose (.reeve r) = true) (hu : u = s.close (.reeve r) none) : exec (.await r rd) s =
    .next ((u.setEng (384 + r) { u.eng (384 + r) with stall := some (.await rd), loops := [] }).showReeve r) := by
  subst hu
  exact State.ite_not_canClose hc _ _

theorem exec_pwr_closes (f : Fin 4) (hc : s.canClose (.reeve r) = true) (hpg : (s.eng (384 + r)).pr pg = true)
    (hu : u = s.close (.reeve r) none) : exec (.pwr r pg f rd ra) s = .next ((u.setEng (384 + r)
      { u.eng (384 + r) with stall := some (.pwr f rd ((s.eng (384 + r)).rg ra)) }).showReeve r) := by
  subst hu
  exact (State.ite_not_canClose hc _ _).trans (congrArg Host.Outcome.next (if_pos hpg))

/-- A guarded syllable of the control profile acts on the Reeve's record, and then its bundle closes. -/
theorem State.next_closeWith_closes (hc : s.canClose (.reeve r) = true) (hx : s.eng (384 + r) = x) (hpg : x.pr pg = true) :
    (.next (s.closeWith r pg act) : Res) = .next ((act x s).close (.reeve r) none) := by
  subst hx
  refine congrArg Host.Outcome.next ((State.ite_not_canClose hc _ _).trans ?_)
  exact congrArg (fun u : State => u.close (.reeve r) none) (if_pos hpg)

end

/-- Settles O39: an engine that may close is past the guard of its syllable, and what remains is the effect of the syllable and the close. -/
theorem vsiControlOps : Obligations.VsiControlOps := by
  unfold Obligations.VsiControlOps
  refine ⟨exec_cnop, ?taken, ?not_taken, exec_ret_pops, ?reps, exec_yield_outside_rep, ?break_traced, ?await, ?power, ?own_record⟩
  case taken =>
    intro e neg pc target s htaken hc
    exact ⟨by rw [exec_br, if_pos htaken], by rw [exec_call, if_pos ⟨htaken, hc⟩]⟩
  case not_taken =>
    intro e neg pc target s hnot
    exact ⟨by rw [exec_br, if_neg (by simp [hnot])], by rw [exec_call, if_neg (by simp [hnot])]⟩
  case reps =>
    intro e b10 b5 ra count s
    exact ⟨exec_rep e b10 count s, exec_repg e b5 ra count s⟩
  case break_traced =>
    intro r code s hc
    exact ⟨_, rfl, exec_brk_reeve r code s _ hc rfl⟩
  case await =>
    intro r rd s hc
    exact ⟨_, rfl, exec_await_closes hc rfl⟩
  case power =>
    intro r pg f rd ra s hc hpg
    exact ⟨_, rfl, exec_pwr_closes f hc hpg rfl⟩
  case own_record =>
    intro r pg rd ra x s hc hx hpg
    have acts {act : Eng → State → State} : (.next (s.closeWith r pg act) : Res) = .next ((act x s).close (.reeve r) none) :=
      State.next_closeWith_closes hc hx hpg
    exact ⟨acts, acts, acts, acts, acts, acts, acts, acts⟩

end Sys2Proof.Machine
end

section
/-! PROOF. The reference candidates of `11_bell_tower.md` (R277 to R284, R291): what each event of a candidate comes to once the guard
it opens with is met. The twin reference is candidate 16 (Table 11.1). -/
namespace Sys2Proof.Machine

/-! Enable and failure (R278, R284, R291). -/

theorem exec_refEnableWrite (m : Fin 8) (n : Fin 18) (en : Bool) (s : State) :
    exec (.refEnableWrite m n en) s = .next (s.asMaster m (·.pairGate m (·.refEnable n en))) := rfl

theorem exec_refActivityLoss (n : Fin 18) (long : Bool) (s : State) : exec (.refActivityLoss n long) s =
    .next (if n.val = 16 ∧ 2 ≤ (s.failRef n 1).role then
      (((((s.failRef n 1).holdover 0 long).holdover 1 long).holdover 3 long).wr R.PAIR_STATUS.dpll3_locked 0 0).bellShow
    else s.failRef n 1) := rfl

/-! The end of a failure and of the timer that follows it (R284): each has a form for the candidate and one for its time ability. -/

/-- The timer that starts is read after the candidate's record has changed, which leaves the registers alone. -/
theorem exec_refFailureClear_frequency (n : Fin 18) (s : State) : exec (.refFailureClear n false) s =
    if s.refState n = 1 then
      .next ((((s.setRefx n { s.refx n with first := false }).wr R.BELL_REF_STAT_n.state n (if (s.refx n).first then 2 else 3)).wr
        R.BELL_REF_STAT_n.wtr_left n (if (s.refx n).first then s.rd R.BELL_QUAL.qual_s 0 else s.rd R.BELL_QUAL.wtr_s 0)).bellShow)
    else .next s := rfl

theorem exec_refFailureClear_time (n : Fin 18) (s : State) : exec (.refFailureClear n true) s =
    if (s.refx n).timeState = 1 ∧ s.timeCapable n then
      .next (s.setRefx n { s.refx n with timeState := if (s.refx n).timeFirst then 2 else 3, timeFirst := false })
    else .next s := rfl

/-- What the end of a timer shows: ref_qual is set with the candidate's status as its data. -/
def State.showQualified (s : State) (n : Nat) : State :=
  (s.bellEvent R.BELL_EVENT.ref_qual n (s.reg (0x10104 + 16 * n)).toNat).bellShow

theorem exec_qualificationTimerEnd_frequency (n : Fin 18) (s : State) : exec (.qualificationTimerEnd n false) s =
    if s.refState n = 2 ∨ s.refState n = 3 then
      .next (((s.wr R.BELL_REF_STAT_n.state n 4).wr R.BELL_REF_STAT_n.wtr_left n 0).showQualified n)
    else .next s := rfl

theorem exec_qualificationTimerEnd_time (n : Fin 18) (s : State) : exec (.qualificationTimerEnd n true) s =
    if (s.refx n).timeState = 2 ∨ (s.refx n).timeState = 3 then
      .next (((s.setRefx n { s.refx n with timeState := 4 }).wr R.BELL_REF_STAT_n.time_ok n 1).showQualified n)
    else .next s := rfl

/-! Measurement (R282, R283). -/

/-- The candidates that are at least qualifying drift first; all of them are then judged against the offsets as they stood before. -/
theorem exec_freqMeasurementUpdate (ofs : List (Fin 18 × BitVec 32)) (s : State) : exec (.freqMeasurementUpdate ofs) s =
    .next ((ofs.filter (fun e => decide (2 ≤ s.refState e.1))).foldl (fun t e => t.consensus s e.1 e.2.toInt)
      ((ofs.filter (fun e => decide (2 ≤ s.refState e.1))).foldl (fun t e => t.drift e.1 e.2.toInt) s)) := rfl

/-- Settles O40: the write of en passes R24's gate outside a pair, and the premises of every other clause decide the guard of its event. -/
theorem references : Obligations.References := by
  unfold Obligations.References
  refine ⟨?enable, ?activity_loss, ?twin_loss, ?failure_clears, ?time_failure_clears, ?measurement, ?qualifies, ?time_qualifies⟩
  case enable =>
    intro m n en s hw hsolo
    rw [exec_refEnableWrite, s.asMaster_pairGate_unpaired m _ hw hsolo]
  case activity_loss =>
    intro n long s hn
    rw [exec_refActivityLoss, if_neg fun htwin => hn htwin.1]
  case twin_loss =>
    intro long s hrole
    exact (exec_refActivityLoss 16 long s).trans (congrArg Host.Outcome.next (if_pos ⟨rfl, hrole⟩))
  case failure_clears =>
    intro n s hfailed
    rw [exec_refFailureClear_frequency, if_pos hfailed]
  case time_failure_clears =>
    intro n s hfailed hcap
    rw [exec_refFailureClear_time, if_pos ⟨hfailed, hcap⟩]
  case measurement =>
    intro ofs s
    exact ⟨_, _, rfl, rfl, exec_freqMeasurementUpdate ofs s⟩
  case qualifies =>
    intro n s htimer
    refine ⟨_, rfl, ?_⟩
    rw [exec_qualificationTimerEnd_frequency, if_pos htimer, State.showQualified]
  case time_qualifies =>
    intro n s htimer
    refine ⟨_, rfl, ?_⟩
    rw [exec_qualificationTimerEnd_time, if_pos htimer, State.showQualified]

end Sys2Proof.Machine
end

section
/-! PROOF. What the commands on references, time and registers come to once a steward accepts them (R297, R305, R418, R420, R423): a
configuration is a change at the next multiframe boundary, and a command on time has an effect of its own. -/
namespace Sys2Proof.Machine

/-! Configurations (R305, R420, R423): neither has a check before those of the change. -/

theorem exec_refConfig (h : CmdHead) (writes : List (BitVec 32 × BitVec 32)) (s : State) : exec (.refConfig h writes) s =
    .next (s.judgeChange h true false s.nextMultiframe [] (.bell (entriesOf writes))) := rfl

theorem exec_regConfig (h : CmdHead) (writes : List (BitVec 32 × BitVec 32)) (s : State) : exec (.regConfig h writes) s =
    .next (s.judgeChange h true true s.nextMultiframe [] (.regs (entriesOf writes))) := rfl

/-! Time (R297): a jump and a frequency complete as they are accepted; a slew runs, and a TIME_SET waits for the one-second tick. -/

theorem exec_phaseStepSlew (h : CmdHead) (amount : BitVec 64) (rate : BitVec 32) (s : State) : exec (.phaseStepSlew h amount rate) s =
    .next (s.judge h (s.common h false false ++ s.stepChecks
        ++ [(decide (10 ^ 6 * 2 ^ 16 < amount.toInt.natAbs), .badArg, 16), (decide (rate.toNat < 1 ∨ 10000 < rate.toNat), .badArg, 24)])
      (fun t => { t with bell := { t.bell with slew := some ⟨amount.toInt, rate.toNat, 0, h⟩ } })) := rfl

theorem exec_phaseStepJump (h : CmdHead) (amount : BitVec 64) (s : State) : exec (.phaseStepJump h amount) s =
    .next (s.judge h (s.common h false false ++ s.stepChecks ++ [(s.mode == .sundial, .illegalState, 0xFF)])
      (fun t => (t.jumpTime amount.toInt).ok h 0)) := rfl

theorem exec_phaseStepFrequency (h : CmdHead) (amount : BitVec 64) (s : State) : exec (.phaseStepFrequency h amount) s =
    .next (s.judge h (s.common h false false ++ s.stepChecks
        ++ [(s.dpllMode 1 != 5, .illegalState, 0xFF), (decide (100000 * 2 ^ 16 < amount.toInt.natAbs), .badArg, 16)])
      (fun t => ({ t with bell := { t.bell with hostFreq := amount.toInt } } : State).ok h 0)) := rfl

theorem exec_timeSet (h : CmdHead) (sec : BitVec 48) (s : State) : exec (.timeSet h sec) s =
    .next (s.judge h (s.common h false false ++ s.stepChecks
        ++ [(s.mode == .sundial, .illegalState, 0xFF), (s.bell.setSec.isSome, .busy, 0xFF)])
      (fun t => { t with bell := { t.bell with setSec := some (sec.toNat, h) } })) := rfl

/-- Settles O57: the checks of the hypothesis are those that the command is judged by, so it is taken up; a configuration then waits as a
change, and a command on time has its effect on the state that took it up. -/
theorem timeAndRegisterCommands : Obligations.TimeAndRegisterCommands := by
  unfold Obligations.TimeAndRegisterCommands
  refine ⟨?references, ?registers, ?slew, ?jump, ?frequency, ?time_set⟩
  case references =>
    intro h writes s hacc
    rw [exec_refConfig, s.judgeChange_accepts _ _ _ _ _ _ hacc]
  case registers =>
    intro h writes s hacc
    rw [exec_regConfig, s.judgeChange_accepts _ _ _ _ _ _ hacc]
  case slew =>
    intro h amount rate s hacc
    rw [exec_phaseStepSlew, s.judge_accepts _ _ _ hacc]
  case jump =>
    intro h amount s hacc
    rw [exec_phaseStepJump, s.judge_accepts _ _ _ hacc]
  case frequency =>
    intro h amount s hacc
    rw [exec_phaseStepFrequency, s.judge_accepts _ _ _ hacc]
  case time_set =>
    intro h sec s hacc
    rw [exec_timeSet, s.judge_accepts _ _ _ hacc]

end Sys2Proof.Machine
end

section
/-! PROOF. What one step of the machine is (`95_what_each_step_holds.md`), and what every step keeps (R362, R373 to R378): the rest of the
queue, the canonical tables, the fuse store that only grows. With it the state after reset (R409, R413), which is sound. -/
namespace Sys2Proof.Machine

/-! One step, said once. -/

theorem step_cons (c : Instr) (l : List Instr) (s : State) : step { s with pending := c :: l } = exec c { s with pending := l } := rfl

theorem step_nil (s : State) (h : s.pending = []) : step s = .next s := by
  simp only [step, h]

/-- A step either finds an empty queue and changes nothing, or runs the command at the front on the state with the rest. -/
theorem step_cases {s t : State} (h : step s = .next t) :
    (s.pending = [] ∧ t = s) ∨ ∃ c l, s.pending = c :: l ∧ exec c { s with pending := l } = .next t := by
  unfold step at h
  split at h
  case h_1 hp => cases h; exact .inl ⟨hp, rfl⟩
  case h_2 c l hp => exact .inr ⟨c, l, hp, h⟩

/-- A state that runs one command keeps what that command keeps. -/
theorem Kept.of_exec {c : Instr} {l : List Instr} {s t : State} (h : exec c { s with pending := l } = .next t) :
    Kept { s with pending := l } t := exec_keeps c _ t h

/-! Soundness. -/

/-- The queue is no table. -/
theorem State.Canonical.pending {s : State} (h : s.Canonical) (l : List Instr) : State.Canonical { s with pending := l } := { h with }

/-- What a kept step leaves is sound when what it started from is sound but for the queue, whose rest is well formed. -/
theorem Kept.sound {l : List Instr} {s t : State} (k : Kept { s with pending := l } t) (hl : l.all Instr.wf = true)
    (htab : s.Canonical) (hslots : s.fuses.keys.length = 4) : t.Sound where
  queue := by rw [State.queueWf, k.pending]; exact hl
  tables := k.tables (htab.pending l)
  slots := k.fuses.slots.trans hslots

/-- Every sparse table is empty at reset, and an empty table is canonical. -/
theorem State.reset_canonical : State.reset.Canonical := by
  constructor <;> rfl

theorem State.reset_sound : State.reset.Sound := ⟨rfl, State.reset_canonical, rfl⟩

/-- A register that no table entry names reads its reset value. -/
theorem State.reg_of_regs_nil (s : State) (h : s.regs = []) (a : Nat) : s.reg a = regReset a := by
  rw [State.reg, h, Tab.get_nil]

/-- Settles O3: a step on an empty queue changes nothing; any other is one command, which keeps the rest of the queue, the canonical tables
and the number of key slots. -/
theorem stepKeepsSound : Obligations.StepKeepsSound := by
  unfold Obligations.StepKeepsSound
  intro s t hs hstep
  rcases step_cases hstep with ⟨_, rfl⟩ | ⟨c, l, hp, hexec⟩
  · exact hs
  · have hq : (c :: l).all Instr.wf = true := hp ▸ hs.queue
    have hl : l.all Instr.wf = true := by
      rw [List.all_cons, Bool.and_eq_true] at hq
      exact hq.2
    exact (Kept.of_exec hexec).sound hl hs.tables hs.slots

/-- Settles O4: a step on an empty queue changes no fuse, and every command moves the fuse store one way. -/
theorem fusesOnlyGrow : Obligations.FusesOnlyGrow := by
  unfold Obligations.FusesOnlyGrow
  intro s t hstep
  rcases step_cases hstep with ⟨_, rfl⟩ | ⟨c, l, _, hexec⟩
  · exact .refl _
  · exact (Kept.of_exec hexec).fuses

/-- Settles O5: the step runs the front on the state with the rest of the queue, and no command touches the queue. -/
theorem onlyTheFrontLeavesTheQueue : Obligations.OnlyTheFrontLeavesTheQueue := by
  unfold Obligations.OnlyTheFrontLeavesTheQueue
  intro c l s t hstep
  rw [step_cons] at hstep
  exact (Kept.of_exec hstep).pending

/-- Settles O1: the two branches of the step. -/
theorem stepRunsFront : Obligations.StepRunsFront := by
  unfold Obligations.StepRunsFront
  exact ⟨step_cons, step_nil⟩

/-- Settles O2: at reset every table is empty, so that each is canonical and every register reads its reset value. -/
theorem resetIsSound : Obligations.ResetIsSound := by
  unfold Obligations.ResetIsSound
  refine ⟨State.reset_sound, ⟨rfl, rfl, rfl, ?steward, rfl⟩, State.reset.reg_of_regs_nil rfl⟩
  case steward =>
    rw [State.steward, State.rd, State.reset.reg_of_regs_nil rfl]
    decide

end Sys2Proof.Machine
end

section
/-! PROOF. Resets and the steps of start-up of `15_startup_modes.md` (R340, R383, R409, R411, R413, R435), and the part that does not run,
which passes no boundary and no tick. -/
namespace Sys2Proof.Machine

/-! Power-on reset (R409). A loss of supply has the same effect (R435). -/

theorem exec_powerOnReset (s : State) : exec .powerOnReset s = .next s.powerOnReset := rfl

theorem exec_supplyLoss (s : State) : exec .supplyLoss s = .next s.powerOnReset := rfl

/-- No register is listed after a power-on reset, so each reads its reset value. -/
theorem State.reg_powerOnReset (s : State) (a : Nat) : s.powerOnReset.reg a = regReset a := s.powerOnReset.reg_of_regs_nil rfl a

/-- What a power-on reset drops and keeps, beside the registers. -/
theorem State.powerOnReset_fields (s : State) :
    s.powerOnReset.startup = .step 1 ∧ s.powerOnReset.cmds = [] ∧ s.powerOnReset.changes = [] ∧ s.powerOnReset.progs = [] ∧
    s.powerOnReset.lanes = [] ∧ s.powerOnReset.engs = [] ∧ s.powerOnReset.evRing = [] ∧ s.powerOnReset.hung = [] ∧
    s.powerOnReset.faultN = [] ∧ s.powerOnReset.fuses = s.fuses :=
  ⟨rfl, rfl, rfl, rfl, rfl, rfl, rfl, rfl, rfl, rfl⟩

/-- Settles O14: both commands are the power-on reset, which starts from the state after reset and takes the fuse store over. -/
theorem powerOnReset : Obligations.PowerOnReset := by
  unfold Obligations.PowerOnReset
  exact ⟨fun s => ⟨_, exec_powerOnReset s, s.reg_powerOnReset, s.powerOnReset_fields⟩,
    fun s => ⟨_, exec_supplyLoss s, s.reg_powerOnReset, s.powerOnReset_fields⟩⟩

/-! The steps of start-up (R413), each as the finding that ends it. -/

theorem exec_resetNRelease (s : State) : exec .resetNRelease s = .next { s with resetN := true } := rfl

theorem exec_startupStepComplete_osc (ok : Bool) (s : State) (h : s.startup = .step 1) :
    exec (.startupStepComplete (.osc ok)) s = .next (if ok then s.beginStep 2 else s) := by
  cases s
  cases h
  rfl

theorem exec_startupStepComplete_clocks (pair serdes osc : Bool) (s : State) (h : s.startup = .step 5) :
    exec (.startupStepComplete (.clocks pair serdes osc)) s =
      if !s.resetN then .next s else if !pair ∨ !serdes then .next (s.failStep 5)
        else .next ((if osc then s else s.oscLoss 0).beginStep 6) := by
  cases s
  cases h
  rfl

theorem exec_startupStepComplete_rom (ok : Bool) (s : State) (h : s.startup = .step 6) :
    exec (.startupStepComplete (.rom ok)) s = .next (if ok then (s.wr R.GATE_STATUS.rom_ok 0 1).beginStep 7 else s.failStep 6) := by
  cases s
  cases h
  rfl

theorem exec_pcieLinkTrained (gen width : BitVec 4) (s : State) : exec (.pcieLinkTrained gen width) s =
    .next (if s.running then (s.wr R.HOST_STATUS.link_gen 0 gen.toNat).wr R.HOST_STATUS.link_width 0 width.toNat else s) := rfl

/-- Settles O15: start-up stands at the step that the finding ends, so the command takes that step's arm; the clocks of S5 decide in three
ways, RESET_N first. -/
theorem startupSteps : Obligations.StartupSteps := by
  unfold Obligations.StartupSteps
  refine ⟨exec_resetNRelease, ?oscillator, ?rom, ?clocks, ?link⟩
  case oscillator =>
    intro s h
    rw [exec_startupStepComplete_osc true s h, if_pos rfl]
  case rom =>
    intro s h
    refine ⟨?_, ?_⟩
    · rw [exec_startupStepComplete_rom true s h, if_pos rfl]
    · rw [exec_startupStepComplete_rom false s h, if_neg Bool.false_ne_true, State.failStep]
  case clocks =>
    intro s pair serdes osc h
    rw [exec_startupStepComplete_clocks pair serdes osc s h]
    by_cases hreset : s.resetN = false
    · simp [hreset]
    · by_cases hclk : pair = false ∨ serdes = false <;> simp [hreset, hclk]
  case link =>
    intro gen width s h
    rw [exec_pcieLinkTrained, if_pos h]

/-! The carrier (R409, R413). -/

/-- Settles O20: each of the three opens with the guard that the part runs. -/
theorem carrierStops : Obligations.CarrierStops := by
  unfold Obligations.CarrierStops
  intro drift twin s hstopped
  have hguard : (!s.running) = true := by rw [hstopped, Bool.not_false]
  exact ⟨if_pos hguard, if_pos (.inl hguard), if_pos hguard⟩

end Sys2Proof.Machine
end

section
/-! PROOF. The event ring of `13_host_matrix.md` (R346, R347, R349, R350): an entry written behind the others, a report lost, and the
completion with ILLEGAL_STATE, which is logged whichever of the two happens. -/
namespace Sys2Proof.Machine

/-! An entry written: interrupts and the device index touch neither the ring nor its marks. -/

/-- Only what signals an entry differs: pending bits, counts of messages, and what the part drives out (R352). -/
structure Signalled (s t : State) : Prop where
  rest : { t with msixPba := s.msixPba, msixCount := s.msixCount, out := s.out } = s

theorem Signalled.ite {s t u : State} {p : Prop} [Decidable p] (h : Signalled s t) (k : Signalled s u) :
    Signalled s (if p then t else u) := by
  split
  · exact h
  · exact k

theorem Signalled.sendMsix (s : State) (v : Nat) : Signalled s (s.sendMsix v) := .ite ⟨rfl⟩ ⟨rfl⟩

theorem Signalled.trans {s t u : State} (h : Signalled s t) (k : Signalled t u) : Signalled s u := by
  have a := h.rest
  have b := k.rest
  constructor
  rw [← a, ← b]

theorem Signalled.signal (s : State) (cls : Nat) : Signalled s (s.signal cls) := by
  unfold State.signal
  split
  · exact ⟨rfl⟩
  · split
    · exact .sendMsix s _
    · refine .ite (.trans ?_ (.sendMsix _ _)) ?_
      · exact ⟨rfl⟩
      · exact ⟨rfl⟩

theorem Signalled.fields {s t : State} (h : Signalled s t) :
    t.regs = s.regs ∧ t.evRing = s.evRing ∧ t.evSeq = s.evSeq ∧ t.evLost = s.evLost := by
  rw [← h.rest]
  exact ⟨rfl, rfl, rfl, rfl⟩

/-- The entry that `putEvent` writes: what it is given, cut to the widths of Table 13.5, with the lost mark, the time and the next
number. -/
def State.entryOf (s : State) (cls code ring flags unit detail : Nat) : Event :=
  { cls := cls, code := code, ring := ring, flags := flags + bit s.evLost, unit := unit % 2 ^ 32, detail := detail % 2 ^ 64,
    time := s.stamp.1, seq := s.evSeq.toNat }

/-- The state with an entry behind the others, before it is signalled. -/
def State.entered (s : State) (e : Event) : State :=
  ({ s.stamp.2 with evRing := s.evRing ++ [e], evSeq := s.evSeq + 1, evLost := false } : State).devAdvance 4

theorem State.putEvent_eq (s : State) (cls code ring flags unit detail : Nat) :
    s.putEvent cls code ring flags unit detail = (s.entered (s.entryOf cls code ring flags unit detail)).signal cls := rfl

/-- Of the registers an entry changes the device index of the event ring. -/
theorem State.entered_regs (s : State) (e : Event) : (s.entered e).regs = (s.bump R.HOST_RING_DEV_x.dev_idx 4 1).regs := rfl

/-- A field reads by the registers alone. -/
theorem State.rd_of_regs {s t : State} (h : t.regs = s.regs) (f : Fld) (i : Nat) : t.rd f i = s.rd f i := by
  rw [State.rd, State.rd, State.reg, State.reg, h]

/-- A written entry goes last, the next one has the next number, and the lost mark is spent. -/
theorem State.putEvent_evRing (s : State) (cls code ring flags unit detail : Nat) :
    (s.putEvent cls code ring flags unit detail).evRing = s.evRing ++ [s.entryOf cls code ring flags unit detail] ∧
    (s.putEvent cls code ring flags unit detail).evSeq = s.evSeq + 1 ∧
    (s.putEvent cls code ring flags unit detail).evLost = false := by
  obtain ⟨_, hring, hseq, hlost⟩ := (Signalled.signal (s.entered (s.entryOf cls code ring flags unit detail)) cls).fields
  rw [State.putEvent_eq, hring, hseq, hlost]
  exact ⟨rfl, rfl, rfl⟩

/-- A field outside the device index of the event ring reads as before. -/
theorem State.rd_putEvent (s : State) (f : Fld) (i cls code ring flags unit detail : Nat) (hs : s.Canonical)
    (hf : f.addr i ≠ R.HOST_RING_DEV_x.dev_idx.addr 4) : (s.putEvent cls code ring flags unit detail).rd f i = s.rd f i := by
  obtain ⟨hregs, -⟩ := (Signalled.signal (s.entered (s.entryOf cls code ring flags unit detail)) cls).fields
  rw [State.putEvent_eq, State.rd_of_regs hregs, State.rd_of_regs (s.entered_regs _),
    State.rd_bump_field _ _ _ _ _ _ hs (by decide) (.inl hf)]

/-- Of the registers a loss changes the latch ev_lost. -/
theorem State.rd_loseEvent (s : State) (f : Fld) (i : Nat) : s.loseEvent.rd f i = (s.latch R.HOST_EVENT.ev_lost 0).rd f i :=
  State.rd_of_regs rfl f i

/-! A report (R346, R349). -/

theorem State.report_written (s : State) (cls code unit detail : Nat) (ho : s.evOpen = true) (hfree : s.cmds.length < s.evFree) :
    s.report cls code unit detail = s.putEvent cls code 0 0 unit detail := by
  rw [State.report, if_pos (by rw [ho, Bool.true_and]; exact decide_eq_true hfree)]

theorem State.report_lost (s : State) (cls code unit detail : Nat) (h : ¬ (s.evOpen = true ∧ s.cmds.length < s.evFree)) :
    s.report cls code unit detail = s.loseEvent := by
  rw [State.report, if_neg (by rwa [Bool.and_eq_true, decide_eq_true_eq])]

/-- Settles O13: a report is one of two things, an entry written or a report lost. -/
theorem eventRingWritesOrLoses : Obligations.EventRingWritesOrLoses := by
  unfold Obligations.EventRingWritesOrLoses
  refine ⟨?written, ?lost⟩
  case written =>
    intro s cls code unit detail ho hfree
    obtain ⟨hring, hseq, hlost⟩ := s.putEvent_evRing cls code 0 0 unit detail
    rw [State.report_written s _ _ _ _ ho hfree]
    exact ⟨_, hring, rfl, rfl, rfl, rfl, rfl, Nat.zero_add _, hseq, hlost⟩
  case lost =>
    intro s cls code unit detail hs hshut
    rw [State.report_lost s _ _ _ _ hshut]
    exact ⟨rfl, rfl, (s.rd_loseEvent _ _).trans (s.rd_latch_same R.HOST_EVENT.ev_lost 0 hs (by decide) (by decide))⟩

/-! A completion with ILLEGAL_STATE (R350). -/

/-- The command out of flight, counted as rejected and latched: what its completion is then written or lost on. -/
def State.rejected (s : State) (h : CmdHead) : State :=
  (({ s with cmds := s.cmds.filter (fun c => !(c.ring == h.ring.val && c.tag == h.tag.toNat)) } : State).bump
    R.HOST_STATUS.rej_cnt 0 1).latch R.HOST_EVENT.cmd_rej 0

theorem State.complete_illegalState (s : State) (h : CmdHead) (reason offset result : Nat) :
    s.complete h .illegalState reason offset result =
      if (s.rejected h).evOpen then (s.rejected h).putEvent 0 Code.illegalState.num h.ring.val 2 h.tag.toNat
        (reason % 256 + 256 * (offset % 256) + 2 ^ 16 * (result % 2 ^ 48)) else (s.rejected h).loseEvent := by
  simp only [State.complete, decide_true, if_true]
  rfl

/-- Commands in flight are no table. -/
theorem State.Canonical.cmds {s : State} (h : s.Canonical) (l : List Cmd) : State.Canonical { s with cmds := l } := { h with }

theorem State.Canonical.rejected {s : State} (hs : s.Canonical) (h : CmdHead) : (s.rejected h).Canonical :=
  ((hs.cmds _).bump _ _ _).latch _ _

/-- Fields outside HOST_STATUS and HOST_EVENT read as before. -/
theorem State.rejected_rd (s : State) (h : CmdHead) (f : Fld) (i : Nat) (hs : s.Canonical)
    (hstat : f.addr i ≠ R.HOST_STATUS.rej_cnt.addr 0) (hev : f.addr i ≠ R.HOST_EVENT.cmd_rej.addr 0) :
    (s.rejected h).rd f i = s.rd f i := by
  rw [State.rejected, State.rd_latch_field _ _ _ _ _ ((hs.cmds _).bump _ _ _) (by decide) (.inl hev),
    State.rd_bump_field _ _ _ _ _ _ (hs.cmds _) (by decide) (.inl hstat)]
  rfl

/-- Whether the event ring is served rests on none of the registers that a rejection touches. -/
theorem State.rejected_evOpen (s : State) (h : CmdHead) (hs : s.Canonical) : (s.rejected h).evOpen = s.evOpen := by
  simp only [State.evOpen, State.masterFenced, State.on]
  rw [s.rejected_rd h R.HOST_RING_CFG_x.en 4 hs (by decide) (by decide),
    s.rejected_rd h R.HOST_RING_CFG_x.active 4 hs (by decide) (by decide),
    s.rejected_rd h R.MTX_MSTAT_m.fenced 7 hs (by decide) (by decide)]

theorem State.rejected_counts (s : State) (h : CmdHead) (hs : s.Canonical) :
    (s.rejected h).rd R.HOST_STATUS.rej_cnt 0 = (s.rd R.HOST_STATUS.rej_cnt 0 + 1) % 2 ^ R.HOST_STATUS.rej_cnt.w ∧
    (s.rejected h).rd R.HOST_EVENT.cmd_rej 0 = 1 := by
  refine ⟨?_, State.rd_latch_same _ _ _ ((hs.cmds _).bump _ _ _) (by decide) (by decide)⟩
  rw [State.rejected, State.rd_latch_field _ _ _ _ _ ((hs.cmds _).bump _ _ _) (by decide) (.inl (by decide)),
    State.rd_bump_same _ _ _ _ (hs.cmds _) (by decide)]
  rfl

/-- Bit 1 of the flags of a rejection is set, whether or not bit 0 says that a report was lost. -/
theorem testBit_one_two_add_bit (b : Bool) : (2 + bit b).testBit 1 = true := by
  cases b <;> rfl

/-- A field of HOST_STATUS, or one of HOST_EVENT other than ev_lost, reads the same behind the entry or its loss. -/
theorem State.rd_complete_illegalState (s : State) (h : CmdHead) (reason offset result : Nat) (f : Fld) (hs : s.Canonical)
    (hdev : f.addr 0 ≠ R.HOST_RING_DEV_x.dev_idx.addr 4)
    (hlost : f.addr 0 ≠ R.HOST_EVENT.ev_lost.addr 0 ∨ f.lo + f.w ≤ R.HOST_EVENT.ev_lost.lo ∨
      R.HOST_EVENT.ev_lost.lo + R.HOST_EVENT.ev_lost.w ≤ f.lo) :
    (s.complete h .illegalState reason offset result).rd f 0 = (s.rejected h).rd f 0 := by
  rw [State.complete_illegalState]
  split
  · exact State.rd_putEvent _ _ _ _ _ _ _ _ _ (hs.rejected h) hdev
  · rw [State.rd_loseEvent, State.rd_latch_field _ _ _ _ _ (hs.rejected h) (by decide) hlost]

/-- Settles O11: the rejection is counted and latched first, which leaves the ring served or not as it was; then the entry is written, or
lost, and neither touches the count or the latch. -/
theorem illegalStateIsLogged : Obligations.IllegalStateIsLogged := by
  unfold Obligations.IllegalStateIsLogged
  refine ⟨?entry, ?count⟩
  case entry =>
    intro s h reason offset result hs ho
    rw [State.complete_illegalState, if_pos ((s.rejected_evOpen h hs).trans ho), (State.putEvent_evRing ..).1]
    refine ⟨_, List.mem_append_right _ (List.mem_singleton_self _), rfl, rfl, rfl, testBit_one_two_add_bit _, ?_⟩
    exact Nat.mod_eq_of_lt h.tag.isLt
  case count =>
    intro s h reason offset result hs
    obtain ⟨hcount, hlatch⟩ := s.rejected_counts h hs
    rw [s.rd_complete_illegalState h _ _ _ R.HOST_STATUS.rej_cnt hs (by decide) (by decide),
      s.rd_complete_illegalState h _ _ _ R.HOST_EVENT.cmd_rej hs (by decide) (by decide)]
    exact ⟨hcount, hlatch⟩

end Sys2Proof.Machine
end

section
/-! PROOF. Path protection, the heartbeat and TAKE of `12_protection_twin.md` (R311, R312, R314, R315, R319, R320, R325), and the commands
on mode, power state and the pair (R326, R332, R395, R415, R416, R418) once a steward accepts them. -/
namespace Sys2Proof.Machine

/-! The timers of a protection group (R311, R312). -/

/-- The hold-off of a condition that the end still shows. -/
theorem exec_holdOffExpiry (g : BitVec 12) (x sd : Bool) (c : Nat) (s : State) (hg : s.groupValid g.toNat = true)
    (hc : (s.groupPaths g.toNat)[if x then 1 else 0]? = some c)
    (hshown : (if sd then s.endSd (s.rd R.PAIR_PROT_g.trib_id g.toNat) c else s.endSf (s.rd R.PAIR_PROT_g.trib_id g.toNat) c) = true) :
    exec (.holdOffExpiry g x sd) s = .next ((s.setGroup g.toNat (if sd then
        (if x then { s.group g.toNat with sdX := true } else { s.group g.toNat with sdW := true }) else
        (if x then { s.group g.toNat with sfX := true } else { s.group g.toNat with sfW := true }))).judgeGroup g.toNat) := by
  show execHoldOffExpiry g x sd s = _
  cases sd
  · have hsf : s.endSf (s.rd R.PAIR_PROT_g.trib_id g.toNat) c = true := hshown
    simp [execHoldOffExpiry, hg, hc, hsf]
  · have hsd : s.endSd (s.rd R.PAIR_PROT_g.trib_id g.toNat) c = true := hshown
    simp [execHoldOffExpiry, hg, hc, hsd]

theorem exec_protWtrExpiry (g : BitVec 12) (s : State) (hg : s.groupValid g.toNat = true) (hw : (s.group g.toNat).wtr = true) :
    exec (.protWtrExpiry g) s = .next ((s.setGroup g.toNat { s.group g.toNat with wtr := false }).judgeGroup g.toNat) :=
  if_pos ⟨hg, hw⟩

/-- The far end of a group forgotten (R312). -/
def State.forgetFar (s : State) (g : Nat) : State :=
  ((s.wr R.PAIR_PROT_g.far_valid g 0).wr R.PAIR_PROT_g.far_req g 0).setGroup g { s.group g with farReq := 0, rxSeq := none }

theorem exec_apsTimeout (g : BitVec 12) (s : State) (hg : s.groupValid g.toNat = true) :
    exec (.apsTimeout g) s = .next (if (s.forgetFar g.toNat).on R.PAIR_PROT_CFG_g.bidir g.toNat
      then (s.forgetFar g.toNat).setMismatch g.toNat true else (s.forgetFar g.toNat).judgeGroup g.toNat) := by
  have hguard : ¬ (!s.groupValid g.toNat) = true := by simp [hg]
  exact if_neg hguard

/-! PROT_REQUEST (R315): every form is a change with no check before its own. -/

theorem exec_protRequestConfig (h : CmdHead) (g trib : BitVec 16) (pChan : BitVec 8) (given : BitVec 5) (holdOff wtr skew : BitVec 8)
    (revert bidir : Bool) (s : State) : exec (.protRequestConfig h g trib pChan given holdOff wtr skew revert bidir) s =
    .next (s.judgeChange h true true s.protDue [] (.protConfig g.toNat
      { trib := trib.toNat, pChan := pChan.toNat, holdOff := if bitField given.toNat 0 1 == 1 then holdOff.toNat else 0,
        wtr := if bitField given.toNat 1 1 == 1 then wtr.toNat else 30, skew := if bitField given.toNat 4 1 == 1 then skew.toNat else 50,
        revert := if bitField given.toNat 2 1 == 1 then revert else true,
        bidir := if bitField given.toNat 3 1 == 1 then bidir else false })) := rfl

theorem exec_protRequestLo (h : CmdHead) (g : BitVec 16) (s : State) :
    exec (.protRequestLo h g) s = .next (s.judgeChange h true true s.protDue [] (.protReq 1 g.toNat)) := rfl

theorem exec_protRequestFs (h : CmdHead) (g : BitVec 16) (s : State) :
    exec (.protRequestFs h g) s = .next (s.judgeChange h true true s.protDue [] (.protReq 2 g.toNat)) := rfl

theorem exec_protRequestMsW (h : CmdHead) (g : BitVec 16) (s : State) :
    exec (.protRequestMsW h g) s = .next (s.judgeChange h true true s.protDue [] (.protReq 3 g.toNat)) := rfl

theorem exec_protRequestMsX (h : CmdHead) (g : BitVec 16) (s : State) :
    exec (.protRequestMsX h g) s = .next (s.judgeChange h true true s.protDue [] (.protReq 4 g.toNat)) := rfl

theorem exec_protRequestClear (h : CmdHead) (g : BitVec 16) (s : State) :
    exec (.protRequestClear h g) s = .next (s.judgeChange h true true s.protDue [] (.protReq 5 g.toNat)) := rfl

theorem exec_protRequestDelete (h : CmdHead) (g : BitVec 16) (s : State) :
    exec (.protRequestDelete h g) s = .next (s.judgeChange h true true s.nextMultiframe [] (.protReq 6 g.toNat)) := rfl

/-- Settles O43: on a valid group each timer is past its guard, and an accepted PROT_REQUEST is a change that waits for its boundary. -/
theorem protectionGroups : Obligations.ProtectionGroups := by
  unfold Obligations.ProtectionGroups
  refine ⟨?hold_off, exec_protWtrExpiry, ?aps, ?config, ?lo, ?fs, ?ms_w, ?ms_x, ?clear, ?delete⟩
  case hold_off =>
    intro g x sd c s hg hc hshown
    exact ⟨_, rfl, exec_holdOffExpiry g x sd c s hg hc hshown⟩
  case aps =>
    intro g s hg
    exact ⟨_, rfl, exec_apsTimeout g s hg⟩
  case config =>
    intro h g trib pChan given holdOff wtr skew revert bidir a s ha hacc
    subst ha
    rw [exec_protRequestConfig, s.judgeChange_accepts _ _ _ _ _ _ hacc]
  case lo =>
    intro h g s hacc
    rw [exec_protRequestLo, s.judgeChange_accepts _ _ _ _ _ _ hacc]
  case fs =>
    intro h g s hacc
    rw [exec_protRequestFs, s.judgeChange_accepts _ _ _ _ _ _ hacc]
  case ms_w =>
    intro h g s hacc
    rw [exec_protRequestMsW, s.judgeChange_accepts _ _ _ _ _ _ hacc]
  case ms_x =>
    intro h g s hacc
    rw [exec_protRequestMsX, s.judgeChange_accepts _ _ _ _ _ _ hacc]
  case clear =>
    intro h g s hacc
    rw [exec_protRequestClear, s.judgeChange_accepts _ _ _ _ _ _ hacc]
  case delete =>
    intro h g s hacc
    rw [exec_protRequestDelete, s.judgeChange_accepts _ _ _ _ _ _ hacc]

/-! The heartbeat (R319, R320). -/

/-- The code that a part sends at an even frame. -/
theorem exec_heartbeatSend (s : State) (hr : s.running = true) (hf : s.frame % 2 = 0) :
    exec .heartbeatSend s = .next (s.emit (.heartbeat (if s.on R.PAIR_STATUS.take 0 = false then 1
      else if s.role = 1 ∧ s.pair.trigger ≠ 0 then 2 else 3))) := by
  have hguard : ¬ ((!s.running) = true ∨ s.frame % 2 = 1) := by simp [hr, hf]
  refine (if_neg hguard).trans ?_
  by_cases htake : s.on R.PAIR_STATUS.take 0 = false
  · simp [htake]
  · by_cases hfault : s.role = 1 ∧ s.pair.trigger ≠ 0 <;> simp [htake, hfault]

/-- A decoded code, shown in alive_in, acts as Table 12.6 says. -/
theorem exec_heartbeatDecode (high : BitVec 16) (c : Nat) (s u : State) (hr : s.running = true) (hc : heartbeatCode high.toNat = some c)
    (hu : u = s.wr R.PAIR_STATUS.alive_in 0 c) : exec (.heartbeatDecode high) s =
      if c = 3 ∧ u.on R.PAIR_STATUS.take 0 ∧ (s.rd R.PAIR_STATUS.alive_in 0 = 1 ∨ s.rd R.PAIR_STATUS.alive_in 0 = 2) then
        if u.pair.claimed ∧ u.rd R.PAIR_STATUS.side 0 = 0 then .next u
        else .next ({ u with pair := { u.pair with claimed := false } } : State).yieldTake
      else if c = 1 then .next { u with pair := { u.pair with claimed := false } }
      else if c = 2 ∧ u.role = 2 then
        match u.pair.twinFault with
        | some (_, true) => .next (u.decideClaim .solo)
        | _ => .next (u.decideClaim .active)
      else .next u := by
  subst hu
  show execHeartbeatDecode high s = _
  simp only [execHeartbeatDecode, hr, hc, Bool.not_true, Bool.false_eq_true, if_false] <;> rfl

theorem exec_heartbeatLost (s : State) (hr : s.running = true) (u : State)
    (hu : u = if s.rd R.PAIR_STATUS.alive_in 0 = 0 then s.wr R.PAIR_STATUS.alive_in 0 0
      else (s.wr R.PAIR_STATUS.alive_in 0 0).pairEvent R.PAIR_EVENT.alive_lost) :
    exec .heartbeatLost s = .next (if u.on R.PAIR_STATUS.link_up 0 then u else u.activeLost) := by
  subst hu
  have hguard : ¬ (!s.running) = true := by simp [hr]
  exact if_neg hguard

/-- A claim (R325) takes over as it was decided; with none decided, the switch frame of a planned takeover does on a standby. -/
theorem exec_takeoverClaim (planned : Bool) (r : LedgRead) (s : State) :
    (s.pair.claim = .solo → exec (.takeoverClaim planned r) s = .next (s.takeOver 0)) ∧
    (s.pair.claim = .active → exec (.takeoverClaim planned r) s =
      .next { s.takeOver 1 with pair := { (s.takeOver 1).pair with twinRole := 3 } }) ∧
    (s.pair.claim = .none → planned = true → s.role = 2 → exec (.takeoverClaim planned r) s =
      .next { s.takeOver 1 with pair := { (s.takeOver 1).pair with twinRole := 2 } }) := by
  have he : exec (.takeoverClaim planned r) s = execTakeoverClaim planned r s := rfl
  rw [he]
  refine ⟨fun h => ?_, fun h => ?_, fun h hp hrole => ?_⟩
  · simp only [execTakeoverClaim, h]
  · simp only [execTakeoverClaim, h]
  · simp only [execTakeoverClaim, h, hp, hrole, and_self, if_true]

/-- Settles O44: a running part is past the guard of each heartbeat command, the code and what this part is pick the branch, and a claim
takes the branch that was decided. -/
theorem heartbeatAndTake : Obligations.HeartbeatAndTake := by
  unfold Obligations.HeartbeatAndTake
  refine ⟨exec_heartbeatSend, ?decode, ?lost, ?claim⟩
  case decode =>
    intro high c s hr hc
    refine ⟨_, rfl, ?idle, ?hold, ?fault⟩
    case idle =>
      intro h1
      have hnot3 : ¬ c = 3 := by omega
      rw [exec_heartbeatDecode high c s _ hr hc rfl, if_neg (fun h => hnot3 h.1), if_pos h1]
    case hold =>
      intro h3 htake hwas hclaimed
      rw [exec_heartbeatDecode high c s _ hr hc rfl, if_pos ⟨h3, htake, hwas⟩, if_neg]
      rw [hclaimed]
      exact fun h => Bool.false_ne_true h.1
    case fault =>
      intro h2 hrole htwin
      have hnot3 : ¬ c = 3 := by omega
      have hnot1 : ¬ c = 1 := by omega
      rw [exec_heartbeatDecode high c s _ hr hc rfl, if_neg (fun h => hnot3 h.1), if_neg hnot1, if_pos ⟨h2, hrole⟩, htwin]
  case lost =>
    intro s hr
    exact ⟨_, rfl, exec_heartbeatLost s hr _ rfl⟩
  case claim =>
    intro planned r s
    obtain ⟨hsolo, hactive, hplanned⟩ := exec_takeoverClaim planned r s
    exact ⟨hsolo, fun h => ⟨_, rfl, hactive h⟩, fun h hp hrole => ⟨_, rfl, hplanned h hp hrole⟩⟩

/-! Mode (R415, R416) and power state (R395). -/

theorem exec_modeSet (h : CmdHead) (mode : BitVec 8) (m : Mode) (s : State) (hm : Mode.ofNum mode.toNat = some m) :
    exec (.modeSet h mode) s =
      if m = s.mode then .next (s.judge h (s.common h true true) (fun t => (t.fresh 14).2.ok h (t.fresh 14).1))
      else .next (s.judge h (s.common h true true ++ (s.ahead (s.modeDue m)).modeChecks mode.toNat)
        (fun t => t.sched (some h) true (t.modeDue m) (.modeSet m))) := by
  show execModeSet h mode s = _
  simp only [execModeSet, hm]

theorem exec_powerState (h : CmdHead) (state : BitVec 8) (s : State) : exec (.powerState h state) s =
    if state.toNat = s.pstate then .next (s.judge h (s.common h false false) (·.ok h 0))
    else if state.toNat ≤ 1 ∧ s.pstate ≤ 1 then
      .next (s.judge h (s.common h false false ++ s.powerChecks state.toNat
          ++ (s.ahead s.nextMultiframe).changeChecks (.power state.toNat))
        (fun t => t.sched (some h) false t.nextMultiframe (.power state.toNat)))
    else .next (s.judge h (s.common h false false ++ s.powerChecks state.toNat) (·.doPower (some h) state.toNat)) := rfl

/-! The pair (R326) and a checkpoint (R332). -/

theorem exec_pairJoin (h : CmdHead) (role : BitVec 8) (s : State) : exec (.pairJoin h role) s =
    .next (s.judge h (s.common h false false ++ s.joinChecks role.toNat)
      (fun t => { t with pair := { t.pair with join := some (h, role.toNat) } })) := rfl

theorem exec_pairLeave (h : CmdHead) (s : State) :
    exec (.pairLeave h) s = .next (s.judgeChange h false false s.nextMultiframe [] .pairLeave) := rfl

theorem exec_pairTake (h : CmdHead) (s : State) : exec (.pairTake h) s =
    .next (s.judge h (s.common h false false ++ s.takeChecks)
      (fun t => ({ t with pair := { t.pair with planned := some (t.frame + t.frame % 2 + 8, h) } } : State).emit
        (.twinTake (t.frame + t.frame % 2 + 8)))) := rfl

theorem exec_checkpoint (h : CmdHead) (s : State) : exec (.checkpoint h) s =
    .next (s.judge h (s.common h false false ++ [(decide (2 ≤ s.role), .illegalState, 0xFF), (s.ledg.open_.isSome, .busy, 0xFF)])
      (fun t => (t.openGen false).setLedg { (t.openGen false).ledg with waiting := some h })) := rfl

/-- Settles O56: the checks of the hypothesis are those that the command is judged by, so it is taken up; whether MODE_SET and POWER_STATE
name what is present decides what then happens. -/
theorem modePowerAndPairCommands : Obligations.ModePowerAndPairCommands := by
  unfold Obligations.ModePowerAndPairCommands
  refine ⟨?mode, ?mode_present, ?power_present, ?power_boundary, ?power_now, ?join, ?leave, ?take, ?checkpoint⟩
  case mode =>
    intro h mode m s hm hne hacc
    rw [exec_modeSet h mode m s hm, if_neg hne, s.judge_accepts _ _ _ hacc]
  case mode_present =>
    intro h mode s hm hacc
    rw [exec_modeSet h mode s.mode s hm, if_pos rfl, s.judge_accepts _ _ _ hacc]
  case power_present =>
    intro h state s hp hacc
    rw [exec_powerState, if_pos hp, s.judge_accepts _ _ _ hacc]
  case power_boundary =>
    intro h state s hp hto hfrom hacc
    rw [exec_powerState, if_neg hp, if_pos ⟨hto, hfrom⟩, s.judge_accepts _ _ _ hacc]
  case power_now =>
    intro h state s hp hfar hacc
    have hnot : ¬ (state.toNat ≤ 1 ∧ s.pstate ≤ 1) := by omega
    rw [exec_powerState, if_neg hp, if_neg hnot, s.judge_accepts _ _ _ hacc]
  case join =>
    intro h role s hacc
    rw [exec_pairJoin, s.judge_accepts _ _ _ hacc]
  case leave =>
    intro h s hacc
    rw [exec_pairLeave, s.judgeChange_accepts _ _ _ _ _ _ hacc]
  case take =>
    intro h s hacc
    rw [exec_pairTake, s.judge_accepts _ _ _ hacc]
  case checkpoint =>
    intro h s hacc
    rw [exec_checkpoint, s.judge_accepts _ _ _ hacc]

end Sys2Proof.Machine
end

section
/-! PROOF. Accesses over the bus matrix of `13_host_matrix.md` (R355, R358, R360, R362 to R364, R370): what the matrix does with an access
of a master that reaches the part, and a hung transaction at its watchdog. -/
namespace Sys2Proof.Machine

theorem exec_registerWrite (m : Fin 8) (a : BitVec 32) (be : BitVec 4) (v : BitVec 32) (s : State) :
    exec (.registerWrite m a be v) s = .next (s.busWrite m a.toNat be.toNat v.toNat) := rfl

theorem exec_multiwordCaptureRead_aligned (m : Fin 8) (a : BitVec 32) (s : State) (ha : a.toNat % 4 = 0) :
    exec (.multiwordCaptureRead m a) s = .next (s.busRead m a.toNat) := by
  have e : exec (.multiwordCaptureRead m a) s = .next (s.busRead m (a.toNat - a.toNat % 4)) := rfl
  rw [e, ha, Nat.sub_zero]

/-! The matrix before an access is presented (R355, R358). -/

/-- A master that reaches the part finds it running, is not fenced, has its link, and waits behind no hung transaction of its own (R413,
R392, R396). -/
theorem State.of_reaches {s : State} {m : Nat} (hr : s.reaches m = true) :
    s.running = true ∧ s.masterFenced m = false ∧ (m == 0 && !s.on R.HOST_STATUS.link_gen 0) = false ∧
    ¬ s.hung.any (fun h => h.m == m) = true := by
  simp only [State.reaches, Bool.and_eq_true, Bool.not_eq_true', Bool.or_eq_true, bne_iff_ne] at hr
  obtain ⟨⟨⟨hrun, hfence⟩, hlink⟩, hhung⟩ := hr
  refine ⟨hrun, hfence, ?_, Bool.eq_false_iff.1 hhung⟩
  rcases hlink with h | h <;> simp [h]

/-- HOST or a Reeve that reaches the part writes some byte: the write hangs at an unmapped address, and is presented at any other. -/
theorem State.busWrite_reaches (s : State) (m a be v : Nat) (hm : m ≤ 4) (hr : s.reaches m = true) (hbe : be % 16 ≠ 0) :
    s.busWrite m a be v = if unmapped a then s.hang m a true else (s.writeAt m a (be % 16) v).2 := by
  obtain ⟨hrun, hfence, hlink, hhung⟩ := State.of_reaches hr
  have h5 : decide (5 < m) = false := decide_eq_false (by omega)
  have hheard : ¬ (!s.running || decide (5 < m) || s.masterFenced m || (m == 0 && !s.on R.HOST_STATUS.link_gen 0)) = true := by
    rw [hrun, h5, hfence, hlink]; decide
  have hm5 : (m != 5) = true := bne_iff_ne.2 (by omega)
  rw [State.busWrite, if_neg hheard, if_neg hbe, if_neg hhung, hm5, Bool.and_true]

/-- The same for a read. -/
theorem State.busRead_reaches (s : State) (m a : Nat) (hm : m ≤ 4) (hr : s.reaches m = true) :
    s.busRead m a = if unmapped a then s.hang m a false else (s.readAt m a true).2.2.emit (.busRead m a (s.readAt m a true).1) := by
  obtain ⟨hrun, hfence, hlink, hhung⟩ := State.of_reaches hr
  have h5 : decide (5 < m) = false := decide_eq_false (by omega)
  have hheard : ¬ (!s.running || decide (5 < m) || (m == 0 && !s.on R.HOST_STATUS.link_gen 0)) = true := by
    rw [hrun, h5, hlink]; decide
  have hm5 : (m != 5) = true := bne_iff_ne.2 (by omega)
  rw [State.busRead, if_neg hheard, if_neg (Bool.eq_false_iff.1 hfence), if_neg hhung, hm5, Bool.and_true]

/-! An access presented at an aligned address (Table 13.15, R370). -/

/-- A write to a fenced target. -/
theorem State.writeAt_fenced (s : State) (m a be v : Nat) (hm : m ≤ 4) (ha : a % 4 = 0) (hbe : be ≠ 0)
    (hf : s.fencedTarget m a = true) : s.writeAt m a be v = (true, s.latch R.MTX_MSTAT_m.fenced_tgt m) := by
  have hlant : ¬ (m = 5 ∧ (!s.lantMay a true) = true) := fun h => by omega
  rw [State.writeAt, ha, Nat.sub_zero, if_neg hbe, if_neg hlant, if_pos hf]

/-- A write to a target that is not fenced: the byte enables decide. -/
theorem State.writeAt_open (s : State) (m a be v : Nat) (hm : m ≤ 4) (ha : a % 4 = 0) (hbe : be ≠ 0) (hf : s.fencedTarget m a = false) :
    s.writeAt m a be v =
      if be = 15 then (false, s.writeMapped m a v)
      else if 0x90000 ≤ a ∧ a < 0xA0000 ∧ a ≠ 0x90800 ∧ (be = 3 ∨ be = 12) then (false, s)
      else if contiguous be then (false, s.latch R.MTX_MSTAT_m.access_size m)
      else (false, s.latch R.MTX_MSTAT_m.access_align m) := by
  have hlant : ¬ (m = 5 ∧ (!s.lantMay a true) = true) := fun h => by omega
  have hopen : ¬ s.fencedTarget m a = true := Bool.eq_false_iff.1 hf
  have halign : ¬ (1 ≤ m ∧ m ≤ 4 ∧ a % 4 ≠ 0) := fun h => h.2.2 ha
  rw [State.writeAt, if_neg hbe, if_neg (by rwa [ha, Nat.sub_zero]), if_neg (by rwa [ha, Nat.sub_zero]), if_neg halign, ha, Nat.sub_zero]

/-- A read of a target that is not fenced. -/
theorem State.readAt_open (s : State) (m a : Nat) (full : Bool) (hm : m ≤ 4) (hf : s.fencedTarget m a = false) :
    s.readAt m a full = ((s.readMapped m a full).1, false, (s.readMapped m a full).2) := by
  have hlant : ¬ (m = 5 ∧ (!s.lantMay a false) = true) := fun h => by omega
  rw [State.readAt, if_neg hlant, if_neg (Bool.eq_false_iff.1 hf)]

/-! GRN_EVENT and the watchdog. -/

/-- GRN_EVENT lies in no memory that a fence closes, and a write to it clears latches (R8). -/
theorem State.writeMapped_grnEvent (s : State) (m v : Nat) : s.writeMapped m 0x800008 v = s.clearLatches 0x800008 v := rfl

theorem State.fencedTarget_grnEvent (s : State) (m : Nat) : s.fencedTarget m 0x800008 = false := rfl

theorem exec_matrixWatchdogFire (m : Fin 8) (h : Hung) (s : State) (hh : s.hung.find? (fun h => h.m == m.val) = some h) :
    exec (.matrixWatchdogFire m) s = .next (((s.wr R.MTX_MHANG_m.addr m h.addr).latch R.MTX_MSTAT_m.hang m).fenceMaster m 1) := by
  show execMatrixWatchdogFire m s = _
  simp only [execMatrixWatchdogFire, hh]

/-- Settles O48: HOST or a Reeve reaches the part, so the map decides between a hang and an access presented, the target's fence comes
next, and the byte enables last. -/
theorem busAccesses : Obligations.BusAccesses := by
  unfold Obligations.BusAccesses
  refine ⟨?mapped, ?grn_event, ?unmapped, ?fenced, exec_matrixWatchdogFire⟩
  case mapped =>
    intro m a v s hr hm hmap ha hopen
    have hpresent (be : BitVec 4) (hbe : be.toNat % 16 ≠ 0) :
        exec (.registerWrite m a be v) s = .next (s.writeAt m a.toNat (be.toNat % 16) v.toNat).2 := by
      rw [exec_registerWrite, s.busWrite_reaches m _ _ _ hm hr hbe, hmap, if_neg Bool.false_ne_true]
    refine ⟨?_, ?_, fun hlow => ⟨?_, ?_⟩⟩
    · rw [hpresent 15 (by decide), s.writeAt_open m _ _ _ hm ha (by decide) hopen, if_pos (by decide)]
    · rw [exec_multiwordCaptureRead_aligned m a s ha, s.busRead_reaches m _ hm hr, hmap, if_neg Bool.false_ne_true,
        s.readAt_open m _ _ hm hopen]
    · rw [hpresent 5 (by decide), s.writeAt_open m _ _ _ hm ha (by decide) hopen, if_neg (by decide), if_neg (by omega),
        if_neg (by decide)]
    · rw [hpresent 3 (by decide), s.writeAt_open m _ _ _ hm ha (by decide) hopen, if_neg (by decide), if_neg (by omega),
        if_pos (by decide)]
  case grn_event =>
    intro v s hr
    have hwrite : exec (.registerWrite 0 0x800008 15 v) s = .next (s.busWrite 0 0x800008 15 v.toNat) := rfl
    rw [hwrite, s.busWrite_reaches 0 _ _ _ (by decide) hr (by decide), if_neg (by decide),
      s.writeAt_open 0 _ _ _ (by decide) (by decide) (by decide) (s.fencedTarget_grnEvent _), if_pos (by decide),
      State.writeMapped_grnEvent]
  case unmapped =>
    intro m a v s hr hm hmap
    refine ⟨?_, fun ha => ?_⟩
    · rw [exec_registerWrite, s.busWrite_reaches m _ _ _ hm hr (by decide), if_pos hmap, State.hang]
    · rw [exec_multiwordCaptureRead_aligned m a s ha, s.busRead_reaches m _ hm hr, if_pos hmap, State.hang]
  case fenced =>
    intro m a v s hr hm hmap ha hfenced
    rw [exec_registerWrite, s.busWrite_reaches m _ _ _ hm hr (by decide), hmap, if_neg Bool.false_ne_true,
      s.writeAt_fenced m _ _ _ hm ha (by decide) hfenced]

end Sys2Proof.Machine
end

section
/-! PROOF. The operations of the Gatehouse and the power sequence of `14_gate_lantern_millrace.md` (R376, R377, R386 to R390, R398, R399,
R411, R434). -/
namespace Sys2Proof.Machine

/-! The fields of GATE_OP: one register, with op, slot and signer side by side. -/

/-- The three arguments of an operation, as GATE_OP holds them. -/
def State.gateArgs (s : State) (op slot signer : Nat) : State :=
  ((s.wr R.GATE_OP.op 0 op).wr R.GATE_OP.slot 0 slot).wr R.GATE_OP.signer 0 signer

/-- Arguments that fit their fields read back. -/
theorem State.gateArgs_rd (s : State) (op slot signer : Nat) (hs : s.Canonical) (hop : op ≤ 10) (hslot : slot < 256)
    (hsigner : signer ≤ 3) :
    (s.gateArgs op slot signer).rd R.GATE_OP.op 0 = op ∧ (s.gateArgs op slot signer).rd R.GATE_OP.slot 0 = slot ∧
    (s.gateArgs op slot signer).rd R.GATE_OP.signer 0 = signer := by
  have h1 := hs.wr R.GATE_OP.op 0 op
  have h2 := h1.wr R.GATE_OP.slot 0 slot
  refine ⟨?_, ?_, ?_⟩
  · rw [State.gateArgs, State.rd_wr_field _ _ _ _ _ _ h2 (by decide) (by decide), State.rd_wr_field _ _ _ _ _ _ h1 (by decide) (by decide),
      State.rd_wr_same _ _ _ _ hs (by decide)]
    exact Nat.mod_eq_of_lt (Nat.lt_of_le_of_lt hop (by decide))
  · rw [State.gateArgs, State.rd_wr_field _ _ _ _ _ _ h2 (by decide) (by decide), State.rd_wr_same _ _ _ _ h1 (by decide)]
    exact Nat.mod_eq_of_lt hslot
  · rw [State.gateArgs, State.rd_wr_same _ _ _ _ h2 (by decide)]
    exact Nat.mod_eq_of_lt (Nat.lt_of_le_of_lt hsigner (by decide))

/-- A write of GATE_OP with go, by a master that may, while no operation runs: the operation begins with the arguments as read. -/
theorem State.gateWrite_begins (s : State) (m op slot signer : Nat) (hs : s.Canonical) (hm : s.gateMaster m = true)
    (hidle : s.gate.op = none) (hop : op ≤ 10) (hslot : slot < 256) (hsigner : signer ≤ 3) :
    s.gateWrite m op slot signer true = (s.gateArgs op slot signer).gateBegin ⟨op, slot, signer, none, none⟩ := by
  obtain ⟨hrop, hrslot, hrsigner⟩ := s.gateArgs_rd op slot signer hs hop hslot hsigner
  have hmay : ¬ (!s.gateMaster m) = true := by rw [hm]; decide
  have hfree : (s.gateArgs op slot signer).gate.op.isNone = true := Option.isNone_iff_eq_none.2 hidle
  have hwrite : s.gateWrite m op slot signer true = (s.gateArgs op slot signer).gateBegin
      ⟨(s.gateArgs op slot signer).rd R.GATE_OP.op 0, (s.gateArgs op slot signer).rd R.GATE_OP.slot 0,
        (s.gateArgs op slot signer).rd R.GATE_OP.signer 0, none, none⟩ := by
    simp only [State.gateWrite, if_neg hmay, if_pos hop, if_pos hsigner, true_and]
    exact if_pos hfree
  rw [hwrite, hrop, hrslot, hrsigner]

/-- What an operation that begins shows: it runs, go is 1, and the fuse store is untouched. -/
theorem State.gateBegin_fields (s : State) (o : GateOp) (hs : s.Canonical) :
    (s.gateBegin o).gate.op = some o ∧ (s.gateBegin o).rd R.GATE_OP.go 0 = 1 ∧ (s.gateBegin o).fuses = s.fuses := by
  refine ⟨rfl, ?_, rfl⟩
  have hregs : (s.gateBegin o).regs = (s.wr R.GATE_OP.go 0 1).regs := rfl
  rw [State.rd_of_regs hregs, State.rd_wr_same _ _ _ _ hs (by decide)]
  decide

theorem State.Canonical.gateArgs {s : State} (hs : s.Canonical) (op slot signer : Nat) : (s.gateArgs op slot signer).Canonical :=
  ((hs.wr _ _ _).wr _ _ _).wr _ _ _

/-- An access that starts an operation (R387). -/
theorem State.asAny_gateWrite (s : State) (m : Fin 8) (op : Nat) (slot : BitVec 8) (signer : BitVec 4) (hs : s.Canonical)
    (hm5 : m.val ≤ 5) (hr : s.reaches m = true) (hm : s.gateMaster m = true) (hidle : s.gate.op = none)
    (hsigner : signer.toNat ≤ 3) (hop : op ≤ 10) :
    ∃ u : State, (.next (s.asAny m (·.gateWrite m op slot.toNat signer.toNat true)) : Res) = .next u ∧
      u.gate.op = some ⟨op, slot.toNat, signer.toNat, none, none⟩ ∧ u.rd R.GATE_OP.go 0 = 1 ∧ u.fuses = s.fuses := by
  rw [s.asAny_eq m _ hm5 hr, s.gateWrite_begins m op _ _ hs hm hidle hop slot.isLt hsigner]
  exact ⟨_, rfl, State.gateBegin_fields _ _ (hs.gateArgs _ _ _)⟩

/-- The end of an operation (R387): result, go, the latches, the command that waits, Reeve event 7, and the mailbox but after CHALLENGE. -/
theorem exec_gateOpDone (readBack sigOk digestOk late : Bool) (nonce : BitVec 256) (o : GateOp) (s : State) (h : s.gate.op = some o)
    (r : Nat × State) (u : State)
    (hr : r = ({ s with gate := { s.gate with op := none } } : State).gatePerform o readBack sigOk digestOk late nonce.toNat)
    (hu : u = ((r.2.wr R.GATE_OP.result 0 r.1).wr R.GATE_OP.go 0 0).gateEvent R.GATE_EVENT.op_done) :
    exec (.gateOpDone readBack sigOk digestOk late nonce) s =
      .next (if o.op = 8 then ((if r.1 = 0 then u else u.gateEvent R.GATE_EVENT.op_fail).gateComplete o r.1).reeveEvent 7
        else (((if r.1 = 0 then u else u.gateEvent R.GATE_EVENT.op_fail).gateComplete o r.1).reeveEvent 7).clearMbox) := by
  subst hu hr
  show execGateOpDone readBack sigOk digestOk late nonce s = _
  simp only [execGateOpDone, h]

theorem exec_entropyHealthFail (s : State) :
    exec .entropyHealthFail s = .next ((s.wr R.GATE_STATUS.entropy_ok 0 0).gateEvent R.GATE_EVENT.entropy_fault) := rfl

theorem exec_entropyHealthRecover (s : State) : exec .entropyHealthRecover s = .next (s.wr R.GATE_STATUS.entropy_ok 0 1) := rfl

theorem exec_unlockLockoutEnd (s : State) : exec .unlockLockoutEnd s =
    .next (if s.gate.lockout then { s with gate := { s.gate with lockout := false, fails := 0 } } else s) := rfl

/-- Settles O49: each of the ten commands is one write of GATE_OP, which begins its operation; the end of one takes its steps in order. -/
theorem gatehouseOps : Obligations.GatehouseOps := by
  unfold Obligations.GatehouseOps
  refine ⟨?start, ?done, fun s => ⟨exec_entropyHealthFail s, exec_entropyHealthRecover s⟩, ?lockout⟩
  case start =>
    intro m slot signer s hs hm5 hr hm hidle hsigner
    have begins (op : Nat) (hop : op ≤ 10) := s.asAny_gateWrite m op slot signer hs hm5 hr hm hidle hsigner hop
    exact ⟨begins 1 (by decide), begins 2 (by decide), begins 3 (by decide), begins 4 (by decide), begins 5 (by decide),
      begins 6 (by decide), begins 7 (by decide), begins 8 (by decide), begins 9 (by decide), begins 10 (by decide)⟩
  case done =>
    intro readBack sigOk digestOk late nonce o s h
    exact ⟨_, _, rfl, rfl, exec_gateOpDone readBack sigOk digestOk late nonce o s h _ _ rfl rfl⟩
  case lockout =>
    intro s h
    rw [exec_unlockLockoutEnd, if_pos h]

/-! The power sequence (R398, R434), by the phase of the device at its head. -/

/-- What the descriptor says rests on the descriptor alone. -/
theorem State.descNum_of_desc {s t : State} (h : t.desc = s.desc) (off n : Nat) : t.descNum off n = s.descNum off n := by
  induction n generalizing off with
  | zero => rfl
  | succ n ih => rw [State.descNum, State.descNum, h, ih]

theorem State.pmbDesc_emit (s : State) (o : Out) (d k n : Nat) : (s.emit o).pmbDesc d k n = s.pmbDesc d k n :=
  State.descNum_of_desc (s := s) (t := s.emit o) rfl _ _

/-- The state after the commands that set up device `d` (R398). -/
def State.pmbSetUp (s : State) (d : Nat) : State :=
  (((s.emit (.pmbus d 0x03 0)).emit (.pmbus d 0x20 0)).emit (.pmbus d 0x21 (s.pmbDesc d 8 2))).emit (.pmbus d 0x01 0x80)

section
variable {s : State} {d : Nat} {l : List Nat} (hstep : s.startup = .step 4) (htodo : s.mill.todo = d :: l)
include hstep htodo

theorem exec_railSequenceStep (up : BitVec 3) (mvs : List (BitVec 16)) :
    (s.mill.phase = .setup → exec (.railSequenceStep up mvs) s = .next
      { s.pmbSetUp d with
        mill := { s.mill with
          phase := .polling, retries := 0, on_ := if s.mill.on_.contains d then s.mill.on_ else s.mill.on_ ++ [d] } }) ∧
    (s.mill.phase = .delay →
      exec (.railSequenceStep up mvs) s = .next (if s.sequenceOk up.toNat mvs then s.nextDevice else s.failSequence d)) := by
  have he : exec (.railSequenceStep up mvs) s = execRailSequenceStep up mvs s := rfl
  rw [he]
  refine ⟨fun hphase => ?_, fun hphase => ?_⟩
  · conv_lhs => simp only [execRailSequenceStep, hstep, hphase, htodo, State.pmbDesc_emit]
    rfl
  · simp only [execRailSequenceStep, hstep, hphase, htodo]

theorem exec_powerGoodPoll (status : BitVec 16) (fault : Bool) (hphase : s.mill.phase = .polling) (u : State)
    (hu : u = (s.pmbSend d 0x79 0).readStatus d status.toNat fault) : exec (.powerGoodPoll status fault) s =
      if fault then .next u
      else .next (if status.getLsbD powerGoodBit then u else { u with mill := { u.mill with phase := .delay } }) := by
  subst hu
  show execPowerGoodPoll status fault s = _
  simp only [execPowerGoodPoll, hstep, hphase, htodo]

theorem exec_pgTimeout (hphase : s.mill.phase = .polling) : exec .pgTimeout s = .next (s.fencePmb d 3) := by
  show execPgTimeout s = _
  simp only [execPgTimeout, hstep, hphase, htodo]

end

/-! PMBus devices (R398, R399). -/

/-- A transaction with a device that is there and not fenced. -/
theorem exec_pmbusTransactionError (d : Fin 8) (pec : Bool) (s : State) (hp : s.pmbPresent d = true) (hf : s.pmbFenced d = false) :
    exec (.pmbusTransactionError d pec) s = .next (if s.mill.retries < 3 then
        { s with mill := { s.mill with retries := s.mill.retries + 1 } }
      else ({ s with mill := { s.mill with retries := 0 } } : State).fencePmb d (if pec then 2 else 1)) := by
  have hguard : ¬ ((!s.pmbPresent d) = true ∨ s.pmbFenced d = true) := by simp [hp, hf]
  refine (if_neg hguard).trans ?_
  split
  · rfl
  · rfl

theorem exec_pmbAlert (d : Fin 8) (status : BitVec 16) (fault : Bool) (s : State) (hp : s.pmbPresent d = true)
    (hf : s.pmbFenced d = false) : exec (.pmbAlert d status fault) s =
      .next (((s.millEvent R.MILL_EVENT.pmb_alert d).pmbSend d 0x79 0).readStatus d status.toNat fault) := by
  have hguard : ¬ ((!s.pmbPresent d) = true ∨ s.pmbFenced d = true) := by simp [hp, hf]
  exact if_neg hguard

theorem exec_pmbFenceReq (m d : Fin 8) (s : State) : exec (.pmbFenceReq m d) s = .next (s.asMaster m (·.fencePmb d 5)) := rfl

theorem exec_pmbReset (m d : Fin 8) (s : State) : exec (.pmbReset m d) s = .next (s.asMaster m (·.pmbReset d)) := rfl

theorem exec_pmbResetDone (d : Fin 8) (status : BitVec 16) (clean : Bool) (s u : State) (h : s.mill.resetting.contains d.val = true)
    (hu : u = ({ s with mill := { s.mill with resetting := s.mill.resetting.filter (· ≠ d.val) } } : State).wr R.MILL_PMB_d.status_word d
      status.toNat) : exec (.pmbResetDone d status clean) s = .next (if clean then u.wr R.MILL_PMB_d.reset_done d 1 else u) := by
  subst hu
  exact if_pos h

/-- Settles O51: in step S4 the phase of the device at the head decides what a step, a poll and a time-out do; the events of one device act
on it when it is there and not fenced. -/
theorem railSequence : Obligations.RailSequence := by
  unfold Obligations.RailSequence
  refine ⟨?setup, ?delay, ?polling, ?transactions, ?writes, ?reset_done⟩
  case setup =>
    intro up mvs d l s hstep hphase htodo
    exact ⟨_, rfl, (exec_railSequenceStep hstep htodo up mvs).1 hphase⟩
  case delay =>
    intro up mvs d l s hstep hphase htodo
    exact (exec_railSequenceStep hstep htodo up mvs).2 hphase
  case polling =>
    intro status d l s hstep hphase htodo
    refine ⟨_, rfl, ?_, ?_, exec_pgTimeout hstep htodo hphase⟩
    · rw [exec_powerGoodPoll hstep htodo status false hphase _ rfl, if_neg Bool.false_ne_true]
    · rw [exec_powerGoodPoll hstep htodo status true hphase _ rfl, if_pos rfl]
  case transactions =>
    intro d pec status fault s hp hf
    exact ⟨exec_pmbusTransactionError d pec s hp hf, exec_pmbAlert d status fault s hp hf⟩
  case writes =>
    intro m d s hw
    rw [exec_pmbFenceReq, exec_pmbReset, s.asMaster_eq m _ hw, s.asMaster_eq m _ hw]
    exact ⟨rfl, rfl⟩
  case reset_done =>
    intro d status clean s h
    exact ⟨_, rfl, exec_pmbResetDone d status clean s _ h rfl⟩

end Sys2Proof.Machine
end

section
/-! PROOF. No command stops the part (`12`, R418): every meaning answers a next state, on each of its branches. -/
namespace Sys2Proof.Machine

/-- The outcome is a next state. -/
def Completes (r : Res) : Prop := ∃ t, r = .next t

theorem Completes.next (t : State) : Completes (.next t) := ⟨t, rfl⟩

theorem Completes.ite {p : Prop} [Decidable p] {a b : Res} (ha : Completes a) (hb : Completes b) : Completes (if p then a else b) := by
  split
  · exact ha
  · exact hb

/-! Meanings that look at what something holds, in the order of the dispatch: every case of the match ends in a next state. -/

theorem execStartupStepComplete_completes (f : StepFind) (s : State) : Completes (execStartupStepComplete f s) := by
  dsimp only [execStartupStepComplete]
  repeat' split
  all_goals exact .next _

theorem execReeveAwaitWake_completes (r : Fin 4) (s : State) : Completes (execReeveAwaitWake r s) := by
  dsimp only [execReeveAwaitWake]
  repeat' split
  all_goals exact .next _

theorem execReeveTimerAlarm_completes (r : Fin 4) (s : State) : Completes (execReeveTimerAlarm r s) := by
  dsimp only [execReeveTimerAlarm]
  repeat' split
  all_goals exact .next _

theorem execReeveStallEnd_completes (r : Fin 4) (cycles : BitVec 16) (s : State) : Completes (execReeveStallEnd r cycles s) := by
  dsimp only [execReeveStallEnd]
  repeat' split
  all_goals exact .next _

theorem execCkptLedgerReport_completes (r : Fin 4) (cycles : BitVec 32) (err ack : Bool) (s : State) :
    Completes (execCkptLedgerReport r cycles err ack s) := by
  dsimp only [execCkptLedgerReport]
  repeat' split
  all_goals exact .next _

theorem execPwrMillraceReply_completes (r : Fin 4) (cycles : BitVec 32) (s : State) : Completes (execPwrMillraceReply r cycles s) := by
  dsimp only [execPwrMillraceReply]
  repeat' split
  all_goals exact .next _

theorem execBlockRelease_completes (n : Fin 96) (s : State) : Completes (execBlockRelease n s) := by
  dsimp only [execBlockRelease]
  repeat' split
  all_goals exact .next _

theorem execDormantWakeTrimEnd_completes (n : Fin 96) (pass : Bool) (s : State) : Completes (execDormantWakeTrimEnd n pass s) := by
  dsimp only [execDormantWakeTrimEnd]
  repeat' split
  all_goals exact .next _

theorem execLaneLoopUpdate_completes (n : Fin 96) (u : LoopUpdate) (s : State) : Completes (execLaneLoopUpdate n u s) := by
  dsimp only [execLaneLoopUpdate]
  repeat' split
  all_goals exact .next _

theorem execPatternGateCheck_completes (n : Fin 96) (sig : BitVec 16) (s : State) : Completes (execPatternGateCheck n sig s) := by
  dsimp only [execPatternGateCheck]
  repeat' split
  all_goals exact .next _

theorem execSlip_completes (m : Fin 8) (n : Fin 96) (s : State) : Completes (execSlip m n s) := by
  dsimp only [execSlip]
  repeat' split
  all_goals exact .next _

theorem execPatternWaitTimeout_completes (n : Fin 96) (s : State) : Completes (execPatternWaitTimeout n s) := by
  dsimp only [execPatternWaitTimeout]
  repeat' split
  all_goals exact .next _

theorem execAlignConfirmRead_completes (n : Fin 96) (s : State) : Completes (execAlignConfirmRead n s) := by
  dsimp only [execAlignConfirmRead]
  repeat' split
  all_goals exact .next _

theorem execAlignMonitorRead_completes (n : Fin 96) (s : State) : Completes (execAlignMonitorRead n s) := by
  dsimp only [execAlignMonitorRead]
  repeat' split
  all_goals exact .next _

theorem execVtfFrameSend_completes (n : Fin 96) (s : State) : Completes (execVtfFrameSend n s) := by
  dsimp only [execVtfFrameSend]
  repeat' split
  all_goals exact .next _

theorem execFasSearchMatch_completes (n : Fin 96) (p : BitVec 64) (fiw : BitVec 64) (s : State) :
    Completes (execFasSearchMatch n p fiw s) := by
  dsimp only [execFasSearchMatch]
  repeat' split
  all_goals exact .next _

theorem execExpectedFasCheck_completes (n : Fin 96) (good : Bool) (s : State) : Completes (execExpectedFasCheck n good s) := by
  dsimp only [execExpectedFasCheck]
  repeat' split
  all_goals exact .next _

theorem execFiwReceive_completes (n : Fin 96) (v : BitVec 64) (arrival : BitVec 96) (s : State) :
    Completes (execFiwReceive n v arrival s) := by
  unfold execFiwReceive
  refine .ite (.next _) (.ite (.next _) ?_)
  split
  · exact .next _
  · exact .ite (.next _) (.next _)

theorem execMwrReceive_completes (n : Fin 96) (v : BitVec 64) (payloadBip : BitVec 8) (s : State) :
    Completes (execMwrReceive n v payloadBip s) := by
  dsimp only [execMwrReceive]
  repeat' split
  all_goals exact .next _

theorem execTimingMessageReceive_completes (n : Fin 96) (tc0 tc1 tc2 tc3 : BitVec 64) (filtered : BitVec 64) (s : State) :
    Completes (execTimingMessageReceive n tc0 tc1 tc2 tc3 filtered s) := by
  unfold execTimingMessageReceive
  refine .ite (.next _) (.ite (.next _) (.ite (.next _) (.ite (.ite (.next _) (.next _)) (.ite (.next _) (.ite ?_ (.next _))))))
  split
  · exact .next _
  · exact .ite (.next _) (.next _)

theorem execApsWordReceive_completes (n : Fin 96) (v : BitVec 64) (recent : Bool) (s : State) :
    Completes (execApsWordReceive n v recent s) := by
  dsimp only [execApsWordReceive]
  repeat' split
  all_goals exact .next _

theorem execEthFrameSend_completes (c : Fin 96) (now : BitVec 64) (cut : Option (BitVec 14)) (s : State) :
    Completes (execEthFrameSend c now cut s) := by
  dsimp only [execEthFrameSend]
  repeat' split
  all_goals exact .next _

theorem execPreemptFragmentReceive_completes (c : Fin 96) (first last ok : Bool) (smd frag : BitVec 2) (bytes : List (BitVec 8)) (ts :
    BitVec 96) (s : State) : Completes (execPreemptFragmentReceive c first last ok smd frag bytes ts s) := by
  dsimp only [execPreemptFragmentReceive]
  repeat' split
  all_goals exact .next _

theorem execInsertFrameSend_completes (c : Fin 96) (ts : BitVec 96) (s : State) : Completes (execInsertFrameSend c ts s) := by
  dsimp only [execInsertFrameSend]
  repeat' split
  all_goals exact .next _

theorem execCbrMapperFrame_completes (c : Fin 96) (t : BitVec 16) (measured : BitVec 64) (s : State) :
    Completes (execCbrMapperFrame c t measured s) := by
  unfold execCbrMapperFrame
  refine .ite (.next _) ?_
  extract_lets
  split
  · exact .next _
  · extract_lets
    split
    all_goals exact .next _

theorem execThReceive_completes (c : Fin 96) (t : BitVec 16) (v : BitVec 64) (s : State) : Completes (execThReceive c t v s) := by
  dsimp only [execThReceive]
  repeat' split
  all_goals exact .next _

theorem execDemapperFrame_completes (c : Fin 96) (t : BitVec 16) (content : List (BitVec 64)) (delay link : BitVec 32) (s : State) :
    Completes (execDemapperFrame c t content delay link s) := by
  dsimp only [execDemapperFrame]
  repeat' split
  all_goals exact .next _

theorem execDemapWordDue_completes (cl : Fin 96) (slip : Bool) (s : State) : Completes (execDemapWordDue cl slip s) := by
  dsimp only [execDemapWordDue]
  repeat' split
  all_goals exact .next _

theorem execSheafBlockReceive_completes (c : Fin 96) (t : BitVec 16) (pos : BitVec 14) (v : BitVec 64) (now : BitVec 64) (s : State) :
    Completes (execSheafBlockReceive c t pos v now s) := by
  dsimp only [execSheafBlockReceive]
  repeat' split
  all_goals exact .next _

theorem execTxCalendarSwitch_completes (c : Fin 96) (s : State) : Completes (execTxCalendarSwitch c s) := by
  dsimp only [execTxCalendarSwitch]
  repeat' split
  all_goals exact .next _

theorem execDefectSet_completes (d : DefectOf) (s : State) : Completes (execDefectSet d s) := by
  dsimp only [execDefectSet]
  repeat' split
  all_goals exact .next _

theorem execDefectClear_completes (d : DefectOf) (s : State) : Completes (execDefectClear d s) := by
  dsimp only [execDefectClear]
  repeat' split
  all_goals exact .next _

theorem execSnapshotImageWrite_completes (bufLen : BitVec 32) (s : State) : Completes (execSnapshotImageWrite bufLen s) := by
  dsimp only [execSnapshotImageWrite]
  repeat' split
  all_goals exact .next _

theorem execRowRepairCopy_completes (b : Fin 96) (s : State) : Completes (execRowRepairCopy b s) := by
  dsimp only [execRowRepairCopy]
  repeat' split
  all_goals exact .next _

theorem execRowRemap_completes (b : Fin 96) (s : State) : Completes (execRowRemap b s) := by
  dsimp only [execRowRemap]
  repeat' split
  all_goals exact .next _

theorem execBankResetDone_completes (b : Fin 96) (failing : List (BitVec 15)) (s : State) : Completes (execBankResetDone b failing s) := by
  dsimp only [execBankResetDone]
  repeat' split
  all_goals exact .next _

theorem execFlushPoint_completes (q : BitVec 16) (s : State) : Completes (execFlushPoint q s) := by
  dsimp only [execFlushPoint]
  repeat' split
  all_goals exact .next _

theorem execRetestDone_completes (b : Fin 96) (failing : List (BitVec 15)) (s : State) : Completes (execRetestDone b failing s) := by
  dsimp only [execRetestDone]
  repeat' split
  all_goals exact .next _

theorem execBeatHandlerStart_completes (q : Fin 24) (t : Fin 16) (first : BitVec 7) (row : BitVec 5) (col : BitVec 8) (epoch : BitVec 12)
    (s : State) : Completes (execBeatHandlerStart q t first row col epoch s) := by
  dsimp only [execBeatHandlerStart]
  repeat' split
  all_goals exact .next _

theorem execServiceThreadStart_completes (q : Fin 24) (t : Fin 16) (s : State) : Completes (execServiceThreadStart q t s) := by
  dsimp only [execServiceThreadStart]
  repeat' split
  all_goals exact .next _

theorem execImageFetchComplete_completes (h : CmdHead) (img : List (BitVec 8)) (sigOk : Bool) (al : AlignKind) (s : State) :
    Completes (execImageFetchComplete h img sigOk al s) := by
  dsimp only [execImageFetchComplete]
  repeat' split
  all_goals exact .next _

theorem execGrneChoiceDue_completes (q : Fin 24) (t : Fin 16) (s : State) : Completes (execGrneChoiceDue q t s) := by
  dsimp only [execGrneChoiceDue]
  repeat' split
  all_goals exact .next _

theorem execXcWordDelivery_completes (tr : BitVec 16) (c : Fin 96) (s : State) : Completes (execXcWordDelivery tr c s) := by
  dsimp only [execXcWordDelivery]
  repeat' split
  all_goals exact .next _

theorem execRet_completes (e : Engine) (pg : Fin 8) (s : State) : Completes (execRet e pg s) := by
  dsimp only [execRet]
  repeat' split
  all_goals exact .next _

theorem execSlewComplete_completes (s : State) : Completes (execSlewComplete s) := by
  dsimp only [execSlewComplete]
  repeat' split
  all_goals exact .next _

theorem execPpsInEdge_completes (k : Fin 2) (t : BitVec 80) (dev : BitVec 64) (s : State) : Completes (execPpsInEdge k t dev s) := by
  unfold execPpsInEdge
  extract_lets
  split
  all_goals exact .next _

theorem execPpsOutPulse_completes (k : Fin 4) (j : BitVec 64) (s : State) : Completes (execPpsOutPulse k j s) := by
  dsimp only [execPpsOutPulse]
  repeat' split
  all_goals exact .next _

theorem execHoldOffExpiry_completes (g : BitVec 12) (x sd : Bool) (s : State) : Completes (execHoldOffExpiry g x sd s) := by
  dsimp only [execHoldOffExpiry]
  repeat' split
  all_goals exact .next _

theorem execHeartbeatDecode_completes (high : BitVec 16) (s : State) : Completes (execHeartbeatDecode high s) := by
  dsimp only [execHeartbeatDecode]
  repeat' split
  all_goals exact .next _

theorem execDigestCompare_completes (diff : BitVec 24) (s : State) : Completes (execDigestCompare diff s) := by
  unfold execDigestCompare
  refine .ite (.next _) (.ite ?_ (.ite (.ite (.next _) (.ite (.next _) (.next _))) (.ite (.next _) (.next _))))
  split
  · exact .ite (.next _) (.ite (.next _) (.next _))
  · exact .next _

theorem execTakeoverClaim_completes (planned : Bool) (r : LedgRead) (s : State) : Completes (execTakeoverClaim planned r s) := by
  dsimp only [execTakeoverClaim]
  repeat' split
  all_goals exact .next _

theorem execPairFormed_completes (fits : Bool) (s : State) : Completes (execPairFormed fits s) := by
  dsimp only [execPairFormed]
  repeat' split
  all_goals exact .next _

theorem execPairJoinTimeout_completes (s : State) : Completes (execPairJoinTimeout s) := by
  dsimp only [execPairJoinTimeout]
  repeat' split
  all_goals exact .next _

theorem execCatchupStageEnd_completes (ok images : Bool) (r : LedgRead) (s : State) : Completes (execCatchupStageEnd ok images r s) := by
  dsimp only [execCatchupStageEnd]
  repeat' split
  all_goals exact .next _

theorem execMatrixWatchdogFire_completes (m : Fin 8) (s : State) : Completes (execMatrixWatchdogFire m s) := by
  dsimp only [execMatrixWatchdogFire]
  repeat' split
  all_goals exact .next _

theorem execGateOpDone_completes (readBack sigOk digestOk late : Bool) (nonce : BitVec 256) (s : State) :
    Completes (execGateOpDone readBack sigOk digestOk late nonce s) := by
  dsimp only [execGateOpDone]
  repeat' split
  all_goals exact .next _

theorem execRailSequenceStep_completes (up : BitVec 3) (mvs : List (BitVec 16)) (s : State) :
    Completes (execRailSequenceStep up mvs s) := by
  dsimp only [execRailSequenceStep]
  repeat' split
  all_goals exact .next _

theorem execPowerGoodPoll_completes (status : BitVec 16) (fault : Bool) (s : State) : Completes (execPowerGoodPoll status fault s) := by
  dsimp only [execPowerGoodPoll]
  repeat' split
  all_goals exact .next _

theorem execPgTimeout_completes (s : State) : Completes (execPgTimeout s) := by
  dsimp only [execPgTimeout]
  repeat' split
  all_goals exact .next _

theorem execPowerStateReached_completes (s : State) : Completes (execPowerStateReached s) := by
  dsimp only [execPowerStateReached]
  repeat' split
  all_goals exact .next _

theorem execModeSet_completes (h : CmdHead) (mode : BitVec 8) (s : State) : Completes (execModeSet h mode s) := by
  dsimp only [execModeSet]
  repeat' split
  all_goals exact .next _

/-- Every command answers a next state: most do so at once, some choose between conditions, and the others match on what they find. -/
theorem exec_completes (c : Instr) (s : State) : Completes (exec c s) := by
  cases c with
  | powerOnReset | resetNRelease | hostPortReset | serdesRefclkLoss | serdesRefclkReturn | xtalAonLoss | xtalAonRestore | oscInLoss
  | supplyLoss | thermalTrip | thermalTripRecovery | jtagTapReset | rveReset | rveFenceReq | driverFault | shellParity
  | laneTransitionEnd | eyeScanStart | firApply | guardRelease | laneReset | laneFenceReq | losCfgWrite | lolCfgWrite
  | blockLockWindowEnd | patternWindowExpiry | laneTestWrite | prbsChkWrite | tallyLiveRead | injectorStart | reorderWindowTimeout
  | injectorRegWrite | repairRecordWrite | bankFenceReq | bankReset | queueClosed | bundleRewrite | weaverParity | threadReset
  | threadFenceReq | wvrReset | wvrFenceReq | fifoDataRead | fifoDataWrite | fifoFlush | paramWordWrite | paramErrClear | fnop | wext
  | wins | sbr | bext | bins | bop | crc | anop | alu | addi | andi | ori | xori | movk | shi | mul | cmp | cmpi | sel | pop | qnop
  | ld | ldw | st | stw | lds | ldsw | sts | stsw | sharedStoreEffect | timeRead | stampRead | flowLookupIssue | flowResultDue
  | flowResultCollect | grniOpen | grniAppend | grniClose | grniCutThrough | grniSendBy | grneChoiceIssue | grneChoiceCollect
  | grneWrite | grneEnd | xcPut | xcTake | xcCount | fifoPortPush | fifoPortPop | fifoPortLevel | calEntryRead | tallyAdd | pblkRead
  | pblkStatusWrite | pblkStatusRead | unitStatusRead | unitControlWrite | bld | bst | bldd | bstd | ckptOpen | ckptWrite | ckptCommit
  | ckptMirror | ckptJournalAppend | ckptRepairRecord | cnop | br | rep | repg | tmr | evt | sys | refEnableWrite | refActivityLoss
  | freqMeasurementUpdate | selectionJudgement | dpllFenceReq | dpllReset | dpllParity | ppsInMissing | bellFrameOfsWrite
  | clkoutFreqWrite | ppsCfgWrite | epochScheduleReceive | twinDelayMeasure | twinTimeAnchorReceive | fineOffsetReceive
  | internalFaultReceive | packetCopyReceive | generationMirrorReceive | journalEntryReceive | configUnfenceHost | configUnfenceDma
  | ringEnable | ringDisable | doorbellWrite | registerWrite | multiwordCaptureRead | onceFieldWrite | keyBurn | keyRevoke | descBurn
  | lifeAdvance | skeyInstall | skeyPromote | skeyErase | challenge | response | lock | entropyHealthFail | unlockLockoutEnd
  | levelReqWrite | lantLock | lantReset | lantHalt | lantStep | lantResume | jtagExtest | jtagIdcode | jtagSamplePreload | jtagAonStat
  | jtagWake | jtagBypass | pmbFenceReq | pmbReset | ioutRecalibrate | capViolation | millWakeExpiry | nop | deviceQuery | laneRate
  | laneWake | detach | paramWrite | reeveLoad | reeveLoadReturn | calendarStageWrite | calendarStageRead | calendarCommit
  | queueCreateQueue | queueCreateTrunk | queueCreateModify | queueDeleteQueue | queueDeleteTrunk | queueFlush | repairScanScan
  | repairScanRetest | protRequestConfig | protRequestLo | protRequestFs | protRequestMsW | protRequestMsX | protRequestClear
  | protRequestDelete | pairJoin | pairLeave | pairTake | checkpoint | refConfig | phaseStepSlew | phaseStepJump | phaseStepFrequency
  | timeSet | regConfig | injectArm | injectStop | debugUnlockLevel | debugUnlockChallenge | debugUnlockResponse | gateCall
  | oscInReturn | entropyHealthRecover | pcieLinkTrained | hostDataReadFailure | commandFetchTimeLimit => exact .next _
  | warmReset | pairRefclkLoss | pairRefclkRestore | serdesRefclkFence | rveResetDone | reeveWatchdog | frameBoundary
  | multiframeBoundary | oneSecondTick | rxWordEnqueue | lcPllLock | calStepEnd | txgenUnlock | quadPllUnlock | wakeFallback | cdrLock
  | adaptConverged | acqTimeout | rawLosAssert | rawLosClear | lolWindowEnd | delayReplicaUpdate | transitionWindowEnd
  | snapshotWindowEnd | envelopeCheck | snrUpdate | eyeScanEnd | laneResetDone | rsCodewordDecode | syncHeaderCheck
  | alignmentMarkerLock | commaDetect | bitslipSearchStart | farEndLoopStart | prbsCheckWindow | rxCalendarSwitch | mccCellReceive
  | calAdvSegmentReceive | calibrationFrameReceive | ethFrameReceive | faultOrderedSetReceive | verifyMpacketReceive
  | verifyMpacketSend | respondMpacketReceive | esmcPduReceive | esmcTimeout | esmcInfoSend | esmcEventSend | cpriHyperframeReceive
  | bipWindowEnd | injectorEvent | scrubCycle | bankDrainStart | bankDrainEnd | fencedQueueWalk | residencySweep | flowEntryRewrite
  | repairScanPassEnd | threadOverrun | threadResetDone | wvrResetDone | call | yield | brk | await | pwr | refFailureClear
  | qualificationTimerEnd | alignmentWindowEnd | dpllLock | holdoverSpecExpiry | dpllResetDone | framePhaseSaturation | todMessageSend
  | todMessageReceive | protWtrExpiry | apsTimeout | heartbeatSend | heartbeatLost | twinLinkLoss | twinLinkReturn | egressPause
  | packetListSend | resyncBoundary | resyncWordsSend | checkpointPeriod | commandFetch | hostMemoryError | msixModerationTimeout
  | jtagLantMtx | jtagAonDesc | pmbusTransactionError | pmbAlert | pmbResetDone | avsUpdate | sensorRead | capLoop | p3Entry
  | laneSleep | attach | powerState | fenceLift | lcPllLockLoss =>
    repeat' apply Completes.ite
    all_goals exact .next _
  | startupStepComplete => exact execStartupStepComplete_completes ..
  | reeveAwaitWake => exact execReeveAwaitWake_completes ..
  | reeveTimerAlarm => exact execReeveTimerAlarm_completes ..
  | reeveStallEnd => exact execReeveStallEnd_completes ..
  | ckptLedgerReport => exact execCkptLedgerReport_completes ..
  | pwrMillraceReply => exact execPwrMillraceReply_completes ..
  | blockRelease => exact execBlockRelease_completes ..
  | dormantWakeTrimEnd => exact execDormantWakeTrimEnd_completes ..
  | laneLoopUpdate => exact execLaneLoopUpdate_completes ..
  | patternGateCheck => exact execPatternGateCheck_completes ..
  | slip => exact execSlip_completes ..
  | patternWaitTimeout => exact execPatternWaitTimeout_completes ..
  | alignConfirmRead => exact execAlignConfirmRead_completes ..
  | alignMonitorRead => exact execAlignMonitorRead_completes ..
  | vtfFrameSend => exact execVtfFrameSend_completes ..
  | fasSearchMatch => exact execFasSearchMatch_completes ..
  | expectedFasCheck => exact execExpectedFasCheck_completes ..
  | fiwReceive => exact execFiwReceive_completes ..
  | mwrReceive => exact execMwrReceive_completes ..
  | timingMessageReceive => exact execTimingMessageReceive_completes ..
  | apsWordReceive => exact execApsWordReceive_completes ..
  | ethFrameSend => exact execEthFrameSend_completes ..
  | preemptFragmentReceive => exact execPreemptFragmentReceive_completes ..
  | insertFrameSend => exact execInsertFrameSend_completes ..
  | cbrMapperFrame => exact execCbrMapperFrame_completes ..
  | thReceive => exact execThReceive_completes ..
  | demapperFrame => exact execDemapperFrame_completes ..
  | demapWordDue => exact execDemapWordDue_completes ..
  | sheafBlockReceive => exact execSheafBlockReceive_completes ..
  | txCalendarSwitch => exact execTxCalendarSwitch_completes ..
  | defectSet => exact execDefectSet_completes ..
  | defectClear => exact execDefectClear_completes ..
  | snapshotImageWrite => exact execSnapshotImageWrite_completes ..
  | rowRepairCopy => exact execRowRepairCopy_completes ..
  | rowRemap => exact execRowRemap_completes ..
  | bankResetDone => exact execBankResetDone_completes ..
  | flushPoint => exact execFlushPoint_completes ..
  | retestDone => exact execRetestDone_completes ..
  | beatHandlerStart => exact execBeatHandlerStart_completes ..
  | serviceThreadStart => exact execServiceThreadStart_completes ..
  | imageFetchComplete => exact execImageFetchComplete_completes ..
  | grneChoiceDue => exact execGrneChoiceDue_completes ..
  | xcWordDelivery => exact execXcWordDelivery_completes ..
  | ret => exact execRet_completes ..
  | slewComplete => exact execSlewComplete_completes ..
  | ppsInEdge => exact execPpsInEdge_completes ..
  | ppsOutPulse => exact execPpsOutPulse_completes ..
  | holdOffExpiry => exact execHoldOffExpiry_completes ..
  | heartbeatDecode => exact execHeartbeatDecode_completes ..
  | digestCompare => exact execDigestCompare_completes ..
  | takeoverClaim => exact execTakeoverClaim_completes ..
  | pairFormed => exact execPairFormed_completes ..
  | pairJoinTimeout => exact execPairJoinTimeout_completes ..
  | catchupStageEnd => exact execCatchupStageEnd_completes ..
  | matrixWatchdogFire => exact execMatrixWatchdogFire_completes ..
  | gateOpDone => exact execGateOpDone_completes ..
  | railSequenceStep => exact execRailSequenceStep_completes ..
  | powerGoodPoll => exact execPowerGoodPoll_completes ..
  | pgTimeout => exact execPgTimeout_completes ..
  | powerStateReached => exact execPowerStateReached_completes ..
  | modeSet => exact execModeSet_completes ..

/-- Settles O6: every branch of every meaning ends in a next state. -/
theorem everyCommandCompletes : Obligations.EveryCommandCompletes := by
  unfold Obligations.EveryCommandCompletes
  exact exec_completes

end Sys2Proof.Machine
end
